-- ==== Sys2Proof/Word.lean ====
section
/-! DEFINITION. The word types of the model. Register fields, counts and addresses are natural numbers (a register field
is cut to its width where it is written); bytes of memory are bit vectors of width 8; exact arithmetic is over `Int`. -/

namespace Sys2Proof

/-- One byte (R10). -/
abbrev Byte := BitVec 8

/-- A finite map from numbers to plain data: pairs with strictly rising keys. What a key that is not listed stands for
is said by the operation that reads the map. -/
abbrev SMap (α : Type) := List (Nat × α)

/-- The value a field of `w` bits holds after `v` is written to it. -/
abbrev cut (w v : Nat) : Nat := v % 2 ^ w

end Sys2Proof
end

