-- ==== Sys2Proof/Entry.lean ====
section
/-! DEFINITION. Records that stand as operands of commands: what the outside brings to a step. -/

namespace Sys2Proof

/-- What the physical world does to one granule of a memory access (R191, R194): how many times in a row its GDDR7 link CRC fails,
whether the CXL expander marks the read as poison, and the mesh links that flip bits of it on its way: the node it enters next,
the link (0 north, 1 east, 2 south, 3 west, 4 an attachment), the pattern of code-word bits. -/
structure MemFault where
  crc : Nat
  marked : Bool
  mesh : List (Nat × Nat × Nat)
deriving DecidableEq, Repr

/-- Where a host access goes: BAR 0 or 2 with an offset, or, as 15, the configuration space with a word number. -/
structure BarAddr where
  space : Nat
  off : Nat
deriving DecidableEq, Repr

/-- A host access of `size` bytes: a write of v, or a read. -/
structure HostAccess where
  place : BarAddr
  size : Nat
  write : Bool
  v : Nat
deriving DecidableEq, Repr

/-- A flit that the Cirque holds, by its place in the order of their coming, and what befalls it on the mesh (R191). -/
structure FlitHits where
  flit : Nat
  hits : List (Nat × Nat × Nat)
deriving DecidableEq, Repr

/-- The bank a fill granule goes to, and what befalls the granule on its way. -/
structure FillHit where
  bank : Nat
  fault : MemFault
deriving DecidableEq, Repr

/-- What a partner's quote says of its slices (R238), and the fabric cycle in which it comes. -/
structure QuoteBody where
  durations : List Nat
  cycle : Nat
deriving DecidableEq, Repr

/-- A word written to CTX_SEL, and the bits that have flipped in the granules the view reads (R191): granule, pattern. -/
structure ViewRead where
  v : Nat
  errs : List (Nat × Nat)
deriving DecidableEq, Repr

/-- Nothing happens to it. -/
def MemFault.calm : MemFault := { crc := 0, marked := false, mesh := [] }

/-- What the physical world does to an operation of a Tine while it runs: `upsets` flips stored bits (Tine-local granule
number, 144-bit pattern of code-word bits, R186), `mem` befalls a granule it moves to or from memory (its index), `hw` adds an error to an exact result of the datapath (position,
error): for STREAM a product of a cell (R60), for a guarded operation a lane's sum or product (R64); `acc` adds an
error to a window accumulator's addition. All empty in fault-free service. -/
structure OpEnv where
  upsets : List (Nat × Nat)
  hw : List (Nat × Int)
  acc : List (Nat × Int)
  mem : List (Nat × MemFault)
deriving DecidableEq, Repr

/-- No fault acts. -/
def OpEnv.calm : OpEnv := { upsets := [], hw := [], acc := [], mem := [] }

/-- What befalls granule i. -/
def OpEnv.at (env : OpEnv) (i : Nat) : MemFault :=
  match env.mem.find? (fun p => p.1 = i) with
  | some p => p.2
  | none => MemFault.calm

/-- A firmware image as the part reads it (R460; the offsets of its header fields are not stated): whether MAGIC, LENGTH and
the trailer's fixed fields are right, the header's fields, the body, and what the trailer's signature covers. -/
structure FwImage where
  formOk : Bool
  version : Nat
  secVersion : Nat
  commit : Bool
  hash : List Nat
  body : List Nat
  signed : List Nat
  sig : List Nat
deriving DecidableEq, Repr

/-- What the start-up tests find (R92, R370, R421): wires failed, by (connection * 16 + bundle) * 2 + direction (0 the Cirque
receives), as 22-bit masks; sites whose entry test fails; spare SRAM rows the march test uses, by site * 2^24 + array; queue
slots whose SRAM fails. -/
structure BootTest where
  wires : List (Nat × Nat)
  failed : List Nat
  rows : List (Nat × Nat)
  queues : Nat
deriving DecidableEq, Repr

/-- What PAIR_FORM learns from the peer for its checks 5 to 7 (R378): the hash of R158, the contexts that are hot or sealed
there with their IMAGE_HASH, and the WITNESS and PREFERRED_ACTIVE it was given. -/
structure PeerInfo where
  structHash : List Nat
  images : List (Nat × List Nat)
  witness : Nat
  preferred : Bool
deriving DecidableEq, Repr

/-- Buffer lists in host memory that a new active reads again (R397): queue, SQ index, input list, output list. -/
structure HostLists where
  queue : Nat
  idx : Nat
  ins : List (Nat × Nat)
  outs : List (Nat × Nat)
deriving DecidableEq, Repr

/-- A port as training and enumeration found it (R202). -/
structure CxlDevice where
  /-- A device answered. -/
  present : Bool
  /-- A Type 3 device with CXL.mem capable and enabled. -/
  type3 : Bool
  /-- The link is of a supported case (R201). -/
  supported : Bool
  /-- 1: 64 GT/s, 2: 128 GT/s. -/
  rate : Nat
  /-- Lanes, 8 or 16. -/
  width : Nat
  /-- Capacity in bytes. -/
  capacity : Nat
  serial : Nat
deriving DecidableEq, Repr

/-- What the host memory, the flash and a peer bring to a submission entry: its two buffer lists, its load parameter block
(R168), its owner block (R463), a firmware image, whether the flash write it causes is verified, and what PAIR_FORM asks. -/
structure EntryData where
  ins : List (Nat × Nat)
  outs : List (Nat × Nat)
  param : List Nat
  block : Option (List Nat)
  image : Option FwImage
  flashOk : Bool
  peer : PeerInfo
deriving DecidableEq, Repr

end Sys2Proof
end

