-- ==== Sys2Proof/Syntax.lean ====
section
/-! DEFINITION. The commands the block takes: one constructor per row of spec/opcode_table.json, in the table's order, with what
the outside brings to it. The rows' operand names: p a fabric port, conn a Quinhorn connection, b a bundle of it, q a queue,
e a submission entry (or, in the sequence steps, an engine), site a Tine site, bank a weight bank or a laser bank, cycle the
fabric cycle within the round, v a written word, t elapsed cycles. -/

namespace Sys2Proof

/-- A command. -/
inductive Instr where
  /-- ROUND_BOUNDARY (R30): The Cirque's fabric-cycle count reaches the start of the next round, which is 8,192 fabric cycles after the last. -/
  | roundBoundary (cv dw mj : Nat)
  /-- ROUND_MARK (R31): A die receives the round mark in a sideband frame and acts on the round boundary at the compensated edge. -/
  | roundMark (conn : Nat)
  /-- HELD_WINDOW_EXPIRY (R238): A partner releases a held window that no sub-request has claimed within 2 rounds. -/
  | heldWindowExpiry (number : Nat)
  /-- COALESCE_TIMEOUT (R268): COAL_ROUNDS round boundaries pass since the first pending completion, and the queue's MSI-X vector is sent. -/
  | coalesceTimeout (q : Nat)
  /-- HUB_ROUND_LO_READ (R31): A read of HUB_ROUND_LO returns the low round word and latches the high word into HUB_ROUND_HI. -/
  | hubRoundLoRead
  /-- TINE_CYCLES_LO_READ (R95): A read of TINE_CYCLES_LO latches CYCLES[63:32] into TINE_CYCLES_HI. -/
  | tineCyclesLoRead (site : Nat)
  /-- TINE_MAT_PASSES_LO_READ (R95): A read of TINE_MAT_PASSES_LO latches PASSES[63:32] into TINE_MAT_PASSES_HI. -/
  | tineMatPassesLoRead (site : Nat)
  /-- ADM_ACCEPTED_LO_READ (R227): A read of ADM_ACCEPTED_LO latches the high word into ADM_ACCEPTED_HI. -/
  | admAcceptedLoRead
  /-- CAL_OPSEC_LO_READ (R453): A read of CAL_OPSEC_LO latches OPSEC[47:32] into CAL_OPSEC_HI. -/
  | calOpsecLoRead
  /-- REGISTER_WRITE (R11): A write to a register that has no row of its own sets its RW fields, clears W1C bits and ignores RO fields and locked RWL fields. -/
  | registerWrite (place : BarAddr) (v : Nat)
  /-- UNSUPPORTED_ACCESS (R244): A BAR0 or BAR2 access that is not an aligned 32-bit access is answered with Unsupported Request, or the write is dropped. -/
  | unsupportedAccess (x : HostAccess)
  /-- REFCLK_LOST (R29): REFCLK edges stop; the root PLL enters holdover and the PHY PLLs are fed root divided by 128. -/
  | refclkLost
  /-- REFCLK_RETURN (R29): REFCLK returns, and the root PLL starts slewing back to it. -/
  | refclkReturn
  /-- HOLDOVER_SLEW_END (R29): The slew back to REFCLK ends; HOLDOVER and REF_SUBSTITUTE clear. -/
  | holdoverSlewEnd
  /-- ROOT_PLL_UNLOCK (R29): The root PLL loses lock; the release gate stays closed until reset and a fail-fast follows. -/
  | rootPllUnlock
  /-- ROOT_PLL_LOCK (R30): The root PLL first locks after a reset that reinitialises the Cirque, and the round count starts at 0. -/
  | rootPllLock (phases : List Nat)
  /-- TREE_LOST_AT_DIE (R28): A clock receiver sees no root edge on its selected tree for 64 root cycles and switches to the other tree. -/
  | treeLostAtDie (rx : Nat)
  /-- BOTH_TREES_LOST (R29): A die loses both clock trees, stops issue and sends a clock-loss notice while holding over. -/
  | bothTreesLost (rx : Nat)
  /-- CLOCK_LOSS_NOTICE (R29): The Cirque receives a die's clock-loss notice, removes the die from service and sets DIE_CLK_LOST. -/
  | clockLossNotice (rx : Nat)
  /-- TREE_SOURCE_LOST (R29): The carrier or modulator of a tree fails at the Cirque; every receiver on it switches trees. -/
  | treeSourceLost (tree : Nat)
  /-- TLOAD (R105): Loads a tile record into the shadow tile register of each engine in the mask. -/
  | tload (site : Nat) (env : OpEnv)
  /-- ASTAGE (R106): Writes activation lines into staging buffer k mod 2 of each engine in the mask. -/
  | astage (site : Nat) (env : OpEnv)
  /-- STREAM (R105): Streams staged rows past the active tile into the window accumulators and checks each product block against the checksum row. -/
  | stream (site : Nat) (env : OpEnv)
  /-- WSET (R48): Sets the window least significant exponent and clears every accumulator of the engine. -/
  | wset (site : Nat) (env : OpEnv)
  /-- DRAIN (R105): Encodes accumulator sets into the output format in working store. -/
  | drain (site : Nat) (env : OpEnv)
  /-- DRAINW (R105): Writes accumulator sets out as window partials. -/
  | drainw (site : Nat) (env : OpEnv)
  /-- PADD (R54): Combines window partials exactly, in place. -/
  | padd (site : Nat) (env : OpEnv)
  /-- PDRAIN (R105): Encodes window partials into an output format. -/
  | pdrain (site : Nat) (env : OpEnv)
  /-- VADD (R108): Adds two vector operands lane by lane. -/
  | vadd (site : Nat) (env : OpEnv)
  /-- VSUB (R108): Subtracts two vector operands lane by lane. -/
  | vsub (site : Nat) (env : OpEnv)
  /-- VMUL (R108): Multiplies two vector operands lane by lane. -/
  | vmul (site : Nat) (env : OpEnv)
  /-- VFMA (R108): Fused multiply-add into the destination. -/
  | vfma (site : Nat) (env : OpEnv)
  /-- VMIN (R108): Lane-wise minimum of two operands. -/
  | vmin (site : Nat) (env : OpEnv)
  /-- VMAX (R108): Lane-wise maximum of two operands. -/
  | vmax (site : Nat) (env : OpEnv)
  /-- VLOGIC (R108): Lane-wise and, or, xor or not on integer operands. -/
  | vlogic (site : Nat) (env : OpEnv)
  /-- VSHIFT (R108): Multiplies each lane by 2 to the power AUX. -/
  | vshift (site : Nat) (env : OpEnv)
  /-- VCMP (R108): Compares lanes and writes an INT8 0 or 1 mask. -/
  | vcmp (site : Nat) (env : OpEnv)
  /-- VSEL (R108): Selects lanes from the source where the mask is nonzero. -/
  | vsel (site : Nat) (env : OpEnv)
  /-- VREDUCE (R108): Reduces by sum, max or min across lanes or across slots. -/
  | vreduce (site : Nat) (env : OpEnv)
  /-- VGATHER (R108): Gathers elements by INT32 indices. -/
  | vgather (site : Nat) (env : OpEnv)
  /-- VSCATTER (R108): Scatters lanes to elements by INT32 indices. -/
  | vscatter (site : Nat) (env : OpEnv)
  /-- VFILL (R108): Fills every lane from a counter register. -/
  | vfill (site : Nat) (env : OpEnv)
  /-- CLOAD (R109): Loads a curve slot of the running bank into a curve table register. -/
  | cload (site : Nat) (env : OpEnv)
  /-- CEVAL (R73): Evaluates a curve table on vector slots. -/
  | ceval (site : Nat) (env : OpEnv)
  /-- FDECODE (R109): Converts vector slots to FP32. -/
  | fdecode (site : Nat) (env : OpEnv)
  /-- FENCODE (R109): Converts vector slots between formats. -/
  | fencode (site : Nat) (env : OpEnv)
  /-- FREBLOCK (R109): Re-blocks vector slots with an offset block start. -/
  | freblock (site : Nat) (env : OpEnv)
  /-- FTILE (R109): Builds a tile record, with its checksum row, from 64 slots in working store. -/
  | ftile (site : Nat) (env : OpEnv)
  /-- SEND (R111): Sends granules as stream flits on a channel to a peer. -/
  | send (site : Nat) (env : OpEnv)
  /-- RECV (R113): Writes granules arriving on a channel from a peer into working store. -/
  | recv (site : Nat) (env : OpEnv)
  /-- RECV_TIMEOUT (R113): A RECV's data has not all arrived within WAITLIM rounds, and the stage ends. -/
  | recvTimeout (site slot : Nat)
  /-- DMARD (R112): Reads granules from the image or KV/state region into working store. -/
  | dmard (site : Nat) (env : OpEnv)
  /-- DMAWR (R112): Writes granules from working store to the KV/state region. -/
  | dmawr (site : Nat) (env : OpEnv)
  /-- COPY (R111): Copies granules locally within the Tine. -/
  | copy (site : Nat) (env : OpEnv)
  /-- INPUT (R112): Reads granules of the request's input into working store. -/
  | input (site : Nat) (env : OpEnv)
  /-- OUTPUT (R112): Writes granules to the request's output, held in the Cirque until release. -/
  | output (site : Nat) (env : OpEnv)
  /-- NOP (R115): Does nothing for one cycle. -/
  | nop (site : Nat) (env : OpEnv)
  /-- SBEGIN (R115): Opens a stage, declares its working-store region and resets the sequencer state. -/
  | sbegin (site : Nat) (env : OpEnv)
  /-- SETREG (R115): Sets a register to another register plus an immediate. -/
  | setreg (site : Nat) (env : OpEnv)
  /-- ADDREG (R115): Adds an immediate to a register. -/
  | addreg (site : Nat) (env : OpEnv)
  /-- LOOP (R115): Decrements a counter and jumps while it stays nonzero. -/
  | loop (site : Nat) (env : OpEnv)
  /-- BRCNT (R115): Branches on a signed comparison of a counter with an immediate. -/
  | brcnt (site : Nat) (env : OpEnv)
  /-- JUMP (R115): Jumps to a word index. -/
  | jump (site : Nat) (env : OpEnv)
  /-- BARRIER (R101): Waits until the named barrier tokens read zero. -/
  | barrier (site : Nat) (env : OpEnv)
  /-- SYNC (R101): Waits until every queue is empty and every operation has completed. -/
  | sync (site : Nat) (env : OpEnv)
  /-- CSCHK (R116): Waits for all earlier checksum and residue checks, then sets CHECKED. -/
  | cschk (site : Nat) (env : OpEnv)
  /-- RELMARK (R117): Waits for earlier OUTPUTs, then makes a release point. -/
  | relmark (site : Nat) (env : OpEnv)
  /-- TRAP (R115): Ends the stage with program fault TRAP. -/
  | trap (site : Nat) (env : OpEnv)
  /-- EOS (R115): Waits as SYNC, then reports the end of stage with an outcome to the Cirque. -/
  | eos (site : Nat) (env : OpEnv)
  /-- RESERVED_OPCODE (R118): The sequencer reaches a reserved opcode or issues past the program, and the stage ends with a program fault. -/
  | reservedOpcode (site : Nat) (env : OpEnv)
  /-- OPERATION_COMPLETE (R101): An issued operation completes at the end of its latency, lowering its barrier token count and ending waits on it. -/
  | operationComplete (site slot : Nat)
  /-- STAGE_FAULT_REPORT (R409): The Cirque receives a fault that ends a stage, stops the stage on every slice, discards superseded granules and chooses the recovery. -/
  | stageFaultReport (site : Nat)
  /-- TILE_CHECKSUM_RECHECK (R62): The Cirque recomputes a failing tile's checksum row from memory and decides between a fault of the image and a fault of the Tine. -/
  | tileChecksumRecheck
  /-- STAGE_END_REPORT (R162): The Cirque receives a slice's end of stage; once every participating slice has reported, the stage is complete. -/
  | stageEndReport (site : Nat)
  /-- STAGE_DISPATCH (R219): The Cirque dispatches the next stage on a Tine once the previous one has ended, within the request's block. -/
  | stageDispatch (req : Nat)
  /-- STREAM_FLIT (R113): Stream granules reach a Tine and wait in its inbound buffer until a matching RECV writes them. -/
  | streamFlit (site : Nat) (x : FlitHits)
  /-- FILL_START (R175): The Cirque starts a bank fill at a round boundary once its counted rate fits, and the target bank enters FILLING. -/
  | fillStart (fill : Nat)
  /-- FILL_GRANULE (R86): A fill granule reaches the Tine and is written, or is poisoned and faults the bank. -/
  | fillGranule (site : Nat) (x : FillHit)
  /-- FILL_END (R86): A fill ends; the bank becomes READY, or becomes FAULTED on a count mismatch. -/
  | fillEnd (site bank : Nat)
  /-- FILL_ABORT (R86): The Cirque aborts a fill and the bank returns to EMPTY. -/
  | fillAbort (site bank : Nat)
  /-- BANK_SWITCH_END (R88): The switch completes at cycle 255; RUNNING_BANK changes, or the header check fails and no bank runs. -/
  | bankSwitchEnd (site : Nat) (env : OpEnv)
  /-- SPARE_CALLED (R91): A SPARE site is called into service and enters TESTING. -/
  | spareCalled (site : Nat)
  /-- ENTRY_TEST_DONE (R92): A site's entry test ends, and the site passes to ACTIVE or SPARE, or fails to RETIRED. -/
  | entryTestDone (site : Nat) (pass : Bool)
  /-- PARK_COMMAND (R91): An ACTIVE site is parked, keeping its retention domain. -/
  | parkCommand (site : Nat)
  /-- WAKE_COMMAND (R91): A PARKED site wakes to ACTIVE. -/
  | wakeCommand (site : Nat)
  /-- MIGRATION_START (R180): At the first round boundary that admission allows, the slices of a retiring Tine start moving to its substitute. -/
  | migrationStart (site : Nat)
  /-- MIGRATION_DONE (R91): The last context has migrated and the retiring site enters RETIRED. -/
  | migrationDone (site : Nat)
  /-- TINE_CNT_CLR_ACTIVITY (R95): TINE_CNT_CLR.CLR_ACTIVITY clears CYCLES and PASSES. -/
  | tineCntClrActivity (site : Nat)
  /-- TINE_CNT_CLR_CHECKFIELD (R95): TINE_CNT_CLR.CLR_CHECKFIELD clears CHECK_FIELD_CORRECTED. -/
  | tineCntClrCheckfield (site : Nat)
  /-- TINE_CNT_CLR_CORR (R95): TINE_CNT_CLR.CLR_CORR clears CORRECTED. -/
  | tineCntClrCorr (site : Nat)
  /-- STRUCT_VERIFY (R153): HUB_STRUCT_CTL.VERIFY copies the staged bitstream into the staging buffer and starts its verification. -/
  | structVerify
  /-- STRUCT_VERIFIED (R149): Verification ends, with STATE VERIFIED or REJECTED and a result code. -/
  | structVerified
  /-- STRUCT_COMMIT (R154): HUB_STRUCT_CTL.COMMIT starts quiescing, or is refused on a paired module. -/
  | structCommit
  /-- STRUCT_ABORT (R154): HUB_STRUCT_CTL.ABORT ends quiescing and resumes admission under the old structure. -/
  | structAbort
  /-- QUIESCE_COMPLETE (R154): All accepted requests are released and no fill runs; the structure is resolved again and applied. -/
  | quiesceComplete
  /-- QUIESCE_TIMEOUT (R154): The quiesce limit is reached and the commit is rejected. -/
  | quiesceTimeout
  /-- STRUCT_APPLY_DONE (R155): The apply completes, and admission resumes at the next round boundary. -/
  | structApplyDone
  /-- STRUCT_PERSIST (R153): HUB_STRUCT_CTL.PERSIST writes the bitstream in force to the slot with the lower SERIAL. -/
  | structPersist
  /-- STRUCT_PERSIST_DONE (R153): The slot write ends, setting PERSIST_FAIL and possibly raising SEC_STRUCT_MIN. -/
  | structPersistDone (ok : Bool)
  /-- LOAD_IMAGE (R169): Checks the load parameter block, allocates the descriptor and image storage and starts copying the image. -/
  | loadImage (q : Nat) (e : List Nat) (ins outs : List (Nat × Nat)) (param : List Nat) (cycle : Nat)
  /-- LOAD_IMAGE_COPIED (R169): Once the copy is complete, the image is hashed, verified, checked, given its KV/state region and placed, and the load completes. -/
  | loadImageCopied (ctx : Nat) (bytes : List Nat)
  /-- EVICT (R178): Removes a context or frees its banks, at level 0 or level 1. -/
  | evict (q : Nat) (e : List Nat) (ins outs : List (Nat × Nat)) (param : List Nat) (cycle : Nat)
  /-- PIN (R179): Sets the pin level of a context, creating a GDDR7 copy or placing and filling it as needed. -/
  | pin (q : Nat) (e : List Nat) (ins outs : List (Nat × Nat)) (param : List Nat) (cycle : Nat)
  /-- QUERY (R258): Returns a context's descriptor, or runs the worst-case computation without reserving anything. -/
  | query (q : Nat) (e : List Nat) (ins outs : List (Nat × Nat)) (param : List Nat) (cycle : Nat)
  /-- CANCEL (R257): Names an earlier INVOKE of its own queue to be aborted at the next round boundary. -/
  | cancel (q : Nat) (e : List Nat) (ins outs : List (Nat × Nat)) (param : List Nat) (cycle : Nat)
  /-- INVOKE (R252): Submits a request to one context with a latency budget. -/
  | invoke (q : Nat) (e : List Nat) (ins outs : List (Nat × Nat)) (param : List Nat) (cycle : Nat)
  /-- INVOKE_CHAIN (R254): Submits a request to 2 to 11 contexts run in chain order. -/
  | invokeChain (q : Nat) (e : List Nat) (ins outs : List (Nat × Nat)) (param : List Nat) (cycle : Nat)
  /-- SCRUB_READ (R199): The patrol scrubber reads the next GDDR7 granule of its pass and corrects or poisons it. -/
  | scrubRead (e : Nat)
  /-- GDDR7_TEMP_READ (R195): A controller reads its device temperature every 1 ms and confirms a band change or OVERTEMP. -/
  | gddr7TempRead (dev : Nat) (t : Int)
  /-- CXL_LINK_DOWN (R205): A CXL port's link goes down in service; reads are poisoned, writes dropped, and retraining starts. -/
  | cxlLinkDown (p : Nat)
  /-- CXL_RETRAIN_END (R205): The CXL port returns with the same or a different serial, or stays down after 100 ms. -/
  | cxlRetrainEnd (p : Nat) (dev : Option CxlDevice)
  /-- CXL_BRINGUP (R202): Device firmware trains a CXL port, programs its HDM decoder and opens its window. -/
  | cxlBringup (p : Nat) (dev : CxlDevice)
  /-- MEM_HOST_REGION_WRITE (R206): Sets the host region size, ignored while a host context is loaded or when above 32. -/
  | memHostRegionWrite (v : Nat)
  /-- MEM_CNT_CLR_CIRQUE (R191): MEM_CNT_CLR.CLR_CIRQUE clears the four Cirque counters. -/
  | memCntClrCirque
  /-- MEM_CNT_CLR_DEV (R208): MEM_CNT_CLR.CLR_DEV clears every device counter and the CXL counters. -/
  | memCntClrDev
  /-- BAR4_READ (R245): A host read through the aperture, answered with Unsupported Request outside the host region or with EP set on poison. -/
  | bar4Read (o n : Nat)
  /-- BAR4_WRITE (R245): A host write through the aperture, dropped and recorded outside the host region. -/
  | bar4Write (o : Nat) (bytes : List Nat)
  /-- HUB_APERTURE_BASE_WRITE (R474): Sets the aperture base; a value above 16 is ignored. -/
  | hubApertureBaseWrite (v : Nat)
  /-- RELEASE_GATE_OPEN (R229): The release gate opens for a round's release points, outputs are written and completions are posted. -/
  | releaseGateOpen (cycle : Nat)
  /-- ADM_CNT_CLR_PEAK (R223): ADM_CNT_CLR.CLR_PEAK clears PEAK_BYTES. -/
  | admCntClrPeak
  /-- ADM_CNT_CLR_REASONS (R228): ADM_CNT_CLR.CLR_REASONS clears the twelve reason counters. -/
  | admCntClrReasons
  /-- ADM_CNT_CLR_OUTCOMES (R240): ADM_CNT_CLR.CLR_OUTCOMES clears ACCEPTED and the outcome counters. -/
  | admCntClrOutcomes
  /-- SQ_TAIL_DOORBELL (R266): A write of SQ_TAIL makes entries available to fetch, or puts the queue in ERROR. -/
  | sqTailDoorbell (q v : Nat)
  /-- CQ_HEAD_DOORBELL (R266): A write of CQ_HEAD frees completion slots, or puts the queue in ERROR. -/
  | cqHeadDoorbell (q v : Nat)
  /-- SQ_ENTRY_FETCHED (R255): A fetched SQ entry is checked, then given staging space and its input copy starts, or it is taken without input. -/
  | sqEntryFetched (q : Nat) (e : List Nat) (data : EntryData) (cycle : Nat)
  /-- SQ_FETCH_ERROR (R266): An SQ read completes with an error and the queue enters ERROR. -/
  | sqFetchError (q : Nat)
  /-- ENTRY_TAKEN (R255): The input copy completes and the Cirque takes the entry; a request's budget starts running. -/
  | entryTaken (q cid : Nat) (data : List Nat) (cycle : Nat)
  /-- HOST_READ_FAIL (R255): A host read of an input or list fails, and the entry completes with FAILED_INTEGRITY at the next boundary. -/
  | hostReadFail (q cid cycle : Nat)
  /-- CREATE_QUEUE (R249): Creates a queue pair, enabled, with an empty bind set. -/
  | createQueue (e : List Nat)
  /-- DELETE_QUEUE (R249): Puts a queue into DRAINING, optionally cancelling the requests in flight. -/
  | deleteQueue (e : List Nat)
  /-- QUEUE_DRAIN_DONE (R249): A draining queue's last entry completes; its bindings are removed and it becomes deleted or DISABLED. -/
  | queueDrainDone (q : Nat)
  /-- BIND (R267): Adds a context to a queue's bind set when the owner keys match. -/
  | bind (e : List Nat)
  /-- UNBIND (R249): Removes a context from a bind set. -/
  | unbind (e : List Nat)
  /-- QUE_ENABLE (R247): QUE_CTL.ENABLE starts enabling queue 0. -/
  | queEnable
  /-- QUEUE0_ENABLED (R247): Queue 0 reaches ENABLED within 2 rounds of ENABLE. -/
  | queue0Enabled
  /-- QUE_DISABLE (R247): QUE_CTL.DISABLE puts queue 0 into DRAINING. -/
  | queDisable
  /-- PCIE_RESET (R271): An FLR, hot reset, link disable, link down, PERST# or D3hot-to-D0 transition deletes every queue and cancels host requests. -/
  | pcieReset
  /-- FABRIC_REQUEST (R269): A REQUEST packet arrives with an entry and its input and is handled like a host request. -/
  | fabricRequest (p vc cycle : Nat)
  /-- REPLY (R330): A REPLY packet returns a completion entry and output to the requesting package. -/
  | reply (p vc : Nat)
  /-- QUOTE (R238): The home package receives a partner's quote of durations and a held window. -/
  | quote (p number : Nat) (x : QuoteBody)
  /-- SUBREQ (R238): A partner receives a sub-request claiming a held window and admits it. -/
  | subreq (p vc number cid seed flat outCap : Nat) (data : List Nat) (cycle : Nat)
  /-- STREAM_PACKET (R330): A STREAM packet arrives and its granules are delivered to the destination Tine. -/
  | streamPacket (p vc fromSlice : Nat)
  /-- PACKET_FORWARD (R337): A packet not addressed to this package is routed to a port and forwarded cut-through. -/
  | packetForward (p vc : Nat)
  /-- NOTICE (R338): A member receives a route notice and applies it to its routing decisions. -/
  | notice (p : Nat) (group : Bool) (target : Nat) (down : Bool)
  /-- NOTICE_SEND (R338): Firmware sends down or up notices to every member of its group when a port leaves or returns to UP. -/
  | noticeSend (p : Nat)
  /-- MESSAGE_REASSEMBLY_TIMEOUT (R331): A partial message receives no further segment for 4 ms and is discarded. -/
  | messageReassemblyTimeout (src tag vc : Nat)
  /-- FABRIC_JOIN (R345): Assigns the package ID and reinitialises every UP port. -/
  | fabricJoin (e : List Nat)
  /-- FABRIC_LEAVE (R345): Stops fabric ingress ahead of returning to an unassigned ID. -/
  | fabricLeave (e : List Nat)
  /-- FABRIC_LEAVE_DONE (R345): Once every accepted fabric request has completed, RTE_ID returns to 0x3FFF and ports reinitialise. -/
  | fabricLeaveDone
  /-- RTE_COMMIT (R336): RTE_CTL.COMMIT schedules the shadow tables to take effect at the next round boundary. -/
  | rteCommit
  /-- SHADOW_TABLE_WRITE (R336): A write to a routing shadow window, ignored while COMMIT_PENDING is set. -/
  | shadowTableWrite (table index v : Nat)
  /-- RTE_CLR_ALL (R341): RTE_CNT_CLR.CLR_ALL clears the six RTE_ counters. -/
  | rteClrAll
  /-- DATA_FLIT (R308): A DATA flit passing its CRC is accepted, taken as a duplicate or found missing; its ACK, NAK and credits are applied. -/
  | dataFlit (p hdr : Nat) (grans : List (Nat × Nat)) (late : Bool)
  /-- IDLE_FLIT (R308): An IDLE flit delivers ACK, NAK and credit returns and may reveal a missing flit. -/
  | idleFlit (p hdr : Nat) (late : Bool)
  /-- FLIT_CRC_FAIL (R304): A flit fails its CRC or carries a reserved FTYPE, is discarded, and the receiver enters the NAK condition. -/
  | flitCrcFail (p : Nat)
  /-- ACK_TIMEOUT (R310): The acknowledged point has not advanced for 12 µs; the sender replays, and retrains after 4 in a row. -/
  | ackTimeout (p : Nat)
  /-- INIT (R315): An INIT message is received during fresh or resumed initialisation. -/
  | init (p pkg port serial role next : Nat) (seen : Bool) (advH advD : List Nat)
  /-- RETRAIN_REQ (R319): A CTL request for a reinitialisation or a full retrain. -/
  | retrainReq (p hdr : Nat) (late : Bool) (kind : Nat)
  /-- MAP_PROPOSE (R320): The transmitting end proposes a new lane map at flit slot X. -/
  | mapPropose (p hdr : Nat) (late : Bool) (map x clk : Nat) (passed : Bool)
  /-- MAP_REQUEST (R320): The receiving end requests a new lane map at flit slot X. -/
  | mapRequest (p hdr : Nat) (late : Bool) (map x clk : Nat) (passed : Bool)
  /-- MAP_ACK (R320): Confirms a lane map change as applied. -/
  | mapAck (p hdr : Nat) (late : Bool) (x map : Nat)
  /-- MAP_REJECT (R320): Refuses a map change as too late, in collision or below 8 slots. -/
  | mapReject (p hdr : Nat) (late : Bool) (x reason : Nat)
  /-- CREDIT_AUDIT (R314): A credit audit message is received and compared for credit leaks. -/
  | creditAudit (p hdr : Nat) (late : Bool) (counts : List (Nat × Nat × Nat × Nat × Nat × Nat))
  /-- LOOP_REQ (R317): A request for far-end loopback entry. -/
  | loopReq (p hdr : Nat) (late : Bool)
  /-- MAP_SWITCH (R320): Framing reaches flit slot X and the fibre switches to the new lane map. -/
  | mapSwitch (p fibre : Nat)
  /-- MAP_REQUEST_TIMEOUT (R320): No flit passes its CRC within 10 µs after X; the request is repeated, and a full retrain follows after 3. -/
  | mapRequestTimeout (p : Nat)
  /-- SLOT_LOST (R321): A receiver declares a data slot lost and removes it by MAP_REQUEST. -/
  | slotLost (p slot : Nat)
  /-- CRC_FAIL_TIMEOUT (R321): Flits fail their CRC for 64 µs with no slot declared, and a full retrain starts. -/
  | crcFailTimeout (p : Nat)
  /-- WAVE_RETRY (R322): A background retrain attempt of a removed slot starts 1 ms after the last one. -/
  | waveRetry (p : Nat)
  /-- LINK_GRACE (R323): The physical port leaves UP, a full retrain starts or the width falls below 8, and the link enters GRACE. -/
  | linkGrace (p : Nat)
  /-- GRACE_EXPIRY (R323): GRACE has lasted 2 ms; the port goes DOWN and is flushed. -/
  | graceExpiry (p : Nat)
  /-- INIT_RETRY (R323): Initialisation is retried 100 ms after SELF_LOOP or a ROLE_MISMATCH. -/
  | initRetry (p : Nat)
  /-- PHY_PORT_UP (R323): The physical port reaches UP and the link starts a fresh or resumed initialisation. -/
  | phyPortUp (p txMap rxMap : Nat) (eyes : Bool)
  /-- FLUSH_NOW (R323): FAB_LINK_CTL.FLUSH_NOW takes the link DOWN with a flush. -/
  | flushNow (p : Nat)
  /-- RETRAIN_FULL (R319): FAB_LINK_CTL.RETRAIN_FULL starts a full retrain. -/
  | retrainFull (p : Nat)
  /-- REINIT (R319): FAB_LINK_CTL.REINIT starts a reinitialisation. -/
  | reinit (p : Nat)
  /-- FAB_CLR_ALL (R304): FAB_CNT_CLR.CLR_ALL clears the port's twelve counters. -/
  | fabClrAll (p : Nat)
  /-- RING_LOCK_LOSS (R280): A ring loses lock, and its slot is removed and retrained. -/
  | ringLockLoss (p slot : Nat) (tx : Bool)
  /-- CLK_LOST (R282): No edge arrives on slot 16 for 64 root cycles; the receiver requests clock fallback. -/
  | clkLost (p : Nat)
  /-- CLOCK_FALLBACK_LOCK (R283): The receiver locks to the fallback clock-source slot, and the fallback latency is counted. -/
  | clockFallbackLock (p : Nat)
  /-- FALLBACK_EXIT (R283): Slot 16 has been locked for 1 ms and both ends leave fallback by agreement. -/
  | fallbackExit (p : Nat)
  /-- SETF (R145): A sequence step sets a field to an immediate. -/
  | setf (e t : Nat)
  /-- SETFS (R145): A sequence step sets a field from a scratch register. -/
  | setfs (e t : Nat)
  /-- GETF (R145): A sequence step reads a field into a scratch register. -/
  | getf (e t sensed : Nat)
  /-- LOADS (R145): A sequence step loads an immediate into a scratch register. -/
  | loads (e t : Nat)
  /-- ADDS (R145): A sequence step adds an immediate to a scratch register. -/
  | adds (e t : Nat)
  /-- WAIT (R145): A sequence step waits TIME cycles. -/
  | wait (e : Nat)
  /-- POLL (R145): A sequence step polls a field until it matches or TIME runs out. -/
  | poll (e t sensed : Nat)
  /-- BRS (R145): A sequence step branches on a scratch register compare. -/
  | brs (e t : Nat)
  /-- MEASURE (R145): A sequence step runs a measurement primitive into a scratch register. -/
  | measure (e t : Nat) (res : Option Nat)
  /-- DONE (R145): A sequence instance ends successfully with an outcome. -/
  | done (e : Nat) (one : Bool)
  /-- FAIL (R145): A sequence instance ends with a failure reason. -/
  | fail (e : Nat) (one : Bool)
  /-- SEQ_LIMIT_EXCEEDED (R146): An instance exceeds STEP_LIMIT or TIME_LIMIT and ends as FAIL 0xFFFF_FFFF. -/
  | seqLimitExceeded (e t : Nat)
  /-- LASER_LOCKED (R287): A warming laser locks within 2 ms and becomes READY. -/
  | laserLocked (bank slot unit : Nat)
  /-- LASER_WARM_TIMEOUT (R287): A warming laser is not locked at 2 ms and is RETIRED. -/
  | laserWarmTimeout (bank slot unit : Nat)
  /-- LASER_FAIL (R287): A LIT laser's power or lock is lost for 16 samples; it is retired and an unplanned swap starts. -/
  | laserFail (bank slot unit : Nat)
  /-- LASER_OVERPOWER (R287): A laser's power exceeds 1.25 times its set value and its drive is cut within 20 µs. -/
  | laserOverpower (bank slot unit reading : Nat)
  /-- EOL_WARN (R288): A LIT unit's bias exceeds the EOL ratio, and a planned swap may start. -/
  | eolWarn (bank slot ratio : Nat)
  /-- LAS_SWAP (R288): LAS_CTL.SWAP requests a planned swap of SWAP_SLOT_SEL. -/
  | lasSwap (bank slot : Nat)
  /-- PLANNED_SWAP (R289): A planned swap starts warming the spare, and the reduced width is counted from r0. -/
  | plannedSwap (bank : Nat)
  /-- SWAP_REMOVAL (R289): At the first round boundary where the booked loads fit, the slot is removed from the ports and the lasers are exchanged. -/
  | swapRemoval (bank : Nat)
  /-- SWAP_DEFERRAL (R289): No fitting round occurs within 4,096 rounds; the swap is deferred and retried later. -/
  | swapDeferral (bank : Nat)
  /-- SWAP_DONE (R289): The last port regains the slot and full width is counted from the next round. -/
  | swapDone (bank : Nat)
  /-- FIBRE_OVERPOWER (R293): A fibre monitor tap reads above 6.0 mW; the switch moves to DUMP and the port is latched in SAFETY_CUT. -/
  | fibreOverpower (p reading : Nat)
  /-- CLEAR_SAFETY (R293): FIRN_PORT_CTL.CLEAR_SAFETY clears SAFETY_CUT and starts FIRN_TRAIN. -/
  | clearSafety (p : Nat)
  /-- FIBRE_DARK (R295): A receive fibre is dark for 128 µs; the port enters SAFE and its emission falls. -/
  | fibreDark (p : Nat)
  /-- SAFE_PROBE (R295): A port in SAFE emits its probe every 100 ms. -/
  | safeProbe (p : Nat)
  /-- PROBE_RECEIVED (R295): A port in SAFE sees the far probe, answers, and both ends leave SAFE for training. -/
  | probeReceived (p : Nat)
  /-- FIRN_RETRAIN (R284): FIRN_PORT_CTL.RETRAIN starts FIRN_RETRAIN on the port. -/
  | firnRetrain (p : Nat)
  /-- USE_SPARE (R296): FIRN_PORT_CTL.USE_SPARE moves a port onto the spare fibre pair. -/
  | useSpare (p : Nat)
  /-- LOOP_MODE_WRITE (R286): Selects a loopback mode, taking an UP port down first; leaving loopback starts FIRN_TRAIN. -/
  | loopModeWrite (p mode pattern : Nat)
  /-- QLK_LINK_FRAME (R350): A LINK sideband frame is received, describing the next window's slots and carrying ACK, credits, marks and WIN_CRC. -/
  | qlkLinkFrame (conn b frame : Nat) (late : Bool)
  /-- QLK_GRANULE (R351): A non-idle Quinhorn granule is accepted, discarded as a duplicate, or starts the retry condition. -/
  | qlkGranule (conn b d check : Nat)
  /-- QLK_ACK_TIMEOUT (R352): ACK has not advanced for 512 fabric cycles, and the sender replays from the oldest granule. -/
  | qlkAckTimeout (conn b : Nat)
  /-- QLK_CLOCK_LOSS (R372): The forwarded clock shows no edge for 32 periods, and the bundle retrains. -/
  | qlkClockLoss (conn b : Nat)
  /-- CAP (R362): A TRAIN frame carries a capability message, and the link agrees its capabilities. -/
  | cap (conn b major minor lanes mask maxLen retimers : Nat) (credits : List Nat)
  /-- QLK_MAP (R361): A TRAIN frame proposes a bundle's map. -/
  | qlkMap (conn b : Nat) (rx tx : List Nat)
  /-- QLK_MAP_ACK (R361): A TRAIN frame confirms the map as applied. -/
  | qlkMapAck (conn b : Nat) (rx tx : List Nat)
  /-- TEST_START (R372): Starts the PRBS15 wire test of a retrain. -/
  | testStart (conn b failed : Nat)
  /-- TEST_RESULT (R372): Reports the failed wires of the sender's receive side. -/
  | testResult (conn b failed : Nat)
  /-- QLK_RETRAIN_REQ (R372): A die requests a bundle retrain. -/
  | qlkRetrainReq (conn b : Nat)
  /-- READY (R371): A TRAIN frame declares the end ready; with MAP_ACK from both ends the bundle is UP. -/
  | ready (conn b : Nat)
  /-- BUNDLE_RETRAIN (R372): A retrain trigger stops traffic on the bundle and the Cirque starts its retrain. -/
  | bundleRetrain (conn b : Nat) (failed : Bool)
  /-- BUNDLE_RETIRE (R373): A bundle with no possible map, or a third failed retrain, is retired and its partial messages abandoned. -/
  | bundleRetire (conn b : Nat) (fill stage : Bool)
  /-- QLK_RETRAIN (R372): QLK_CTL.RETRAIN retrains bundle BUNDLE_SEL. -/
  | qlkRetrain (conn b : Nat)
  /-- QLK_CLR_ALL (R372): QLK_CNT_CLR.CLR_ALL clears the eight counters of a connection. -/
  | qlkClrAll (conn : Nat)
  /-- PARTIAL_RESET (R375): A die is reset or its domain is cycled while the Cirque keeps its state, and the maps are compared. -/
  | partialReset (conn : Nat)
  /-- RD (R357): A guest reads granules from a device-physical address. -/
  | rd (g : Nat)
  /-- RD_RESP (R357): Returns read data or a failure status. -/
  | rdResp (g : Nat)
  /-- WR (R357): A guest writes granules to an address. -/
  | wr (g : Nat)
  /-- WR_MASKED (R357): A guest writes a granule under a byte mask. -/
  | wrMasked (g : Nat)
  /-- WR_ACK (R358): Acknowledges a write once it is visible to every later access. -/
  | wrAck (g : Nat)
  /-- AT_ADD (R357): Atomic add on 8 bytes. -/
  | atAdd (g : Nat)
  /-- AT_SWAP (R357): Atomic swap on 8 bytes. -/
  | atSwap (g : Nat)
  /-- AT_CAS (R357): Atomic compare-and-swap on 8 bytes. -/
  | atCas (g : Nat)
  /-- AT_RESP (R357): Returns the old value of an atomic. -/
  | atResp (g : Nat)
  /-- GUEST_COPY (R357): A guest asks the Cirque to copy a range. -/
  | guestCopy (g : Nat)
  /-- RD_S (R359): A coherent read for a shared line. -/
  | rdS (g : Nat)
  /-- RD_M (R359): A coherent read for a modified line. -/
  | rdM (g : Nat)
  /-- UPG (R359): Upgrades a shared line to modified. -/
  | upg (g : Nat)
  /-- WB_M (R359): Writes back a modified line. -/
  | wbM (g : Nat)
  /-- COH_EVICT (R359): The guest drops an S or E line. -/
  | cohEvict (g : Nat)
  /-- COH_GRANT (R359): The Cirque grants a line state, with data. -/
  | cohGrant (g : Nat)
  /-- SNP_INV (R359): The Cirque snoops a guest line to invalid. -/
  | snpInv (g : Nat)
  /-- SNP_S (R359): The Cirque snoops a guest line to shared. -/
  | snpS (g : Nat)
  /-- SNP_ACK (R359): The guest answers a snoop, with data from M. -/
  | snpAck (g : Nat)
  /-- SNOOP_TIMEOUT (R359): A snoop is unanswered after 2,048 fabric cycles; the line is poisoned and a violation counted. -/
  | snoopTimeout (g line : Nat)
  /-- EVENT (R364): A guest event is signalled as an MSI-X vector without coalescing. -/
  | event (g : Nat)
  /-- DRD (R360): A 32-bit debug read. -/
  | drd (conn : Nat)
  /-- DRD_RESP (R360): Answers a debug read. -/
  | drdResp (conn : Nat)
  /-- DWR (R360): A 32-bit debug write. -/
  | dwr (conn : Nat)
  /-- DWR_ACK (R360): Answers a debug write. -/
  | dwrAck (conn : Nat)
  /-- DEBUG_TIMEOUT (R360): A debug request has no response after 2,048 fabric cycles and completes with TIMEOUT. -/
  | debugTimeout
  /-- DBG_GO (R360): QLK_DBG_CTL.GO starts a debug access to a connection. -/
  | dbgGo (write : Bool) (conn : Nat)
  /-- UNFENCE (R366): QLK_FW_CTL.UNFENCE ends fencing of a guest site. -/
  | unfence (g : Nat)
  /-- CLR_VIOL (R366): QLK_FW_CTL.CLR_VIOL clears the violation count and record. -/
  | clrViol (g : Nat)
  /-- WIN_RIGHTS_WRITE (R365): Sets a firewall window's rights, or refuses them with REJECTED set. -/
  | winRightsWrite (g w v : Nat)
  /-- GUEST_OVERPOWER (R434): A guest site averages above 11.0 W over 1 ms; its domain is switched off and it is fenced. -/
  | guestOverpower (g mw : Nat)
  /-- PAIR_FORM (R378): Forms a pair as active or standby after the pairing checks. -/
  | pairForm (e : List Nat) (info : PeerInfo)
  /-- PAIR_DISSOLVE (R377): Leaves the pair and returns to UNPAIRED. -/
  | pairDissolve (e : List Nat)
  /-- PAIR_HANDOVER (R402): Starts a clean handover from the standby. -/
  | pairHandover (e : List Nat)
  /-- AUTO_HANDOVER (R402): A preferred-active standby starts a handover by itself after 10 s as STANDBY. -/
  | autoHandover
  /-- HANDOVER_REQ (R402): The active receives a handover request naming round h. -/
  | handoverReq (p : Nat)
  /-- ACQUIRE (R390): The witness receives a request for the lease. -/
  | acquire (p : Nat)
  /-- LEASE_GRANT (R390): A member receives the lease with a new epoch. -/
  | leaseGrant (p : Nat) (lists : List HostLists)
  /-- RENEW (R390): The witness or standby receives a lease renewal. -/
  | renew (p : Nat)
  /-- RENEW_PERIOD (R389): Every 64 µs the holder sends RENEW with a new SEQ. -/
  | renewPeriod
  /-- RENEW_ACK (R389): The holder receives an acknowledgement and restarts its lease count. -/
  | renewAck (p us : Nat)
  /-- LEASE_RELEASE (R390): The witness receives a lease release and grants on it. -/
  | leaseRelease (p : Nat)
  /-- LEASE_QUERY (R390): The witness receives a query and answers with STATUS. -/
  | leaseQuery (p us : Nat)
  /-- LEASE_STATUS (R394): A member receives the witness's report of the lease, HELD or EXPIRED. -/
  | leaseStatus (p : Nat)
  /-- DENY (R390): A member receives a refusal from the witness. -/
  | deny (p : Nat)
  /-- FAIL_FAST (R394): The standby or witness receives a fail-fast notice from the failing holder. -/
  | failFast (p : Nat)
  /-- ANNOUNCE (R396): A package receives the new active's announcement and writes a redirect entry. -/
  | announce (p : Nat)
  /-- ANNOUNCE_REPEAT (R396): An unacknowledged ANNOUNCE is repeated after 4 µs, up to 8 times. -/
  | announceRepeat (pkg : Nat)
  /-- DETACH (R388): The active receives DETACH from its standby and declares it lost. -/
  | detach (p : Nat)
  /-- LEASE_MESSAGE_REPEAT (R388): An unanswered QUERY or ACQUIRE, or a FAIL_FAST or RELEASE, is repeated on its timer. -/
  | leaseMessageRepeat (index : Nat) (overdue : Bool)
  /-- SELF_FENCE (R389): The holder enters the last 16 µs of its lease count and stops releasing. -/
  | selfFence
  /-- LEASE_EXPIRY (R389): The holder's lease count ends; it stops emitting and enters FENCED. -/
  | leaseExpiry
  /-- WITNESS_LEASE_EXPIRY (R390): The witness judges the lease expired 288 µs after its last RENEW_ACK and reports EXPIRED to members that queried. -/
  | witnessLeaseExpiry (pair : Nat)
  /-- STANDBY_BINDING_END (R391): The standby's 288 µs binding after its last RENEW_ACK ends, and it may send ACQUIRE. -/
  | standbyBindingEnd
  /-- WITNESS_START_END (R390): 288 µs after a witness comes up, it stops answering DENY 4 and adopts the reported epochs. -/
  | witnessStartEnd
  /-- FAIL_FAST_EVENT (R414): A FATAL event closes the release gate, stops intake and starts the fail-fast sequence on a holder. -/
  | failFastEvent (cls sub : Nat) (detail : List Nat)
  /-- KV_RECORD (R385): The standby receives KV/state granules written in the round. -/
  | kvRecord (p : Nat)
  /-- OUT_RECORD (R385): The standby receives a hot request's OUTPUT granules. -/
  | outRecord (p : Nat)
  /-- DESC_RECORD (R383): The standby receives a descriptor change, possibly starting a mirrored fill. -/
  | descRecord (p : Nat)
  /-- MOD_RECORD (R385): The standby receives TAKE and POST entries naming SQ entries. -/
  | modRecord (p : Nat)
  /-- REQ_RECORD (R386): The standby receives the state of a hot request in flight. -/
  | reqRecord (p : Nat)
  /-- CLOSE_RECORD (R387): The standby checks a round's CLOSE, applies the delta and acknowledges it, or discards it. -/
  | closeRecord (p cycle : Nat)
  /-- CHECKPOINT_RECORD (R399): The standby receives a shipped sealed checkpoint. -/
  | checkpointRecord (p : Nat)
  /-- DELTA_ACK (R387): The active receives a cumulative acknowledgement of a round's delta. -/
  | deltaAck (p : Nat)
  /-- STANDBY_LOSS (R387): 3 rounds pass beyond an unacknowledged delta, and the active declares the standby lost. -/
  | standbyLoss
  /-- PAIRING_PORT_DOWN (R387): Port 62 or 63 leaves UP or VC1 is flushed; the pair is no longer formed. -/
  | pairingPortDown (p : Nat)
  /-- CLOSE_TIMEOUT (R394): The standby sees no CLOSE for 2 rounds, enters CLAIMING and queries the witness. -/
  | closeTimeout
  /-- SWITCHOVER_START (R395): At the first boundary after GRANT, the new active announces itself, rebuilds calendars and resumes hot requests. -/
  | switchoverStart (lists : List HostLists)
  /-- RESYNC_COMPLETE (R401): The bulk copy ends and the joining member enters STANDBY at the next acknowledged boundary. -/
  | resyncComplete (kv : List (Nat × List Nat)) (reqs : List (List Nat)) (subs : List Nat)
  /-- PAIR_CLR_ALL (R387): PAIR_CNT_CLR.CLR_ALL clears the five PAIR_ counters. -/
  | pairClrAll
  /-- FAULT_PIN_CLR (R408): SAF_CTL.FAULT_PIN_CLR releases FAULT_N when no unread record remains. -/
  | faultPinClr (v : Nat)
  /-- SAF_LOG_LATCH (R416): SAF_LOG_SEL.LATCH copies a log slot into the record window. -/
  | safLogLatch (v : Nat)
  /-- PROOF_TEST (R415): A Tine's periodic engine test and the forced checks of the Cirque run in their booked block. -/
  | proofTest (site : Nat) (pass : Bool) (bad : Option Nat)
  /-- MORAINE_WRITE (R422): Within a second of a counted change, firmware rewrites the moraine record. -/
  | moraineWrite
  /-- SNAP_IN (R424): A rising edge on SNAP_IN triggers a snapshot. -/
  | snapIn
  /-- SNAP_TRIGGER (R424): SNAP_CTL.TRIGGER triggers a snapshot. -/
  | snapTrigger (v : Nat)
  /-- SNAP_LATCH (R425): Every die latches its registers on one edge, SNAP_OUT pulses and HELD is set. -/
  | snapLatch (cycle : Nat)
  /-- SNAP_CONFIRM_TIMEOUT (R425): A die fails to confirm the latch within 512 fabric cycles and is marked in SNAP_ABSENT. -/
  | snapConfirmTimeout (conn : Nat)
  /-- SNAP_REARM (R425): SNAP_CTL.REARM clears HELD. -/
  | snapRearm (v : Nat)
  /-- TEMP_SAMPLE (R436): A temperature channel is sampled every 8 µs, and its threshold crossings and throttle index are updated. -/
  | tempSample (ch : Nat) (t : Int) (isOpen stale : Bool)
  /-- THM_FORCE_WRITE (R441): THM_FORCE.FORCE forces a channel to a value. -/
  | thmForceWrite (ch v : Nat)
  /-- THM_RELEASE (R441): THM_FORCE.RELEASE ends forcing and retests the channel. -/
  | thmRelease (ch v : Nat)
  /-- THM_RETEST (R441): THM_FORCE.RETEST retests a FAILED channel. -/
  | thmRetest (ch v : Nat)
  /-- CLEAR_SHUTDOWN (R437): THM_FORCE.CLEAR_SHUTDOWN clears a channel's shutdown latch. -/
  | clearShutdown (ch v : Nat)
  /-- THM_CURVE_WRITE (R438): Writes a throttle curve entry, ignored if it breaks monotonicity. -/
  | thmCurveWrite (index v : Nat)
  /-- BUDGET_GRANT (R431): A die receives its pair and power allotment for the next round. -/
  | budgetGrant (conn : Nat)
  /-- BUDGET_REQUEST (R431): The power manager receives a die's power estimate. -/
  | budgetRequest (conn mw : Nat)
  /-- BUDGET_RETURN (R431): The power manager receives a die's measured energy and unused allotment. -/
  | budgetReturn (conn mj mw : Nat)
  /-- SUPPLY_OUT_OF_WINDOW (R430): A domain is out of window for 2 µs and is switched off, with the action for its kind. -/
  | supplyOutOfWindow (d mv : Nat)
  /-- INPUT_OUT_OF_WINDOW (R457): The 48 V input leaves its window; fail-fast and the power-fail commit start. -/
  | inputOutOfWindow (cv : Nat)
  /-- POWER_FAIL_COMMIT_DONE (R457): The power-fail record is written to the ring. -/
  | powerFailCommitDone
  /-- CAL_RUN (R448): CAL_CTL.RUN starts a calibration run of the selected quantities. -/
  | calRun (mask : Nat)
  /-- CAL_RUN_DONE (R448): The run's measurements end and the new set is stored. -/
  | calRunDone (vals : List (Nat × Nat × Nat))
  /-- CAL_STORE_DONE (R451): The set's store is verified and the set becomes current. -/
  | calStoreDone
  /-- CAL_STORE_RETRY (R451): A deferred store is retried every 10 s. -/
  | calStoreRetry
  /-- CAL_REVERT (R450): CAL_CTL.REVERT makes the previous set current again. -/
  | calRevert (mask : Nat)
  /-- OPSEC_TICK (R453): The operating-seconds counter counts a second of domain 165 power. -/
  | opsecTick
  /-- OPSEC_RECORD (R453): Every 3,600 s a counter record is appended to the counter log. -/
  | opsecRecord
  /-- POWER_ON_RESET (R458): The input enters its window after being below 38.0 V, and the Cirque is reinitialised. -/
  | powerOnReset
  /-- MOD_RESET_N (R458): MOD_RESET_N is held low for 10 µs and a module reset follows. -/
  | modResetN
  /-- HUB_RESET_MODULE (R458): HUB_RESET_CTL written with MODULE 1 and KEY 0x0972 causes a module reset. -/
  | hubResetModule (v : Nat)
  /-- WATCHDOG_EXPIRY (R458): The management processor's watchdog goes 1 s without service and causes a module reset. -/
  | watchdogExpiry
  /-- FIRMWARE_VERIFIED (R460): The boot ROM has chosen and verified a firmware slot, or enters RECOVERY. -/
  | firmwareVerified
  /-- BOOT_DEVICES_READY (R459): GDDR7, optics, Tines and the Quinhorn start-up test are done (STAGE 3). -/
  | bootDevicesReady (found : BootTest)
  /-- BOOT_STRUCTURE_APPLIED (R151): GDDR7 is zeroed, calibration and moraine record are read, and a structure slot or the default is applied (STAGE 4). -/
  | bootStructureApplied
  /-- BOOT_READY (R459): Boot completes, READY is set and admission runs. -/
  | bootReady
  /-- RECOVERY_IMAGE (R460): In RECOVERY, a signed image received by PLDM is written to slot A and a module reset follows. -/
  | recoveryImage (img : FwImage)
  /-- FW_UPDATE (R461): Checks a firmware image and writes it to the slot not booted from. -/
  | fwUpdate (e : List Nat) (img : Option FwImage) (flashOk : Bool)
  /-- OWNER_ENROL (R463): Stores a signed owner block on an UNOWNED module. -/
  | ownerEnrol (e : List Nat) (block : Option (List Nat)) (flashOk : Bool)
  /-- OWNER_UPDATE (R463): Replaces the owner block under the current admin key. -/
  | ownerUpdate (e : List Nat) (block : Option (List Nat)) (flashOk : Bool)
  /-- OWNER_RELEASE (R463): Erases the key store and returns the module to UNOWNED. -/
  | ownerRelease (e : List Nat) (block : Option (List Nat)) (flashOk : Bool)
  /-- SEC_LOCK_SET (R466): SEC_CTL.LOCK sets SEC_LOCK until a reset that reinitialises the Cirque. -/
  | secLockSet (v : Nat)
  /-- GET_VERSION (R467): An SPDM GET_VERSION request is answered. -/
  | getVersion (transport : Nat)
  /-- GET_CAPABILITIES (R467): An SPDM GET_CAPABILITIES request is answered. -/
  | getCapabilities (transport : Nat)
  /-- NEGOTIATE_ALGORITHMS (R467): An SPDM NEGOTIATE_ALGORITHMS request is answered. -/
  | negotiateAlgorithms (transport : Nat) (req : List Nat)
  /-- GET_DIGESTS (R467): An SPDM GET_DIGESTS request is answered. -/
  | getDigests (transport : Nat)
  /-- GET_CERTIFICATE (R467): An SPDM GET_CERTIFICATE request returns the slot 0 chain. -/
  | getCertificate (transport slot off len : Nat)
  /-- CHALLENGE (R467): An SPDM CHALLENGE is answered, signed by the alias key. -/
  | challenge (transport slot : Nat) (nonce : List Nat)
  /-- GET_MEASUREMENTS (R468): Returns the signed measurement blocks. -/
  | getMeasurements (transport index : Nat) (nonce : List Nat)
  /-- CRC_GO (R470): CRC_CTL.GO starts a CRC engine run, or is ignored while BUSY. -/
  | crcGo (e v : Nat)
  /-- CRC_RUN_END (R469): A CRC run ends with a RESULT and DONE, or early with an error. -/
  | crcRunEnd (e : Nat) (host : Option (List Nat))
  /-- CTX_LATCH_VIEW (R165): CTX_SEL.LATCH_VIEW copies a descriptor into the CTX_DESC view. -/
  | ctxLatchView (x : ViewRead)
  /-- MOD_RESET_N_RELEASE (R478): MOD_RESET_N rises while the input is in its window, giving power-good, and the boot sequence starts from step 1. -/
  | modResetNRelease
deriving DecidableEq, Repr

end Sys2Proof
end

