-- ==== Sys2Proof/Config.lean ====
section
/-! DEFINITION. What the spec leaves to the part at hand: free values (nothing constrains them), fused, stored and
derived values (fixed in one part, not stated by the spec), and the cryptographic primitives, which the model does not
compute. Every constant is opaque: no proof can see a value of it. -/

namespace Sys2Proof

/-- The n-th free value drawn (R77 and every other value the spec leaves undefined); `State.free` counts the draws. -/
opaque Config.freeValue : Nat → BitVec 128

/-- A fused value of a register field (hubId, field cirqueRev).-/
opaque Config.hubId_cirqueRev : Nat

/-- A fused value of a register field (hubId, field guest1Fitted).-/
opaque Config.hubId_guest1Fitted : Nat

/-- A fused value of a register field (hubId, field guest0Fitted).-/
opaque Config.hubId_guest0Fitted : Nat

/-- A fused value of a register field (tineId, field dieRev).-/
opaque Config.tineId_dieRev : Nat

/-- A stored value of a register field (calCount, field count).-/
opaque Config.calCount_count : Nat

/-- A stored value of a register field (calSeq, field seq).-/
opaque Config.calSeq_seq : Nat

/-- A stored value of a register field (calLastLo, field opsec).-/
opaque Config.calLastLo_opsec : Nat

/-- A stored value of a register field (calLastHi, field opsec).-/
opaque Config.calLastHi_opsec : Nat

/-- A stored value of a register field (calOpsecLo, field opsec).-/
opaque Config.calOpsecLo_opsec : Nat

/-- A stored value of a register field (calOpsecHi, field opsec).-/
opaque Config.calOpsecHi_opsec : Nat

/-- An image value of a register field (secFwVersion, field securityVersion).-/
opaque Config.secFwVersion_securityVersion : Nat

/-- A fused value of a register field (secFwMin, field min).-/
opaque Config.secFwMin_min : Nat

/-- A stored value of a register field (secStructMin, field min).-/
opaque Config.secStructMin_min : Nat

/-- A derived value of a register field (secKaPub, field word).-/
opaque Config.secKaPub_word : Nat → Nat

/-- A word of the fuse record of a connection's die (R367): connection, word 0 to 31. -/
opaque Config.fuseWord : Nat → Nat → Nat

/-- The bytes of a SEQ section that holds Aliowell's built-in tables for domain sequencing (R151). -/
opaque Config.builtinSeq : List Nat

/-- SHA-384 of a byte string, 48 bytes (FIPS 180-4, named by R462): not computed by the model. -/
opaque Config.sha384 : List Nat → List Nat

/-- ECDSA P-384 verification of a signature (R462): key bytes, message bytes, signature bytes. -/
opaque Config.ecdsaVerify : List Nat → List Nat → List Nat → Bool

/-- AES-256-GCM encryption of a sealed checkpoint (R465): context key inputs, nonce, plain bytes. -/
opaque Config.aesGcmSeal : List Nat → Nat → List Nat → List Nat

/-- Opening of a sealed checkpoint (R465): `none` where the tag does not match. -/
opaque Config.aesGcmOpen : List Nat → Nat → List Nat → Option (List Nat)

/-- Unwrapping of the owner seal secret (R463): `none` where the unwrapping fails. -/
opaque Config.unwrapSeal : List Nat → List Nat → Option (List Nat)

/-- A 64-bit nonce base drawn by the security block's generator (R465), by draw number. -/
opaque Config.nonceBase : Nat → BitVec 64

/-- The bytes of an SPDM answer that the DMTF specification, and not this one, lays out (R467): response code, request
parameters. -/
opaque Config.spdmBody : Nat → List Nat → List Nat

/-- Version of the boot ROM (R468). -/
opaque Config.bootRomVersion : Nat

/-- SHA-384 of the Aliowell structure key, fused at manufacture (R462). -/
opaque Config.aliowellStructKeyId : List Nat

/-- SHA-384 of Aliowell's firmware key, fused at manufacture (R460, R462). -/
opaque Config.firmwareKeyId : List Nat

/-- Bound in ns of the part of a route beyond the first hop, by this package, the destination, the class and the first port
(R236): other packages hold it, and the spec does not say how it is known here. -/
opaque Config.farBound : Nat → Nat → Nat → Nat → Nat

/-- Bytes of a fabric message whose layout the spec does not state (QUOTE, SUBREQ, NOTICE), by its opcode and the fields it
carries (R238, R338). -/
opaque Config.fabricBytes : Nat → List Nat → List Nat

/-- A set point that falls between two steps, of a calibrated item, is rounded up (R445 states no rounding). -/
opaque Config.pointUp : Nat → Bool

/-- Calibrated set power of a laser unit, bank * 34 + slot * 2 + unit, in 10 µW: the most LAS_POWER_SET takes (R299). -/
opaque Config.laserPower : Nat → Nat

/-- Aliowell's built-in nominal value of a calibrated quantity, item and point (R452); the spec lists none of them. -/
opaque Config.calNominal : Nat → Nat → Nat → Nat

/-- VERSION, IMAGE_HASH and COMMIT_VERSION of the firmware image in slot A as manufactured (R456, R460). -/
opaque Config.fwVersion : Nat

/-- See `Config.fwVersion`. -/
opaque Config.fwHash : List Nat

/-- See `Config.fwVersion`. -/
opaque Config.fwCommit : Bool

/-- The alias key's signature of a byte string, 96 bytes (R462, R467): not computed by the model. -/
opaque Config.aliasSign : List Nat → List Nat

/-- ALIOWELL_VID, the Vendor ID of Aliowell (R241). -/
opaque Config.aliowellVid : Nat

/-- The Cirque die serial of the fuses, 8 bytes (R463). -/
opaque Config.dieSerial : Nat

end Sys2Proof
end

