-- ==== Sys2Proof/Machine/Bits.lean ====
section
/-! DEFINITION. Bit fields, sign extension, byte order and finite maps: the plain operations every other file uses.
Structural recursion throughout, so that the kernel evaluates them. -/

namespace Sys2Proof.Machine

/-! ### Finite maps -/

/-- The value at a key, if listed. -/
def SMap.find? {α : Type} : SMap α → Nat → Option α
  | [], _ => none
  | (k, v) :: t, q => if k = q then some v else SMap.find? t q

/-- The value at a key; `d` where the key is not listed. -/
def SMap.get {α : Type} (d : α) (m : SMap α) (q : Nat) : α := (SMap.find? m q).getD d

/-- Insert or replace, keeping the keys rising. -/
def SMap.ins {α : Type} (q : Nat) (x : α) : SMap α → SMap α
  | [] => [(q, x)]
  | (k, v) :: t => if q < k then (q, x) :: (k, v) :: t else if k = q then (q, x) :: t else (k, v) :: SMap.ins q x t

/-- Remove a key. -/
def SMap.del {α : Type} (q : Nat) : SMap α → SMap α
  | [] => []
  | (k, v) :: t => if k = q then SMap.del q t else (k, v) :: SMap.del q t

/-- Write `x` at a key; writing what an unlisted key stands for removes the entry. -/
def SMap.put {α : Type} [DecidableEq α] (d : α) (q : Nat) (x : α) (m : SMap α) : SMap α :=
  if x = d then SMap.del q m else SMap.ins q x m

/-- Canonical form: strictly rising keys, all above `lo`, no entry equal to `d`. -/
def SMap.wfFrom {α : Type} [DecidableEq α] (d : α) : Nat → SMap α → Bool
  | _, [] => true
  | lo, (k, v) :: t => decide (lo ≤ k) && decide (v ≠ d) && SMap.wfFrom d (k + 1) t

/-- Canonical form of a whole map. -/
def SMap.wf {α : Type} [DecidableEq α] (d : α) (m : SMap α) : Bool := SMap.wfFrom d 0 m

/-- The listed values. -/
def SMap.vals {α : Type} (m : SMap α) : List α := m.map Prod.snd

/-- The listed keys. -/
def SMap.keys {α : Type} (m : SMap α) : List Nat := m.map Prod.fst

/-! ### Bits -/

/-- Bits [hi:lo] of a number. -/
def bitsOf (x hi lo : Nat) : Nat := x / 2 ^ lo % 2 ^ (hi + 1 - lo)

/-- Bit i of a number. -/
def bit (x i : Nat) : Nat := x / 2 ^ i % 2

/-- Bit i as a Bool. -/
def bitB (x i : Nat) : Bool := x / 2 ^ i % 2 = 1

/-- A Bool as a bit. -/
def ofB (b : Bool) : Nat := if b then 1 else 0

/-- Bit i set. -/
def setBit (x i : Nat) : Nat := x ||| 2 ^ i

/-- The w-bit pattern x read as two's complement. -/
def sext (w x : Nat) : Int := if x % 2 ^ w < 2 ^ (w - 1) then (x % 2 ^ w : Nat) else (x % 2 ^ w : Nat) - (2 ^ w : Nat)

/-- The w-bit two's complement pattern of an integer. -/
def toBits (w : Nat) (x : Int) : Nat := (x % (2 ^ w : Nat)).toNat

/-- How many of the low n bits of x are set. -/
def popcount : Nat → Nat → Nat
  | 0, _ => 0
  | n + 1, x => x % 2 + popcount n (x / 2)

/-- The lowest set bit of x among the low n bits, counted from `i`. -/
def lowBit : Nat → Nat → Nat → Nat
  | 0, i, _ => i
  | n + 1, i, x => if x % 2 = 1 then i else lowBit n (i + 1) (x / 2)

/-- The set bits of x among the low n bits, from bit `i` on. -/
def bitList : Nat → Nat → Nat → List Nat
  | 0, _, _ => []
  | n + 1, i, x => if x % 2 = 1 then i :: bitList n (i + 1) (x / 2) else bitList n (i + 1) (x / 2)

/-- The low n bits of x in reverse order. -/
def reverseBits : Nat → Nat → Nat
  | 0, _ => 0
  | n + 1, x => x % 2 * 2 ^ n + reverseBits n (x / 2)

/-- Rounded-up quotient. -/
def ceilDiv (a b : Nat) : Nat := (a + b - 1) / b

/-- floor(log2 x) for x > 0; 0 for 0. -/
def log2 (x : Nat) : Nat := Nat.log2 x

/-- Bytes (least significant first, R10) as a number. -/
def leNat : List Nat → Nat
  | [] => 0
  | b :: t => b + 256 * leNat t

/-- n bytes of a number, least significant first (R10). -/
def toLe : Nat → Nat → List Nat
  | 0, _ => []
  | n + 1, x => x % 256 :: toLe n (x / 256)

/-- n entries of a list from position i, short lists padded with `d`. -/
def slice {α : Type} (d : α) (l : List α) (i n : Nat) : List α :=
  let r := (l.drop i).take n
  r ++ List.replicate (n - r.length) d

/-- The little-endian number of n bytes at byte i. -/
def leAt (l : List Nat) (i n : Nat) : Nat := leNat (slice 0 l i n)

/-- 64-bit saturating and 32-bit saturating helpers: a count held at its largest value. -/
def satAdd (w a b : Nat) : Nat := min (a + b) (2 ^ w - 1)

/-- Maximum of a list of integers, `d` for the empty one. -/
def maxI (d : Int) : List Int → Int
  | [] => d
  | [x] => x
  | x :: t => max x (maxI d t)

/-- Minimum of a list of integers, `d` for the empty one. -/
def minI (d : Int) : List Int → Int
  | [] => d
  | [x] => x
  | x :: t => min x (minI d t)

/-- Maximum of a list of numbers. -/
def maxN (l : List Nat) : Nat := l.foldl max 0

/-- Sum of a list of numbers. -/
def sumN (l : List Nat) : Nat := l.foldl (· + ·) 0

/-- Sum of a list of integers. -/
def sumI (l : List Int) : Int := l.foldl (· + ·) 0

/-- Fold a step over 0 to n - 1. -/
def iter {α : Type} (n : Nat) (f : Nat → α → α) (x : α) : α := (List.range n).foldl (fun a i => f i a) x

/-- Replace entry i of a list. -/
def setAt {α : Type} (l : List α) (i : Nat) (x : α) : List α := l.set i x

/-! ### Check values (R304, R350, R469) -/

/-- One byte of a CRC (R469): `w` WIDTH, `poly` POLY, `r` the register, `b` the byte. -/
def crcByte (w poly r b : Nat) : Nat :=
  [7, 6, 5, 4, 3, 2, 1, 0].foldl (fun r i =>
    let t := (bit r (w - 1) + bit b i) % 2
    let r' := r * 2 % 2 ^ w
    if t = 1 then r' ^^^ poly else r') r

/-- The CRC of R469 over a list of bytes. -/
def crc (w poly init xorout : Nat) (refin refout : Bool) (l : List Nat) : Nat :=
  let r := l.foldl (fun r b => crcByte w poly r (if refin then reverseBits 8 b else b)) init
  (if refout then reverseBits w r else r) ^^^ xorout

/-- CRC-32C with the parameters of R304. -/
def crc32c (l : List Nat) : Nat := crc 32 0x1EDC6F41 0xFFFFFFFF 0xFFFFFFFF true true l

/-- The sideband CRC of R350. -/
def crc16 (l : List Nat) : Nat := crc 16 0x1021 0xFFFF 0 false false l

end Sys2Proof.Machine
end

