-- ==== Sys2Proof/Machine/State.lean ====
section
/-! DEFINITION. The state of the block as plain data: everything the spec gives the T972, the queue of waiting
commands, and the state after reset. -/

namespace Sys2Proof.Machine

/-! ### Registers -/

/-- Access types of a register field (R11). -/
inductive Access where
  | ro | rw | w1c | wo | rwl
deriving DecidableEq, Repr

/-- The reset value of a field: one number, its own index, a table by index, or a table repeated. -/
inductive ResetVal where
  | const (n : Nat)
  | index
  | table (l : List Nat)
  | cyc (l : List Nat)
  /-- A word of a connection's fuse record (R367): `Config.fuseWord`. -/
  | fuse
deriving DecidableEq, Repr

/-- One field of a register: offset of instance 0, strides with instance counts (R472), lowest bit, width, type,
reset value. -/
structure Fld where
  base : Nat
  strides : List (Nat × Nat)
  lo : Nat
  width : Nat
  ty : Access
  reset : ResetVal
deriving DecidableEq, Repr

/-- One row of the register table (R471 to R473). -/
structure RegRow where
  name : String
  base : Nat
  strides : List (Nat × Nat)
  fields : List Fld
deriving DecidableEq, Repr

/-! ### Memory -/

/-- A store protected by the (144,128) code (R186): its data bytes (an unlisted byte reads 0) and, for each granule
whose stored code word is not correct, the syndrome of that word (an unlisted granule has syndrome 0). -/
structure Store where
  cells : List Host.Cell
  synd : SMap Nat
deriving DecidableEq, Repr

/-! ### Clocks, rounds, boot (01, 17) -/

/-- The hub's clock and round state that no register field holds. -/
structure Hub where
  /-- Current round number (R30). -/
  round : Nat
  /-- The root PLL has locked since the Cirque was last reinitialised, so rounds are counted (R30). -/
  counting : Bool
  /-- REFCLK has returned and the root PLL is slewing back (R29). -/
  slewing : Bool
  /-- ROOT_UNLOCK has closed the gate until a reset that reinitialises the Cirque (R29). -/
  unlocked : Bool
  /-- Low 16 bits of the last round mark each connection's die acted on (R31). -/
  marks : SMap Nat
  /-- Phase difference between the trees stored at each receiver (R27). -/
  phase : SMap Nat
  /-- The part of it each receiver applies: its stored difference while it runs from tree B (R27). -/
  applied : SMap Nat
  /-- Trees (0 A, 1 B) whose modulator has failed (R29). -/
  modFailed : List Nat
  /-- The 48 V input is in its window (R429, R458). -/
  inputOk : Bool
  /-- MOD_RESET_N is high (R458). -/
  resetHigh : Bool
  /-- The die's clock-loss notice has been received for the connection (R29). -/
  lossNotices : List Nat
deriving DecidableEq, Repr

/-! ### Safety (15) -/

/-- One error record (R417). `pin` says the event holds FAULT_N low (R408); it is no field of the record. -/
structure LogRec where
  cls : Nat
  event : Nat
  severity : Nat
  snapTaken : Bool
  reqValid : Bool
  suppressed : Nat
  seq : Nat
  round : Nat
  opsec : Nat
  source : Nat
  sub : Nat
  ctxId : Nat
  cid : Nat
  fabric : Bool
  queue : Nat
  addr : Nat
  detail : List Nat
  faultId : Nat
  pin : Bool
deriving DecidableEq, Repr

/-- The parts the moraine pool counts (R421, R422). -/
structure Moraine where
  /-- Retired sites: TINE_FAULT bit of the cause. -/
  sites : SMap Nat
  /-- Substitute of a retired site; 0xFF: none. -/
  subst : SMap Nat
  /-- Wires failed in service, by (connection * 16 + bundle) * 2 + direction: 45-bit mask. -/
  wires : SMap Nat
  /-- Bundles at half width (1) or retired (2), by connection * 16 + bundle. -/
  bundles : SMap Nat
  /-- Laser units retired, by slot * 2 + unit (slot: bank * 17 + position). -/
  units : SMap Nat
  /-- Exhausted laser slots. -/
  slots : List Nat
  /-- Spare fibre pairs in use (16 + the engine's port that uses it) or failed (2), by engine. -/
  fibres : SMap Nat
  /-- Spare SRAM rows used, by site * 2^24 + array. -/
  rows : SMap Nat
  /-- Queue-pair slots retired. -/
  queues : Nat
deriving DecidableEq, Repr

/-- The error log and what the safety block keeps beside its registers (R406 to R419). -/
structure Safety where
  /-- Slot 0 to 1,023 to record (R416). -/
  log : SMap LogRec
  /-- SEQ of the next record. -/
  nextSeq : Nat
  /-- The FAULT_ID the next new fault takes (R406). -/
  nextFault : Nat
  /-- Records at or above MIN_SEV await this round's signal (R419). -/
  intPending : Bool
  /-- Rounds of the transient failures of each Tine, newest first (R412). -/
  transients : SMap (List Nat)
  /-- Last counts alerted, by kind of spare (R423): 0 Tines, 1 lanes, 2 lasers, 3 fibres. -/
  alerted : SMap Nat
  /-- A snapshot trigger awaiting its latch: source and SEQ of the record (R424). -/
  snapTrig : Option (Nat × Nat)
  /-- What the moraine pool counts now (R421). -/
  mor : Moraine
  /-- The latched copy of a snapshot: register word offset to value (R425). -/
  snapCopy : SMap Nat
deriving DecidableEq, Repr

/-! ### Power and temperature (16) -/

/-- One temperature channel (R436 to R441); its STATE and indices are register fields. -/
structure ThmCh where
  /-- Up to 16 samples, newest first, 1/64 degree. -/
  samples : List Int
  /-- Thermal index (R438). -/
  idx : Nat
  /-- Thermal index at the moment the channel failed (R441). -/
  failIdx : Nat
  /-- Plausible samples seen since RETEST was written; `none`: no retest runs. -/
  retest : Option Nat
  /-- The forced value (R441). -/
  forced : Int
  /-- The shutdown latch (R437). -/
  shut : Bool
  /-- The warning and throttle thresholds stand crossed rising (R436). -/
  warn : Bool
  hot : Bool
deriving DecidableEq, Repr

/-- The power manager's bookkeeping (R431, R432). Dies by connection: Tine 0-71, Firn 72-87. -/
structure Power where
  /-- REQUEST of each die for the next round, in mW; unlisted: missing. -/
  requests : SMap Nat
  /-- GRANT last sent to each die: N * 128 + G (0 for a Firn engine), and its allotment in mW. -/
  grants : SMap (Nat × Nat)
  /-- Energy each die measured in the last round, in mJ, and the allotment it returned unused, in mW. -/
  returns : SMap (Nat × Nat)
  /-- Power limit in force (LIMIT_W takes effect at a boundary). -/
  limit : Nat
  /-- Tines whose commanded pair is held by a commitment (R214). -/
  held : List Nat
  /-- Round in which each domain came on last (R278). -/
  onRound : SMap Nat
  /-- What the sequences of each domain have set (R454): domain * 4 + 0 its set point in mV, 1 isolation, 2 reset, 3 clock receiver. -/
  fields : SMap Nat
  /-- Channels whose temperature is beyond the limit of R433, as the last boundary found. -/
  dtOver : List Nat
deriving DecidableEq, Repr

/-! ### Tines (02, 03, 04) -/

/-- A number format: the fields of a format table (R44), with the built-in formats written the same way. `kind` 1 float,
2 integer, 3 codebook; `blockLog2` 255: one scale per tensor; `uses` bit 0 W, 1 A, 2 O, 3 V; `cls` the operand class. -/
structure Fmt where
  sel : Nat
  kind : Nat
  bits : Nat
  signPos : Nat
  expBits : Nat
  expLsb : Nat
  sigBits : Nat
  sigLsb : Nat
  intMode : Nat
  bias : Int
  elemOffset : Int
  blockLog2 : Nat
  scaleKind : Nat
  subnormals : Bool
  nanAtMax : Bool
  hasInf : Bool
  expSpecial : Bool
  round : Nat
  uses : Nat
  emaxElem : Int
  nanCode : Nat
  cls : Nat
deriving DecidableEq, Repr

/-- A tile register: the record's format, its bytes, where it was read from (R68, R41, R42) and, where those bytes came out of
the context's image, the byte offset of the record within it (R62). -/
structure Tile where
  fmt : Fmt
  bytes : List Nat
  addr : Nat
  org : Option Nat
deriving DecidableEq, Repr

/-- A staging buffer's content: format and up to 64 rows of 128 bytes (R68, R106). -/
structure Staged where
  fmt : Fmt
  rows : List (List Nat)
deriving DecidableEq, Repr

/-- A window accumulator (R48 to R50): X_int, contribution count, flags (bit 0 INEXACT_LOW, 1 RANGE, 2 INVALID). -/
structure Acc where
  x : Int
  count : Nat
  flags : Nat
deriving DecidableEq, Repr

/-- A matrix engine (R68). -/
structure Engine where
  active : Option Tile
  shadow : Option Tile
  buf0 : Option Staged
  buf1 : Option Staged
  /-- The buffer the last ASTAGE wrote. -/
  lastBuf : Nat
  /-- L of R48. -/
  wlsb : Int
  /-- Accumulator of set r, column j, at key 64 r + j. -/
  acc : SMap Acc
deriving DecidableEq, Repr

/-- A curve table register (R73). -/
structure Curve where
  xlo : Nat
  k : Int
  ea : Int
  eb : Int
  ec : Int
  /-- 256 segments of three 24-bit coefficients. -/
  coef : List (Int × Int × Int)
deriving DecidableEq, Repr

/-- A stream granule on its way (R111, R113): context, source (slice, or 0x10000 + 256 * partner + slice), destination
slice, channel, request, stage and attempt of the sender, data, syndrome. -/
structure Flit where
  ctx : Nat
  src : Nat
  dst : Nat
  chan : Nat
  req : Nat
  stage : Nat
  attempt : Nat
  data : Nat
  synd : Nat
deriving DecidableEq, Repr

/-- What an operation takes with it when it issues (R98, R106, R113, R116): its word index, C1 to C15, AB0 to AB7, its
number among the stage's ASTAGEs, CHECKED, the round, what the world does to it, and the data it could read before their
producer has completed (R77): Tine-local ranges and curve table registers. -/
structure Captured where
  pc : Nat
  c : SMap Nat
  ab : SMap Nat
  astage : Nat
  checked : Bool
  round : Nat
  env : OpEnv
  hazards : List (Nat × Nat)
  tabs : List Nat
deriving DecidableEq, Repr

/-- An issued operation that has not completed (R76, R77, R100, R101): in its unit's queue until it starts. -/
structure Pending where
  opcode : Nat
  sig : Nat
  word : Nat
  started : Bool
  cap : Captured
  /-- Tine-local ranges (start, bytes) whose contents are not yet complete. -/
  writes : List (Nat × Nat)
  /-- Device ranges (start, bytes) a DMAWR is still writing. -/
  devWrites : List (Nat × Nat)
  /-- Curve table registers a CLOAD is still loading. -/
  tabs : List Nat
  /-- Staging buffers a STREAM reads: 2 * engine + buffer. -/
  streams : List Nat
  /-- A RECV's peer, channel, next address and granules still to come, and the round it issued and its WAITLIM. -/
  recv : Option (Nat × Nat × Nat × Nat × Nat × Nat)
deriving DecidableEq, Repr

/-- What the sequencer waits for (R101, R115, R116, R117). -/
inductive SeqWait where
  | run
  | barrier (mask : Nat)
  | sync
  | cschk
  | relmark
  | eos (outcome target : Nat)
deriving DecidableEq, Repr

/-- A stage dispatch as a Tine receives it (R219, R97): context, stage-list index, request, attempt, slice, entry point,
words of the program, seed, flat index, input length. -/
structure Dispatch where
  ctx : Nat
  stage : Nat
  req : Nat
  attempt : Nat
  slice : Nat
  entry : Nat
  words : Nat
  seed : Nat
  flat : Nat
  inLen : Nat
deriving DecidableEq, Repr

/-- The stage sequencer (R76, R97, R101, R115, R116). -/
structure Seqr where
  nextPc : Nat
  wait : SeqWait
  /-- C1 to C15. -/
  c : SMap Nat
  /-- AB0 to AB7. -/
  ab : SMap Nat
  /-- Pending counts of tokens 1 to 15. -/
  tokens : SMap Nat
  checked : Bool
  wsFirst : Nat
  wsCount : Nat
  /-- What the Cirque dispatched. -/
  disp : Dispatch
  /-- Issued operations not yet completed, oldest first. -/
  pend : List Pending
  /-- ASTAGE operations issued in this stage (R106). -/
  astages : Nat
  /-- Flags raised by drains and encodes of the stage (R52). -/
  flags : Nat
  /-- An SBEGIN has opened the stage. -/
  opened : Bool
deriving DecidableEq, Repr

/-- A fault that ends a stage, as a Tine reports it (R93, R94, R118): `code` 0x01 to 0x11 a program fault, 0x100
BANK_UNCORR, 0x101 PSTORE_UNCORR, 0x102 WSTORE_UNCORR, 0x200 CHECKSUM_FAIL, 0x201 RESIDUE_FAIL, 0x300 bundle retired,
0x301 stream packets flushed, 0x302 clock or temperature lost; `sub` and `detail` as R420 gives them for the record. -/
structure StageFault where
  code : Nat
  pc : Nat
  stageId : Nat
  sub : Nat
  addr : Nat
  detail : List Nat
  /-- Image offset of the tile record a CHECKSUM_FAIL blames (R62). -/
  org : Option Nat
deriving DecidableEq, Repr

/-- What a Tine has reported and the Cirque has not yet taken. -/
inductive StageReport where
  | ended (outcome target flags : Nat)
  | fault (f : StageFault)
deriving DecidableEq, Repr

/-- What the Cirque knows a weight bank to carry: what the header that closed its last fill says (R166, R174). A fill that
ends READY sets it; the header itself is SRAM, and a switch reads it (R89). -/
structure Bank where
  ctx : Nat
  slice : Nat
  tag : Nat
  gen : Nat
deriving DecidableEq, Repr

/-- A Tine site (R66 to R95). -/
structure Tine where
  engines : SMap Engine
  curves : SMap Curve
  seq : Seqr
  bankA : Bank
  bankB : Bank
  /-- Bank a held switch command names (R88): 0 none, 1 A, 2 B. -/
  heldSwitch : Nat
  /-- Bank the running switch goes to. -/
  switchTo : Nat
  /-- Corrected errors of an SRAM row without an intervening write; 16 or more: marked for remapping (R85). -/
  rowErrs : SMap Nat
  /-- Tine-local ranges (start, bytes) whose contents nothing preserves: a read of them is a free value (R84, R86). -/
  lost : List (Nat × Nat)
  /-- Working-store ranges that hold bytes of the context's image: start, bytes, image offset (R62). -/
  origin : List (Nat × Nat × Nat)
  /-- Stream granules waiting in the inbound buffer, oldest first (R113). -/
  inbound : List Flit
  /-- The site passed its last entry test. -/
  tested : Bool
  /-- Cause of retirement: TINE_FAULT bit (R94). -/
  cause : Nat
  /-- What the Tine has reported. -/
  report : Option StageReport
  /-- The dispatch of the stage that last ran or runs. -/
  last : Dispatch
  /-- A dispatch that waits for the bank to switch (R88). -/
  waiting : Option Dispatch
  /-- FAULT_ID of the fault that retires the site. -/
  faultId : Nat
  /-- CYCLES and PASSES, 64 bits (R95), and the root cycles from the round's first one to the Tine's first clock edge (R25). -/
  cycles : Nat
  passes : Nat
  frac : Nat
deriving DecidableEq, Repr

/-! ### Calibration, flash, security, check-value units (16, 17) -/

/-- A calibration set (R446, R451): SEQ and the value of each quantity by key. -/
structure CalSet where
  seq : Nat
  vals : SMap Nat
deriving DecidableEq, Repr

/-- Calibration and the operating-seconds counter (R446 to R453). -/
structure Calib where
  /-- The operating-seconds counter, 48 bits (R453). -/
  opsec : Nat
  cur : Option CalSet
  prev : Option CalSet
  /-- The set being stored, or held because its store was deferred. -/
  storing : Option CalSet
  /-- The store rewrites the current set because the counter log is full: CAL_COUNT stays (R453). -/
  rewrite : Bool
  /-- The highest SEQ seen in either header. -/
  maxSeq : Nat
  /-- Counter records in the current bank's log, newest first: OPSEC and CAL_COUNT. -/
  log : List (Nat × Nat)
  /-- Filtered temperature of every diode channel at the last round boundary, and the set applied from then on (R445, R451). -/
  temps : SMap Int
  used : Option CalSet
  /-- Tap-offset band of each connection, and the offset each bundle direction applies now (R444). -/
  bands : SMap Nat
  taps : List Int
  /-- Deskew that a new set gives a port's slot, in fine steps, until the slot has reached it (R446). -/
  deskew : SMap Nat
deriving DecidableEq, Repr

/-- A firmware slot of the boot flash (R460): whether its hash and signature pass, and its header fields. -/
structure FwSlot where
  good : Bool
  version : Nat
  secVersion : Nat
  commit : Bool
  hash : List Nat
deriving DecidableEq, Repr

/-- An owner block (R463) as stored. -/
structure OwnerBlk where
  seq : Nat
  adminKey : List Nat
  structKeyId : List Nat
  imageKeyId : List Nat
  requireSigned : Bool
  sealSecret : Option (List Nat)
  /-- The block's 512 bytes. -/
  block : List Nat
deriving DecidableEq, Repr

/-- The boot flash (R456). -/
structure Flash where
  fw : SMap FwSlot
  /-- Structure slots 0 and 1: the bytes written; a torn write leaves no valid bitstream. -/
  slots : SMap (List Nat)
  owner : Option OwnerBlk
  /-- Power-fail records, newest first: OPSEC, CAL_COUNT and the error records kept (R457). -/
  powerFail : List (Nat × Nat × List LogRec)
  /-- The newest power-fail record has been copied into the log of this start. -/
  copied : Bool
  /-- The moraine record as last stored (R422). -/
  mor : Moraine
  /-- Raises of the fused minimum made so far, and a raise due at the next start (R460). -/
  fwRaises : Nat
  fwRaise : Option Nat
  /-- A power-fail commit is under way (R457). -/
  committing : Bool
deriving DecidableEq, Repr

/-- Security state no register field holds (R462 to R468). -/
structure Secur where
  /-- Nonce bases drawn (R465). -/
  nonces : Nat
  /-- SPDM negotiation of each transport: 0 none, 1 version, 2 capabilities, 3 algorithms (R467). -/
  spdm : SMap Nat
  /-- Nonce base and write count by context (R465). -/
  ctxNonce : SMap (Nat × Nat)
  /-- IMAGE_HASH of the running firmware. -/
  fwHash : List Nat
deriving DecidableEq, Repr

/-- A run of a CRC engine (R470): its parameters and the bytes of its range (device memory only) when GO was written. -/
structure CrcRun where
  host : Bool
  refin : Bool
  refout : Bool
  width : Nat
  poly : Nat
  init : Nat
  xorout : Nat
  src : Nat
  len : Nat
  peek : List Nat
deriving DecidableEq, Repr

/-! ### What the block sends -/

/-- One thing the block has sent or driven. -/
inductive Output where
  /-- An MSI-X message for a vector (R268). -/
  | msix (vector : Nat)
  /-- Data returned for a read. -/
  | readData (value : Nat)
  /-- A read completion with the PCIe poisoned bit set (R208). -/
  | readPoison (data : Nat)
  /-- An access answered as an unsupported request (R244). -/
  | unsupported
  /-- A configuration request answered with Configuration Request Retry Status (R459). -/
  | configRetry
  /-- A pin driven: 0 FAULT_N, 1 SNAP_OUT (R408, R424). -/
  | pin (which : Nat) (level : Bool)
  /-- The round mark sent to a connection's die: connection, low 16 bits of the round (R31). -/
  | roundMark (conn mark : Nat)
  /-- A snapshot trigger sent to every die (R424). -/
  | snapTrigger
  /-- GRANT to a die: connection, N, G, allotment in mW (R431). -/
  | grant (conn n g mw : Nat)
  /-- A Tine's report to the Cirque: site, kind, value (R93, R115). -/
  | tineReport (site kind value : Nat)
  /-- A completion entry written to a queue's ring (R260, R261): queue, index, its 16 bytes as a number. -/
  | completion (queue index entry : Nat)
  /-- Bytes written to host memory (R252, R258, R265). -/
  | hostWrite (addr : Nat) (bytes : List Nat)
  /-- A stage dispatched to a site: site, context, stage, request, attempt. -/
  | dispatched (site ctx stage req attempt : Nat)
  /-- A switch command to a site, naming a bank. -/
  | switchCmd (site bank : Nat)
  /-- A flit sent (R302, R303): port, header granule's data bits, granules 1 to 15 as data and check field, and where its bits go: the
  transmit map and the number of flits sent since the map's last change, from which `lane` gives each bit's slot and unit interval
  (R274). -/
  | flit (port hdr : Nat) (grans : List (Nat × Nat)) (map pos : Nat)
  /-- An INIT or CTL flit sent (R317): port, header as above but for its CRC, MSG, fields in the order of R317. -/
  | linkMsg (port hdr msg : Nat) (fields : List Nat)
  /-- Granules sent on a bundle (R350): connection, bundle, number, START, channel, data, syndrome. -/
  | qlkFrame (conn bundle ack : Nat) (retry : Bool) (chan count : Nat)
  | qlkGranule (conn bundle seq : Nat) (start : Bool) (chan data synd : Nat)
  /-- A TRAIN message sent on a bundle (R361): connection, bundle, MSG, fields. -/
  | qlkTrain (conn bundle msg : Nat) (fields : List Nat)
  /-- The clock-fallback request or probe of an optical port (R282, R295): port, kind 0 probe, 1 fallback request. -/
  | optical (port kind : Nat)
  /-- A result of an owner or firmware opcode beside its completion: SPDM answer bytes (R467). -/
  | spdm (transport : Nat) (body : List Nat)
deriving DecidableEq, Repr

/-! ### Contexts (06) -/

/-- A peer entry (R161). -/
structure Peer where
  kind : Nat
  slice : Nat
  remote : Nat
deriving DecidableEq, Repr

/-- A slice of an image, read from the slice directory at LOAD_IMAGE (R161); offsets in bytes from the image's start. -/
structure Slice where
  progOff : Nat
  progWords : Nat
  fmtOff : Nat
  fmtCount : Nat
  curves : List Nat
  weightOff : Nat
  weightLen : Nat
  peers : List Peer
  spillOff : Nat
  spillLen : Nat
  entries : List Nat
  /-- Movement classes the program uses: bit 0 STREAM_IN, 1 DMA_IN, 2 STREAM_OUT, 3 DMA_OUT (R173). -/
  uses : Nat
deriving DecidableEq, Repr

/-- A stage record (R163). -/
structure StageRec where
  stage : Nat
  slice : Nat
  t : Nat
  f : Nat
deriving DecidableEq, Repr

/-- A dependency record (R163). -/
structure DepRec where
  fromStage : Nat
  fromSlice : Nat
  toStage : Nat
  toSlice : Nat
  lagF : Nat
deriving DecidableEq, Repr

/-- What the Cirque keeps of a checked image (R159 to R163). -/
structure Image where
  tag : Nat
  stageCount : Nat
  remoteCount : Nat
  maxIn : Nat
  maxOut : Nat
  kvMin : Nat
  poolOff : Nat
  slices : List Slice
  limits : List Nat
  stages : List StageRec
  deps : List DepRec
deriving DecidableEq, Repr

/-- A descriptor of the context table (R165), with the checked image beside it. -/
structure Ctx where
  /-- 0 ABSENT, 1 LOADING, 2 RESIDENT_COLD, 3 RESIDENT_HOT, 4 RUNNING, 5 EVICTING. -/
  state : Nat
  placed : Bool
  pin : Nat
  sealedCtx : Bool
  pairing : Nat
  imageAddr : Nat
  /-- The copy in the other tier; the descriptor shows 0 where there is none. -/
  imageAddr2 : Option Nat
  imageGranules : Nat
  kvAddr : Nat
  kvGranules : Nat
  tier : Nat
  spill : Bool
  latClass : Nat
  tset : Nat
  firstRank : Nat
  latch : Nat
  bankMask : Nat
  owner : Nat
  remote : List (Nat × Nat)
  ckptAddr : Nat
  ckptGranules : Nat
  loadGen : Nat
  lastUse : Nat
  inFlight : Nat
  img : Option Image
  /-- The context lost its placement to a shrunk set and is to be placed again (R173, R182). -/
  replace : Bool
deriving DecidableEq, Repr

/-- A LOAD_IMAGE in progress (R169): who asked, and the checked parameter block. -/
structure Load where
  queue : Nat
  cid : Nat
  fillNow : Bool
  allowSpill : Bool
  srcAddr : Nat
  srcDevice : Bool
  srcLen : Nat
  kvReq : Nat
  /-- The load reloads a latched context in place: its bindings stay (R170). -/
  reload : Bool
deriving DecidableEq, Repr

/-- A bank fill that waits or runs (R174 to R176): site, bank (1 A, 2 B), context, slice; `pos` granules sent so far,
`src` 0 GDDR7, 1 or 2 the CXL port plus 1; `addr` the copy read; `rate` in units of 0.1 GB/s; `retry` set on the one refill
that follows an in-transit or SRAM fault (R171). -/
structure Fill where
  site : Nat
  bank : Nat
  ctx : Nat
  slice : Nat
  started : Bool
  pos : Nat
  src : Nat
  addr : Nat
  rate : Nat
  migration : Bool
  retry : Bool
  /-- A granule of one copy was uncorrectable, and this refill reads the other (R171). -/
  bad : Bool
deriving DecidableEq, Repr

/-- An opcode that waits for its work to end (R178, R179): 0 EVICT, 1 PIN 2. -/
structure Waiter where
  kind : Nat
  queue : Nat
  cid : Nat
  ctx : Nat
  level : Nat
deriving DecidableEq, Repr

/-- A migration off a retiring site (R180, R181). -/
structure Migration where
  site : Nat
  target : Nat
  started : Bool
deriving DecidableEq, Repr

/-- The context table and what works on it. -/
structure CtxTable where
  table : SMap Ctx
  loads : SMap Load
  fills : List Fill
  waiters : List Waiter
  migs : List Migration
  /-- Fabric bind set (R249, R267). -/
  fabricBinds : List Nat
  /-- The tile TILE_CHECKSUM_RECHECK is to check (R62): request, fault site, slice, image offset of the tile's record (none: FTILE
  built it, or no tile is to blame). -/
  recheck : Option (Nat × Nat × Nat × Option Nat)
  /-- KV/state writes of hot contexts in the running round, newest first: context, granule offset, data (R112). -/
  kvWrites : List (Nat × Nat × Nat)
  /-- How many of them, oldest first, have left on the pairing link (R230). -/
  kvSent : Nat
deriving DecidableEq, Repr

/-! ### Host queues and requests (08, 09) -/

/-- A completion's content before its ring fields (R260). -/
structure Compl where
  status : Nat
  detail : Nat
  value : Nat
  value2 : Nat
deriving DecidableEq, Repr

/-- A release point (R117): the round it belongs to, the end offset and OUTPUT granules it covers, whether it is final. -/
structure RelPoint where
  round : Nat
  fin : Bool
  grans : SMap Nat
  endOff : Nat
deriving DecidableEq, Repr

/-- A request taken from a host queue or a fabric ingress queue (R209 to R240, R252). -/
structure Req where
  /-- 0 host, 1 fabric. -/
  origin : Nat
  queue : Nat
  cid : Nat
  /-- Contexts of the chain still to end, the running one first (R254). -/
  chain : List Nat
  /-- Every context of the chain. -/
  ctxs : List Nat
  /-- The request is accepted and counted in its contexts' IN_FLIGHT (R165). -/
  counted : Bool
  /-- Reference a fabric request carries, returned in its reply (R269, R330). -/
  tag : Nat
  /-- VC a fabric request came on; its reply takes the same (R330). -/
  vc : Nat
  /-- FLAGS byte of the entry (R252). -/
  flags : Nat
  budgetUs : Nat
  seed : Nat
  flat : Nat
  outCap : Nat
  /-- Output buffer: segments of address and length (R253). -/
  outSegs : List (Nat × Nat)
  input : List Nat
  inLen : Nat
  /-- Staging space reserved, in bytes (R255). -/
  staged : Nat
  /-- Acceptance: round and fabric cycle within it (R209). -/
  accRound : Nat
  accCycle : Nat
  /-- 0 awaits decision, 1 accepted, 2 every stage has ended, 3 to be completed with `result`, 4 completed and waiting for
  its completion to be posted by a CANCEL's own. -/
  phase : Nat
  result : Option Compl
  /-- A CANCEL was taken in the round given. -/
  cancelRound : Option Nat
  stage : Nat
  attempt : Nat
  running : Bool
  /-- Slices that have reported the running stage's end: slice, outcome, target. -/
  ends : List (Nat × Nat × Nat)
  /-- How often each stage was entered by outcome 2 (R162). -/
  iters : SMap Nat
  /-- INEXACT_LOW, RANGE, INVALID (R52). -/
  rflags : Nat
  /-- OUTPUT granules the running stage has written since the last release point, by granule offset. -/
  held : SMap Nat
  /-- OUTPUT granules of the stages that ended, written since the last release point. -/
  kept : SMap Nat
  /-- Granules already covered, for a chain's intermediate output (R254). -/
  outAll : SMap Nat
  maxEnd : Nat
  points : List RelPoint
  released : Nat
  /-- A final release point exists. -/
  final : Bool
  /-- Last fault of the running stage and the site it struck: for R411. -/
  lastFault : Option (Nat × Nat)
  /-- The FAULT_ID of that fault (R406). -/
  faultId : Nat
  /-- FAULT_IDs charged, and whether some fault is not covered by its class (R240, R413). -/
  charged : List Nat
  uncovered : Bool
  /-- Protection class: 0 PAIR, 1 LOCAL, 2 NONE (R225). -/
  cls : Nat
  /-- Quote claimed of each partner: package, number, the context there (R238). -/
  quotes : List (Nat × Nat × Nat)
  /-- Latency class and origin package of a fabric request, and the round of its release bound. -/
  peerPkg : Nat
  bound : Nat
  /-- The request waits for a resource before its stage may be dispatched again: 0 none, 1 refill, 2 migration, 3 route,
  4 recheck of a tile. -/
  hold : Nat
deriving DecidableEq, Repr

/-- An SQ entry fetched and not yet taken (R255, R256): its 64 bytes, the request it makes (for a request opcode), the
segments of its input buffer, the bytes of a load parameter block, and whether it may be taken: its input copy is
complete, or it has none. -/
structure Fetched where
  entry : List Nat
  req : Req
  inSegs : List (Nat × Nat)
  extra : List Nat
  ready : Bool
  /-- The entry was taken before, by the pair's former active member (R395, R397). -/
  taken : Bool
deriving DecidableEq, Repr

/-- What the Cirque keeps of a queue beside its QUE_ registers (R246 to R268). -/
structure Queue where
  sqTail : Nat
  cqHead : Nat
  /-- CQ entries written and not consumed. -/
  posted : Nat
  /-- PHASE of the next entry is 1 (R261). -/
  phase : Bool
  binds : List Nat
  fetched : List Fetched
  /-- Completions posted and not signalled, and the round of the first (R268). -/
  pendCount : Nat
  pendRound : Nat
  /-- CID of the DELETE_QUEUE that drains it; `none` for queue 0 being disabled or a queue in service. -/
  deleting : Option Nat
  /-- ENABLE of queue 0 was written (R247). -/
  enabling : Bool
deriving DecidableEq, Repr

/-- A CANCEL taken: queue, CID of the CANCEL, request targeted, and whether it took effect on it (R257). -/
structure Cancel where
  queue : Nat
  cid : Nat
  target : Option Nat
  hit : Bool
deriving DecidableEq, Repr

/-- A KIND 1 QUERY that awaits the next round boundary (R258). -/
structure Query1 where
  queue : Nat
  cid : Nat
  ctx : Nat
  noFailover : Bool
deriving DecidableEq, Repr

/-- The PCIe endpoint's configuration (R241 to R243): what its configuration space holds beside the fixed identity. -/
structure Pcie where
  /-- MSI-X Enable and Function Mask. -/
  msixEnable : Bool
  msixMask : Bool
  /-- D3hot; D0 otherwise. -/
  d3hot : Bool
  /-- Base addresses of BAR0, BAR2 and BAR4. -/
  bars : List Nat
  /-- Max_Payload_Size and Max_Read_Request_Size in bytes. -/
  maxPayload : Nat
  maxRead : Nat
  /-- Relaxed ordering and 10-bit tags enabled. -/
  relaxed : Bool
  tags10 : Bool
  /-- AER status: uncorrectable and correctable errors. -/
  aerUncorr : Nat
  aerCorr : Nat
  /-- Lanes and rate in GT/s of the trained link. -/
  linkWidth : Nat
  linkRate : Nat
deriving DecidableEq, Repr

/-- The configuration after a reset of the PCIe personality. -/
def Pcie.reset : Pcie :=
  { msixEnable := false, msixMask := false, d3hot := false, bars := [0, 0, 0], maxPayload := 128, maxRead := 512, relaxed := true,
    tags10 := false, aerUncorr := 0, aerCorr := 0, linkWidth := 4, linkRate := 128 }

/-- The host side. -/
structure HostIf where
  pcie : Pcie
  queues : SMap Queue
  reqs : SMap Req
  nextReq : Nat
  cancels : List Cancel
  queries : List Query1
  /-- Fabric requests that wait to be taken (R256, R269). -/
  ingress : List Fetched
  /-- The queue the weighted round robin served last, and the turns it has left (R256). -/
  lastQueue : Nat
  turnsLeft : Nat
  /-- Requests taken this round from host queues and from fabric ingress (R210, R256). -/
  takenHost : Nat
  takenFabric : Nat
deriving DecidableEq, Repr

/-! ### Admission (08) -/

/-- A reserved block (R219): request, sites, first slot (64 a round, from round 0), length. -/
structure Block where
  req : Nat
  sites : List Nat
  start : Nat
  len : Nat
  /-- Copy load of the block in bytes, spread over its slots (R223). -/
  copy : Nat
  /-- Port-class bookings, one for each route: port, VC, bytes per slot (R224). -/
  ports : List (Nat × Nat × Nat)
  /-- The first round boundary at or after the release bound without the fault reserve: the banks count as free then (R222). -/
  bound : Nat
  /-- Counting pairs under which the request was decided: site, N, G (R214). -/
  pairs : List (Nat × Nat × Nat)
deriving DecidableEq, Repr

/-- A booked fill (R221): site, bank, context, source, rate in 0.1 GB/s, first round, rounds. -/
structure FillBook where
  site : Nat
  bank : Nat
  ctx : Nat
  src : Nat
  rate : Nat
  start : Nat
  len : Nat
deriving DecidableEq, Repr

/-- A quote held from or for a partner (R238): package, context, number, durations, round of the window, round and fabric cycle
of its sending or receipt, and, of an own window, the placement it counts: Tine set, first rank, bank mask. -/
structure Quote where
  pkg : Nat
  ctx : Nat
  number : Nat
  durations : List Nat
  window : Nat
  sent : Nat
  cycle : Nat
  place : Nat × Nat × Nat
  claimed : Bool
deriving DecidableEq, Repr

/-- Admission's bookkeeping. -/
structure Adm where
  blocks : List Block
  fillBooks : List FillBook
  /-- Quotes received from partners (home side). -/
  quotesIn : List Quote
  /-- Windows held for homes (partner side). -/
  windows : List Quote
  nextQuote : Nat
  /-- Requests decided as accepted (ADM_ACCEPTED), 64 bits. -/
  accepted : Nat
deriving DecidableEq, Repr

/-! ### The structure (05) -/

/-- A Tine set as resolved (R128 to R130): the site at each rank. -/
structure Tset where
  id : Nat
  profile : Nat
  members : List Nat
deriving DecidableEq, Repr

/-- The structure bitstream: bytes in force (none: the default structure, R151), bytes staged, sets resolved. -/
structure Struct where
  force : List Nat
  staged : List Nat
  sets : List Tset
  /-- Sets resolved for the bitstream being applied. -/
  newSets : List Tset
  /-- Round in which quiescing started. -/
  quiesceRound : Nat
  /-- Admission resumes at the next round boundary (R154). -/
  resume : Bool
  /-- LEN as it was when VERIFY was written (R153). -/
  stagedLen : Nat
  /-- How each sequence engine's last instance ended: DONE or not, and its outcome or failure reason (R145, R146). -/
  ends : SMap (Bool × Nat)
deriving DecidableEq, Repr

/-- A step of a sequence table (R145). -/
structure SeqStep where
  op : Nat
  cond : Nat
  scr : Nat
  field : Nat
  value : Nat
  next : Nat
  alt : Nat
  time : Nat
deriving DecidableEq, Repr

/-- A sequence table (R144). -/
structure SeqTable where
  kind : Nat
  entry : Nat
  stepLimit : Nat
  timeLimit : Nat
  steps : List SeqStep
deriving DecidableEq, Repr

/-- A sequence instance (R145, R146): its table, step index, scratch registers, steps executed, management cycles run, and
what it was started for (a domain, or a port or slot with its bit mask of slots). -/
structure SeqInst where
  table : SeqTable
  /-- The kind asked for: WAVE_RETRAIN may run under the FIRN_RETRAIN table (R144). -/
  job : Nat
  pc : Nat
  scr : SMap Nat
  steps : Nat
  time : Nat
  target : Nat
  slots : Nat
  /-- Fields the instance selected or wrote that no register holds, by field number. -/
  fields : SMap Nat
deriving DecidableEq, Repr

/-! ### Optics (10) -/

/-- What an optical port keeps beside its FIRN_ registers (R278 to R296). -/
structure OptPort where
  /-- Output switch: 0 DUMP, 1 FIBRE, 2 LOOP (R278). -/
  switch : Nat
  /-- TX_PATTERN field (R298). -/
  pattern : Nat
  /-- Training instances failed in a row (R284). -/
  fails : Nat
  /-- FIRN_TRAIN instances in a row that failed with FIBRE_DARK on one fibre only, at both ends (R296). -/
  darkFails : Nat
  /-- The far end has been found present on both fibres (R284, R295). -/
  probeSeen : Bool
  /-- The receiver's clock PLL is locked (R282, R284). -/
  clkLock : Bool
  /-- The one-way latency has been measured since training began (R284, R285). -/
  timed : Bool
  /-- A training instance has ended with DONE and the port waits to come up. -/
  trained : Bool
  /-- Maps proposed by sequence steps (TX_MAP, RX_MAP). -/
  txProp : Nat
  rxProp : Nat
  /-- MSG_OUT and MSG_IN (R298). -/
  msgOut : Nat
  msgIn : Nat
  farLoop : Bool
  /-- Tracking loops on, by slot. -/
  track : Nat
  /-- Loopback mode the port is in (R286), and a far-end loopback asked of the far end. -/
  loop : Nat
  loopAsked : Bool
  /-- The slot on which the own transmitter sends the fallback pattern; 16: none (R283). -/
  txClk : Nat
  /-- Slots a bank swap has taken out of the transmit map (R289, R292). -/
  swapOut : Nat
  /-- Width admission counts, 0: down; and whether it counts the fallback's 120 ns (R139, R224, R283). -/
  countW : Nat
  countFb : Bool
deriving DecidableEq, Repr

/-- A planned swap in progress (R289): slot, phase (1 warming, 2 waiting for r1, 3 removing, 4 lasers exchanged, 5 returning), r0 or the
round it was deferred to. -/
structure Swap where
  slot : Nat
  phase : Nat
  round : Nat
deriving DecidableEq, Repr

/-- A laser bank beside its LAS_ registers (R287 to R292). -/
structure LaserBank where
  swap : Option Swap
  /-- Slots whose planned swap is asked for. -/
  asked : List Nat
  /-- Slots of unplanned swaps whose spare warms (R290). -/
  unplanned : List Nat
  /-- Ports whose agreement is outstanding (PORTS_PENDING). -/
  pendPorts : List Nat
  /-- Set power of each unit, slot * 2 + unit, in 10 µW (LAS_POWER_SET). -/
  power : SMap Nat
deriving DecidableEq, Repr

/-- An instance that waits for its engine: kind, target, slots (R428, R284). -/
structure SeqJob where
  kind : Nat
  target : Nat
  slots : Nat
deriving DecidableEq, Repr

/-! ### Fabric links and routing (11, 12) -/

/-- A packet (R329): its header fields and its data granules with their syndromes; `req` is the request of this module
it serves (the model's own bookkeeping for R324), if any. -/
structure Pkt where
  dst : Nat
  src : Nat
  last : Bool
  detoured : Bool
  tc : Nat
  hops : Nat
  epoch : Nat
  rem : Nat
  ctx : Nat
  len : Nat
  op : Nat
  srcPair : Nat
  tag : Nat
  srcPeer : Nat
  offset : Nat
  data : List (Nat × Nat)
  req : Option Nat
deriving DecidableEq, Repr

/-- A sequenced flit in the replay buffer (R303, R307): a DATA flit's VC, START_MASK and granules, or a CTL message. -/
structure TxFlit where
  seq : Nat
  vc : Nat
  start : Nat
  grans : List (Nat × Nat)
  /-- A CTL message: MSG and its fields. -/
  ctl : Option (Nat × List Nat)
  /-- The request whose packet it carries, if any. -/
  req : Option Nat
deriving DecidableEq, Repr

/-- A lane map change agreed and awaited (R320): switch slot X, map, clock source, whether this end asked for it. -/
structure MapChange where
  x : Nat
  map : Nat
  clk : Nat
  own : Bool
deriving DecidableEq, Repr

/-- A fabric port's link beside its FAB_ registers (R302 to R324); maps by VC. -/
structure Link where
  replay : List TxFlit
  /-- CTL messages that wait for the window to open (R307): MSG and fields. -/
  ctls : List (Nat × List Nat)
  /-- Packets waiting, oldest first. -/
  queue : SMap (List Pkt)
  /-- Granules of the packet being sent, still to send, and its request. -/
  cur : SMap (List (Nat × Nat))
  curReq : SMap Nat
  /-- Flits sent of each VC, for the shares (R138). -/
  served : SMap Nat
  /-- Flits of each VC not yet covered by its SHARE (R138). -/
  spent : SMap Nat
  /-- VCs whose old allotment stays in force until replay has delivered them (R316). -/
  oldAdv : List Nat
  usedH : SMap Nat
  usedD : SMap Nat
  retH : SMap Nat
  retD : SMap Nat
  /-- Complete packets in the receive buffer. -/
  rx : SMap (List Pkt)
  /-- Granules of the packet being received. -/
  rxPart : SMap (List (Nat × Nat))
  /-- Header and data credits that the packets in the receive buffer, and the one being received, return when they leave (R313): those
  they consumed since the credits were last counted afresh (R315). -/
  owed : SMap (List (Nat × Nat))
  partOwed : SMap (Nat × Nat)
  rxH : SMap Nat
  rxD : SMap Nat
  rtnH : SMap Nat
  rtnD : SMap Nat
  /-- VCs whose returns have changed since reported, and the VC reported last (R313). -/
  changed : List Nat
  lastVc : Nat
  /-- Timeouts in a row with no advance (R310). -/
  timeouts : Nat
  /-- Where the last replay started (R308). -/
  lastReplay : Option Nat
  /-- The running initialisation is a resumed one; INIT_SEEN sent; far INIT received (R315). -/
  resumed : Bool
  seenSent : Bool
  farSeen : Bool
  /-- NEXT_EXPECTED of the far end. -/
  farNext : Nat
  /-- Map changes awaited on the transmit and the receive fibre; requests failed in a row. -/
  pendTx : Option MapChange
  pendRx : Option MapChange
  /-- Changes of the own transmit and receive map that wait for a change the far end leads: slots to take out, slots to put in, clock
  source (R318). -/
  wantTx : Option (Nat × Nat × Nat)
  wantRx : Option (Nat × Nat × Nat)
  mapFails : Nat
  /-- Flits sent and received since link initialisation or the fibre's last map change (R274, R275). -/
  txPos : Nat
  rxPos : Nat
  /-- Slots under background retrain, each with the attempts made (R322). -/
  retries : SMap Nat
  /-- Audits in a row that reported the VC's occupancy as zero while it waited for credits. -/
  starved : SMap Nat
  /-- Credits granted less than available until reinitialisation: a leak was found (R314). -/
  leaked : Bool
  /-- The port went to GRACE for its width, or after its replays had failed, and not for its physical port. -/
  narrow : Bool
  exhausted : Bool
  /-- The FAULT_ID of what keeps the link from being UP, or delays it (R406). -/
  fault : Option Nat
deriving DecidableEq, Repr

/-- A partial message (R331): source endpoint, tag, VC, total length once LAST is seen, pieces by offset: length, data
granules. -/
structure Partial where
  src : Nat
  tag : Nat
  vc : Nat
  hdr : Pkt
  total : Option Nat
  pieces : SMap (Nat × List (Nat × Nat))
deriving DecidableEq, Repr

/-- The fabric router (R326 to R345). -/
structure Router where
  /-- Notices received: member, group notice, target (R338). -/
  notices : List (Nat × Bool × Nat)
  /-- Down notices this package originated and that stand: group notice, target. -/
  sent : List (Bool × Nat)
  /-- Messages in the course of routing: source, tag, VC, port, whether detoured (R331, R340). -/
  routes : List (Nat × Nat × Nat × Nat × Bool)
  parts : List Partial
  /-- Newest EPOCH by SRC_PAIR (R344). -/
  epochs : SMap Nat
  /-- Pair members heard from: the peer and the epoch their newest packet names (R396). -/
  peers : SMap (Nat × Nat)
  /-- FABRIC_LEAVE in progress: queue and CID. -/
  leaving : Option (Nat × Nat)
  /-- The next message tag. -/
  nextTag : Nat
deriving DecidableEq, Repr


/-! ### Quinhorn (13) -/

/-- A granule slot of a window as a LINK frame describes it, or as it is sent: START, CHANNEL. -/
structure QSlot where
  start : Bool
  chan : Nat
deriving DecidableEq, Repr

/-- A granule sent and held for replay (R352): number, slot, data, syndrome. -/
structure QTx where
  seq : Nat
  slot : QSlot
  data : Nat
  synd : Nat
deriving DecidableEq, Repr

/-- A bundle's two directions at the Cirque, beside its QLK_ registers (R350 to R375). -/
structure QBundle where
  /-- Number of the next granule the receiver may accept; the retry condition. -/
  expected : Nat
  retry : Bool
  /-- What the last LINK frame says of the window running now: SEQ_FIRST and its non-idle slots; `none`: it failed. -/
  desc : Option (Nat × List QSlot)
  /-- Code words received in this window and in the one before: number if known, slot, data, check field. -/
  cur : List (Option Nat × QSlot × Nat × Nat)
  prev : List (Option Nat × QSlot × Nat × Nat)
  /-- Granules of the message being received, by channel. -/
  part : SMap (List (Nat × Nat))
  nextSeq : Nat
  /-- Newest ACK applied. -/
  acked : Nat
  replay : List QTx
  /-- Granules that wait for a credit or a place in the window. -/
  queue : List (QSlot × Nat × Nat)
  used : SMap Nat
  ret : SMap Nat
  /-- Credits the far end advertised, by channel (R362). -/
  adv : SMap Nat
  /-- Granules taken from the receive buffer, by channel, for CR_COUNT. -/
  taken : SMap Nat
  /-- Channels whose count has changed since a frame returned it, and the channel returned last (R353). -/
  crNew : List Nat
  crLast : Nat
  timeouts : Nat
  lastReplay : Option Nat
  /-- Retries and corrected errors by lane within this round (R372). -/
  retriesRound : Nat
  corrRound : SMap Nat
  /-- The far CAP message, as a number; 0: none yet. -/
  cap : Nat
  mapAcked : Bool
  farReady : Bool
  /-- A retrain's wire test: failed wires of the Cirque's receive side and of the die's, once known. -/
  testRx : Option Nat
  testTx : Option Nat
deriving DecidableEq, Repr

/-- A message of a guest site (R356), accepted or to be sent: class, op, STATUS, tag, AUX, address, payload. -/
structure QMsg where
  cls : Nat
  op : Nat
  status : Nat
  tag : Nat
  aux : Nat
  addr : Nat
  payload : List (Nat × Nat)
deriving DecidableEq, Repr

/-- A snoop the coherence home has to send or has sent (R359): guest, line, invalidating. -/
structure Snoop where
  guest : Nat
  line : Nat
  inv : Bool
  sent : Bool
deriving DecidableEq, Repr

/-- An access that waits for snoops of a line: guest 0 or 1 with its request, or the host's aperture (2: read, 3: write). -/
structure CohWait where
  who : Nat
  line : Nat
  msg : QMsg
deriving DecidableEq, Repr

/-- A guest site (R359 to R366). -/
structure Guest where
  /-- Messages accepted and not yet acted on, oldest first. -/
  inbox : List QMsg
  /-- Messages due to the guest, oldest first. -/
  due : List QMsg
  /-- Line states as the home knows them: 1 S, 2 E, 3 M, by line number. -/
  lines : SMap Nat
  /-- The violation record has been written since the last clear (R366). -/
  viol : Bool
deriving DecidableEq, Repr

/-- Debug access in progress (R360): connection, write, address, data; the answer of an Aliowell die once it has acted. -/
structure DbgAccess where
  conn : Nat
  write : Bool
  addr : Nat
  data : Nat
  answer : Option (Nat × Nat)
deriving DecidableEq, Repr

/-- The Quinhorn side of the Cirque. -/
structure Quinhorn where
  /-- Bundles by connection * 16 + bundle. -/
  bundles : SMap QBundle
  guests : SMap Guest
  snoops : List Snoop
  waits : List CohWait
  dbg : Option DbgAccess
deriving DecidableEq, Repr



/-! ### Pairing (14) -/

/-- A witness's record of a pair (R390): holder (0x3FFF: released), epoch, whether the lease runs, the members seen, and
those that queried and are to hear of the expiry. -/
structure Witness where
  pair : Nat
  holder : Nat
  epoch : Nat
  live : Bool
  members : List Nat
  queried : List Nat
deriving DecidableEq, Repr

/-- A round's delta as the active sent it (R385, R387): its round, its bytes, and whether it was sent again. -/
structure DeltaOut where
  round : Nat
  bytes : List Nat
  again : Bool
deriving DecidableEq, Repr

/-- A hot request as the standby holds it (R386): its REQ record's 64 bytes and its OUTPUT granules. -/
structure ReqCopy where
  bytes : List Nat
  outs : SMap Nat
deriving DecidableEq, Repr

/-- An entry the standby has taken by a TAKE record: queue, SQ index, its 64 bytes, the bytes of a load parameter block. -/
structure Mirrored where
  queue : Nat
  idx : Nat
  entry : List Nat
deriving DecidableEq, Repr

/-- A lease message (R388). -/
structure Lease where
  msg : Nat
  pair : Nat
  sender : Nat
  epoch : Nat
  seq : Nat
  value : Nat
  succ : Nat
deriving DecidableEq, Repr

/-- A lease message to be repeated: destination, message, repeats left (`none`: until answered) (R388). -/
structure LeaseRep where
  dst : Nat
  body : Lease
  left : Option Nat
deriving DecidableEq, Repr

/-- A member's, a standby's and a witness's state beside the PAIR_ registers (R377 to R402). -/
structure Pair where
  /-- A management command that waits: 0 PAIR_FORM as active, 1 PAIR_HANDOVER; with its queue and CID. -/
  cmd : Option (Nat × Nat × Nat)
  /-- SEQ of the next lease message of this module, and of the newest RENEW acknowledged. -/
  seq : Nat
  ackedSeq : Nat
  /-- What is left of the lease count, in fabric cycles, and the self-fencing interval has begun (R389). -/
  left : Nat
  fenced : Bool
  /-- GRANT received as a claimant: the switch-over starts at the next boundary (R395). -/
  granted : Option Nat
  /-- The standby is bound by its last RENEW_ACK; the witness has reported EXPIRED (R391). -/
  bound : Bool
  expired : Bool
  /-- The peer's renewals have resumed while this member claims (R381). -/
  renewed : Bool
  /-- SQ index of every entry in flight, by queue * 65536 + CID. -/
  idx : SMap Nat
  /-- MOD entries of the running round, newest first (R385). -/
  mods : List Nat
  /-- Descriptors as last sent, by context (R385). -/
  descs : SMap (List Nat)
  /-- OUTPUT granules sent, by request * 2^20 + granule offset. -/
  outSent : SMap Nat
  unacked : List DeltaOut
  /-- Standby: COPY bytes received and not yet read; records of the running delta; what has been applied. -/
  copyIn : List Nat
  delta : List (List Nat)
  /-- Deltas that passed their CLOSE while an earlier one is still missing: round, records, cycle of the CLOSE. -/
  early : List (Nat × List (List Nat) × Nat)
  reqs : List ReqCopy
  named : List (Nat × Nat)
  mirrored : List Mirrored
  /-- Newest round applied, the own round then, and the fabric cycle in which its CLOSE was received. -/
  closed : Option (Nat × Nat × Nat)
  /-- The delta stream has had a gap (R387, R401); the bulk copy has ended. -/
  gap : Bool
  synced : Bool
  /-- Packages and the round in which each was last served for a hot context (R396). -/
  subs : List (Nat × Nat)
  /-- ANNOUNCEs not acknowledged: package, SEQ, times sent. -/
  announces : List (Nat × Nat × Nat)
  reps : List LeaseRep
  /-- Round h of a handover (R402), in the active's numbering. -/
  handover : Option Nat
  witness : List Witness
  /-- Largest epoch reported while the witness starts, by pair (R390). -/
  startEpochs : SMap Nat
  /-- Sealed checkpoints (R399): by context * 2 + half, the sealed bytes; the half written last; the context's newest
  checkpoint shipped here, as sealed bytes. -/
  ckpts : SMap (List Nat)
  ckptHalf : SMap Nat
  ckptIn : SMap (List Nat)
  /-- Restarts of the device's own context 0xFFFF from the device's own checkpoint (R183). -/
  devStarts : Nat
  /-- Contexts whose next checkpoint goes whole to a new area (R400). -/
  ckptNew : List Nat
  /-- The FAULT_ID of the switch-over by which this member became active: requests that go on here have met it (R240, R413). -/
  switchId : Option Nat
deriving DecidableEq, Repr


/-! ### The module -/

/-- Everything the spec gives the T972, but for the queue of waiting commands. -/
structure Module where
  /-- Free values drawn so far: the model's own counter. -/
  free : Nat
  /-- What the block has sent, newest first: the model's own record. -/
  out : List Output
  /-- Register fields that have been written, by `Fld.key`; a field not listed holds its reset value. -/
  regs : SMap Nat
  /-- Device memory, by device-physical address (R185). -/
  dev : Store
  /-- Tine SRAM: site s, Tine-local address a at s * 2^27 + a (R78). -/
  sram : Store
  /-- Granule the patrol scrubber reads next (R199). -/
  scrub : Nat
  /-- Granules the scrubber has rewritten from the other copy of an image (R200). -/
  repairs : Nat
  /-- Band that each GDDR7 device's last temperature reading gives (R195). -/
  memBand : SMap Nat
  hub : Hub
  saf : Safety
  thm : SMap ThmCh
  pwr : Power
  tines : SMap Tine
  cal : Calib
  flash : Flash
  sec : Secur
  crc : SMap CrcRun
  /-- Stream granules the Cirque has accepted and not delivered, oldest first. -/
  mesh : List Flit
  ctx : CtxTable
  host : HostIf
  adm : Adm
  str : Struct
  /-- Sequence engines: 0-15 Firn engines, 16-19 laser banks, 20 the power manager (05). -/
  seqs : SMap SeqInst
  /-- Instances that wait for their engine, oldest first, by engine. -/
  seqWait : SMap (List SeqJob)
  optics : SMap OptPort
  lasers : SMap LaserBank
  links : SMap Link
  rte : Router
  qlk : Quinhorn
  pair : Pair
deriving DecidableEq, Repr

/-- The machine's state: the module and the commands that wait, first in, first out. -/
structure State extends Module where
  pending : List Instr
deriving DecidableEq, Repr

/-- Why a step faults. No meaning of this model faults: the spec gives every command an effect in every state. -/
inductive Fault where
  /-- Raised by nobody: kept so that the type has a name to give. Safe. -/
  | none
deriving DecidableEq, Repr

/-- Why a step is refused. -/
inductive Refusal where
  /-- A command that has no meaning in the model yet, by its mnemonic. Safe: the run stops. -/
  | notModelled (mnemonic : String)
deriving DecidableEq, Repr

/-! ### Reset -/

/-- No spare used, nothing retired (R421). -/
def Moraine.reset : Moraine :=
  { sites := [], subst := [], wires := [], bundles := [], units := [], slots := [], fibres := [], rows := [], queues := 0 }

/-- A store with every byte 0 and every granule correct. -/
def Store.reset : Store := { cells := [], synd := [] }

/-- The operating-seconds count stored in the part. -/
def resetOpsec : Nat := Config.calOpsecLo_opsec % 2 ^ 32 + Config.calOpsecHi_opsec % 2 ^ 16 * 2 ^ 32

/-- The module right after the first power-on reset, before the root PLL locks: every register field at its reset value, the
flash as manufactured, the module UNOWNED, nothing in service. -/
def Module.reset : Module :=
  { free := 0
    out := []
    regs := []
    dev := Store.reset
    sram := Store.reset
    scrub := 0
    repairs := 0
    memBand := []
    hub := { round := 0, counting := false, slewing := false, unlocked := false, marks := [], phase := [], applied := [], modFailed := [], inputOk := true,
             resetHigh := true, lossNotices := [] }
    saf := { log := [], nextSeq := 0, nextFault := 0, intPending := false, transients := [], alerted := [], snapTrig := none,
             mor := Moraine.reset, snapCopy := [] }
    thm := []
    pwr := { requests := [], grants := [], returns := [], limit := 1500, held := [], onRound := [], fields := [], dtOver := [] }
    tines := []
    cal := { opsec := resetOpsec, cur := some { seq := Config.calSeq_seq, vals := [] }, prev := none, storing := none,
             rewrite := false, maxSeq := Config.calSeq_seq, log := [(resetOpsec, Config.calCount_count)],
             temps := [], used := none, bands := [], taps := [], deskew := [] }
    flash := { fw := [(0, { good := true, version := Config.fwVersion, secVersion := Config.secFwVersion_securityVersion,
                            commit := Config.fwCommit, hash := Config.fwHash })],
               slots := [], owner := none, powerFail := [], copied := true, mor := Moraine.reset, fwRaises := 0, fwRaise := none,
               committing := false }
    sec := { nonces := 0, spdm := [], ctxNonce := [], fwHash := [] }
    crc := []
    mesh := []
    ctx := { table := [], loads := [], fills := [], waiters := [], migs := [], fabricBinds := [], recheck := none, kvWrites := [], kvSent := 0 }
    host := { pcie := Pcie.reset, queues := [], reqs := [], nextReq := 0, cancels := [], queries := [], ingress := [], lastQueue := 0, turnsLeft := 0,
              takenHost := 0, takenFabric := 0 }
    adm := { blocks := [], fillBooks := [], quotesIn := [], windows := [], nextQuote := 0, accepted := 0 }
    str := { force := [], staged := [], sets := [], newSets := [], quiesceRound := 0, resume := false, stagedLen := 0, ends := [] }
    seqs := []
    seqWait := []
    optics := []
    lasers := []
    links := []
    rte := { notices := [], sent := [], routes := [], parts := [], epochs := [], peers := [], leaving := none, nextTag := 0 }
    qlk := { bundles := [], guests := [], snoops := [], waits := [], dbg := none }
    pair := { cmd := none, seq := 0, ackedSeq := 0, left := 0, fenced := false, granted := none, bound := false, expired := false, renewed := false,
              idx := [], mods := [], descs := [], outSent := [], unacked := [], copyIn := [], delta := [], early := [], reqs := [], named := [],
              mirrored := [], closed := none, gap := false, synced := false, subs := [], announces := [], reps := [],
              handover := none, witness := [], startEpochs := [], ckpts := [], ckptHalf := [], ckptIn := [], devStarts := 0, ckptNew := [], switchId := none } }

/-- The machine right after reset: no command waits. -/
def State.reset : State := { Module.reset with pending := [] }


end Sys2Proof.Machine
end

