-- ==== Sys2Proof/Machine/Regs.lean ====
section
/-! DEFINITION. The register map of BAR0: one `Fld` for every field of every register the spec's register tables
define (spec/18_register_summary.md R471-R473 gives offsets, strides and access types; the defining chapters give the
fields and reset values). Reserved fields have no `Fld`: they read zero and are ignored when written (R12). -/

namespace Sys2Proof.Machine

/-- Divisors of the default throttle curve, entries 0 to 20 (16_power_thermal_calibration.md, R438). -/
def curveN : List Nat := [8, 8, 9, 9, 10, 10, 11, 11, 12, 12, 13, 13, 14, 14, 15, 15, 16, 16, 16, 16, 16]

/-- Issue gates of the default throttle curve, entries 0 to 20 (R438). -/
def curveG : List Nat := [64, 64, 64, 64, 64, 64, 64, 64, 64, 64, 64, 64, 64, 64, 64, 64, 64, 56, 48, 40, 32]

/-- GUEST_MV resets to 0x384 at the guest domains and reads 0 at every other domain (16, PWR_DOMAIN). -/
def guestMv : List Nat := List.replicate 168 0 ++ [0x384, 0x384]

/-- The first n words of a sequence. -/
def seqTable (n : Nat) (f : Nat → Nat) : List Nat := (List.range n).map f

def Reg.hubId_part : Fld := ⟨0x0, [], 16, 16, .ro, .const 0x0972⟩
def Reg.hubId_cirqueRev : Fld := ⟨0x0, [], 8, 8, .ro, .const Config.hubId_cirqueRev⟩
def Reg.hubId_guest1Fitted : Fld := ⟨0x0, [], 1, 1, .ro, .const Config.hubId_guest1Fitted⟩
def Reg.hubId_guest0Fitted : Fld := ⟨0x0, [], 0, 1, .ro, .const Config.hubId_guest0Fitted⟩
def Reg.hubBootStatus_ready : Fld := ⟨0x20, [], 31, 1, .ro, .const 0⟩
def Reg.hubBootStatus_lastReset : Fld := ⟨0x20, [], 24, 3, .ro, .const 0⟩
def Reg.hubBootStatus_stage : Fld := ⟨0x20, [], 0, 4, .ro, .const 0⟩
def Reg.hubResetCtl_module : Fld := ⟨0x24, [], 31, 1, .wo, .const 0⟩
def Reg.hubResetCtl_key : Fld := ⟨0x24, [], 0, 16, .wo, .const 0⟩
def Reg.hubClkStatus_treeBUp : Fld := ⟨0x100, [], 5, 1, .ro, .const 0⟩
def Reg.hubClkStatus_treeAUp : Fld := ⟨0x100, [], 4, 1, .ro, .const 0⟩
def Reg.hubClkStatus_refSubstitute : Fld := ⟨0x100, [], 3, 1, .ro, .const 0⟩
def Reg.hubClkStatus_holdover : Fld := ⟨0x100, [], 2, 1, .ro, .const 0⟩
def Reg.hubClkStatus_refPresent : Fld := ⟨0x100, [], 1, 1, .ro, .const 0⟩
def Reg.hubClkStatus_rootLock : Fld := ⟨0x100, [], 0, 1, .ro, .const 0⟩
def Reg.hubClkEvents_dieTreeSwitch : Fld := ⟨0x104, [], 5, 1, .w1c, .const 0⟩
def Reg.hubClkEvents_rootUnlock : Fld := ⟨0x104, [], 4, 1, .w1c, .const 0⟩
def Reg.hubClkEvents_refLost : Fld := ⟨0x104, [], 3, 1, .w1c, .const 0⟩
def Reg.hubClkEvents_treeBFail : Fld := ⟨0x104, [], 2, 1, .w1c, .const 0⟩
def Reg.hubClkEvents_treeAFail : Fld := ⟨0x104, [], 1, 1, .w1c, .const 0⟩
def Reg.hubClkEvents_dieClkLost : Fld := ⟨0x104, [], 0, 1, .w1c, .const 0⟩
def Reg.hubClkTreeSel0_treeBUse : Fld := ⟨0x110, [], 0, 32, .ro, .const 0⟩
def Reg.hubClkTreeSel1_treeBUse : Fld := ⟨0x114, [], 0, 32, .ro, .const 0⟩
def Reg.hubClkTreeSel2_treeBUse : Fld := ⟨0x118, [], 0, 24, .ro, .const 0⟩
def Reg.hubRoundLo_round : Fld := ⟨0x120, [], 0, 32, .ro, .const 0⟩
def Reg.hubRoundHi_round : Fld := ⟨0x124, [], 0, 32, .ro, .const 0⟩
def Reg.hubStructSrcLo_addr : Fld := ⟨0x200, [], 7, 25, .rw, .const 0⟩
def Reg.hubStructSrcHi_addr : Fld := ⟨0x204, [], 0, 16, .rw, .const 0⟩
def Reg.hubStructLen_len : Fld := ⟨0x208, [], 0, 21, .rw, .const 0⟩
def Reg.hubStructCtl_persist : Fld := ⟨0x20c, [], 3, 1, .wo, .const 0⟩
def Reg.hubStructCtl_abort : Fld := ⟨0x20c, [], 2, 1, .wo, .const 0⟩
def Reg.hubStructCtl_commit : Fld := ⟨0x20c, [], 1, 1, .wo, .const 0⟩
def Reg.hubStructCtl_verify : Fld := ⟨0x20c, [], 0, 1, .wo, .const 0⟩
def Reg.hubStructStatus_result : Fld := ⟨0x210, [], 24, 8, .ro, .const 0⟩
def Reg.hubStructStatus_persistFail : Fld := ⟨0x210, [], 18, 1, .ro, .const 0⟩
def Reg.hubStructStatus_ignoredCmd : Fld := ⟨0x210, [], 17, 1, .w1c, .const 0⟩
def Reg.hubStructStatus_defaultStruct : Fld := ⟨0x210, [], 16, 1, .ro, .const 0⟩
def Reg.hubStructStatus_bootSlot : Fld := ⟨0x210, [], 8, 1, .ro, .const 0⟩
def Reg.hubStructStatus_state : Fld := ⟨0x210, [], 0, 3, .ro, .const 0⟩
def Reg.hubStructFailSect_type : Fld := ⟨0x214, [], 0, 16, .ro, .const 0⟩
def Reg.hubStructFailOffset_offset : Fld := ⟨0x218, [], 0, 32, .ro, .const 0⟩
def Reg.hubStructQuiesceLimit_limitMs : Fld := ⟨0x21c, [], 0, 16, .rw, .const 0x03E8⟩
def Reg.hubStructSerial_serial : Fld := ⟨0x220, [], 0, 32, .ro, .const 0⟩
def Reg.hubStructSecver_securityVersion : Fld := ⟨0x224, [], 0, 32, .ro, .const 0⟩
def Reg.hubStructHash_hash : Fld := ⟨0x230, [(0x4, 12)], 0, 32, .ro, .const 0⟩
def Reg.hubApertureBase_base256m : Fld := ⟨0x300, [], 0, 5, .rw, .const 0⟩
def Reg.hubHostStage_fabricBound : Fld := ⟨0x310, [], 16, 11, .ro, .const 0⟩
def Reg.hubHostStage_usedMib : Fld := ⟨0x310, [], 0, 9, .ro, .const 0⟩
def Reg.hubMsixTable_word : Fld := ⟨0x8000, [(0x4, 8192)], 0, 32, .rw, .cyc [0, 0, 0, 1]⟩
def Reg.hubMsixPba_bits : Fld := ⟨0x10000, [(0x4, 64)], 0, 32, .ro, .const 0⟩
def Reg.queSqBaseLo_addr : Fld := ⟨0x100000, [(0x40, 16384)], 12, 20, .rw, .const 0⟩
def Reg.queSqBaseHi_addr : Fld := ⟨0x100004, [(0x40, 16384)], 0, 32, .rw, .const 0⟩
def Reg.queCqBaseLo_addr : Fld := ⟨0x100008, [(0x40, 16384)], 12, 20, .rw, .const 0⟩
def Reg.queCqBaseHi_addr : Fld := ⟨0x10000c, [(0x40, 16384)], 0, 32, .rw, .const 0⟩
def Reg.queCfg_sqDepthLog2 : Fld := ⟨0x100010, [(0x40, 16384)], 27, 5, .rw, .const 0⟩
def Reg.queCfg_cqDepthLog2 : Fld := ⟨0x100010, [(0x40, 16384)], 22, 5, .rw, .const 0⟩
def Reg.queCfg_intEn : Fld := ⟨0x100010, [(0x40, 16384)], 21, 1, .rw, .const 0⟩
def Reg.queCfg_weight : Fld := ⟨0x100010, [(0x40, 16384)], 16, 5, .rw, .const 0⟩
def Reg.queCfg_vector : Fld := ⟨0x100010, [(0x40, 16384)], 0, 11, .rw, .const 0⟩
def Reg.queIntr_coalRounds : Fld := ⟨0x100014, [(0x40, 16384)], 8, 8, .rw, .const 0x01⟩
def Reg.queIntr_coalCount : Fld := ⟨0x100014, [(0x40, 16384)], 0, 8, .rw, .const 0⟩
def Reg.queOwnerLo_ownerKey : Fld := ⟨0x100018, [(0x40, 16384)], 0, 32, .ro, .const 0⟩
def Reg.queOwnerHi_ownerKey : Fld := ⟨0x10001c, [(0x40, 16384)], 0, 32, .ro, .const 0⟩
def Reg.queCtl_disable : Fld := ⟨0x100020, [], 1, 1, .wo, .const 0⟩
def Reg.queCtl_enable : Fld := ⟨0x100020, [], 0, 1, .wo, .const 0⟩
def Reg.queStatus_state : Fld := ⟨0x100024, [(0x40, 16384)], 30, 2, .ro, .const 0⟩
def Reg.queStatus_err : Fld := ⟨0x100024, [(0x40, 16384)], 24, 4, .ro, .const 0⟩
def Reg.queStatus_inFlight : Fld := ⟨0x100024, [(0x40, 16384)], 0, 16, .ro, .const 0⟩
def Reg.quePtrs_cqTail : Fld := ⟨0x100028, [(0x40, 16384)], 16, 16, .ro, .const 0⟩
def Reg.quePtrs_sqHead : Fld := ⟨0x100028, [(0x40, 16384)], 0, 16, .ro, .const 0⟩
def Reg.queCounts_bound : Fld := ⟨0x10002c, [(0x40, 16384)], 16, 11, .ro, .const 0⟩
def Reg.queCounts_progressDropped : Fld := ⟨0x10002c, [(0x40, 16384)], 0, 16, .ro, .const 0⟩
def Reg.ctxSel_latchView : Fld := ⟨0x200000, [], 31, 1, .wo, .const 0⟩
def Reg.ctxSel_ctxId : Fld := ⟨0x200000, [], 0, 16, .rw, .const 0⟩
def Reg.ctxViewStatus_viewValid : Fld := ⟨0x200004, [], 3, 1, .ro, .const 0⟩
def Reg.ctxViewStatus_state : Fld := ⟨0x200004, [], 0, 3, .ro, .const 0⟩
def Reg.ctxDesc_word : Fld := ⟨0x200040, [(0x4, 32)], 0, 32, .ro, .const 0⟩
def Reg.ctxCount0_hot : Fld := ⟨0x200100, [], 16, 16, .ro, .const 0⟩
def Reg.ctxCount0_loaded : Fld := ⟨0x200100, [], 0, 16, .ro, .const 0⟩
def Reg.ctxCount1_running : Fld := ⟨0x200104, [], 16, 16, .ro, .const 0⟩
def Reg.ctxCount1_pinnedBanks : Fld := ⟨0x200104, [], 0, 16, .ro, .const 0⟩
def Reg.ctxFills_fills : Fld := ⟨0x200110, [], 0, 32, .ro, .const 0⟩
def Reg.ctxFillFaults_fillFaults : Fld := ⟨0x200114, [], 0, 32, .ro, .const 0⟩
def Reg.ctxMigrations_migrations : Fld := ⟨0x200118, [], 0, 32, .ro, .const 0⟩
def Reg.ctxBindUsed_bindings : Fld := ⟨0x200120, [], 0, 21, .ro, .const 0⟩
def Reg.admStatus_running : Fld := ⟨0x300000, [], 31, 1, .ro, .const 0⟩
def Reg.admStatus_quiesced : Fld := ⟨0x300000, [], 30, 1, .ro, .const 0⟩
def Reg.admStatus_decideRounds : Fld := ⟨0x300000, [], 16, 2, .ro, .const 0⟩
def Reg.admStatus_bookedAhead : Fld := ⟨0x300000, [], 0, 13, .ro, .const 0⟩
def Reg.admCtl_headroomC : Fld := ⟨0x300004, [], 0, 4, .rw, .const 0x5⟩
def Reg.admAcceptedLo_accepted : Fld := ⟨0x300010, [], 0, 32, .ro, .const 0⟩
def Reg.admAcceptedHi_accepted : Fld := ⟨0x300014, [], 0, 32, .ro, .const 0⟩
def Reg.admRejected_count : Fld := ⟨0x300018, [], 0, 32, .ro, .const 0⟩
def Reg.admLate_count : Fld := ⟨0x30001c, [], 0, 32, .ro, .const 0⟩
def Reg.admLateSecond_count : Fld := ⟨0x300020, [], 0, 32, .ro, .const 0⟩
def Reg.admLateUnprot_count : Fld := ⟨0x300024, [], 0, 32, .ro, .const 0⟩
def Reg.admLateUnexplained_count : Fld := ⟨0x300028, [], 0, 32, .ro, .const 0⟩
def Reg.admThrottleHeld_count : Fld := ⟨0x30002c, [], 0, 32, .ro, .const 0⟩
def Reg.admRejReason_count : Fld := ⟨0x300040, [(0x4, 12)], 0, 32, .ro, .const 0⟩
def Reg.admCopyPeak_peakBytes : Fld := ⟨0x300080, [], 0, 18, .ro, .const 0⟩
def Reg.admCopyBooked_roundBytes : Fld := ⟨0x300084, [], 0, 20, .ro, .const 0⟩
def Reg.admFillBooked_cxlBooked : Fld := ⟨0x300088, [], 16, 16, .ro, .const 0⟩
def Reg.admFillBooked_gddr7Booked : Fld := ⟨0x300088, [], 0, 16, .ro, .const 0⟩
def Reg.admCntClr_clrPeak : Fld := ⟨0x3000a0, [], 2, 1, .wo, .const 0⟩
def Reg.admCntClr_clrReasons : Fld := ⟨0x3000a0, [], 1, 1, .wo, .const 0⟩
def Reg.admCntClr_clrOutcomes : Fld := ⟨0x3000a0, [], 0, 1, .wo, .const 0⟩
def Reg.admTinePair_commitN : Fld := ⟨0x301000, [(0x4, 72)], 24, 5, .ro, .const 0x08⟩
def Reg.admTinePair_commitG : Fld := ⟨0x301000, [(0x4, 72)], 16, 7, .ro, .const 0x40⟩
def Reg.admTinePair_countN : Fld := ⟨0x301000, [(0x4, 72)], 8, 5, .ro, .const 0x10⟩
def Reg.admTinePair_countG : Fld := ⟨0x301000, [(0x4, 72)], 0, 7, .ro, .const 0x40⟩
def Reg.tineId_dieRev : Fld := ⟨0x400000, [(0x10000, 72)], 16, 4, .ro, .const Config.tineId_dieRev⟩
def Reg.tineId_site : Fld := ⟨0x400000, [(0x10000, 72)], 0, 7, .ro, .index⟩
def Reg.tineState_bundlesHalf : Fld := ⟨0x400004, [(0x10000, 72)], 12, 4, .ro, .const 0⟩
def Reg.tineState_bundlesFull : Fld := ⟨0x400004, [(0x10000, 72)], 8, 4, .ro, .const 0⟩
def Reg.tineState_siteState : Fld := ⟨0x400004, [(0x10000, 72)], 0, 3, .ro, .const 0⟩
def Reg.tineClk_nPending : Fld := ⟨0x400008, [(0x10000, 72)], 24, 5, .ro, .const 0x10⟩
def Reg.tineClk_gatePending : Fld := ⟨0x400008, [(0x10000, 72)], 16, 7, .ro, .const 0x40⟩
def Reg.tineClk_n : Fld := ⟨0x400008, [(0x10000, 72)], 8, 5, .ro, .const 0x10⟩
def Reg.tineClk_gate : Fld := ⟨0x400008, [(0x10000, 72)], 0, 7, .ro, .const 0x40⟩
def Reg.tineBankStatus_switching : Fld := ⟨0x400010, [(0x10000, 72)], 9, 1, .ro, .const 0⟩
def Reg.tineBankStatus_runningBank : Fld := ⟨0x400010, [(0x10000, 72)], 6, 2, .ro, .const 0⟩
def Reg.tineBankStatus_bankBState : Fld := ⟨0x400010, [(0x10000, 72)], 3, 3, .ro, .const 0⟩
def Reg.tineBankStatus_bankAState : Fld := ⟨0x400010, [(0x10000, 72)], 0, 3, .ro, .const 0⟩
def Reg.tineBankCtx_ctxB : Fld := ⟨0x400014, [(0x10000, 72)], 16, 16, .ro, .const 0⟩
def Reg.tineBankCtx_ctxA : Fld := ⟨0x400014, [(0x10000, 72)], 0, 16, .ro, .const 0⟩
def Reg.tineFillProgress_fillGranules : Fld := ⟨0x400018, [(0x10000, 72)], 0, 21, .ro, .const 0⟩
def Reg.tineSeqStatus_stageActive : Fld := ⟨0x400020, [(0x10000, 72)], 31, 1, .ro, .const 0⟩
def Reg.tineSeqStatus_pc : Fld := ⟨0x400020, [(0x10000, 72)], 16, 12, .ro, .const 0⟩
def Reg.tineSeqStatus_stageId : Fld := ⟨0x400020, [(0x10000, 72)], 0, 16, .ro, .const 0⟩
def Reg.tineFault_bundleLoss : Fld := ⟨0x400030, [(0x10000, 72)], 9, 1, .w1c, .const 0⟩
def Reg.tineFault_clkLost : Fld := ⟨0x400030, [(0x10000, 72)], 8, 1, .w1c, .const 0⟩
def Reg.tineFault_thermalShutdown : Fld := ⟨0x400030, [(0x10000, 72)], 7, 1, .w1c, .const 0⟩
def Reg.tineFault_programFault : Fld := ⟨0x400030, [(0x10000, 72)], 6, 1, .w1c, .const 0⟩
def Reg.tineFault_pstoreUncorr : Fld := ⟨0x400030, [(0x10000, 72)], 5, 1, .w1c, .const 0⟩
def Reg.tineFault_wstoreUncorr : Fld := ⟨0x400030, [(0x10000, 72)], 4, 1, .w1c, .const 0⟩
def Reg.tineFault_bankUncorr : Fld := ⟨0x400030, [(0x10000, 72)], 3, 1, .w1c, .const 0⟩
def Reg.tineFault_residueFail : Fld := ⟨0x400030, [(0x10000, 72)], 2, 1, .w1c, .const 0⟩
def Reg.tineFault_checksumFail : Fld := ⟨0x400030, [(0x10000, 72)], 1, 1, .w1c, .const 0⟩
def Reg.tineFault_entryTestFail : Fld := ⟨0x400030, [(0x10000, 72)], 0, 1, .w1c, .const 0⟩
def Reg.tineFaultAddr_addr : Fld := ⟨0x400034, [(0x10000, 72)], 0, 27, .ro, .const 0⟩
def Reg.tineEccCorr_corrected : Fld := ⟨0x400040, [(0x10000, 72)], 0, 32, .ro, .const 0⟩
def Reg.tineEccCheckfield_checkFieldCorrected : Fld := ⟨0x400044, [(0x10000, 72)], 0, 32, .ro, .const 0⟩
def Reg.tineCyclesLo_cycles : Fld := ⟨0x400050, [(0x10000, 72)], 0, 32, .ro, .const 0⟩
def Reg.tineCyclesHi_cycles : Fld := ⟨0x400054, [(0x10000, 72)], 0, 32, .ro, .const 0⟩
def Reg.tineMatPassesLo_passes : Fld := ⟨0x400058, [(0x10000, 72)], 0, 32, .ro, .const 0⟩
def Reg.tineMatPassesHi_passes : Fld := ⟨0x40005c, [(0x10000, 72)], 0, 32, .ro, .const 0⟩
def Reg.tineSpareRows_arraysExhausted : Fld := ⟨0x400060, [(0x10000, 72)], 16, 8, .ro, .const 0⟩
def Reg.tineSpareRows_spareRowsUsed : Fld := ⟨0x400060, [(0x10000, 72)], 0, 16, .ro, .const 0⟩
def Reg.tineCntClr_clrActivity : Fld := ⟨0x400070, [(0x10000, 72)], 2, 1, .wo, .const 0⟩
def Reg.tineCntClr_clrCheckfield : Fld := ⟨0x400070, [(0x10000, 72)], 1, 1, .wo, .const 0⟩
def Reg.tineCntClr_clrCorr : Fld := ⟨0x400070, [(0x10000, 72)], 0, 1, .wo, .const 0⟩
def Reg.firnStatus_domainOn : Fld := ⟨0x900000, [(0x10000, 16)], 31, 1, .ro, .const 0⟩
def Reg.firnStatus_portsSafe : Fld := ⟨0x900000, [(0x10000, 16)], 8, 4, .ro, .const 0⟩
def Reg.firnStatus_portsUp : Fld := ⟨0x900000, [(0x10000, 16)], 0, 4, .ro, .const 0⟩
def Reg.firnSpareCfg_inUse : Fld := ⟨0x900010, [(0x10000, 16)], 31, 1, .ro, .const 0⟩
def Reg.firnSpareCfg_failed : Fld := ⟨0x900010, [(0x10000, 16)], 30, 1, .ro, .const 0⟩
def Reg.firnSpareCfg_sparePort : Fld := ⟨0x900010, [(0x10000, 16)], 0, 3, .rw, .const 0x4⟩
def Reg.firnPortStatus_state : Fld := ⟨0x900100, [(0x10000, 16), (0x100, 4)], 29, 3, .ro, .const 0⟩
def Reg.firnPortStatus_clkFallback : Fld := ⟨0x900100, [(0x10000, 16), (0x100, 4)], 28, 1, .ro, .const 0⟩
def Reg.firnPortStatus_onSpare : Fld := ⟨0x900100, [(0x10000, 16), (0x100, 4)], 27, 1, .ro, .const 0⟩
def Reg.firnPortStatus_txWidth : Fld := ⟨0x900100, [(0x10000, 16), (0x100, 4)], 16, 5, .ro, .const 0⟩
def Reg.firnPortStatus_rxWidth : Fld := ⟨0x900100, [(0x10000, 16), (0x100, 4)], 8, 5, .ro, .const 0⟩
def Reg.firnPortStatus_clkSource : Fld := ⟨0x900100, [(0x10000, 16), (0x100, 4)], 0, 5, .ro, .const 0x10⟩
def Reg.firnPortLanes_rxMap : Fld := ⟨0x900104, [(0x10000, 16), (0x100, 4)], 16, 16, .ro, .const 0⟩
def Reg.firnPortLanes_txMap : Fld := ⟨0x900104, [(0x10000, 16), (0x100, 4)], 0, 16, .ro, .const 0⟩
def Reg.firnPortLatency_oneWayPs : Fld := ⟨0x900108, [(0x10000, 16), (0x100, 4)], 0, 24, .ro, .const 0⟩
def Reg.firnPortCtl_retrain : Fld := ⟨0x90010c, [(0x10000, 16), (0x100, 4)], 31, 1, .wo, .const 0⟩
def Reg.firnPortCtl_clearSafety : Fld := ⟨0x90010c, [(0x10000, 16), (0x100, 4)], 30, 1, .wo, .const 0⟩
def Reg.firnPortCtl_useSpare : Fld := ⟨0x90010c, [(0x10000, 16), (0x100, 4)], 29, 1, .wo, .const 0⟩
def Reg.firnPortCtl_pattern : Fld := ⟨0x90010c, [(0x10000, 16), (0x100, 4)], 3, 2, .rw, .const 0⟩
def Reg.firnPortCtl_loopMode : Fld := ⟨0x90010c, [(0x10000, 16), (0x100, 4)], 0, 3, .rw, .const 0⟩
def Reg.firnPortEvents_trainFail : Fld := ⟨0x900110, [(0x10000, 16), (0x100, 4)], 5, 1, .w1c, .const 0⟩
def Reg.firnPortEvents_fibreOverpower : Fld := ⟨0x900110, [(0x10000, 16), (0x100, 4)], 4, 1, .w1c, .const 0⟩
def Reg.firnPortEvents_fibreDark : Fld := ⟨0x900110, [(0x10000, 16), (0x100, 4)], 3, 1, .w1c, .const 0⟩
def Reg.firnPortEvents_fallback : Fld := ⟨0x900110, [(0x10000, 16), (0x100, 4)], 2, 1, .w1c, .const 0⟩
def Reg.firnPortEvents_clkLost : Fld := ⟨0x900110, [(0x10000, 16), (0x100, 4)], 1, 1, .w1c, .const 0⟩
def Reg.firnPortEvents_waveLost : Fld := ⟨0x900110, [(0x10000, 16), (0x100, 4)], 0, 1, .w1c, .const 0⟩
def Reg.firnWaveTx_pre : Fld := ⟨0x901000, [(0x10000, 16), (0x400, 4), (0x20, 17)], 26, 6, .ro, .const 0⟩
def Reg.firnWaveTx_main : Fld := ⟨0x901000, [(0x10000, 16), (0x400, 4), (0x20, 17)], 20, 6, .ro, .const 0x3F⟩
def Reg.firnWaveTx_post : Fld := ⟨0x901000, [(0x10000, 16), (0x400, 4), (0x20, 17)], 14, 6, .ro, .const 0⟩
def Reg.firnWaveTx_txLock : Fld := ⟨0x901000, [(0x10000, 16), (0x400, 4), (0x20, 17)], 13, 1, .ro, .const 0⟩
def Reg.firnWaveTx_txHeater : Fld := ⟨0x901000, [(0x10000, 16), (0x400, 4), (0x20, 17)], 0, 12, .ro, .const 0⟩
def Reg.firnWaveRx_rxLock : Fld := ⟨0x901004, [(0x10000, 16), (0x400, 4), (0x20, 17)], 31, 1, .ro, .const 0⟩
def Reg.firnWaveRx_coarse : Fld := ⟨0x901004, [(0x10000, 16), (0x400, 4), (0x20, 17)], 20, 4, .ro, .const 0⟩
def Reg.firnWaveRx_fine : Fld := ⟨0x901004, [(0x10000, 16), (0x400, 4), (0x20, 17)], 15, 5, .ro, .const 0⟩
def Reg.firnWaveRx_rxHeater : Fld := ⟨0x901004, [(0x10000, 16), (0x400, 4), (0x20, 17)], 0, 12, .ro, .const 0⟩
def Reg.firnWavePower_txPower : Fld := ⟨0x901008, [(0x10000, 16), (0x400, 4), (0x20, 17)], 16, 16, .ro, .const 0⟩
def Reg.firnWavePower_rxPower : Fld := ⟨0x901008, [(0x10000, 16), (0x400, 4), (0x20, 17)], 0, 16, .ro, .const 0⟩
def Reg.firnWaveErr_errors : Fld := ⟨0x90100c, [(0x10000, 16), (0x400, 4), (0x20, 17)], 0, 32, .ro, .const 0⟩
def Reg.lasStatus_domainOn : Fld := ⟨0xa00000, [(0x10000, 4)], 31, 1, .ro, .const 0⟩
def Reg.lasStatus_sparesLeft : Fld := ⟨0xa00000, [(0x10000, 4)], 16, 8, .ro, .const 0⟩
def Reg.lasStatus_swapSlot : Fld := ⟨0xa00000, [(0x10000, 4)], 8, 5, .ro, .const 0⟩
def Reg.lasStatus_swapBusy : Fld := ⟨0xa00000, [(0x10000, 4)], 7, 1, .ro, .const 0⟩
def Reg.lasStatus_lit : Fld := ⟨0xa00000, [(0x10000, 4)], 0, 5, .ro, .const 0⟩
def Reg.lasEvents_eolWarn : Fld := ⟨0xa00004, [(0x10000, 4)], 5, 1, .w1c, .const 0⟩
def Reg.lasEvents_slotExhausted : Fld := ⟨0xa00004, [(0x10000, 4)], 4, 1, .w1c, .const 0⟩
def Reg.lasEvents_swapDeferred : Fld := ⟨0xa00004, [(0x10000, 4)], 3, 1, .w1c, .const 0⟩
def Reg.lasEvents_swapDone : Fld := ⟨0xa00004, [(0x10000, 4)], 2, 1, .w1c, .const 0⟩
def Reg.lasEvents_overpowerCut : Fld := ⟨0xa00004, [(0x10000, 4)], 1, 1, .w1c, .const 0⟩
def Reg.lasEvents_laserFail : Fld := ⟨0xa00004, [(0x10000, 4)], 0, 1, .w1c, .const 0⟩
def Reg.lasCtl_autoSwap : Fld := ⟨0xa00008, [(0x10000, 4)], 31, 1, .rw, .const 1⟩
def Reg.lasCtl_swap : Fld := ⟨0xa00008, [(0x10000, 4)], 15, 1, .wo, .const 0⟩
def Reg.lasCtl_swapSlotSel : Fld := ⟨0xa00008, [(0x10000, 4)], 0, 5, .rw, .const 0⟩
def Reg.lasEol_eolRatio : Fld := ⟨0xa0000c, [(0x10000, 4)], 0, 16, .rw, .const 0x0180⟩
def Reg.lasSlotStatus_removed : Fld := ⟨0xa00100, [(0x10000, 4), (0x10, 17)], 31, 1, .ro, .const 0⟩
def Reg.lasSlotStatus_activeUnit : Fld := ⟨0xa00100, [(0x10000, 4), (0x10, 17)], 30, 1, .ro, .const 0⟩
def Reg.lasSlotStatus_pState : Fld := ⟨0xa00100, [(0x10000, 4), (0x10, 17)], 24, 3, .ro, .const 0⟩
def Reg.lasSlotStatus_sState : Fld := ⟨0xa00100, [(0x10000, 4), (0x10, 17)], 20, 3, .ro, .const 0⟩
def Reg.lasSlotMon_biasRatio : Fld := ⟨0xa00104, [(0x10000, 4), (0x10, 17)], 16, 16, .ro, .const 0⟩
def Reg.lasSlotMon_power : Fld := ⟨0xa00104, [(0x10000, 4), (0x10, 17)], 0, 16, .ro, .const 0⟩
def Reg.lasSlotWave_waveErr : Fld := ⟨0xa00108, [(0x10000, 4), (0x10, 17)], 0, 16, .ro, .const 0⟩
def Reg.fabLinkStatus_state : Fld := ⟨0xa40000, [(0x4000, 64)], 29, 3, .ro, .const 0⟩
def Reg.fabLinkStatus_master : Fld := ⟨0xa40000, [(0x4000, 64)], 28, 1, .ro, .const 0⟩
def Reg.fabLinkStatus_downReason : Fld := ⟨0xa40000, [(0x4000, 64)], 24, 4, .ro, .const 0⟩
def Reg.fabLinkStatus_peerPkg : Fld := ⟨0xa40000, [(0x4000, 64)], 8, 14, .ro, .const 0x3FFF⟩
def Reg.fabLinkStatus_peerPort : Fld := ⟨0xa40000, [(0x4000, 64)], 0, 6, .ro, .const 0⟩
def Reg.fabLinkCtl_flushNow : Fld := ⟨0xa40004, [(0x4000, 64)], 2, 1, .wo, .const 0⟩
def Reg.fabLinkCtl_retrainFull : Fld := ⟨0xa40004, [(0x4000, 64)], 1, 1, .wo, .const 0⟩
def Reg.fabLinkCtl_reinit : Fld := ⟨0xa40004, [(0x4000, 64)], 0, 1, .wo, .const 0⟩
def Reg.fabSeqTx_acked : Fld := ⟨0xa40008, [(0x4000, 64)], 16, 16, .ro, .const 0xFFFF⟩
def Reg.fabSeqTx_nextSeq : Fld := ⟨0xa40008, [(0x4000, 64)], 0, 16, .ro, .const 0⟩
def Reg.fabSeqRx_nakActive : Fld := ⟨0xa4000c, [(0x4000, 64)], 16, 1, .ro, .const 0⟩
def Reg.fabSeqRx_expected : Fld := ⟨0xa4000c, [(0x4000, 64)], 0, 16, .ro, .const 0⟩
def Reg.fabReplay_unacked : Fld := ⟨0xa40010, [(0x4000, 64)], 0, 12, .ro, .const 0⟩
def Reg.fabVcAdv_advD : Fld := ⟨0xa40040, [(0x4000, 64), (0x8, 8)], 16, 16, .ro, .const 0⟩
def Reg.fabVcAdv_advH : Fld := ⟨0xa40040, [(0x4000, 64), (0x8, 8)], 0, 16, .ro, .const 0⟩
def Reg.fabVcAvail_availD : Fld := ⟨0xa40044, [(0x4000, 64), (0x8, 8)], 16, 16, .ro, .const 0⟩
def Reg.fabVcAvail_availH : Fld := ⟨0xa40044, [(0x4000, 64), (0x8, 8)], 0, 16, .ro, .const 0⟩
def Reg.fabEvents_graceRecovered : Fld := ⟨0xa40080, [(0x4000, 64)], 7, 1, .w1c, .const 0⟩
def Reg.fabEvents_flushed : Fld := ⟨0xa40080, [(0x4000, 64)], 6, 1, .w1c, .const 0⟩
def Reg.fabEvents_waveGivenUp : Fld := ⟨0xa40080, [(0x4000, 64)], 5, 1, .w1c, .const 0⟩
def Reg.fabEvents_mapChange : Fld := ⟨0xa40080, [(0x4000, 64)], 4, 1, .w1c, .const 0⟩
def Reg.fabEvents_selfLoop : Fld := ⟨0xa40080, [(0x4000, 64)], 3, 1, .w1c, .const 0⟩
def Reg.fabEvents_roleMismatch : Fld := ⟨0xa40080, [(0x4000, 64)], 2, 1, .w1c, .const 0⟩
def Reg.fabEvents_replayTimeout : Fld := ⟨0xa40080, [(0x4000, 64)], 1, 1, .w1c, .const 0⟩
def Reg.fabEvents_creditLeak : Fld := ⟨0xa40080, [(0x4000, 64)], 0, 1, .w1c, .const 0⟩
def Reg.fabWaveRetry_givenUp : Fld := ⟨0xa40090, [(0x4000, 64)], 16, 16, .ro, .const 0⟩
def Reg.fabWaveRetry_retrySlot : Fld := ⟨0xa40090, [(0x4000, 64)], 8, 5, .ro, .const 0⟩
def Reg.fabWaveRetry_attempts : Fld := ⟨0xa40090, [(0x4000, 64)], 0, 7, .ro, .const 0⟩
def Reg.fabCrcErr_count : Fld := ⟨0xa40100, [(0x4000, 64)], 0, 32, .ro, .const 0⟩
def Reg.fabNakSent_count : Fld := ⟨0xa40104, [(0x4000, 64)], 0, 32, .ro, .const 0⟩
def Reg.fabReplayedFlits_count : Fld := ⟨0xa40108, [(0x4000, 64)], 0, 32, .ro, .const 0⟩
def Reg.fabAckTimeouts_count : Fld := ⟨0xa4010c, [(0x4000, 64)], 0, 32, .ro, .const 0⟩
def Reg.fabAckErr_count : Fld := ⟨0xa40110, [(0x4000, 64)], 0, 32, .ro, .const 0⟩
def Reg.fabDuplicates_count : Fld := ⟨0xa40114, [(0x4000, 64)], 0, 32, .ro, .const 0⟩
def Reg.fabCodeCorr_count : Fld := ⟨0xa40118, [(0x4000, 64)], 0, 32, .ro, .const 0⟩
def Reg.fabCodeCheckfield_count : Fld := ⟨0xa4011c, [(0x4000, 64)], 0, 32, .ro, .const 0⟩
def Reg.fabBudgetZero_count : Fld := ⟨0xa40120, [(0x4000, 64)], 0, 32, .ro, .const 0⟩
def Reg.fabFlushedPkts_count : Fld := ⟨0xa40124, [(0x4000, 64)], 0, 32, .ro, .const 0⟩
def Reg.fabMapChanges_count : Fld := ⟨0xa40128, [(0x4000, 64)], 0, 32, .ro, .const 0⟩
def Reg.fabCreditLeaks_count : Fld := ⟨0xa4012c, [(0x4000, 64)], 0, 32, .ro, .const 0⟩
def Reg.fabCntClr_clrAll : Fld := ⟨0xa40140, [(0x4000, 64)], 0, 1, .wo, .const 0⟩
def Reg.rteId_assigned : Fld := ⟨0xb40000, [], 31, 1, .ro, .const 0⟩
def Reg.rteId_pkgId : Fld := ⟨0xb40000, [], 0, 14, .ro, .const 0x3FFF⟩
def Reg.rteCtl_commit : Fld := ⟨0xb40004, [], 31, 1, .wo, .const 0⟩
def Reg.rteCtl_detourEn : Fld := ⟨0xb40004, [], 8, 1, .rw, .const 1⟩
def Reg.rteCtl_detourThresh : Fld := ⟨0xb40004, [], 0, 8, .rw, .const 0x40⟩
def Reg.rteStatus_commitPending : Fld := ⟨0xb40008, [], 31, 1, .ro, .const 0⟩
def Reg.rteStatus_ignoredWrite : Fld := ⟨0xb40008, [], 30, 1, .w1c, .const 0⟩
def Reg.rteNoRoute_count : Fld := ⟨0xb40100, [], 0, 32, .ro, .const 0⟩
def Reg.rteBadHeader_count : Fld := ⟨0xb40104, [], 0, 32, .ro, .const 0⟩
def Reg.rteHopLimit_count : Fld := ⟨0xb40108, [], 0, 32, .ro, .const 0⟩
def Reg.rteDetoured_count : Fld := ⟨0xb4010c, [], 0, 32, .ro, .const 0⟩
def Reg.rteEpochDiscards_count : Fld := ⟨0xb40110, [], 0, 32, .ro, .const 0⟩
def Reg.rteTransitPkts_count : Fld := ⟨0xb40114, [], 0, 32, .ro, .const 0⟩
def Reg.rteCntClr_clrAll : Fld := ⟨0xb40140, [], 0, 1, .wo, .const 0⟩
def Reg.rteGroupSh_word : Fld := ⟨0xb41000, [(0x4, 512)], 0, 32, .rw, .const 0⟩
def Reg.rteLocalSh_word : Fld := ⟨0xb41800, [(0x4, 32)], 0, 32, .rw, .const 0⟩
def Reg.rteExcSh_lo : Fld := ⟨0xb42000, [(0x8, 1024)], 0, 32, .rw, .const 0⟩
def Reg.rteExcShHi_hi : Fld := ⟨0xb42004, [(0x8, 1024)], 0, 32, .rw, .const 0⟩
def Reg.rteGroup_word : Fld := ⟨0xb45000, [(0x4, 512)], 0, 32, .ro, .const 0⟩
def Reg.rteLocal_word : Fld := ⟨0xb45800, [(0x4, 32)], 0, 32, .ro, .const 0⟩
def Reg.rteExc_lo : Fld := ⟨0xb46000, [(0x8, 1024)], 0, 32, .ro, .const 0⟩
def Reg.rteExcHi_hi : Fld := ⟨0xb46004, [(0x8, 1024)], 0, 32, .ro, .const 0⟩
def Reg.qlkLinkStatus_up : Fld := ⟨0xc00000, [(0x400, 90)], 31, 1, .ro, .const 0⟩
def Reg.qlkLinkStatus_capMismatch : Fld := ⟨0xc00000, [(0x400, 90)], 30, 1, .ro, .const 0⟩
def Reg.qlkLinkStatus_fuseCrc : Fld := ⟨0xc00000, [(0x400, 90)], 29, 1, .ro, .const 0⟩
def Reg.qlkLinkStatus_fuseMismatch : Fld := ⟨0xc00000, [(0x400, 90)], 28, 1, .ro, .const 0⟩
def Reg.qlkLinkStatus_baselineDiff : Fld := ⟨0xc00000, [(0x400, 90)], 27, 1, .ro, .const 0⟩
def Reg.qlkLinkStatus_bundlesRetired : Fld := ⟨0xc00000, [(0x400, 90)], 16, 5, .ro, .const 0⟩
def Reg.qlkLinkStatus_bundlesHalf : Fld := ⟨0xc00000, [(0x400, 90)], 8, 5, .ro, .const 0⟩
def Reg.qlkLinkStatus_bundlesFull : Fld := ⟨0xc00000, [(0x400, 90)], 0, 5, .ro, .const 0⟩
def Reg.qlkCap_verMajor : Fld := ⟨0xc00004, [(0x400, 90)], 28, 4, .ro, .const 0⟩
def Reg.qlkCap_verMinor : Fld := ⟨0xc00004, [(0x400, 90)], 24, 4, .ro, .const 0⟩
def Reg.qlkCap_classMask : Fld := ⟨0xc00004, [(0x400, 90)], 19, 5, .ro, .const 0⟩
def Reg.qlkCap_retimers : Fld := ⟨0xc00004, [(0x400, 90)], 14, 5, .ro, .const 0⟩
def Reg.qlkMaxPayload_maxPayload : Fld := ⟨0xc00008, [(0x400, 90)], 0, 24, .ro, .const 0⟩
def Reg.qlkCtl_retrain : Fld := ⟨0xc0000c, [(0x400, 90)], 4, 1, .wo, .const 0⟩
def Reg.qlkCtl_bundleSel : Fld := ⟨0xc0000c, [(0x400, 90)], 0, 4, .wo, .const 0⟩
def Reg.qlkBundleState_state : Fld := ⟨0xc00010, [(0x400, 90), (0x4, 16)], 29, 3, .ro, .const 0⟩
def Reg.qlkBundleState_half : Fld := ⟨0xc00010, [(0x400, 90), (0x4, 16)], 28, 1, .ro, .const 0⟩
def Reg.qlkBundleState_failedRetrains : Fld := ⟨0xc00010, [(0x400, 90), (0x4, 16)], 26, 2, .ro, .const 0⟩
def Reg.qlkMapTx_half : Fld := ⟨0xc00100, [(0x400, 90), (0x10, 16)], 31, 1, .ro, .const 0⟩
def Reg.qlkMapTx_clkWire : Fld := ⟨0xc00100, [(0x400, 90), (0x10, 16)], 30, 1, .ro, .const 0⟩
def Reg.qlkMapTx_sidebandWire : Fld := ⟨0xc00100, [(0x400, 90), (0x10, 16)], 25, 5, .ro, .const 0x15⟩
def Reg.qlkMapTx_failedMask : Fld := ⟨0xc00100, [(0x400, 90), (0x10, 16)], 0, 22, .ro, .const 0⟩
def Reg.qlkReplTx_repl1 : Fld := ⟨0xc00104, [(0x400, 90), (0x10, 16)], 5, 5, .ro, .const 0x1F⟩
def Reg.qlkReplTx_repl0 : Fld := ⟨0xc00104, [(0x400, 90), (0x10, 16)], 0, 5, .ro, .const 0x1F⟩
def Reg.qlkMapRx_half : Fld := ⟨0xc00108, [(0x400, 90), (0x10, 16)], 31, 1, .ro, .const 0⟩
def Reg.qlkMapRx_clkWire : Fld := ⟨0xc00108, [(0x400, 90), (0x10, 16)], 30, 1, .ro, .const 0⟩
def Reg.qlkMapRx_sidebandWire : Fld := ⟨0xc00108, [(0x400, 90), (0x10, 16)], 25, 5, .ro, .const 0x15⟩
def Reg.qlkMapRx_failedMask : Fld := ⟨0xc00108, [(0x400, 90), (0x10, 16)], 0, 22, .ro, .const 0⟩
def Reg.qlkReplRx_repl1 : Fld := ⟨0xc0010c, [(0x400, 90), (0x10, 16)], 5, 5, .ro, .const 0x1F⟩
def Reg.qlkReplRx_repl0 : Fld := ⟨0xc0010c, [(0x400, 90), (0x10, 16)], 0, 5, .ro, .const 0x1F⟩
def Reg.qlkCorr_count : Fld := ⟨0xc00200, [(0x400, 90)], 0, 32, .ro, .const 0⟩
def Reg.qlkCheckfield_count : Fld := ⟨0xc00204, [(0x400, 90)], 0, 32, .ro, .const 0⟩
def Reg.qlkRetries_count : Fld := ⟨0xc00208, [(0x400, 90)], 0, 32, .ro, .const 0⟩
def Reg.qlkFrameErr_count : Fld := ⟨0xc0020c, [(0x400, 90)], 0, 32, .ro, .const 0⟩
def Reg.qlkAckTimeouts_count : Fld := ⟨0xc00210, [(0x400, 90)], 0, 32, .ro, .const 0⟩
def Reg.qlkRetrains_count : Fld := ⟨0xc00214, [(0x400, 90)], 0, 32, .ro, .const 0⟩
def Reg.qlkWidthMismatch_count : Fld := ⟨0xc00218, [(0x400, 90)], 0, 32, .ro, .const 0⟩
def Reg.qlkPoisonRx_count : Fld := ⟨0xc0021c, [(0x400, 90)], 0, 32, .ro, .const 0⟩
def Reg.qlkCntClr_clrAll : Fld := ⟨0xc00220, [(0x400, 90)], 0, 1, .wo, .const 0⟩
def Reg.qlkFuse_word : Fld := ⟨0xc00300, [(0x400, 90), (0x4, 32)], 0, 32, .ro, .fuse⟩
def Reg.qlkFwCtl_fenced : Fld := ⟨0xc80000, [(0x1000, 2)], 31, 1, .ro, .const 0⟩
def Reg.qlkFwCtl_unfence : Fld := ⟨0xc80000, [(0x1000, 2)], 30, 1, .wo, .const 0⟩
def Reg.qlkFwCtl_clrViol : Fld := ⟨0xc80000, [(0x1000, 2)], 3, 1, .wo, .const 0⟩
def Reg.qlkFwCtl_fenceOnViol : Fld := ⟨0xc80000, [(0x1000, 2)], 2, 1, .rwl, .const 1⟩
def Reg.qlkFwCtl_en : Fld := ⟨0xc80000, [(0x1000, 2)], 0, 1, .rwl, .const 0⟩
def Reg.qlkFwClass_permit : Fld := ⟨0xc80004, [(0x1000, 2)], 0, 4, .rwl, .const 0⟩
def Reg.qlkFwBw_ceiling : Fld := ⟨0xc80008, [(0x1000, 2)], 0, 9, .rwl, .const 0x100⟩
def Reg.qlkFwVec_vecCount : Fld := ⟨0xc8000c, [(0x1000, 2)], 16, 11, .rwl, .const 0⟩
def Reg.qlkFwVec_vecBase : Fld := ⟨0xc8000c, [(0x1000, 2)], 0, 11, .rwl, .const 0⟩
def Reg.qlkFwViolCount_count : Fld := ⟨0xc80010, [(0x1000, 2)], 0, 32, .ro, .const 0⟩
def Reg.qlkFwViolInfo_class : Fld := ⟨0xc80014, [(0x1000, 2)], 29, 3, .ro, .const 0⟩
def Reg.qlkFwViolInfo_op : Fld := ⟨0xc80014, [(0x1000, 2)], 24, 5, .ro, .const 0⟩
def Reg.qlkFwViolInfo_cause : Fld := ⟨0xc80014, [(0x1000, 2)], 20, 4, .ro, .const 0⟩
def Reg.qlkFwViolAddrLo_addr : Fld := ⟨0xc80018, [(0x1000, 2)], 0, 32, .ro, .const 0⟩
def Reg.qlkFwViolAddrHi_addr : Fld := ⟨0xc8001c, [(0x1000, 2)], 0, 16, .ro, .const 0⟩
def Reg.qlkFwWinBaseLo_addr : Fld := ⟨0xc80100, [(0x1000, 2), (0x10, 16)], 20, 12, .rwl, .const 0⟩
def Reg.qlkFwWinBaseHi_addr : Fld := ⟨0xc80104, [(0x1000, 2), (0x10, 16)], 0, 16, .rwl, .const 0⟩
def Reg.qlkFwWinSize_sizeMib : Fld := ⟨0xc80108, [(0x1000, 2), (0x10, 16)], 0, 24, .rwl, .const 0⟩
def Reg.qlkFwWinRights_rejected : Fld := ⟨0xc8010c, [(0x1000, 2), (0x10, 16)], 31, 1, .ro, .const 0⟩
def Reg.qlkFwWinRights_coherent : Fld := ⟨0xc8010c, [(0x1000, 2), (0x10, 16)], 3, 1, .rwl, .const 0⟩
def Reg.qlkFwWinRights_x : Fld := ⟨0xc8010c, [(0x1000, 2), (0x10, 16)], 2, 1, .rwl, .const 0⟩
def Reg.qlkFwWinRights_w : Fld := ⟨0xc8010c, [(0x1000, 2), (0x10, 16)], 1, 1, .rwl, .const 0⟩
def Reg.qlkFwWinRights_r : Fld := ⟨0xc8010c, [(0x1000, 2), (0x10, 16)], 0, 1, .rwl, .const 0⟩
def Reg.qlkDbgCtl_go : Fld := ⟨0xcc0000, [], 31, 1, .wo, .const 0⟩
def Reg.qlkDbgCtl_write : Fld := ⟨0xcc0000, [], 30, 1, .rw, .const 0⟩
def Reg.qlkDbgCtl_busy : Fld := ⟨0xcc0000, [], 29, 1, .ro, .const 0⟩
def Reg.qlkDbgCtl_status : Fld := ⟨0xcc0000, [], 16, 8, .ro, .const 0⟩
def Reg.qlkDbgCtl_conn : Fld := ⟨0xcc0000, [], 0, 7, .rw, .const 0⟩
def Reg.qlkDbgAddr_addr : Fld := ⟨0xcc0004, [], 0, 32, .rw, .const 0⟩
def Reg.qlkDbgData_data : Fld := ⟨0xcc0008, [], 0, 32, .rw, .const 0⟩
def Reg.memStatus_ready : Fld := ⟨0xd00000, [], 31, 1, .ro, .const 0⟩
def Reg.memStatus_moduleBand : Fld := ⟨0xd00000, [], 12, 2, .ro, .const 0⟩
def Reg.memStatus_devTrained : Fld := ⟨0xd00000, [], 0, 12, .ro, .const 0⟩
def Reg.memHostRegion_size256m : Fld := ⟨0xd00004, [], 0, 6, .rw, .const 0x01⟩
def Reg.memScrubCtl_scrubEn : Fld := ⟨0xd00010, [], 31, 1, .rw, .const 1⟩
def Reg.memScrubCtl_periodH : Fld := ⟨0xd00010, [], 0, 8, .rw, .const 0x18⟩
def Reg.memScrubStatus_passes : Fld := ⟨0xd00014, [], 16, 16, .ro, .const 0⟩
def Reg.memScrubStatus_progress : Fld := ⟨0xd00014, [], 0, 7, .ro, .const 0⟩
def Reg.memDevTemp_band : Fld := ⟨0xd00100, [(0x20, 12)], 10, 2, .ro, .const 0⟩
def Reg.memDevTemp_overtemp : Fld := ⟨0xd00100, [(0x20, 12)], 9, 1, .w1c, .const 0⟩
def Reg.memDevTemp_tempC : Fld := ⟨0xd00100, [(0x20, 12)], 0, 8, .ro, .const 0⟩
def Reg.memDevCorr_corrected : Fld := ⟨0xd00104, [(0x20, 12)], 0, 32, .ro, .const 0⟩
def Reg.memDevCheckfield_checkFieldCorrected : Fld := ⟨0xd00108, [(0x20, 12)], 0, 32, .ro, .const 0⟩
def Reg.memDevUncorr_uncorrectable : Fld := ⟨0xd0010c, [(0x20, 12)], 0, 32, .ro, .const 0⟩
def Reg.memDevScrubCorr_scrubCorrected : Fld := ⟨0xd00110, [(0x20, 12)], 0, 32, .ro, .const 0⟩
def Reg.memDevScrubUncorr_scrubUncorrectable : Fld := ⟨0xd00114, [(0x20, 12)], 0, 32, .ro, .const 0⟩
def Reg.memDevPoisonRead_poisonReads : Fld := ⟨0xd00118, [(0x20, 12)], 0, 32, .ro, .const 0⟩
def Reg.memLastUncorrLo_addr : Fld := ⟨0xd00300, [], 4, 28, .ro, .const 0⟩
def Reg.memLastUncorrHi_source : Fld := ⟨0xd00304, [], 28, 4, .ro, .const 0⟩
def Reg.memLastUncorrHi_addr : Fld := ⟨0xd00304, [], 0, 16, .ro, .const 0⟩
def Reg.memLastUncorrSyn_syndrome : Fld := ⟨0xd00308, [], 0, 16, .ro, .const 0⟩
def Reg.memCirqueCorr_count : Fld := ⟨0xd00310, [], 0, 32, .ro, .const 0⟩
def Reg.memCirqueUncorr_count : Fld := ⟨0xd00314, [], 0, 32, .ro, .const 0⟩
def Reg.memMeshCorr_count : Fld := ⟨0xd00318, [], 0, 32, .ro, .const 0⟩
def Reg.memMeshUncorr_count : Fld := ⟨0xd0031c, [], 0, 32, .ro, .const 0⟩
def Reg.memCntClr_clrCirque : Fld := ⟨0xd00320, [], 1, 1, .wo, .const 0⟩
def Reg.memCntClr_clrDev : Fld := ⟨0xd00320, [], 0, 1, .wo, .const 0⟩
def Reg.cxlPortStatus_ready : Fld := ⟨0xd10000, [(0x1000, 2)], 31, 1, .ro, .const 0⟩
def Reg.cxlPortStatus_reason : Fld := ⟨0xd10000, [(0x1000, 2)], 24, 4, .ro, .const 0⟩
def Reg.cxlPortStatus_rate : Fld := ⟨0xd10000, [(0x1000, 2)], 16, 2, .ro, .const 0⟩
def Reg.cxlPortStatus_width : Fld := ⟨0xd10000, [(0x1000, 2)], 0, 5, .ro, .const 0⟩
def Reg.cxlMapped_mapped256m : Fld := ⟨0xd10004, [(0x1000, 2)], 0, 14, .ro, .const 0⟩
def Reg.cxlSerialLo_serial : Fld := ⟨0xd10008, [(0x1000, 2)], 0, 32, .ro, .const 0⟩
def Reg.cxlSerialHi_serial : Fld := ⟨0xd1000c, [(0x1000, 2)], 0, 32, .ro, .const 0⟩
def Reg.cxlCorr_count : Fld := ⟨0xd10010, [(0x1000, 2)], 0, 32, .ro, .const 0⟩
def Reg.cxlCheckfield_count : Fld := ⟨0xd10014, [(0x1000, 2)], 0, 32, .ro, .const 0⟩
def Reg.cxlUncorr_count : Fld := ⟨0xd10018, [(0x1000, 2)], 0, 32, .ro, .const 0⟩
def Reg.cxlPoisonRx_count : Fld := ⟨0xd1001c, [(0x1000, 2)], 0, 32, .ro, .const 0⟩
def Reg.cxlLinkDown_count : Fld := ⟨0xd10020, [(0x1000, 2)], 0, 32, .ro, .const 0⟩
def Reg.pairStatus_state : Fld := ⟨0xe00000, [], 29, 3, .ro, .const 0⟩
def Reg.pairStatus_formed : Fld := ⟨0xe00000, [], 28, 1, .ro, .const 0⟩
def Reg.pairStatus_leaseHeld : Fld := ⟨0xe00000, [], 27, 1, .ro, .const 0⟩
def Reg.pairStatus_preferredActive : Fld := ⟨0xe00000, [], 26, 1, .ro, .const 0⟩
def Reg.pairIds_peerPkg : Fld := ⟨0xe00004, [], 16, 14, .ro, .const 0x3FFF⟩
def Reg.pairIds_witnessPkg : Fld := ⟨0xe00004, [], 0, 14, .ro, .const 0x3FFF⟩
def Reg.pairEpoch_epoch : Fld := ⟨0xe00008, [], 0, 32, .ro, .const 0⟩
def Reg.pairAcked_roundAcked : Fld := ⟨0xe0000c, [], 0, 32, .ro, .const 0⟩
def Reg.pairSync_granulesLeft : Fld := ⟨0xe00010, [], 0, 32, .ro, .const 0⟩
def Reg.pairLeaseCtl_guardUs : Fld := ⟨0xe00040, [], 24, 8, .ro, .const 0x20⟩
def Reg.pairLeaseCtl_fenceUs : Fld := ⟨0xe00040, [], 16, 8, .ro, .const 0x10⟩
def Reg.pairLeaseCtl_renewUs : Fld := ⟨0xe00040, [], 8, 8, .ro, .const 0x40⟩
def Reg.pairLeaseCtl_leaseQuarterUs : Fld := ⟨0xe00040, [], 0, 8, .ro, .const 0x40⟩
def Reg.pairLeaseRemain_remainUs : Fld := ⟨0xe00044, [], 0, 9, .ro, .const 0⟩
def Reg.pairEvents_ckptLost : Fld := ⟨0xe00080, [], 7, 1, .w1c, .const 0⟩
def Reg.pairEvents_handoverDone : Fld := ⟨0xe00080, [], 6, 1, .w1c, .const 0⟩
def Reg.pairEvents_syncDone : Fld := ⟨0xe00080, [], 5, 1, .w1c, .const 0⟩
def Reg.pairEvents_standbyLost : Fld := ⟨0xe00080, [], 4, 1, .w1c, .const 0⟩
def Reg.pairEvents_selfFence : Fld := ⟨0xe00080, [], 3, 1, .w1c, .const 0⟩
def Reg.pairEvents_failFastRx : Fld := ⟨0xe00080, [], 2, 1, .w1c, .const 0⟩
def Reg.pairEvents_failFastTx : Fld := ⟨0xe00080, [], 1, 1, .w1c, .const 0⟩
def Reg.pairEvents_switchover : Fld := ⟨0xe00080, [], 0, 1, .w1c, .const 0⟩
def Reg.pairSwitchovers_count : Fld := ⟨0xe00100, [], 0, 32, .ro, .const 0⟩
def Reg.pairDeltaResends_count : Fld := ⟨0xe00104, [], 0, 32, .ro, .const 0⟩
def Reg.pairGateDelays_count : Fld := ⟨0xe00108, [], 0, 32, .ro, .const 0⟩
def Reg.pairReqResent_count : Fld := ⟨0xe0010c, [], 0, 32, .ro, .const 0⟩
def Reg.pairCkptShipped_count : Fld := ⟨0xe00110, [], 0, 32, .ro, .const 0⟩
def Reg.pairCntClr_clrAll : Fld := ⟨0xe00140, [], 0, 1, .wo, .const 0⟩
def Reg.pairWitnessStatus_starting : Fld := ⟨0xe00200, [], 31, 1, .ro, .const 1⟩
def Reg.pairWitnessStatus_pairsServed : Fld := ⟨0xe00200, [], 0, 7, .ro, .const 0⟩
def Reg.pairRedirect_valid : Fld := ⟨0xe01000, [(0x8, 256)], 31, 1, .ro, .const 0⟩
def Reg.pairRedirect_fromPkg : Fld := ⟨0xe01000, [(0x8, 256)], 14, 14, .ro, .const 0⟩
def Reg.pairRedirect_toPkg : Fld := ⟨0xe01000, [(0x8, 256)], 0, 14, .ro, .const 0⟩
def Reg.pairRedirectEpoch_epoch : Fld := ⟨0xe01004, [(0x8, 256)], 0, 32, .ro, .const 0⟩
def Reg.thmChStatus_state : Fld := ⟨0xe80000, [(0x4, 100)], 29, 3, .ro, .const 0⟩
def Reg.thmChStatus_stale : Fld := ⟨0xe80000, [(0x4, 100)], 28, 1, .ro, .const 0⟩
def Reg.thmChStatus_capIndex : Fld := ⟨0xe80000, [(0x4, 100)], 21, 5, .ro, .const 0⟩
def Reg.thmChStatus_index : Fld := ⟨0xe80000, [(0x4, 100)], 16, 5, .ro, .const 0⟩
def Reg.thmChStatus_temp : Fld := ⟨0xe80000, [(0x4, 100)], 0, 16, .ro, .const 0⟩
def Reg.thmForce_force : Fld := ⟨0xe80200, [], 31, 1, .wo, .const 0⟩
def Reg.thmForce_release : Fld := ⟨0xe80200, [], 30, 1, .wo, .const 0⟩
def Reg.thmForce_retest : Fld := ⟨0xe80200, [], 29, 1, .wo, .const 0⟩
def Reg.thmForce_clearShutdown : Fld := ⟨0xe80200, [], 28, 1, .wo, .const 0⟩
def Reg.thmForce_ch : Fld := ⟨0xe80200, [], 16, 7, .rw, .const 0⟩
def Reg.thmForce_value : Fld := ⟨0xe80200, [], 0, 16, .rw, .const 0⟩
def Reg.thmThreshTine_shutdown : Fld := ⟨0xe80210, [], 24, 8, .rwl, .const 0x73⟩
def Reg.thmThreshTine_throttle : Fld := ⟨0xe80210, [], 16, 8, .rwl, .const 0x64⟩
def Reg.thmThreshTine_throttleHyst : Fld := ⟨0xe80210, [], 12, 4, .rwl, .const 0x2⟩
def Reg.thmThreshTine_warnHyst : Fld := ⟨0xe80210, [], 8, 4, .rwl, .const 0x3⟩
def Reg.thmThreshTine_warning : Fld := ⟨0xe80210, [], 0, 8, .rwl, .const 0x5F⟩
def Reg.thmThreshFirn_shutdown : Fld := ⟨0xe80214, [], 24, 8, .rwl, .const 0x73⟩
def Reg.thmThreshFirn_throttle : Fld := ⟨0xe80214, [], 16, 8, .rwl, .const 0x64⟩
def Reg.thmThreshFirn_throttleHyst : Fld := ⟨0xe80214, [], 12, 4, .rwl, .const 0x2⟩
def Reg.thmThreshFirn_warnHyst : Fld := ⟨0xe80214, [], 8, 4, .rwl, .const 0x3⟩
def Reg.thmThreshFirn_warning : Fld := ⟨0xe80214, [], 0, 8, .rwl, .const 0x5F⟩
def Reg.thmThreshLaser_shutdown : Fld := ⟨0xe80218, [], 24, 8, .rwl, .const 0x73⟩
def Reg.thmThreshLaser_throttle : Fld := ⟨0xe80218, [], 16, 8, .rwl, .const 0x64⟩
def Reg.thmThreshLaser_throttleHyst : Fld := ⟨0xe80218, [], 12, 4, .rwl, .const 0x2⟩
def Reg.thmThreshLaser_warnHyst : Fld := ⟨0xe80218, [], 8, 4, .rwl, .const 0x3⟩
def Reg.thmThreshLaser_warning : Fld := ⟨0xe80218, [], 0, 8, .rwl, .const 0x5F⟩
def Reg.thmThreshCirque_shutdown : Fld := ⟨0xe8021c, [], 24, 8, .rwl, .const 0x73⟩
def Reg.thmThreshCirque_throttle : Fld := ⟨0xe8021c, [], 16, 8, .rwl, .const 0x64⟩
def Reg.thmThreshCirque_throttleHyst : Fld := ⟨0xe8021c, [], 12, 4, .rwl, .const 0x2⟩
def Reg.thmThreshCirque_warnHyst : Fld := ⟨0xe8021c, [], 8, 4, .rwl, .const 0x3⟩
def Reg.thmThreshCirque_warning : Fld := ⟨0xe8021c, [], 0, 8, .rwl, .const 0x5F⟩
def Reg.thmThreshGuest_shutdown : Fld := ⟨0xe80220, [], 24, 8, .rwl, .const 0x73⟩
def Reg.thmThreshGuest_throttle : Fld := ⟨0xe80220, [], 16, 8, .rwl, .const 0x64⟩
def Reg.thmThreshGuest_throttleHyst : Fld := ⟨0xe80220, [], 12, 4, .rwl, .const 0x2⟩
def Reg.thmThreshGuest_warnHyst : Fld := ⟨0xe80220, [], 8, 4, .rwl, .const 0x3⟩
def Reg.thmThreshGuest_warning : Fld := ⟨0xe80220, [], 0, 8, .rwl, .const 0x5F⟩
def Reg.thmThreshBoard_shutdown : Fld := ⟨0xe80224, [], 24, 8, .rwl, .const 0x73⟩
def Reg.thmThreshBoard_throttle : Fld := ⟨0xe80224, [], 16, 8, .rwl, .const 0x64⟩
def Reg.thmThreshBoard_throttleHyst : Fld := ⟨0xe80224, [], 12, 4, .rwl, .const 0x2⟩
def Reg.thmThreshBoard_warnHyst : Fld := ⟨0xe80224, [], 8, 4, .rwl, .const 2⟩
def Reg.thmThreshBoard_warning : Fld := ⟨0xe80224, [], 0, 8, .rwl, .const 0x2D⟩
def Reg.thmCurve_n : Fld := ⟨0xe80240, [(0x4, 21)], 8, 5, .rwl, .table curveN⟩
def Reg.thmCurve_g : Fld := ⟨0xe80240, [(0x4, 21)], 0, 7, .rwl, .table curveG⟩
def Reg.thmEvents_dtLimit : Fld := ⟨0xe80300, [], 4, 1, .w1c, .const 0⟩
def Reg.thmEvents_sensorFailed : Fld := ⟨0xe80300, [], 3, 1, .w1c, .const 0⟩
def Reg.thmEvents_shutdown : Fld := ⟨0xe80300, [], 2, 1, .w1c, .const 0⟩
def Reg.thmEvents_throttle : Fld := ⟨0xe80300, [], 1, 1, .w1c, .const 0⟩
def Reg.thmEvents_warning : Fld := ⟨0xe80300, [], 0, 1, .w1c, .const 0⟩
def Reg.pwrStatus_overLimit : Fld := ⟨0xea0000, [], 31, 1, .ro, .const 0⟩
def Reg.pwrStatus_inputCv : Fld := ⟨0xea0000, [], 16, 15, .ro, .const 0⟩
def Reg.pwrStatus_moduleDw : Fld := ⟨0xea0000, [], 0, 16, .ro, .const 0⟩
def Reg.pwrCtl_limitW : Fld := ⟨0xea0004, [], 0, 11, .rw, .const 0x5DC⟩
def Reg.pwrHoldup_ready : Fld := ⟨0xea0008, [], 31, 1, .ro, .const 0⟩
def Reg.pwrHoldup_energyMj : Fld := ⟨0xea0008, [], 0, 12, .ro, .const 0⟩
def Reg.pwrDomain_state : Fld := ⟨0xea0100, [(0x4, 170)], 29, 3, .ro, .const 0⟩
def Reg.pwrDomain_pgood : Fld := ⟨0xea0100, [(0x4, 170)], 28, 1, .ro, .const 0⟩
def Reg.pwrDomain_guestMv : Fld := ⟨0xea0100, [(0x4, 170)], 12, 12, .rwl, .table guestMv⟩
def Reg.pwrDomain_vmeasMv : Fld := ⟨0xea0100, [(0x4, 170)], 0, 12, .ro, .const 0⟩
def Reg.calCtl_run : Fld := ⟨0xec0000, [], 31, 1, .wo, .const 0⟩
def Reg.calCtl_revert : Fld := ⟨0xec0000, [], 30, 1, .wo, .const 0⟩
def Reg.calCtl_refSel : Fld := ⟨0xec0000, [], 8, 1, .rwl, .const 0⟩
def Reg.calCtl_quantMask : Fld := ⟨0xec0000, [], 0, 5, .rw, .const 0x1F⟩
def Reg.calStatus_state : Fld := ⟨0xec0004, [], 29, 3, .ro, .const 0⟩
def Reg.calStatus_noSet : Fld := ⟨0xec0004, [], 28, 1, .ro, .const 0⟩
def Reg.calStatus_countSat : Fld := ⟨0xec0004, [], 27, 1, .ro, .const 0⟩
def Reg.calStatus_prevValid : Fld := ⟨0xec0004, [], 26, 1, .ro, .const 0⟩
def Reg.calStatus_staleAny : Fld := ⟨0xec0004, [], 25, 1, .ro, .const 0⟩
def Reg.calCount_count : Fld := ⟨0xec0008, [], 0, 32, .ro, .const Config.calCount_count⟩
def Reg.calSeq_seq : Fld := ⟨0xec000c, [], 0, 32, .ro, .const Config.calSeq_seq⟩
def Reg.calLastLo_opsec : Fld := ⟨0xec0010, [], 0, 32, .ro, .const Config.calLastLo_opsec⟩
def Reg.calLastHi_opsec : Fld := ⟨0xec0014, [], 0, 16, .ro, .const Config.calLastHi_opsec⟩
def Reg.calOpsecLo_opsec : Fld := ⟨0xec0018, [], 0, 32, .ro, .const Config.calOpsecLo_opsec⟩
def Reg.calOpsecHi_opsec : Fld := ⟨0xec001c, [], 0, 16, .ro, .const Config.calOpsecHi_opsec⟩
def Reg.safStatus_fatalLatched : Fld := ⟨0xf00000, [], 31, 1, .ro, .const 0⟩
def Reg.safStatus_gateClosed : Fld := ⟨0xf00000, [], 30, 1, .ro, .const 0⟩
def Reg.safStatus_faultPin : Fld := ⟨0xf00000, [], 29, 1, .ro, .const 0⟩
def Reg.safStatus_unread : Fld := ⟨0xf00000, [], 0, 11, .ro, .const 0⟩
def Reg.safCtl_faultPinClr : Fld := ⟨0xf00004, [], 0, 1, .wo, .const 0⟩
def Reg.safLogWr_wr : Fld := ⟨0xf00008, [], 0, 10, .ro, .const 0⟩
def Reg.safLogRd_rd : Fld := ⟨0xf0000c, [], 0, 10, .rw, .const 0⟩
def Reg.safLogSel_latch : Fld := ⟨0xf00010, [], 31, 1, .wo, .const 0⟩
def Reg.safLogSel_index : Fld := ⟨0xf00010, [], 0, 10, .rw, .const 0⟩
def Reg.safLogLost_lost : Fld := ⟨0xf00014, [], 0, 32, .ro, .const 0⟩
def Reg.safIntCtl_intEn : Fld := ⟨0xf00018, [], 8, 1, .rw, .const 1⟩
def Reg.safIntCtl_minSev : Fld := ⟨0xf00018, [], 0, 2, .rw, .const 0x1⟩
def Reg.safProofCtl_en : Fld := ⟨0xf00020, [], 31, 1, .rw, .const 1⟩
def Reg.safProofCtl_periodLog2 : Fld := ⟨0xf00020, [], 0, 5, .rw, .const 0x18⟩
def Reg.safProofStatus_passes : Fld := ⟨0xf00024, [], 16, 16, .ro, .const 0⟩
def Reg.safProofStatus_fails : Fld := ⟨0xf00024, [], 0, 16, .ro, .const 0⟩
def Reg.safReexec_count : Fld := ⟨0xf00030, [], 0, 32, .ro, .const 0⟩
def Reg.safTransient_count : Fld := ⟨0xf00034, [], 0, 32, .ro, .const 0⟩
def Reg.safLogData_word : Fld := ⟨0xf00040, [(0x4, 16)], 0, 32, .ro, .const 0⟩
def Reg.snapCtl_trigger : Fld := ⟨0xf20000, [], 31, 1, .wo, .const 0⟩
def Reg.snapCtl_rearm : Fld := ⟨0xf20000, [], 30, 1, .wo, .const 0⟩
def Reg.snapCtl_minSev : Fld := ⟨0xf20000, [], 4, 2, .rw, .const 0x3⟩
def Reg.snapCtl_outEn : Fld := ⟨0xf20000, [], 1, 1, .rw, .const 1⟩
def Reg.snapCtl_pinEn : Fld := ⟨0xf20000, [], 0, 1, .rw, .const 1⟩
def Reg.snapStatus_held : Fld := ⟨0xf20004, [], 31, 1, .ro, .const 0⟩
def Reg.snapStatus_source : Fld := ⟨0xf20004, [], 28, 3, .ro, .const 0⟩
def Reg.snapStatus_missed : Fld := ⟨0xf20004, [], 0, 16, .ro, .const 0⟩
def Reg.snapClassMask_classes : Fld := ⟨0xf20008, [], 0, 24, .rw, .const 0x00700000⟩
def Reg.snapSeq_seq : Fld := ⟨0xf2000c, [], 0, 32, .ro, .const 0⟩
def Reg.snapRoundLo_round : Fld := ⟨0xf20010, [], 0, 32, .ro, .const 0⟩
def Reg.snapRoundHi_cycle : Fld := ⟨0xf20014, [], 16, 13, .ro, .const 0⟩
def Reg.snapRoundHi_round : Fld := ⟨0xf20014, [], 0, 16, .ro, .const 0⟩
def Reg.snapSel_offset : Fld := ⟨0xf20020, [], 2, 24, .rw, .const 0⟩
def Reg.snapData_data : Fld := ⟨0xf20024, [], 0, 32, .ro, .const 0⟩
def Reg.snapAbsent_bits : Fld := ⟨0xf20030, [(0x4, 3)], 0, 32, .ro, .const 0⟩
def Reg.morTine_spareAvailable : Fld := ⟨0xf40000, [], 16, 4, .ro, .const 0⟩
def Reg.morTine_retired : Fld := ⟨0xf40000, [], 8, 7, .ro, .const 0⟩
def Reg.morTine_active : Fld := ⟨0xf40000, [], 0, 7, .ro, .const 0⟩
def Reg.morSiteSpare_bits : Fld := ⟨0xf40010, [(0x4, 3)], 0, 32, .ro, .const 0⟩
def Reg.morSiteRetired_bits : Fld := ⟨0xf40020, [(0x4, 3)], 0, 32, .ro, .const 0⟩
def Reg.morSubst_noSubstitute : Fld := ⟨0xf40100, [(0x4, 64)], 31, 1, .ro, .const 0⟩
def Reg.morSubst_site : Fld := ⟨0xf40100, [(0x4, 64)], 0, 7, .ro, .index⟩
def Reg.morLanes_dataLanesLeft : Fld := ⟨0xf40200, [], 16, 16, .ro, .const 0⟩
def Reg.morLanes_clockLanesLeft : Fld := ⟨0xf40200, [], 0, 16, .ro, .const 0⟩
def Reg.morBundles_halfWidth : Fld := ⟨0xf40204, [], 16, 16, .ro, .const 0⟩
def Reg.morBundles_retired : Fld := ⟨0xf40204, [], 0, 16, .ro, .const 0⟩
def Reg.morOptics_fibresLeft : Fld := ⟨0xf40208, [], 16, 5, .ro, .const 0⟩
def Reg.morOptics_lasersLeft : Fld := ⟨0xf40208, [], 8, 7, .ro, .const 0⟩
def Reg.morOptics_slotsExhausted : Fld := ⟨0xf40208, [], 0, 7, .ro, .const 0⟩
def Reg.morSramRows_rowsUsed : Fld := ⟨0xf4020c, [], 0, 32, .ro, .const 0⟩
def Reg.morSramArrays_arraysExhausted : Fld := ⟨0xf40210, [], 0, 32, .ro, .const 0⟩
def Reg.morQueue_slotsLeft : Fld := ⟨0xf40214, [], 0, 10, .ro, .const 0⟩
def Reg.morAlert_minFibres : Fld := ⟨0xf40300, [], 24, 5, .rw, .const 0x01⟩
def Reg.morAlert_minLasers : Fld := ⟨0xf40300, [], 16, 7, .rw, .const 0x04⟩
def Reg.morAlert_minDataLanes : Fld := ⟨0xf40300, [], 0, 12, .rw, .const 0x100⟩
def Reg.morAlertTine_minTines : Fld := ⟨0xf40304, [], 0, 4, .rw, .const 0x1⟩
def Reg.secCtl_lock : Fld := ⟨0xf80000, [], 0, 1, .wo, .const 0⟩
def Reg.secStatus_secLock : Fld := ⟨0xf80004, [], 31, 1, .ro, .const 0⟩
def Reg.secStatus_owned : Fld := ⟨0xf80004, [], 30, 1, .ro, .const 0⟩
def Reg.secStatus_requireSigned : Fld := ⟨0xf80004, [], 29, 1, .ro, .const 0⟩
def Reg.secStatus_sealPresent : Fld := ⟨0xf80004, [], 28, 1, .ro, .const 0⟩
def Reg.secStatus_fwSlot : Fld := ⟨0xf80004, [], 27, 1, .ro, .const 0⟩
def Reg.secFwVersion_securityVersion : Fld := ⟨0xf80008, [], 0, 32, .ro, .const Config.secFwVersion_securityVersion⟩
def Reg.secFwMin_min : Fld := ⟨0xf8000c, [], 0, 32, .ro, .const Config.secFwMin_min⟩
def Reg.secStructMin_min : Fld := ⟨0xf80010, [], 0, 32, .ro, .const Config.secStructMin_min⟩
def Reg.secOwnerSeq_ownerSeq : Fld := ⟨0xf80014, [], 0, 32, .ro, .const 0⟩
def Reg.secKaPub_word : Fld := ⟨0xf80100, [(0x4, 24)], 0, 32, .ro, .table (seqTable 24 Config.secKaPub_word)⟩
def Reg.crcCtl_go : Fld := ⟨0xf90000, [(0x100, 4)], 31, 1, .wo, .const 0⟩
def Reg.crcCtl_srcHost : Fld := ⟨0xf90000, [(0x100, 4)], 30, 1, .rw, .const 0⟩
def Reg.crcCtl_refin : Fld := ⟨0xf90000, [(0x100, 4)], 29, 1, .rw, .const 0⟩
def Reg.crcCtl_refout : Fld := ⟨0xf90000, [(0x100, 4)], 28, 1, .rw, .const 0⟩
def Reg.crcCtl_width : Fld := ⟨0xf90000, [(0x100, 4)], 0, 7, .rw, .const 0x20⟩
def Reg.crcStatus_busy : Fld := ⟨0xf90004, [(0x100, 4)], 31, 1, .ro, .const 0⟩
def Reg.crcStatus_done : Fld := ⟨0xf90004, [(0x100, 4)], 30, 1, .w1c, .const 0⟩
def Reg.crcStatus_ignored : Fld := ⟨0xf90004, [(0x100, 4)], 29, 1, .w1c, .const 0⟩
def Reg.crcStatus_err : Fld := ⟨0xf90004, [(0x100, 4)], 0, 4, .ro, .const 0⟩
def Reg.crcPolyLo_value : Fld := ⟨0xf90010, [(0x100, 4)], 0, 32, .rw, .const 0⟩
def Reg.crcPolyHi_value : Fld := ⟨0xf90014, [(0x100, 4)], 0, 32, .rw, .const 0⟩
def Reg.crcInitLo_value : Fld := ⟨0xf90018, [(0x100, 4)], 0, 32, .rw, .const 0⟩
def Reg.crcInitHi_value : Fld := ⟨0xf9001c, [(0x100, 4)], 0, 32, .rw, .const 0⟩
def Reg.crcXoroutLo_value : Fld := ⟨0xf90020, [(0x100, 4)], 0, 32, .rw, .const 0⟩
def Reg.crcXoroutHi_value : Fld := ⟨0xf90024, [(0x100, 4)], 0, 32, .rw, .const 0⟩
def Reg.crcSrcLo_value : Fld := ⟨0xf90028, [(0x100, 4)], 0, 32, .rw, .const 0⟩
def Reg.crcSrcHi_value : Fld := ⟨0xf9002c, [(0x100, 4)], 0, 32, .rw, .const 0⟩
def Reg.crcLenLo_value : Fld := ⟨0xf90030, [(0x100, 4)], 0, 32, .rw, .const 0⟩
def Reg.crcLenHi_value : Fld := ⟨0xf90034, [(0x100, 4)], 0, 8, .rw, .const 0⟩
def Reg.crcResultLo_value : Fld := ⟨0xf90038, [(0x100, 4)], 0, 32, .ro, .const 0⟩
def Reg.crcResultHi_value : Fld := ⟨0xf9003c, [(0x100, 4)], 0, 32, .ro, .const 0⟩

/-- Rows of the register table, part 0: name, offset, strides with instance counts, fields (R471-R473). -/
def Reg.rows0 : List RegRow := [
  ⟨"HUB_ID", 0x0, [], [Reg.hubId_part, Reg.hubId_cirqueRev, Reg.hubId_guest1Fitted, Reg.hubId_guest0Fitted]⟩,
  ⟨"HUB_BOOT_STATUS", 0x20, [], [Reg.hubBootStatus_ready, Reg.hubBootStatus_lastReset, Reg.hubBootStatus_stage]⟩,
  ⟨"HUB_RESET_CTL", 0x24, [], [Reg.hubResetCtl_module, Reg.hubResetCtl_key]⟩,
  ⟨"HUB_CLK_STATUS", 0x100, [], [Reg.hubClkStatus_treeBUp, Reg.hubClkStatus_treeAUp, Reg.hubClkStatus_refSubstitute, Reg.hubClkStatus_holdover, Reg.hubClkStatus_refPresent, Reg.hubClkStatus_rootLock]⟩,
  ⟨"HUB_CLK_EVENTS", 0x104, [], [Reg.hubClkEvents_dieTreeSwitch, Reg.hubClkEvents_rootUnlock, Reg.hubClkEvents_refLost, Reg.hubClkEvents_treeBFail, Reg.hubClkEvents_treeAFail, Reg.hubClkEvents_dieClkLost]⟩,
  ⟨"HUB_CLK_TREE_SEL0", 0x110, [], [Reg.hubClkTreeSel0_treeBUse]⟩,
  ⟨"HUB_CLK_TREE_SEL1", 0x114, [], [Reg.hubClkTreeSel1_treeBUse]⟩,
  ⟨"HUB_CLK_TREE_SEL2", 0x118, [], [Reg.hubClkTreeSel2_treeBUse]⟩,
  ⟨"HUB_ROUND_LO", 0x120, [], [Reg.hubRoundLo_round]⟩,
  ⟨"HUB_ROUND_HI", 0x124, [], [Reg.hubRoundHi_round]⟩,
  ⟨"HUB_STRUCT_SRC_LO", 0x200, [], [Reg.hubStructSrcLo_addr]⟩,
  ⟨"HUB_STRUCT_SRC_HI", 0x204, [], [Reg.hubStructSrcHi_addr]⟩,
  ⟨"HUB_STRUCT_LEN", 0x208, [], [Reg.hubStructLen_len]⟩,
  ⟨"HUB_STRUCT_CTL", 0x20c, [], [Reg.hubStructCtl_persist, Reg.hubStructCtl_abort, Reg.hubStructCtl_commit, Reg.hubStructCtl_verify]⟩,
  ⟨"HUB_STRUCT_STATUS", 0x210, [], [Reg.hubStructStatus_result, Reg.hubStructStatus_persistFail, Reg.hubStructStatus_ignoredCmd, Reg.hubStructStatus_defaultStruct, Reg.hubStructStatus_bootSlot, Reg.hubStructStatus_state]⟩,
  ⟨"HUB_STRUCT_FAIL_SECT", 0x214, [], [Reg.hubStructFailSect_type]⟩,
  ⟨"HUB_STRUCT_FAIL_OFFSET", 0x218, [], [Reg.hubStructFailOffset_offset]⟩,
  ⟨"HUB_STRUCT_QUIESCE_LIMIT", 0x21c, [], [Reg.hubStructQuiesceLimit_limitMs]⟩,
  ⟨"HUB_STRUCT_SERIAL", 0x220, [], [Reg.hubStructSerial_serial]⟩,
  ⟨"HUB_STRUCT_SECVER", 0x224, [], [Reg.hubStructSecver_securityVersion]⟩,
  ⟨"HUB_STRUCT_HASH", 0x230, [(0x4, 12)], [Reg.hubStructHash_hash]⟩,
  ⟨"HUB_APERTURE_BASE", 0x300, [], [Reg.hubApertureBase_base256m]⟩,
  ⟨"HUB_HOST_STAGE", 0x310, [], [Reg.hubHostStage_fabricBound, Reg.hubHostStage_usedMib]⟩,
  ⟨"HUB_MSIX_TABLE", 0x8000, [(0x4, 8192)], [Reg.hubMsixTable_word]⟩]

/-- Rows of the register table, part 1: name, offset, strides with instance counts, fields (R471-R473). -/
def Reg.rows1 : List RegRow := [
  ⟨"HUB_MSIX_PBA", 0x10000, [(0x4, 64)], [Reg.hubMsixPba_bits]⟩,
  ⟨"QUE_SQ_BASE_LO", 0x100000, [(0x40, 16384)], [Reg.queSqBaseLo_addr]⟩,
  ⟨"QUE_SQ_BASE_HI", 0x100004, [(0x40, 16384)], [Reg.queSqBaseHi_addr]⟩,
  ⟨"QUE_CQ_BASE_LO", 0x100008, [(0x40, 16384)], [Reg.queCqBaseLo_addr]⟩,
  ⟨"QUE_CQ_BASE_HI", 0x10000c, [(0x40, 16384)], [Reg.queCqBaseHi_addr]⟩,
  ⟨"QUE_CFG", 0x100010, [(0x40, 16384)], [Reg.queCfg_sqDepthLog2, Reg.queCfg_cqDepthLog2, Reg.queCfg_intEn, Reg.queCfg_weight, Reg.queCfg_vector]⟩,
  ⟨"QUE_INTR", 0x100014, [(0x40, 16384)], [Reg.queIntr_coalRounds, Reg.queIntr_coalCount]⟩,
  ⟨"QUE_OWNER_LO", 0x100018, [(0x40, 16384)], [Reg.queOwnerLo_ownerKey]⟩,
  ⟨"QUE_OWNER_HI", 0x10001c, [(0x40, 16384)], [Reg.queOwnerHi_ownerKey]⟩,
  ⟨"QUE_CTL", 0x100020, [], [Reg.queCtl_disable, Reg.queCtl_enable]⟩,
  ⟨"QUE_STATUS", 0x100024, [(0x40, 16384)], [Reg.queStatus_state, Reg.queStatus_err, Reg.queStatus_inFlight]⟩,
  ⟨"QUE_PTRS", 0x100028, [(0x40, 16384)], [Reg.quePtrs_cqTail, Reg.quePtrs_sqHead]⟩,
  ⟨"QUE_COUNTS", 0x10002c, [(0x40, 16384)], [Reg.queCounts_bound, Reg.queCounts_progressDropped]⟩,
  ⟨"CTX_SEL", 0x200000, [], [Reg.ctxSel_latchView, Reg.ctxSel_ctxId]⟩,
  ⟨"CTX_VIEW_STATUS", 0x200004, [], [Reg.ctxViewStatus_viewValid, Reg.ctxViewStatus_state]⟩,
  ⟨"CTX_DESC", 0x200040, [(0x4, 32)], [Reg.ctxDesc_word]⟩,
  ⟨"CTX_COUNT0", 0x200100, [], [Reg.ctxCount0_hot, Reg.ctxCount0_loaded]⟩,
  ⟨"CTX_COUNT1", 0x200104, [], [Reg.ctxCount1_running, Reg.ctxCount1_pinnedBanks]⟩,
  ⟨"CTX_FILLS", 0x200110, [], [Reg.ctxFills_fills]⟩,
  ⟨"CTX_FILL_FAULTS", 0x200114, [], [Reg.ctxFillFaults_fillFaults]⟩,
  ⟨"CTX_MIGRATIONS", 0x200118, [], [Reg.ctxMigrations_migrations]⟩,
  ⟨"CTX_BIND_USED", 0x200120, [], [Reg.ctxBindUsed_bindings]⟩,
  ⟨"ADM_STATUS", 0x300000, [], [Reg.admStatus_running, Reg.admStatus_quiesced, Reg.admStatus_decideRounds, Reg.admStatus_bookedAhead]⟩,
  ⟨"ADM_CTL", 0x300004, [], [Reg.admCtl_headroomC]⟩]

/-- Rows of the register table, part 2: name, offset, strides with instance counts, fields (R471-R473). -/
def Reg.rows2 : List RegRow := [
  ⟨"ADM_ACCEPTED_LO", 0x300010, [], [Reg.admAcceptedLo_accepted]⟩,
  ⟨"ADM_ACCEPTED_HI", 0x300014, [], [Reg.admAcceptedHi_accepted]⟩,
  ⟨"ADM_REJECTED", 0x300018, [], [Reg.admRejected_count]⟩,
  ⟨"ADM_LATE", 0x30001c, [], [Reg.admLate_count]⟩,
  ⟨"ADM_LATE_SECOND", 0x300020, [], [Reg.admLateSecond_count]⟩,
  ⟨"ADM_LATE_UNPROT", 0x300024, [], [Reg.admLateUnprot_count]⟩,
  ⟨"ADM_LATE_UNEXPLAINED", 0x300028, [], [Reg.admLateUnexplained_count]⟩,
  ⟨"ADM_THROTTLE_HELD", 0x30002c, [], [Reg.admThrottleHeld_count]⟩,
  ⟨"ADM_REJ_REASON", 0x300040, [(0x4, 12)], [Reg.admRejReason_count]⟩,
  ⟨"ADM_COPY_PEAK", 0x300080, [], [Reg.admCopyPeak_peakBytes]⟩,
  ⟨"ADM_COPY_BOOKED", 0x300084, [], [Reg.admCopyBooked_roundBytes]⟩,
  ⟨"ADM_FILL_BOOKED", 0x300088, [], [Reg.admFillBooked_cxlBooked, Reg.admFillBooked_gddr7Booked]⟩,
  ⟨"ADM_CNT_CLR", 0x3000a0, [], [Reg.admCntClr_clrPeak, Reg.admCntClr_clrReasons, Reg.admCntClr_clrOutcomes]⟩,
  ⟨"ADM_TINE_PAIR", 0x301000, [(0x4, 72)], [Reg.admTinePair_commitN, Reg.admTinePair_commitG, Reg.admTinePair_countN, Reg.admTinePair_countG]⟩,
  ⟨"TINE_ID", 0x400000, [(0x10000, 72)], [Reg.tineId_dieRev, Reg.tineId_site]⟩,
  ⟨"TINE_STATE", 0x400004, [(0x10000, 72)], [Reg.tineState_bundlesHalf, Reg.tineState_bundlesFull, Reg.tineState_siteState]⟩,
  ⟨"TINE_CLK", 0x400008, [(0x10000, 72)], [Reg.tineClk_nPending, Reg.tineClk_gatePending, Reg.tineClk_n, Reg.tineClk_gate]⟩,
  ⟨"TINE_BANK_STATUS", 0x400010, [(0x10000, 72)], [Reg.tineBankStatus_switching, Reg.tineBankStatus_runningBank, Reg.tineBankStatus_bankBState, Reg.tineBankStatus_bankAState]⟩,
  ⟨"TINE_BANK_CTX", 0x400014, [(0x10000, 72)], [Reg.tineBankCtx_ctxB, Reg.tineBankCtx_ctxA]⟩,
  ⟨"TINE_FILL_PROGRESS", 0x400018, [(0x10000, 72)], [Reg.tineFillProgress_fillGranules]⟩,
  ⟨"TINE_SEQ_STATUS", 0x400020, [(0x10000, 72)], [Reg.tineSeqStatus_stageActive, Reg.tineSeqStatus_pc, Reg.tineSeqStatus_stageId]⟩,
  ⟨"TINE_FAULT", 0x400030, [(0x10000, 72)], [Reg.tineFault_bundleLoss, Reg.tineFault_clkLost, Reg.tineFault_thermalShutdown, Reg.tineFault_programFault, Reg.tineFault_pstoreUncorr, Reg.tineFault_wstoreUncorr, Reg.tineFault_bankUncorr, Reg.tineFault_residueFail, Reg.tineFault_checksumFail, Reg.tineFault_entryTestFail]⟩,
  ⟨"TINE_FAULT_ADDR", 0x400034, [(0x10000, 72)], [Reg.tineFaultAddr_addr]⟩,
  ⟨"TINE_ECC_CORR", 0x400040, [(0x10000, 72)], [Reg.tineEccCorr_corrected]⟩]

/-- Rows of the register table, part 3: name, offset, strides with instance counts, fields (R471-R473). -/
def Reg.rows3 : List RegRow := [
  ⟨"TINE_ECC_CHECKFIELD", 0x400044, [(0x10000, 72)], [Reg.tineEccCheckfield_checkFieldCorrected]⟩,
  ⟨"TINE_CYCLES_LO", 0x400050, [(0x10000, 72)], [Reg.tineCyclesLo_cycles]⟩,
  ⟨"TINE_CYCLES_HI", 0x400054, [(0x10000, 72)], [Reg.tineCyclesHi_cycles]⟩,
  ⟨"TINE_MAT_PASSES_LO", 0x400058, [(0x10000, 72)], [Reg.tineMatPassesLo_passes]⟩,
  ⟨"TINE_MAT_PASSES_HI", 0x40005c, [(0x10000, 72)], [Reg.tineMatPassesHi_passes]⟩,
  ⟨"TINE_SPARE_ROWS", 0x400060, [(0x10000, 72)], [Reg.tineSpareRows_arraysExhausted, Reg.tineSpareRows_spareRowsUsed]⟩,
  ⟨"TINE_CNT_CLR", 0x400070, [(0x10000, 72)], [Reg.tineCntClr_clrActivity, Reg.tineCntClr_clrCheckfield, Reg.tineCntClr_clrCorr]⟩,
  ⟨"FIRN_STATUS", 0x900000, [(0x10000, 16)], [Reg.firnStatus_domainOn, Reg.firnStatus_portsSafe, Reg.firnStatus_portsUp]⟩,
  ⟨"FIRN_SPARE_CFG", 0x900010, [(0x10000, 16)], [Reg.firnSpareCfg_inUse, Reg.firnSpareCfg_failed, Reg.firnSpareCfg_sparePort]⟩,
  ⟨"FIRN_PORT_STATUS", 0x900100, [(0x10000, 16), (0x100, 4)], [Reg.firnPortStatus_state, Reg.firnPortStatus_clkFallback, Reg.firnPortStatus_onSpare, Reg.firnPortStatus_txWidth, Reg.firnPortStatus_rxWidth, Reg.firnPortStatus_clkSource]⟩,
  ⟨"FIRN_PORT_LANES", 0x900104, [(0x10000, 16), (0x100, 4)], [Reg.firnPortLanes_rxMap, Reg.firnPortLanes_txMap]⟩,
  ⟨"FIRN_PORT_LATENCY", 0x900108, [(0x10000, 16), (0x100, 4)], [Reg.firnPortLatency_oneWayPs]⟩,
  ⟨"FIRN_PORT_CTL", 0x90010c, [(0x10000, 16), (0x100, 4)], [Reg.firnPortCtl_retrain, Reg.firnPortCtl_clearSafety, Reg.firnPortCtl_useSpare, Reg.firnPortCtl_pattern, Reg.firnPortCtl_loopMode]⟩,
  ⟨"FIRN_PORT_EVENTS", 0x900110, [(0x10000, 16), (0x100, 4)], [Reg.firnPortEvents_trainFail, Reg.firnPortEvents_fibreOverpower, Reg.firnPortEvents_fibreDark, Reg.firnPortEvents_fallback, Reg.firnPortEvents_clkLost, Reg.firnPortEvents_waveLost]⟩,
  ⟨"FIRN_WAVE_TX", 0x901000, [(0x10000, 16), (0x400, 4), (0x20, 17)], [Reg.firnWaveTx_pre, Reg.firnWaveTx_main, Reg.firnWaveTx_post, Reg.firnWaveTx_txLock, Reg.firnWaveTx_txHeater]⟩,
  ⟨"FIRN_WAVE_RX", 0x901004, [(0x10000, 16), (0x400, 4), (0x20, 17)], [Reg.firnWaveRx_rxLock, Reg.firnWaveRx_coarse, Reg.firnWaveRx_fine, Reg.firnWaveRx_rxHeater]⟩,
  ⟨"FIRN_WAVE_POWER", 0x901008, [(0x10000, 16), (0x400, 4), (0x20, 17)], [Reg.firnWavePower_txPower, Reg.firnWavePower_rxPower]⟩,
  ⟨"FIRN_WAVE_ERR", 0x90100c, [(0x10000, 16), (0x400, 4), (0x20, 17)], [Reg.firnWaveErr_errors]⟩,
  ⟨"LAS_STATUS", 0xa00000, [(0x10000, 4)], [Reg.lasStatus_domainOn, Reg.lasStatus_sparesLeft, Reg.lasStatus_swapSlot, Reg.lasStatus_swapBusy, Reg.lasStatus_lit]⟩,
  ⟨"LAS_EVENTS", 0xa00004, [(0x10000, 4)], [Reg.lasEvents_eolWarn, Reg.lasEvents_slotExhausted, Reg.lasEvents_swapDeferred, Reg.lasEvents_swapDone, Reg.lasEvents_overpowerCut, Reg.lasEvents_laserFail]⟩,
  ⟨"LAS_CTL", 0xa00008, [(0x10000, 4)], [Reg.lasCtl_autoSwap, Reg.lasCtl_swap, Reg.lasCtl_swapSlotSel]⟩,
  ⟨"LAS_EOL", 0xa0000c, [(0x10000, 4)], [Reg.lasEol_eolRatio]⟩,
  ⟨"LAS_SLOT_STATUS", 0xa00100, [(0x10000, 4), (0x10, 17)], [Reg.lasSlotStatus_removed, Reg.lasSlotStatus_activeUnit, Reg.lasSlotStatus_pState, Reg.lasSlotStatus_sState]⟩,
  ⟨"LAS_SLOT_MON", 0xa00104, [(0x10000, 4), (0x10, 17)], [Reg.lasSlotMon_biasRatio, Reg.lasSlotMon_power]⟩]

/-- Rows of the register table, part 4: name, offset, strides with instance counts, fields (R471-R473). -/
def Reg.rows4 : List RegRow := [
  ⟨"LAS_SLOT_WAVE", 0xa00108, [(0x10000, 4), (0x10, 17)], [Reg.lasSlotWave_waveErr]⟩,
  ⟨"FAB_LINK_STATUS", 0xa40000, [(0x4000, 64)], [Reg.fabLinkStatus_state, Reg.fabLinkStatus_master, Reg.fabLinkStatus_downReason, Reg.fabLinkStatus_peerPkg, Reg.fabLinkStatus_peerPort]⟩,
  ⟨"FAB_LINK_CTL", 0xa40004, [(0x4000, 64)], [Reg.fabLinkCtl_flushNow, Reg.fabLinkCtl_retrainFull, Reg.fabLinkCtl_reinit]⟩,
  ⟨"FAB_SEQ_TX", 0xa40008, [(0x4000, 64)], [Reg.fabSeqTx_acked, Reg.fabSeqTx_nextSeq]⟩,
  ⟨"FAB_SEQ_RX", 0xa4000c, [(0x4000, 64)], [Reg.fabSeqRx_nakActive, Reg.fabSeqRx_expected]⟩,
  ⟨"FAB_REPLAY", 0xa40010, [(0x4000, 64)], [Reg.fabReplay_unacked]⟩,
  ⟨"FAB_VC_ADV", 0xa40040, [(0x4000, 64), (0x8, 8)], [Reg.fabVcAdv_advD, Reg.fabVcAdv_advH]⟩,
  ⟨"FAB_VC_AVAIL", 0xa40044, [(0x4000, 64), (0x8, 8)], [Reg.fabVcAvail_availD, Reg.fabVcAvail_availH]⟩,
  ⟨"FAB_EVENTS", 0xa40080, [(0x4000, 64)], [Reg.fabEvents_graceRecovered, Reg.fabEvents_flushed, Reg.fabEvents_waveGivenUp, Reg.fabEvents_mapChange, Reg.fabEvents_selfLoop, Reg.fabEvents_roleMismatch, Reg.fabEvents_replayTimeout, Reg.fabEvents_creditLeak]⟩,
  ⟨"FAB_WAVE_RETRY", 0xa40090, [(0x4000, 64)], [Reg.fabWaveRetry_givenUp, Reg.fabWaveRetry_retrySlot, Reg.fabWaveRetry_attempts]⟩,
  ⟨"FAB_CRC_ERR", 0xa40100, [(0x4000, 64)], [Reg.fabCrcErr_count]⟩,
  ⟨"FAB_NAK_SENT", 0xa40104, [(0x4000, 64)], [Reg.fabNakSent_count]⟩,
  ⟨"FAB_REPLAYED_FLITS", 0xa40108, [(0x4000, 64)], [Reg.fabReplayedFlits_count]⟩,
  ⟨"FAB_ACK_TIMEOUTS", 0xa4010c, [(0x4000, 64)], [Reg.fabAckTimeouts_count]⟩,
  ⟨"FAB_ACK_ERR", 0xa40110, [(0x4000, 64)], [Reg.fabAckErr_count]⟩,
  ⟨"FAB_DUPLICATES", 0xa40114, [(0x4000, 64)], [Reg.fabDuplicates_count]⟩,
  ⟨"FAB_CODE_CORR", 0xa40118, [(0x4000, 64)], [Reg.fabCodeCorr_count]⟩,
  ⟨"FAB_CODE_CHECKFIELD", 0xa4011c, [(0x4000, 64)], [Reg.fabCodeCheckfield_count]⟩,
  ⟨"FAB_BUDGET_ZERO", 0xa40120, [(0x4000, 64)], [Reg.fabBudgetZero_count]⟩,
  ⟨"FAB_FLUSHED_PKTS", 0xa40124, [(0x4000, 64)], [Reg.fabFlushedPkts_count]⟩,
  ⟨"FAB_MAP_CHANGES", 0xa40128, [(0x4000, 64)], [Reg.fabMapChanges_count]⟩,
  ⟨"FAB_CREDIT_LEAKS", 0xa4012c, [(0x4000, 64)], [Reg.fabCreditLeaks_count]⟩,
  ⟨"FAB_CNT_CLR", 0xa40140, [(0x4000, 64)], [Reg.fabCntClr_clrAll]⟩,
  ⟨"RTE_ID", 0xb40000, [], [Reg.rteId_assigned, Reg.rteId_pkgId]⟩]

/-- Rows of the register table, part 5: name, offset, strides with instance counts, fields (R471-R473). -/
def Reg.rows5 : List RegRow := [
  ⟨"RTE_CTL", 0xb40004, [], [Reg.rteCtl_commit, Reg.rteCtl_detourEn, Reg.rteCtl_detourThresh]⟩,
  ⟨"RTE_STATUS", 0xb40008, [], [Reg.rteStatus_commitPending, Reg.rteStatus_ignoredWrite]⟩,
  ⟨"RTE_NO_ROUTE", 0xb40100, [], [Reg.rteNoRoute_count]⟩,
  ⟨"RTE_BAD_HEADER", 0xb40104, [], [Reg.rteBadHeader_count]⟩,
  ⟨"RTE_HOP_LIMIT", 0xb40108, [], [Reg.rteHopLimit_count]⟩,
  ⟨"RTE_DETOURED", 0xb4010c, [], [Reg.rteDetoured_count]⟩,
  ⟨"RTE_EPOCH_DISCARDS", 0xb40110, [], [Reg.rteEpochDiscards_count]⟩,
  ⟨"RTE_TRANSIT_PKTS", 0xb40114, [], [Reg.rteTransitPkts_count]⟩,
  ⟨"RTE_CNT_CLR", 0xb40140, [], [Reg.rteCntClr_clrAll]⟩,
  ⟨"RTE_GROUP_SH", 0xb41000, [(0x4, 512)], [Reg.rteGroupSh_word]⟩,
  ⟨"RTE_LOCAL_SH", 0xb41800, [(0x4, 32)], [Reg.rteLocalSh_word]⟩,
  ⟨"RTE_EXC_SH", 0xb42000, [(0x8, 1024)], [Reg.rteExcSh_lo]⟩,
  ⟨"RTE_EXC_SH_HI", 0xb42004, [(0x8, 1024)], [Reg.rteExcShHi_hi]⟩,
  ⟨"RTE_GROUP", 0xb45000, [(0x4, 512)], [Reg.rteGroup_word]⟩,
  ⟨"RTE_LOCAL", 0xb45800, [(0x4, 32)], [Reg.rteLocal_word]⟩,
  ⟨"RTE_EXC", 0xb46000, [(0x8, 1024)], [Reg.rteExc_lo]⟩,
  ⟨"RTE_EXC_HI", 0xb46004, [(0x8, 1024)], [Reg.rteExcHi_hi]⟩,
  ⟨"QLK_LINK_STATUS", 0xc00000, [(0x400, 90)], [Reg.qlkLinkStatus_up, Reg.qlkLinkStatus_capMismatch, Reg.qlkLinkStatus_fuseCrc, Reg.qlkLinkStatus_fuseMismatch, Reg.qlkLinkStatus_baselineDiff, Reg.qlkLinkStatus_bundlesRetired, Reg.qlkLinkStatus_bundlesHalf, Reg.qlkLinkStatus_bundlesFull]⟩,
  ⟨"QLK_CAP", 0xc00004, [(0x400, 90)], [Reg.qlkCap_verMajor, Reg.qlkCap_verMinor, Reg.qlkCap_classMask, Reg.qlkCap_retimers]⟩,
  ⟨"QLK_MAX_PAYLOAD", 0xc00008, [(0x400, 90)], [Reg.qlkMaxPayload_maxPayload]⟩,
  ⟨"QLK_CTL", 0xc0000c, [(0x400, 90)], [Reg.qlkCtl_retrain, Reg.qlkCtl_bundleSel]⟩,
  ⟨"QLK_BUNDLE_STATE", 0xc00010, [(0x400, 90), (0x4, 16)], [Reg.qlkBundleState_state, Reg.qlkBundleState_half, Reg.qlkBundleState_failedRetrains]⟩,
  ⟨"QLK_MAP_TX", 0xc00100, [(0x400, 90), (0x10, 16)], [Reg.qlkMapTx_half, Reg.qlkMapTx_clkWire, Reg.qlkMapTx_sidebandWire, Reg.qlkMapTx_failedMask]⟩,
  ⟨"QLK_REPL_TX", 0xc00104, [(0x400, 90), (0x10, 16)], [Reg.qlkReplTx_repl1, Reg.qlkReplTx_repl0]⟩]

/-- Rows of the register table, part 6: name, offset, strides with instance counts, fields (R471-R473). -/
def Reg.rows6 : List RegRow := [
  ⟨"QLK_MAP_RX", 0xc00108, [(0x400, 90), (0x10, 16)], [Reg.qlkMapRx_half, Reg.qlkMapRx_clkWire, Reg.qlkMapRx_sidebandWire, Reg.qlkMapRx_failedMask]⟩,
  ⟨"QLK_REPL_RX", 0xc0010c, [(0x400, 90), (0x10, 16)], [Reg.qlkReplRx_repl1, Reg.qlkReplRx_repl0]⟩,
  ⟨"QLK_CORR", 0xc00200, [(0x400, 90)], [Reg.qlkCorr_count]⟩,
  ⟨"QLK_CHECKFIELD", 0xc00204, [(0x400, 90)], [Reg.qlkCheckfield_count]⟩,
  ⟨"QLK_RETRIES", 0xc00208, [(0x400, 90)], [Reg.qlkRetries_count]⟩,
  ⟨"QLK_FRAME_ERR", 0xc0020c, [(0x400, 90)], [Reg.qlkFrameErr_count]⟩,
  ⟨"QLK_ACK_TIMEOUTS", 0xc00210, [(0x400, 90)], [Reg.qlkAckTimeouts_count]⟩,
  ⟨"QLK_RETRAINS", 0xc00214, [(0x400, 90)], [Reg.qlkRetrains_count]⟩,
  ⟨"QLK_WIDTH_MISMATCH", 0xc00218, [(0x400, 90)], [Reg.qlkWidthMismatch_count]⟩,
  ⟨"QLK_POISON_RX", 0xc0021c, [(0x400, 90)], [Reg.qlkPoisonRx_count]⟩,
  ⟨"QLK_CNT_CLR", 0xc00220, [(0x400, 90)], [Reg.qlkCntClr_clrAll]⟩,
  ⟨"QLK_FUSE", 0xc00300, [(0x400, 90), (0x4, 32)], [Reg.qlkFuse_word]⟩,
  ⟨"QLK_FW_CTL", 0xc80000, [(0x1000, 2)], [Reg.qlkFwCtl_fenced, Reg.qlkFwCtl_unfence, Reg.qlkFwCtl_clrViol, Reg.qlkFwCtl_fenceOnViol, Reg.qlkFwCtl_en]⟩,
  ⟨"QLK_FW_CLASS", 0xc80004, [(0x1000, 2)], [Reg.qlkFwClass_permit]⟩,
  ⟨"QLK_FW_BW", 0xc80008, [(0x1000, 2)], [Reg.qlkFwBw_ceiling]⟩,
  ⟨"QLK_FW_VEC", 0xc8000c, [(0x1000, 2)], [Reg.qlkFwVec_vecCount, Reg.qlkFwVec_vecBase]⟩,
  ⟨"QLK_FW_VIOL_COUNT", 0xc80010, [(0x1000, 2)], [Reg.qlkFwViolCount_count]⟩,
  ⟨"QLK_FW_VIOL_INFO", 0xc80014, [(0x1000, 2)], [Reg.qlkFwViolInfo_class, Reg.qlkFwViolInfo_op, Reg.qlkFwViolInfo_cause]⟩,
  ⟨"QLK_FW_VIOL_ADDR_LO", 0xc80018, [(0x1000, 2)], [Reg.qlkFwViolAddrLo_addr]⟩,
  ⟨"QLK_FW_VIOL_ADDR_HI", 0xc8001c, [(0x1000, 2)], [Reg.qlkFwViolAddrHi_addr]⟩,
  ⟨"QLK_FW_WIN_BASE_LO", 0xc80100, [(0x1000, 2), (0x10, 16)], [Reg.qlkFwWinBaseLo_addr]⟩,
  ⟨"QLK_FW_WIN_BASE_HI", 0xc80104, [(0x1000, 2), (0x10, 16)], [Reg.qlkFwWinBaseHi_addr]⟩,
  ⟨"QLK_FW_WIN_SIZE", 0xc80108, [(0x1000, 2), (0x10, 16)], [Reg.qlkFwWinSize_sizeMib]⟩,
  ⟨"QLK_FW_WIN_RIGHTS", 0xc8010c, [(0x1000, 2), (0x10, 16)], [Reg.qlkFwWinRights_rejected, Reg.qlkFwWinRights_coherent, Reg.qlkFwWinRights_x, Reg.qlkFwWinRights_w, Reg.qlkFwWinRights_r]⟩]

/-- Rows of the register table, part 7: name, offset, strides with instance counts, fields (R471-R473). -/
def Reg.rows7 : List RegRow := [
  ⟨"QLK_DBG_CTL", 0xcc0000, [], [Reg.qlkDbgCtl_go, Reg.qlkDbgCtl_write, Reg.qlkDbgCtl_busy, Reg.qlkDbgCtl_status, Reg.qlkDbgCtl_conn]⟩,
  ⟨"QLK_DBG_ADDR", 0xcc0004, [], [Reg.qlkDbgAddr_addr]⟩,
  ⟨"QLK_DBG_DATA", 0xcc0008, [], [Reg.qlkDbgData_data]⟩,
  ⟨"MEM_STATUS", 0xd00000, [], [Reg.memStatus_ready, Reg.memStatus_moduleBand, Reg.memStatus_devTrained]⟩,
  ⟨"MEM_HOST_REGION", 0xd00004, [], [Reg.memHostRegion_size256m]⟩,
  ⟨"MEM_SCRUB_CTL", 0xd00010, [], [Reg.memScrubCtl_scrubEn, Reg.memScrubCtl_periodH]⟩,
  ⟨"MEM_SCRUB_STATUS", 0xd00014, [], [Reg.memScrubStatus_passes, Reg.memScrubStatus_progress]⟩,
  ⟨"MEM_DEV_TEMP", 0xd00100, [(0x20, 12)], [Reg.memDevTemp_band, Reg.memDevTemp_overtemp, Reg.memDevTemp_tempC]⟩,
  ⟨"MEM_DEV_CORR", 0xd00104, [(0x20, 12)], [Reg.memDevCorr_corrected]⟩,
  ⟨"MEM_DEV_CHECKFIELD", 0xd00108, [(0x20, 12)], [Reg.memDevCheckfield_checkFieldCorrected]⟩,
  ⟨"MEM_DEV_UNCORR", 0xd0010c, [(0x20, 12)], [Reg.memDevUncorr_uncorrectable]⟩,
  ⟨"MEM_DEV_SCRUB_CORR", 0xd00110, [(0x20, 12)], [Reg.memDevScrubCorr_scrubCorrected]⟩,
  ⟨"MEM_DEV_SCRUB_UNCORR", 0xd00114, [(0x20, 12)], [Reg.memDevScrubUncorr_scrubUncorrectable]⟩,
  ⟨"MEM_DEV_POISON_READ", 0xd00118, [(0x20, 12)], [Reg.memDevPoisonRead_poisonReads]⟩,
  ⟨"MEM_LAST_UNCORR_LO", 0xd00300, [], [Reg.memLastUncorrLo_addr]⟩,
  ⟨"MEM_LAST_UNCORR_HI", 0xd00304, [], [Reg.memLastUncorrHi_source, Reg.memLastUncorrHi_addr]⟩,
  ⟨"MEM_LAST_UNCORR_SYN", 0xd00308, [], [Reg.memLastUncorrSyn_syndrome]⟩,
  ⟨"MEM_CIRQUE_CORR", 0xd00310, [], [Reg.memCirqueCorr_count]⟩,
  ⟨"MEM_CIRQUE_UNCORR", 0xd00314, [], [Reg.memCirqueUncorr_count]⟩,
  ⟨"MEM_MESH_CORR", 0xd00318, [], [Reg.memMeshCorr_count]⟩,
  ⟨"MEM_MESH_UNCORR", 0xd0031c, [], [Reg.memMeshUncorr_count]⟩,
  ⟨"MEM_CNT_CLR", 0xd00320, [], [Reg.memCntClr_clrCirque, Reg.memCntClr_clrDev]⟩,
  ⟨"CXL_PORT_STATUS", 0xd10000, [(0x1000, 2)], [Reg.cxlPortStatus_ready, Reg.cxlPortStatus_reason, Reg.cxlPortStatus_rate, Reg.cxlPortStatus_width]⟩,
  ⟨"CXL_MAPPED", 0xd10004, [(0x1000, 2)], [Reg.cxlMapped_mapped256m]⟩]

/-- Rows of the register table, part 8: name, offset, strides with instance counts, fields (R471-R473). -/
def Reg.rows8 : List RegRow := [
  ⟨"CXL_SERIAL_LO", 0xd10008, [(0x1000, 2)], [Reg.cxlSerialLo_serial]⟩,
  ⟨"CXL_SERIAL_HI", 0xd1000c, [(0x1000, 2)], [Reg.cxlSerialHi_serial]⟩,
  ⟨"CXL_CORR", 0xd10010, [(0x1000, 2)], [Reg.cxlCorr_count]⟩,
  ⟨"CXL_CHECKFIELD", 0xd10014, [(0x1000, 2)], [Reg.cxlCheckfield_count]⟩,
  ⟨"CXL_UNCORR", 0xd10018, [(0x1000, 2)], [Reg.cxlUncorr_count]⟩,
  ⟨"CXL_POISON_RX", 0xd1001c, [(0x1000, 2)], [Reg.cxlPoisonRx_count]⟩,
  ⟨"CXL_LINK_DOWN", 0xd10020, [(0x1000, 2)], [Reg.cxlLinkDown_count]⟩,
  ⟨"PAIR_STATUS", 0xe00000, [], [Reg.pairStatus_state, Reg.pairStatus_formed, Reg.pairStatus_leaseHeld, Reg.pairStatus_preferredActive]⟩,
  ⟨"PAIR_IDS", 0xe00004, [], [Reg.pairIds_peerPkg, Reg.pairIds_witnessPkg]⟩,
  ⟨"PAIR_EPOCH", 0xe00008, [], [Reg.pairEpoch_epoch]⟩,
  ⟨"PAIR_ACKED", 0xe0000c, [], [Reg.pairAcked_roundAcked]⟩,
  ⟨"PAIR_SYNC", 0xe00010, [], [Reg.pairSync_granulesLeft]⟩,
  ⟨"PAIR_LEASE_CTL", 0xe00040, [], [Reg.pairLeaseCtl_guardUs, Reg.pairLeaseCtl_fenceUs, Reg.pairLeaseCtl_renewUs, Reg.pairLeaseCtl_leaseQuarterUs]⟩,
  ⟨"PAIR_LEASE_REMAIN", 0xe00044, [], [Reg.pairLeaseRemain_remainUs]⟩,
  ⟨"PAIR_EVENTS", 0xe00080, [], [Reg.pairEvents_ckptLost, Reg.pairEvents_handoverDone, Reg.pairEvents_syncDone, Reg.pairEvents_standbyLost, Reg.pairEvents_selfFence, Reg.pairEvents_failFastRx, Reg.pairEvents_failFastTx, Reg.pairEvents_switchover]⟩,
  ⟨"PAIR_SWITCHOVERS", 0xe00100, [], [Reg.pairSwitchovers_count]⟩,
  ⟨"PAIR_DELTA_RESENDS", 0xe00104, [], [Reg.pairDeltaResends_count]⟩,
  ⟨"PAIR_GATE_DELAYS", 0xe00108, [], [Reg.pairGateDelays_count]⟩,
  ⟨"PAIR_REQ_RESENT", 0xe0010c, [], [Reg.pairReqResent_count]⟩,
  ⟨"PAIR_CKPT_SHIPPED", 0xe00110, [], [Reg.pairCkptShipped_count]⟩,
  ⟨"PAIR_CNT_CLR", 0xe00140, [], [Reg.pairCntClr_clrAll]⟩,
  ⟨"PAIR_WITNESS_STATUS", 0xe00200, [], [Reg.pairWitnessStatus_starting, Reg.pairWitnessStatus_pairsServed]⟩,
  ⟨"PAIR_REDIRECT", 0xe01000, [(0x8, 256)], [Reg.pairRedirect_valid, Reg.pairRedirect_fromPkg, Reg.pairRedirect_toPkg]⟩,
  ⟨"PAIR_REDIRECT_EPOCH", 0xe01004, [(0x8, 256)], [Reg.pairRedirectEpoch_epoch]⟩]

/-- Rows of the register table, part 9: name, offset, strides with instance counts, fields (R471-R473). -/
def Reg.rows9 : List RegRow := [
  ⟨"THM_CH_STATUS", 0xe80000, [(0x4, 100)], [Reg.thmChStatus_state, Reg.thmChStatus_stale, Reg.thmChStatus_capIndex, Reg.thmChStatus_index, Reg.thmChStatus_temp]⟩,
  ⟨"THM_FORCE", 0xe80200, [], [Reg.thmForce_force, Reg.thmForce_release, Reg.thmForce_retest, Reg.thmForce_clearShutdown, Reg.thmForce_ch, Reg.thmForce_value]⟩,
  ⟨"THM_THRESH_TINE", 0xe80210, [], [Reg.thmThreshTine_shutdown, Reg.thmThreshTine_throttle, Reg.thmThreshTine_throttleHyst, Reg.thmThreshTine_warnHyst, Reg.thmThreshTine_warning]⟩,
  ⟨"THM_THRESH_FIRN", 0xe80214, [], [Reg.thmThreshFirn_shutdown, Reg.thmThreshFirn_throttle, Reg.thmThreshFirn_throttleHyst, Reg.thmThreshFirn_warnHyst, Reg.thmThreshFirn_warning]⟩,
  ⟨"THM_THRESH_LASER", 0xe80218, [], [Reg.thmThreshLaser_shutdown, Reg.thmThreshLaser_throttle, Reg.thmThreshLaser_throttleHyst, Reg.thmThreshLaser_warnHyst, Reg.thmThreshLaser_warning]⟩,
  ⟨"THM_THRESH_CIRQUE", 0xe8021c, [], [Reg.thmThreshCirque_shutdown, Reg.thmThreshCirque_throttle, Reg.thmThreshCirque_throttleHyst, Reg.thmThreshCirque_warnHyst, Reg.thmThreshCirque_warning]⟩,
  ⟨"THM_THRESH_GUEST", 0xe80220, [], [Reg.thmThreshGuest_shutdown, Reg.thmThreshGuest_throttle, Reg.thmThreshGuest_throttleHyst, Reg.thmThreshGuest_warnHyst, Reg.thmThreshGuest_warning]⟩,
  ⟨"THM_THRESH_BOARD", 0xe80224, [], [Reg.thmThreshBoard_shutdown, Reg.thmThreshBoard_throttle, Reg.thmThreshBoard_throttleHyst, Reg.thmThreshBoard_warnHyst, Reg.thmThreshBoard_warning]⟩,
  ⟨"THM_CURVE", 0xe80240, [(0x4, 21)], [Reg.thmCurve_n, Reg.thmCurve_g]⟩,
  ⟨"THM_EVENTS", 0xe80300, [], [Reg.thmEvents_dtLimit, Reg.thmEvents_sensorFailed, Reg.thmEvents_shutdown, Reg.thmEvents_throttle, Reg.thmEvents_warning]⟩,
  ⟨"PWR_STATUS", 0xea0000, [], [Reg.pwrStatus_overLimit, Reg.pwrStatus_inputCv, Reg.pwrStatus_moduleDw]⟩,
  ⟨"PWR_CTL", 0xea0004, [], [Reg.pwrCtl_limitW]⟩,
  ⟨"PWR_HOLDUP", 0xea0008, [], [Reg.pwrHoldup_ready, Reg.pwrHoldup_energyMj]⟩,
  ⟨"PWR_DOMAIN", 0xea0100, [(0x4, 170)], [Reg.pwrDomain_state, Reg.pwrDomain_pgood, Reg.pwrDomain_guestMv, Reg.pwrDomain_vmeasMv]⟩,
  ⟨"CAL_CTL", 0xec0000, [], [Reg.calCtl_run, Reg.calCtl_revert, Reg.calCtl_refSel, Reg.calCtl_quantMask]⟩,
  ⟨"CAL_STATUS", 0xec0004, [], [Reg.calStatus_state, Reg.calStatus_noSet, Reg.calStatus_countSat, Reg.calStatus_prevValid, Reg.calStatus_staleAny]⟩,
  ⟨"CAL_COUNT", 0xec0008, [], [Reg.calCount_count]⟩,
  ⟨"CAL_SEQ", 0xec000c, [], [Reg.calSeq_seq]⟩,
  ⟨"CAL_LAST_LO", 0xec0010, [], [Reg.calLastLo_opsec]⟩,
  ⟨"CAL_LAST_HI", 0xec0014, [], [Reg.calLastHi_opsec]⟩,
  ⟨"CAL_OPSEC_LO", 0xec0018, [], [Reg.calOpsecLo_opsec]⟩,
  ⟨"CAL_OPSEC_HI", 0xec001c, [], [Reg.calOpsecHi_opsec]⟩,
  ⟨"SAF_STATUS", 0xf00000, [], [Reg.safStatus_fatalLatched, Reg.safStatus_gateClosed, Reg.safStatus_faultPin, Reg.safStatus_unread]⟩,
  ⟨"SAF_CTL", 0xf00004, [], [Reg.safCtl_faultPinClr]⟩]

/-- Rows of the register table, part 10: name, offset, strides with instance counts, fields (R471-R473). -/
def Reg.rows10 : List RegRow := [
  ⟨"SAF_LOG_WR", 0xf00008, [], [Reg.safLogWr_wr]⟩,
  ⟨"SAF_LOG_RD", 0xf0000c, [], [Reg.safLogRd_rd]⟩,
  ⟨"SAF_LOG_SEL", 0xf00010, [], [Reg.safLogSel_latch, Reg.safLogSel_index]⟩,
  ⟨"SAF_LOG_LOST", 0xf00014, [], [Reg.safLogLost_lost]⟩,
  ⟨"SAF_INT_CTL", 0xf00018, [], [Reg.safIntCtl_intEn, Reg.safIntCtl_minSev]⟩,
  ⟨"SAF_PROOF_CTL", 0xf00020, [], [Reg.safProofCtl_en, Reg.safProofCtl_periodLog2]⟩,
  ⟨"SAF_PROOF_STATUS", 0xf00024, [], [Reg.safProofStatus_passes, Reg.safProofStatus_fails]⟩,
  ⟨"SAF_REEXEC", 0xf00030, [], [Reg.safReexec_count]⟩,
  ⟨"SAF_TRANSIENT", 0xf00034, [], [Reg.safTransient_count]⟩,
  ⟨"SAF_LOG_DATA", 0xf00040, [(0x4, 16)], [Reg.safLogData_word]⟩,
  ⟨"SNAP_CTL", 0xf20000, [], [Reg.snapCtl_trigger, Reg.snapCtl_rearm, Reg.snapCtl_minSev, Reg.snapCtl_outEn, Reg.snapCtl_pinEn]⟩,
  ⟨"SNAP_STATUS", 0xf20004, [], [Reg.snapStatus_held, Reg.snapStatus_source, Reg.snapStatus_missed]⟩,
  ⟨"SNAP_CLASS_MASK", 0xf20008, [], [Reg.snapClassMask_classes]⟩,
  ⟨"SNAP_SEQ", 0xf2000c, [], [Reg.snapSeq_seq]⟩,
  ⟨"SNAP_ROUND_LO", 0xf20010, [], [Reg.snapRoundLo_round]⟩,
  ⟨"SNAP_ROUND_HI", 0xf20014, [], [Reg.snapRoundHi_cycle, Reg.snapRoundHi_round]⟩,
  ⟨"SNAP_SEL", 0xf20020, [], [Reg.snapSel_offset]⟩,
  ⟨"SNAP_DATA", 0xf20024, [], [Reg.snapData_data]⟩,
  ⟨"SNAP_ABSENT", 0xf20030, [(0x4, 3)], [Reg.snapAbsent_bits]⟩,
  ⟨"MOR_TINE", 0xf40000, [], [Reg.morTine_spareAvailable, Reg.morTine_retired, Reg.morTine_active]⟩,
  ⟨"MOR_SITE_SPARE", 0xf40010, [(0x4, 3)], [Reg.morSiteSpare_bits]⟩,
  ⟨"MOR_SITE_RETIRED", 0xf40020, [(0x4, 3)], [Reg.morSiteRetired_bits]⟩,
  ⟨"MOR_SUBST", 0xf40100, [(0x4, 64)], [Reg.morSubst_noSubstitute, Reg.morSubst_site]⟩,
  ⟨"MOR_LANES", 0xf40200, [], [Reg.morLanes_dataLanesLeft, Reg.morLanes_clockLanesLeft]⟩]

/-- Rows of the register table, part 11: name, offset, strides with instance counts, fields (R471-R473). -/
def Reg.rows11 : List RegRow := [
  ⟨"MOR_BUNDLES", 0xf40204, [], [Reg.morBundles_halfWidth, Reg.morBundles_retired]⟩,
  ⟨"MOR_OPTICS", 0xf40208, [], [Reg.morOptics_fibresLeft, Reg.morOptics_lasersLeft, Reg.morOptics_slotsExhausted]⟩,
  ⟨"MOR_SRAM_ROWS", 0xf4020c, [], [Reg.morSramRows_rowsUsed]⟩,
  ⟨"MOR_SRAM_ARRAYS", 0xf40210, [], [Reg.morSramArrays_arraysExhausted]⟩,
  ⟨"MOR_QUEUE", 0xf40214, [], [Reg.morQueue_slotsLeft]⟩,
  ⟨"MOR_ALERT", 0xf40300, [], [Reg.morAlert_minFibres, Reg.morAlert_minLasers, Reg.morAlert_minDataLanes]⟩,
  ⟨"MOR_ALERT_TINE", 0xf40304, [], [Reg.morAlertTine_minTines]⟩,
  ⟨"SEC_CTL", 0xf80000, [], [Reg.secCtl_lock]⟩,
  ⟨"SEC_STATUS", 0xf80004, [], [Reg.secStatus_secLock, Reg.secStatus_owned, Reg.secStatus_requireSigned, Reg.secStatus_sealPresent, Reg.secStatus_fwSlot]⟩,
  ⟨"SEC_FW_VERSION", 0xf80008, [], [Reg.secFwVersion_securityVersion]⟩,
  ⟨"SEC_FW_MIN", 0xf8000c, [], [Reg.secFwMin_min]⟩,
  ⟨"SEC_STRUCT_MIN", 0xf80010, [], [Reg.secStructMin_min]⟩,
  ⟨"SEC_OWNER_SEQ", 0xf80014, [], [Reg.secOwnerSeq_ownerSeq]⟩,
  ⟨"SEC_KA_PUB", 0xf80100, [(0x4, 24)], [Reg.secKaPub_word]⟩,
  ⟨"CRC_CTL", 0xf90000, [(0x100, 4)], [Reg.crcCtl_go, Reg.crcCtl_srcHost, Reg.crcCtl_refin, Reg.crcCtl_refout, Reg.crcCtl_width]⟩,
  ⟨"CRC_STATUS", 0xf90004, [(0x100, 4)], [Reg.crcStatus_busy, Reg.crcStatus_done, Reg.crcStatus_ignored, Reg.crcStatus_err]⟩,
  ⟨"CRC_POLY_LO", 0xf90010, [(0x100, 4)], [Reg.crcPolyLo_value]⟩,
  ⟨"CRC_POLY_HI", 0xf90014, [(0x100, 4)], [Reg.crcPolyHi_value]⟩,
  ⟨"CRC_INIT_LO", 0xf90018, [(0x100, 4)], [Reg.crcInitLo_value]⟩,
  ⟨"CRC_INIT_HI", 0xf9001c, [(0x100, 4)], [Reg.crcInitHi_value]⟩,
  ⟨"CRC_XOROUT_LO", 0xf90020, [(0x100, 4)], [Reg.crcXoroutLo_value]⟩,
  ⟨"CRC_XOROUT_HI", 0xf90024, [(0x100, 4)], [Reg.crcXoroutHi_value]⟩,
  ⟨"CRC_SRC_LO", 0xf90028, [(0x100, 4)], [Reg.crcSrcLo_value]⟩,
  ⟨"CRC_SRC_HI", 0xf9002c, [(0x100, 4)], [Reg.crcSrcHi_value]⟩]

/-- Rows of the register table, part 12: name, offset, strides with instance counts, fields (R471-R473). -/
def Reg.rows12 : List RegRow := [
  ⟨"CRC_LEN_LO", 0xf90030, [(0x100, 4)], [Reg.crcLenLo_value]⟩,
  ⟨"CRC_LEN_HI", 0xf90034, [(0x100, 4)], [Reg.crcLenHi_value]⟩,
  ⟨"CRC_RESULT_LO", 0xf90038, [(0x100, 4)], [Reg.crcResultLo_value]⟩,
  ⟨"CRC_RESULT_HI", 0xf9003c, [(0x100, 4)], [Reg.crcResultHi_value]⟩]

/-- The register table (R471). -/
def Reg.rows : List RegRow :=
  Reg.rows0 ++ Reg.rows1 ++ Reg.rows2 ++ Reg.rows3 ++ Reg.rows4 ++ Reg.rows5 ++ Reg.rows6 ++ Reg.rows7 ++ Reg.rows8 ++ Reg.rows9 ++ Reg.rows10 ++ Reg.rows11 ++ Reg.rows12

/-! ### Reading and writing fields -/

/-- The offset of instance `idx` of a register (R472). -/
def strideOff : List (Nat × Nat) → List Nat → Nat
  | (s, _) :: t, i :: r => s * i + strideOff t r
  | _, _ => 0

/-- The key of a field's instance: 32 times its word offset, plus its lowest bit. -/
def Fld.key (f : Fld) (idx : List Nat) : Nat := (f.base + strideOff f.strides idx) * 32 + f.lo

/-- The reset value of a field's instance. -/
def Fld.resetAt (f : Fld) (idx : List Nat) : Nat :=
  match f.reset with
  | .const n => n % 2 ^ f.width
  | .index => idx.getLastD 0 % 2 ^ f.width
  | .table l => l.getD (idx.getLastD 0) 0 % 2 ^ f.width
  | .cyc l => l.getD (idx.getLastD 0 % l.length) 0 % 2 ^ f.width
  | .fuse => Config.fuseWord (idx.getD 0 0) (idx.getD 1 0) % 2 ^ f.width

/-- The value of a field. -/
def Module.rd (m : Module) (f : Fld) (idx : List Nat := []) : Nat :=
  (SMap.find? m.regs (f.key idx)).getD (f.resetAt idx)

/-- A field set to `v`, cut to its width. -/
def Module.wr (m : Module) (f : Fld) (v : Nat) (idx : List Nat := []) : Module :=
  { m with regs := SMap.ins (f.key idx) (v % 2 ^ f.width) m.regs }

/-- A field that is not 0. -/
def Module.rdB (m : Module) (f : Fld) (idx : List Nat := []) : Bool := decide (m.rd f idx ≠ 0)

/-- A one-bit field set to 1 (an event or status bit). -/
def Module.set1 (m : Module) (f : Fld) (idx : List Nat := []) : Module := m.wr f 1 idx

/-- A field set to 0. -/
def Module.clr (m : Module) (f : Fld) (idx : List Nat := []) : Module := m.wr f 0 idx

/-- A counter raised by n and held at its largest value. -/
def Module.count (m : Module) (f : Fld) (n : Nat := 1) (idx : List Nat := []) : Module :=
  m.wr f (min (m.rd f idx + n) (2 ^ f.width - 1)) idx

/-- Bit b of a field set to v. -/
def Module.wrBit (m : Module) (f : Fld) (b : Nat) (v : Bool) (idx : List Nat := []) : Module :=
  let x := m.rd f idx
  m.wr f (if v then x ||| 2 ^ b else x - (if bitB x b then 2 ^ b else 0)) idx


end Sys2Proof.Machine
end

