-- ==== Sys2Proof/Machine/Ops.lean ====
section
/-! DEFINITION. The named operations over the whole module: free values, what is sent, the (144,128) code and the
memories it protects, and error records with everything a record brings about (the log, the fault pin, the release gate,
interrupts, snapshot triggers). -/

namespace Sys2Proof.Machine

/-! ### Free values and outputs -/

/-- A free value of w bits (at most 128). -/
def Module.draw (m : Module) (w : Nat) : Nat × Module :=
  ((Config.freeValue m.free).toNat % 2 ^ w, { m with free := m.free + 1 })

/-- Send one thing. -/
def Module.emit (m : Module) (o : Output) : Module := { m with out := o :: m.out }

/-- Send several things, in order. -/
def Module.emits (m : Module) (os : List Output) : Module := { m with out := os.reverse ++ m.out }

/-- An MSI-X vector is masked by its table entry or by the Function Mask (R268, PCIe Base Specification). -/
def Module.msixMasked (m : Module) (v : Nat) : Bool :=
  m.host.pcie.msixMask || bitB (m.rd Reg.hubMsixTable_word [4 * v + 3]) 0

/-- Signal an MSI-X vector: sent, or its pending bit set while it is masked; nothing while MSI-X is not enabled (R268, PCIe Base
Specification). -/
def Module.msix (m : Module) (v : Nat) : Module :=
  if !m.host.pcie.msixEnable then m
  else if m.msixMasked v then m.wrBit Reg.hubMsixPba_bits (v % 32) true [v / 32]
  else m.emit (.msix v)

/-- A vector that has lost its masks sends the message that its pending bit holds. -/
def Module.msixFlush (m : Module) (v : Nat) : Module :=
  if m.host.pcie.msixEnable && !m.msixMasked v && bitB (m.rd Reg.hubMsixPba_bits [v / 32]) (v % 32) then
    (m.wrBit Reg.hubMsixPba_bits (v % 32) false [v / 32]).emit (.msix v)
  else m

/-- The PCIe configuration changed. -/
def Module.modPcie (m : Module) (f : Pcie → Pcie) : Module := { m with host := { m.host with pcie := f m.host.pcie } }

/-- A read answered as an Unsupported Request, which AER notes (R242, R244; the status bit is the PCIe Base Specification's). -/
def Module.unsup (m : Module) : Module :=
  (m.modPcie (fun x => { x with aerUncorr := x.aerUncorr ||| 2 ^ 20 })).emit .unsupported

/-! ### Error records (R405 to R420) -/

/-- Severity INFO. -/
def sevInfo : Nat := 0
/-- Severity RECOVERED. -/
def sevRecovered : Nat := 1
/-- Severity DEGRADED. -/
def sevDegraded : Nat := 2
/-- Severity FATAL. -/
def sevFatal : Nat := 3

/-- A record with its class, event, severity, source and sub; every other field 0. -/
def LogRec.of (cls event sev source sub : Nat) : LogRec :=
  { cls := cls, event := event, severity := sev, snapTaken := false, reqValid := false, suppressed := 0, seq := 0,
    round := 0, opsec := 0, source := source, sub := sub, ctxId := 0, cid := 0, fabric := false, queue := 0, addr := 0,
    detail := [], faultId := 0, pin := false }

/-- The same record with an address and a detail. -/
def LogRec.at (r : LogRec) (addr : Nat) (detail : List Nat) : LogRec := { r with addr := addr, detail := detail }

/-- A record slot nothing has been written to. -/
def LogRec.blank : LogRec := LogRec.of 0 0 0 0 0

/-- The 48-bit operating-seconds count (R453). -/
def Module.opsec (m : Module) : Nat := m.cal.opsec % 2 ^ 48

/-- The FAULT_ID of a new fault (R406). -/
def Module.newFault (m : Module) : Nat × Module :=
  (m.saf.nextFault, { m with saf := { m.saf with nextFault := (m.saf.nextFault + 1) % 2 ^ 32 } })

/-- The FAULT_ID of the fault recorded last: what follows from it carries it too (R406). -/
def Module.sameFault (m : Module) : Nat := (m.saf.nextFault + 2 ^ 32 - 1) % 2 ^ 32

/-- A fault charged to every accepted request in flight that uses the faulty resource; one FAULT_ID counts once (R413). -/
def Module.charge (m : Module) (f : Nat) (uses : Nat → Req → Bool) : Module :=
  { m with host := { m.host with reqs := m.host.reqs.map (fun (p : Nat × Req) =>
      if p.2.counted && uses p.1 p.2 && !p.2.charged.elem f then (p.1, { p.2 with charged := f :: p.2.charged }) else p) } }

/-- A fault of the module itself: a clock tree, a supply, the pairing link (R413). -/
def Module.chargeAll (m : Module) (f : Nat) : Module := m.charge f (fun _ _ => true)

/-- A fault of Tine s or its bundles (R413). -/
def Module.chargeSite (m : Module) (s f : Nat) : Module :=
  m.charge f (fun id _ => m.adm.blocks.any (fun b => b.req = id && b.sites.elem s))

/-- A fault of fabric ports (R413): of the requests whose routes are booked on them. -/
def Module.chargePorts (m : Module) (ps : List Nat) (f : Nat) : Module :=
  m.charge f (fun id _ => m.adm.blocks.any (fun b => b.req = id && b.ports.any (fun q => ps.elem q.1)))

/-- FAULT_N driven low (R408). -/
def Module.faultPin (m : Module) : Module :=
  if m.rdB Reg.safStatus_faultPin then m else (m.set1 Reg.safStatus_faultPin).emit (.pin 0 false)

/-- What every event of severity FATAL brings about on every module (R408, R414). -/
def Module.failFast (m : Module) : Module :=
  ((m.set1 Reg.safStatus_fatalLatched).set1 Reg.safStatus_gateClosed).faultPin

/-- A snapshot trigger: counted in MISSED while a snapshot is held or being taken, otherwise sent to every die (R424,
R425). Source 1 pin, 2 register, 3 record. -/
def Module.snapTrigger (m : Module) (source seq : Nat) : Module :=
  if m.rdB Reg.snapStatus_held || m.saf.snapTrig.isSome then m.count Reg.snapStatus_missed
  else ({ m with saf := { m.saf with snapTrig := some (source, seq) } } : Module).emit .snapTrigger

/-- The oldest unread slot whose record is INFO or RECOVERED, looking at n slots from `slot` on. -/
def oldestMinor (log : SMap LogRec) : Nat → Nat → Option Nat
  | 0, _ => none
  | n + 1, slot =>
    if (SMap.get LogRec.blank log slot).severity < 2 then some slot else oldestMinor log n ((slot + 1) % 1024)

/-- Store a record in a slot and consume its SEQ. -/
def Module.storeRec (m : Module) (slot : Nat) (r : LogRec) : Module :=
  { m with saf := { m.saf with log := SMap.ins slot r m.saf.log, nextSeq := (m.saf.nextSeq + 1) % 2 ^ 32 } }

/-- Signals of a record (R419): at once for DEGRADED and FATAL, otherwise at the round's end when at or above MIN_SEV. -/
def Module.recSignal (m : Module) (sev : Nat) : Module :=
  if !m.rdB Reg.safIntCtl_intEn then m
  else if sev ≥ sevDegraded then m.msix 0
  else if sev ≥ m.rd Reg.safIntCtl_minSev then { m with saf := { m.saf with intPending := true } }
  else m

/-- Does this record trigger a snapshot (R424)? -/
def Module.recSnaps (m : Module) (r : LogRec) : Bool :=
  bitB (m.rd Reg.snapClassMask_classes) r.cls && decide (r.severity ≥ m.rd Reg.snapCtl_minSev)

/-- The slot of the newest unread record: the one whose SEQ was given last, which a full log may hold in any slot (R416). -/
def Module.newestSlot (m : Module) : Option Nat :=
  let n := m.rd Reg.safStatus_unread
  let rd := m.rd Reg.safLogRd_rd
  (((m.rd Reg.safLogWr_wr + 1023) % 1024) :: List.range 1024).find? (fun s =>
    decide ((s + 1024 - rd % 1024) % 1024 < n) && (match SMap.find? m.saf.log s with
      | some r => decide ((r.seq + 1) % 2 ^ 32 = m.saf.nextSeq)
      | none => false))

/-- Write an error record (R416): suppressed when it matches the newest unread one of the same round; placed, placed over
the oldest minor record, or dropped when the log is full; a record written has its signal and its snapshot trigger. DEDUCED: what is
suppressed or dropped is no record, and signals nothing. For FATAL the fail-fast effects follow in any case (R414); an event of R408
drives FAULT_N. -/
def Module.logRec (m : Module) (r : LogRec) : Module :=
  let wrSlot := m.rd Reg.safLogWr_wr
  let n := m.rd Reg.safStatus_unread
  let rnd := m.hub.round % 2 ^ 48
  let same := m.newestSlot.filter (fun s =>
    let x := SMap.get LogRec.blank m.saf.log s
    decide (x.cls = r.cls ∧ x.event = r.event ∧ x.source = r.source ∧ x.sub = r.sub ∧ x.round = rnd))
  let m1 := match same with
    | some s =>
      let x := SMap.get LogRec.blank m.saf.log s
      let again : LogRec := { x with suppressed := min 255 (x.suppressed + 1) }
      { m with saf := { m.saf with log := SMap.ins s again m.saf.log } }
    | none =>
      let snaps := m.recSnaps r
      let taken := snaps && !(m.rdB Reg.snapStatus_held || m.saf.snapTrig.isSome)
      let r' := { r with seq := m.saf.nextSeq, round := rnd, opsec := m.opsec, suppressed := 0, snapTaken := taken }
      let trig := fun (x : Module) => if snaps then (x.recSignal r.severity).snapTrigger 3 r'.seq else x.recSignal r.severity
      if n < 1024 then
        trig (((m.storeRec wrSlot r').wr Reg.safLogWr_wr (wrSlot + 1)).wr Reg.safStatus_unread (n + 1))
      else if r.severity < 2 then m.count Reg.safLogLost_lost
      else match oldestMinor m.saf.log 1024 wrSlot with
        | some slot => trig (m.storeRec slot r')
        | none => m.count Reg.safLogLost_lost
  let m2 := if r.pin then m1.faultPin else m1
  if r.severity = sevFatal then m2.failFast else m2

/-- Write a record as a fault of its own: it takes a new FAULT_ID (R406). -/
def Module.report (m : Module) (r : LogRec) : Module :=
  let (f, m') := m.newFault
  m'.logRec { r with faultId := f }

/-! ### The (144,128) code (R186 to R190) -/

/-- Column of code-word bit i (R186). -/
def codeCol (i : Nat) : Nat :=
  if i < 128 then 2 ^ (i % 4) + 2 ^ (4 + i / 4 / 8) + 2 ^ (8 + i / 4 % 8) else 2 ^ (i - 128)

/-- XOR of the columns of the bits set in a 144-bit pattern: the syndrome a correct word shows when they flip. -/
def codeSynd (e : Nat) : Nat := (bitList 144 0 e).foldl (fun s i => s ^^^ codeCol i) 0

/-- The check field C of 128 data bits. -/
def codeCheck (d : Nat) : Nat := codeSynd (d % 2 ^ 128)

/-- What a decoder makes of a syndrome (R188): 0 deliver, 1 data bit corrected, 2 check bit corrected, 3 poisoned,
4 uncorrectable. -/
inductive CodeRes where
  | clean
  | data (b : Nat)
  | check
  | poison
  | uncorr
deriving DecidableEq, Repr

/-- The decoder of R188. -/
def codeDecode (s : Nat) : CodeRes :=
  if s = 0 then .clean
  else if popcount 16 s = 1 then .check
  else if popcount 4 (bitsOf s 3 0) = 1 ∧ popcount 4 (bitsOf s 7 4) = 1 ∧ popcount 8 (bitsOf s 15 8) = 1 then
    .data (4 * (8 * lowBit 4 0 (bitsOf s 7 4) + lowBit 8 0 (bitsOf s 15 8)) + lowBit 4 0 (bitsOf s 3 0))
  else if s = 0xFF00 then .poison
  else .uncorr

/-- The syndrome of a poisoned granule (R190). -/
def poisonSynd : Nat := 0xFF00

/-- Data delivered for a stored word: a corrected data bit flipped back. -/
def codeData (d : Nat) (r : CodeRes) : Nat :=
  match r with
  | .data b => d ^^^ 2 ^ b
  | _ => d

/-- A result that delivers no valid data. -/
def CodeRes.bad (r : CodeRes) : Bool := r = .poison || r = .uncorr

/-! ### Stores -/

/-- One byte of a store. -/
def Store.byte (st : Store) (a : Nat) : Byte := SMap.get 0 st.cells a

/-- A store with one byte written. -/
def Store.setByte (st : Store) (a : Nat) (b : Byte) : Store := { st with cells := SMap.put 0 a b st.cells }

/-- n bytes from an address, as numbers. -/
def Store.bytes (st : Store) (a n : Nat) : List Nat := (List.range n).map (fun i => (st.byte (a + i)).toNat)

/-- Bytes written from an address on. -/
def Store.setBytes (st : Store) : Nat → List Nat → Store
  | _, [] => st
  | a, b :: t => Store.setBytes (st.setByte a (BitVec.ofNat 8 b)) (a + 1) t

/-- The 128 data bits of granule g as stored. -/
def Store.granule (st : Store) (g : Nat) : Nat := leNat (st.bytes (16 * g) 16)

/-- The syndrome of granule g. -/
def Store.syndrome (st : Store) (g : Nat) : Nat := SMap.get 0 st.synd g

/-- A whole granule written with a syndrome (0: encoded; `poisonSynd`: poisoned, R190). -/
def Store.setGranule (st : Store) (g d s : Nat) : Store :=
  let st' := st.setBytes (16 * g) (toLe 16 d)
  { st' with synd := SMap.put 0 g s st'.synd }

/-- Bits of a stored code word changed by a fault: `e` is the 144-bit pattern that flips. -/
def Store.upset (st : Store) (g e : Nat) : Store :=
  let st' := st.setBytes (16 * g) (toLe 16 (st.granule g ^^^ (e % 2 ^ 128)))
  { st' with synd := SMap.put 0 g (st.syndrome g ^^^ codeSynd e) st'.synd }

/-- Several upsets, each a granule number and a pattern. -/
def Store.upsets (st : Store) (l : List (Nat × Nat)) : Store := l.foldl (fun s p => s.upset p.1 p.2) st

/-- Zeros over n granules from g: what lies in the range is no longer listed. -/
def Store.zero (st : Store) (g n : Nat) : Store :=
  { cells := st.cells.filter (fun p => !(decide (16 * g ≤ p.1) && decide (p.1 < 16 * (g + n))))
    synd := st.synd.filter (fun p => !(decide (g ≤ p.1) && decide (p.1 < g + n))) }

/-- The canonical form of a store. -/
def Store.wf (st : Store) : Bool := SMap.wf 0 st.cells && SMap.wf 0 st.synd

/-! ### Device memory (R185, R190 to R194, R203, R205, R208) -/

/-- Where a device-physical address lies (R185). -/
inductive Place where
  | gddr
  | cxl (port : Nat)
  | none
deriving DecidableEq, Repr

/-- The base of a CXL window. -/
def cxlBase (p : Nat) : Nat := if p = 0 then 0x020000000000 else 0x040000000000

/-- A port's usable window: 7/8 of the mapped capacity (R202). -/
def Module.cxlSize (m : Module) (p : Nat) : Nat := m.rd Reg.cxlMapped_mapped256m [p] * 2 ^ 28 / 8 * 7

/-- The end of the GDDR7 range. -/
def gddrEnd : Nat := 0x000A80000000

/-- Where an address lies; `none` for a reserved address or one beyond a port's usable capacity (R185). -/
def Module.place (m : Module) (a : Nat) : Place :=
  if a < gddrEnd then .gddr
  else if cxlBase 0 ≤ a ∧ a < cxlBase 0 + m.cxlSize 0 then .cxl 0
  else if cxlBase 1 ≤ a ∧ a < cxlBase 1 + m.cxlSize 1 then .cxl 1
  else .none

/-- The device that holds a GDDR7 address (R192). -/
def gddrDevice (a : Nat) : Nat := a / 16 / 112 % 12

/-- The page within its device and the granule within the page (R192). -/
def gddrPage (a : Nat) : Nat × Nat := (a / 16 / 112 / 12, a / 16 % 112)

/-- Attachment code of the unit behind an address (R136). -/
def Module.placeCode (m : Module) (a : Nat) : Nat :=
  match m.place a with
  | .gddr => 0x58 + gddrDevice a
  | .cxl p => 0x65 + p
  | .none => 0xFF

/-- Whether a whole range lies in one valid place. -/
def Module.rangeOk (m : Module) (a n : Nat) : Bool :=
  decide (m.place a ≠ .none) && (decide (n = 0) || decide (m.place (a + n - 1) = m.place a))

/-- The code page a granule lies in (R193, R203): the device offset of the data of granule o of a page, and of its check field. -/
def pageData (page o : Nat) : Nat := 2048 * page + 16 * o
/-- Its check field. -/
def pageCheck (page o : Nat) : Nat := 2048 * page + 1792 + 2 * o

/-- The check field stored with granule g: that of its data, off by its syndrome. -/
def Store.check (st : Store) (g : Nat) : Nat := codeCheck (st.granule g) ^^^ st.syndrome g

/-- The byte at an offset of a device laid out in code pages, of which `gran` gives the granules (R193): data, check fields, and
32 unused bytes that are zero. -/
def Store.pageByte (st : Store) (gran : Nat → Nat → Nat) (off : Nat) : Nat :=
  let page := off / 2048
  let k := off % 2048
  if k < 1792 then (toLe 16 (st.granule (gran page (k / 16)))).getD (k % 16) 0
  else if k < 2016 then (toLe 2 (st.check (gran page ((k - 1792) / 2)))).getD (k % 2) 0
  else 0

/-- The byte at an offset of GDDR7 device d (R192, R193). -/
def Module.gddrByte (m : Module) (d off : Nat) : Nat := m.dev.pageByte (fun page o => 112 * (12 * page + d) + o) off

/-- The byte at a device address of the memory device on CXL port p (R203). -/
def Module.cxlByte (m : Module) (p off : Nat) : Nat := m.dev.pageByte (fun page o => cxlBase p / 16 + 112 * page + o) off

/-- MEM_LAST_UNCORR written for a granule (07, registers); source 0 demand, 1 scrub, 2 fill, 3 merge. -/
def Module.lastUncorr (m : Module) (a synd src : Nat) : Module :=
  (((m.wr Reg.memLastUncorrLo_addr (a / 16)).wr Reg.memLastUncorrHi_addr (a / 2 ^ 32)).wr Reg.memLastUncorrHi_source
    src).wr Reg.memLastUncorrSyn_syndrome synd

/-- An empty descriptor. -/
def Ctx.blank : Ctx :=
  { state := 0, placed := false, pin := 0, sealedCtx := false, pairing := 0, imageAddr := 0, imageAddr2 := none,
    imageGranules := 0, kvAddr := 0, kvGranules := 0, tier := 0, spill := false, latClass := 0, tset := 0, firstRank := 0,
    latch := 0, bankMask := 0, owner := 0, remote := [], ckptAddr := 0, ckptGranules := 0, loadGen := 0, lastUse := 0,
    inFlight := 0, img := none, replace := false }

/-- The descriptor of a context. -/
def Module.ctxOf (m : Module) (c : Nat) : Ctx := SMap.get Ctx.blank m.ctx.table c

/-- A context's image region is read from the CXL tier (R216): the port, if so. -/
def Module.readsCxl (m : Module) (x : Ctx) : Option Nat :=
  if x.tier = 1 ∨ (x.tier = 2 ∧ x.pin = 0) then
    (match m.place x.imageAddr with
     | .cxl p => some p
     | _ => none)
  else none

/-- A fault of the memory behind a place (R413): of the requests whose fills and DMA read it. KV/state lies in GDDR7. -/
def Module.chargePlace (m : Module) (pl : Place) (f : Nat) : Module :=
  m.charge f (fun _ r => r.ctxs.any (fun c =>
    let x := m.ctxOf c
    match pl with
    | .gddr => decide (x.kvGranules ≠ 0) || (m.readsCxl x).isNone
    | .cxl p => decide (m.readsCxl x = some p)
    | .none => false))

/-- The record of an uncorrectable granule, of syndrome s (R208), charged to the requests that read its device (R413). -/
def Module.memRec (m : Module) (a s src sev : Nat) : Module :=
  let sub := match m.place a with
    | .gddr => gddrDevice a
    | .cxl p => p
    | .none => 0
  let m1 := (m.lastUncorr a s src).report ((LogRec.of 0x04 0 sev (m.placeCode a) sub).at (a / 16 * 16) [s, src])
  m1.chargePlace (m.place a) m1.sameFault

/-- A refused access (R185): record MEM_ADDR_INVALID, SUB the requester's attachment. -/
def Module.addrInvalid (m : Module) (requester a len : Nat) : Module :=
  m.report ((LogRec.of 0x05 0 sevInfo requester requester).at a [len])

/-- First detection of an uncorrectable granule: counted, recorded, written back poisoned (R190, R194, R208). `sev` is
RECOVERED when the granule is repaired from another copy, DEGRADED otherwise (R420). -/
def Module.devUncorr (m : Module) (a src sev : Nat) : Module :=
  let g := a / 16
  let s := m.dev.syndrome g
  let m1 := { m with dev := m.dev.setGranule g (m.dev.granule g) poisonSynd }
  let m2 := match m.place a with
    | .gddr => if src = 1 then m1.count Reg.memDevScrubUncorr_scrubUncorrectable 1 [gddrDevice a]
               else m1.count Reg.memDevUncorr_uncorrectable 1 [gddrDevice a]
    | .cxl p => m1.count Reg.cxlUncorr_count 1 [p]
    | .none => m1
  m2.memRec a s src sev

/-- A read of the granule at address a (R188, R194): data delivered, whether it is bad (poisoned reply), and the module
with the counts, the write-back and the record of a first detection. A port that is down answers poisoned (R205); an address that
does not exist is refused (R185), the Cirque being the requester where no other was checked before. -/
def Module.devRead (m : Module) (a src sev : Nat) : Nat × Bool × Module :=
  let g := a / 16
  let d := m.dev.granule g
  let down := match m.place a with
    | .cxl p => !m.rdB Reg.cxlPortStatus_ready [p]
    | _ => false
  if down then (d, true, m)
  else if m.place a = .none then (0, true, m.addrInvalid 0x74 a 16)
  else
    let r := codeDecode (m.dev.syndrome g)
    let d' := codeData d r
    match r with
    | .clean => (d, false, m)
    | .data _ | .check =>
      let m1 := { m with dev := m.dev.setGranule g d' 0 }
      let m2 := match m.place a, r with
        | .gddr, .check => m1.count Reg.memDevCheckfield_checkFieldCorrected 1 [gddrDevice a]
        | .gddr, _ => if src = 1 then m1.count Reg.memDevScrubCorr_scrubCorrected 1 [gddrDevice a]
                      else m1.count Reg.memDevCorr_corrected 1 [gddrDevice a]
        | .cxl p, .check => m1.count Reg.cxlCheckfield_count 1 [p]
        | .cxl p, _ => m1.count Reg.cxlCorr_count 1 [p]
        | .none, _ => m1
      (d', false, m2)
    | .poison =>
      (d, true, match m.place a with
        | .gddr => m.count Reg.memDevPoisonRead_poisonReads 1 [gddrDevice a]
        | _ => m)
    | .uncorr => (d, true, m.devUncorr a src sev)

/-- A write to a port that is down is dropped and recorded (R205). -/
def Module.dropWrite (m : Module) (p a : Nat) : Module :=
  m.report ((LogRec.of 0x07 0 sevDegraded (0x65 + p) p).at (a / 16 * 16) [m.rd Reg.cxlPortStatus_reason [p]])

/-- A write of the whole granule at address a; `bad` writes it poisoned (R190). -/
def Module.devWrite (m : Module) (a d : Nat) (bad : Bool) : Module :=
  match m.place a with
  | .cxl p =>
    if m.rdB Reg.cxlPortStatus_ready [p] then
      { m with dev := m.dev.setGranule (a / 16) d (if bad then poisonSynd else 0) }
    else m.dropWrite p a
  | .gddr => { m with dev := m.dev.setGranule (a / 16) d (if bad then poisonSynd else 0) }
  | .none => m.addrInvalid 0x74 a 16

/-- A granule, as data and syndrome, enters a mesh node over a link that flips the bits of `h` (R17, R191): corrected and counted,
or poisoned, counted and recorded. DESIGN CHOICE: the record's SUB is the node's number 8y + x, and its DETAIL the syndrome,
SOURCE 0 and the link's number; and the fault is charged to every request in flight, since any of their mesh flows may take the
node (R413). -/
def Module.meshNode (m : Module) (h : Nat × Nat × Nat) (g : Nat × Nat) : (Nat × Nat) × Module :=
  let d := g.1 ^^^ (h.2.2 % 2 ^ 128)
  let s := g.2 ^^^ codeSynd h.2.2
  match codeDecode s with
  | .clean => ((d, 0), m)
  | .poison => ((d, poisonSynd), m)
  | .uncorr =>
    let m1 := (m.count Reg.memMeshUncorr_count).report ((LogRec.of 0x04 0 sevDegraded 0x74 h.1).at 0 [s, 0, h.2.1])
    ((d, poisonSynd), m1.chargeAll m1.sameFault)
  | r => ((codeData d r, 0), m.count Reg.memMeshCorr_count)

/-- A granule on its way over the mesh. -/
def Module.meshPath (m : Module) (hits : List (Nat × Nat × Nat)) (g : Nat × Nat) : (Nat × Nat) × Module :=
  hits.foldl (fun a h => a.2.meshNode h a.1) (g, m)

/-- A read of the granule at address a that takes what befalls it: a link CRC that fails twice returns it poisoned with a record
(R194), and so does a mark of the CXL expander, which is counted (R191); then it crosses the mesh. -/
def Module.devReadVia (m : Module) (a src sev : Nat) (f : MemFault) : Nat × Bool × Module :=
  let d := m.dev.granule (a / 16)
  let (d1, bad, m1) := match m.place a with
    | .gddr => if 2 ≤ f.crc then (d, true, m.memRec a 0 src sev) else m.devRead a src sev
    | .cxl p =>
      if f.marked && m.rdB Reg.cxlPortStatus_ready [p] then (d, true, (m.count Reg.cxlPoisonRx_count 1 [p]).memRec a 0 src sev)
      else m.devRead a src sev
    | .none => m.devRead a src sev
  let (g, m2) := m1.meshPath f.mesh (d1, if bad then poisonSynd else 0)
  (g.1, decide (g.2 ≠ 0), m2)

/-- A write of the granule at address a that takes what befalls it: after the mesh, a link CRC that fails twice leaves the granule
poisoned, with a record (R194). -/
def Module.devWriteVia (m : Module) (a d : Nat) (bad : Bool) (f : MemFault) : Module :=
  let (g, m1) := m.meshPath f.mesh (d, if bad then poisonSynd else 0)
  let fails := decide (2 ≤ f.crc) && decide (m.place a = .gddr)
  let m2 := m1.devWrite a g.1 (decide (g.2 ≠ 0) || fails)
  if fails then m2.memRec a 0 0 sevDegraded else m2

/-- Data bits with the bytes named by a 16-bit mask replaced. -/
def mergeBytes (old new mask : Nat) : Nat :=
  leNat ((List.range 16).map (fun i => if bitB mask i then new / 256 ^ i % 256 else old / 256 ^ i % 256))

/-- A write of part of a granule (R194): read, check, merge, encode; poisoned when the old granule was bad, unless all 16
bytes are written, and when the new bytes come poisoned (`poisoned`, R190). -/
def Module.devWriteMasked (m : Module) (a d mask : Nat) (poisoned : Bool := false) : Module :=
  if mask % 2 ^ 16 = 2 ^ 16 - 1 then m.devWrite a d poisoned
  else
    let (old, bad, m1) := m.devRead a 3 sevDegraded
    m1.devWrite a (mergeBytes old d mask) (bad || poisoned)

/-- Bytes written from address a on, granule by granule (at most n granules). -/
def Module.devWriteBytes (m : Module) : Nat → Nat → List Nat → Module
  | 0, _, _ => m
  | n + 1, a, l =>
    if l = [] then m
    else
      let o := a % 16
      let k := min (16 - o) l.length
      let d := leNat (l.take k) * 256 ^ o
      let mask := (2 ^ k - 1) * 2 ^ o
      Module.devWriteBytes (m.devWriteMasked (a - o) d mask) n (a + k) (l.drop k)

/-- n granules read from address a: their data, whether any was bad, the module. -/
def Module.devReads (m : Module) (src sev : Nat) : Nat → Nat → List Nat × Bool × Module
  | 0, _ => ([], false, m)
  | n + 1, a =>
    let (d, b, m1) := m.devRead a src sev
    let (ds, bs, m2) := Module.devReads m1 src sev n (a + 16)
    (d :: ds, b || bs, m2)

/-- The bytes of a range of device memory as delivered, with the first and last granule cut. -/
def Module.devBytes (m : Module) (src a n : Nat) : List Nat × Bool × Module :=
  let o := a % 16
  let (gs, bad, m1) := m.devReads src sevDegraded (ceilDiv (o + n) 16) (a - o)
  (((gs.map (toLe 16)).flatten.drop o).take n, bad, m1)

end Sys2Proof.Machine
end

