-- ==== Sys2Proof/Machine/Operands.lean ====
section
/-! DEFINITION. Operand forms: number formats and their decoding (R35, R36, R38, R40, R44 to R46), vector slots (R99),
tile records (R41, R42), curve tables (R143, R73), operation words (R96, R104, R107, R110, R114) and local operands (R98). -/

namespace Sys2Proof.Machine

/-! ### Numbers -/

/-- A decoded value: m * 2^e exactly, an infinity, or no number. -/
inductive Num where
  | fin (m e : Int)
  | inf (neg : Bool)
  | nan
deriving DecidableEq, Repr

/-- The value zero. -/
def Num.zero : Num := .fin 0 0

/-- m * 2^(a - b) for b ≤ a: an integer scaled up. -/
def scaleUp (m a b : Int) : Int := m * (2 ^ (a - b).toNat : Nat)

/-- Exact sum; IEEE 754 for infinities. -/
def Num.add : Num → Num → Num
  | .fin m e, .fin m' e' => let b := min e e'; .fin (scaleUp m e b + scaleUp m' e' b) b
  | .nan, _ => .nan
  | _, .nan => .nan
  | .inf a, .inf b => if a = b then .inf a else .nan
  | .inf a, _ => .inf a
  | _, .inf b => .inf b

/-- Negation. -/
def Num.neg : Num → Num
  | .fin m e => .fin (-m) e
  | .inf a => .inf (!a)
  | .nan => .nan

/-- Exact product; IEEE 754 for infinities. -/
def Num.mul : Num → Num → Num
  | .fin m e, .fin m' e' => .fin (m * m') (e + e')
  | .nan, _ => .nan
  | _, .nan => .nan
  | .inf a, .inf b => .inf (a != b)
  | .inf a, .fin m _ => if m = 0 then .nan else .inf (a != decide (m < 0))
  | .fin m _, .inf b => if m = 0 then .nan else .inf (b != decide (m < 0))

/-- Strict order on numbers; false when either is no number. -/
def Num.lt : Num → Num → Bool
  | .fin m e, .fin m' e' => let b := min e e'; decide (scaleUp m e b < scaleUp m' e' b)
  | .nan, _ => false
  | _, .nan => false
  | .inf a, .inf b => a && !b
  | .inf a, _ => a
  | _, .inf b => !b

/-- Equality of numbers; false when either is no number. -/
def Num.eq (a b : Num) : Bool := a ≠ .nan && b ≠ .nan && !(Num.lt a b) && !(Num.lt b a)

/-- Smaller of two; no number loses to a number (R108). -/
def Num.min (a b : Num) : Num := if a = .nan then b else if b = .nan then a else if Num.lt b a then b else a

/-- Larger of two; no number loses to a number (R108). -/
def Num.max (a b : Num) : Num := if a = .nan then b else if b = .nan then a else if Num.lt a b then b else a

/-- No number at all. -/
def Num.isNan : Num → Bool
  | .nan => true
  | _ => false

/-- NaN or infinite: takes no part in a sum of the matrix path (R40). -/
def Num.bad : Num → Bool
  | .fin _ _ => false
  | _ => true

/-! ### Formats (R35, R36, R44 to R46) -/

/-- A format with nothing set. -/
def Fmt.base : Fmt :=
  { sel := 0, kind := 0, bits := 0, signPos := 255, expBits := 0, expLsb := 0, sigBits := 0, sigLsb := 0, intMode := 0,
    bias := 0, elemOffset := 0, blockLog2 := 255, scaleKind := 0, subnormals := false, nanAtMax := false,
    hasInf := false, expSpecial := false, round := 0, uses := 0, emaxElem := 0, nanCode := 0, cls := 0 }

/-- A built-in MX float format: selector, widths, bias, EMAX_ELEM, INVALID element, class. -/
def Fmt.mx (sel w eb sb : Nat) (bias emax : Int) (inv cls : Nat) : Fmt :=
  { Fmt.base with sel := sel, kind := 1, bits := w, signPos := w - 1, expBits := eb, expLsb := sb, sigBits := sb,
                  bias := bias, blockLog2 := 5, scaleKind := 1, subnormals := true, uses := 5, emaxElem := emax,
                  nanCode := inv, cls := cls }

/-- A built-in IEEE-style float format. -/
def Fmt.ieee (sel w eb sb : Nat) (bias : Int) (uses inv cls : Nat) : Fmt :=
  { Fmt.base with sel := sel, kind := 1, bits := w, signPos := w - 1, expBits := eb, expLsb := sb, sigBits := sb,
                  bias := bias, blockLog2 := 0, scaleKind := 0, subnormals := true, expSpecial := true, hasInf := true,
                  uses := uses, nanCode := inv, cls := cls }

/-- A built-in codebook format. -/
def Fmt.cb (sel w cls : Nat) : Fmt :=
  { Fmt.base with sel := sel, kind := 3, bits := w, blockLog2 := 6, scaleKind := 2, uses := 1, cls := cls }

/-- The built-in formats of R36; `none` where the selector names none. Uses: bit 0 W, 1 A, 2 O, 3 V. -/
def Fmt.builtin : Nat → Option Fmt
  | 0x01 => some (Fmt.cb 0x01 2 2)
  | 0x02 => some (Fmt.cb 0x02 3 4)
  | 0x03 => some (Fmt.cb 0x03 4 4)
  | 0x08 => some (Fmt.mx 0x08 4 2 1 1 2 0x7 4)
  | 0x09 => some (Fmt.mx 0x09 6 2 3 1 2 0x1F 6)
  | 0x0A => some (Fmt.mx 0x0A 6 3 2 3 4 0x1F 6)
  | 0x0B => some { Fmt.mx 0x0B 8 4 3 7 8 0x7F 8 with nanAtMax := true }
  | 0x0C => some { Fmt.mx 0x0C 8 5 2 15 15 0x7E 8 with expSpecial := true, hasInf := true }
  | 0x0D => some { Fmt.base with sel := 0x0D, kind := 2, bits := 8, signPos := 7, elemOffset := -6, blockLog2 := 5,
                                 scaleKind := 1, uses := 15, emaxElem := 0, nanCode := 0x7F, cls := 8 }
  | 0x10 => some { Fmt.base with sel := 0x10, kind := 2, bits := 8, signPos := 7, scaleKind := 3, uses := 15,
                                 nanCode := 0x7F, cls := 8 }
  | 0x11 => some (Fmt.ieee 0x11 16 5 10 15 15 0x7E00 16)
  | 0x12 => some (Fmt.ieee 0x12 16 8 7 127 15 0x7FC0 16)
  | 0x13 => some (Fmt.ieee 0x13 32 8 23 127 12 0x7FC00000 0)
  | 0x14 => some { Fmt.base with sel := 0x14, kind := 2, bits := 32, signPos := 31, uses := 12,
                                 nanCode := 0x7FFFFFFF, cls := 0 }
  | _ => none

/-- The class of an element width (R46). -/
def classOf (w : Nat) : Nat := if w ≤ 2 then 2 else if w ≤ 4 then 4 else if w ≤ 6 then 6 else if w ≤ 8 then 8 else 16

/-- A format table's 32 bytes read as a format (R44). -/
def Fmt.ofTable (sel : Nat) (b : List Nat) : Fmt :=
  { sel := sel, kind := b.getD 0 0, bits := b.getD 1 0, signPos := b.getD 2 0, expBits := b.getD 3 0,
    expLsb := b.getD 4 0, sigBits := b.getD 5 0, sigLsb := b.getD 6 0, intMode := b.getD 7 0,
    bias := sext 16 (leAt b 8 2), elemOffset := sext 16 (leAt b 10 2), blockLog2 := b.getD 12 0,
    scaleKind := b.getD 13 0, subnormals := bitB (b.getD 14 0) 4, nanAtMax := bitB (b.getD 14 0) 3,
    hasInf := bitB (b.getD 14 0) 2, expSpecial := bitB (b.getD 14 0) 1, round := b.getD 15 0,
    uses := bitsOf (b.getD 16 0) 2 0, emaxElem := sext 8 (b.getD 17 0), nanCode := leAt b 18 2,
    cls := classOf (b.getD 1 0) }

/-- The block size of a format, in elements; 0: one scale per tensor, or none (R46, R47). -/
def Fmt.block (f : Fmt) : Nat := if f.scaleKind = 1 ∨ f.scaleKind = 2 then 2 ^ f.blockLog2 else 0

/-- Two bit ranges within an element do not meet. -/
def disjointBits (l1 n1 l2 n2 : Nat) : Bool := n1 = 0 || n2 = 0 || decide (l1 + n1 ≤ l2) || decide (l2 + n2 ≤ l1)

/-- Largest finite magnitude of a float format: significand with implicit bit, and its weight (R45, R56). Without a
significand field NAN_AT_MAX takes the whole top exponent; a lowest exponent of 0 holds subnormals where SUBNORMALS is 1; a
table whose every code is infinity or NaN has none, and 0 stands for it. -/
def Fmt.maxFinite (f : Fmt) : Nat × Int :=
  let p := f.sigBits
  let top := 2 ^ f.expBits - 1
  let whole := f.expSpecial || (f.nanAtMax && decide (p = 0))
  let nan := if f.nanAtMax && !whole then 1 else 0
  let e := if whole then top - 1 else top
  if whole && decide (top = 0) then (0, 1 - f.bias - p)
  else if f.subnormals && decide (e = 0) then (2 ^ p - 1 - nan, 1 - f.bias - p)
  else (2 ^ (p + 1) - 1 - nan, (e : Int) - f.bias - p)

/-- Largest magnitude of a table's decoded integer relative to its smallest exponent (R45, R46). An exponent that encodes
infinity or NaN only decodes to no integer; a codebook's entries are 12-bit two's complement whatever the table. -/
def Fmt.maxInt (f : Fmt) : Nat :=
  if f.kind = 1 then
    let (n, u) := f.maxFinite
    let umin : Int := (if f.subnormals then 1 else 0) - f.bias - f.sigBits
    n * 2 ^ (u - umin).toNat
  else if f.kind = 2 then (if f.signPos = 255 then 2 ^ f.bits - 1 else 2 ^ (f.bits - 1))
  else 2048

/-- The first reserved bits of a format table that are not zero: their byte (R44). -/
def fmtReserved (b : List Nat) : Option Nat :=
  if bitsOf (b.getD 14 0) 7 5 ≠ 0 ∨ bit (b.getD 14 0) 0 ≠ 0 then some 14
  else if bitsOf (b.getD 16 0) 7 3 ≠ 0 then some 16
  else (List.range 12).findSome? (fun i => if b.getD (20 + i) 0 ≠ 0 then some (20 + i) else none)

/-- The rules a format table must meet (R46); `b` the 32 bytes. The first rule of R46 binds every kind; a field of no bits lies
anywhere. -/
def fmtRules (b : List Nat) : Bool :=
  let f := Fmt.ofTable 0x40 b
  let signed := f.signPos ≠ 255
  let perBlock := f.scaleKind = 1 ∨ f.scaleKind = 2
  decide (1 ≤ f.kind ∧ f.kind ≤ 3) && decide (1 ≤ f.bits ∧ f.bits ≤ 16) &&
  decide (f.signPos = 255 ∨ f.signPos < f.bits) &&
  decide (f.expBits ≤ 8) && decide (f.scaleKind ≤ 3) && decide (f.round ≤ 2) &&
  decide (f.expBits = 0 ∨ f.expLsb + f.expBits ≤ f.bits) && decide (f.sigBits = 0 ∨ f.sigLsb + f.sigBits ≤ f.bits) &&
  disjointBits f.expLsb f.expBits f.sigLsb f.sigBits &&
  (if signed then disjointBits f.expLsb f.expBits f.signPos 1 && disjointBits f.sigLsb f.sigBits f.signPos 1 else true) &&
  (if f.kind = 1 then decide (f.expBits + f.sigBits + (if signed then 1 else 0) = f.bits)
   else decide (f.signPos = 255 ∨ f.signPos = f.bits - 1) && decide (f.expBits = 0)) &&
  (if f.kind = 2 then decide (f.intMode ≤ 1) && decide (f.signPos = 255 → f.intMode = 0)
   else decide (f.intMode = 0)) &&
  (if f.kind = 3 then decide (f.bits ≤ 4) && decide (f.scaleKind = 2) && decide (f.blockLog2 = 6) &&
      decide (signed → 2 ≤ f.bits) else true) &&
  (if perBlock then decide (f.blockLog2 ≤ 8) else true) &&
  (if f.scaleKind = 3 then decide (f.blockLog2 = 255) else true) &&
  (if bitB f.uses 0 && decide perBlock then decide (f.blockLog2 ≤ 6) else true) &&
  (if f.cls = 2 ∨ f.cls = 4 ∨ f.cls = 6 then decide (f.maxInt ≤ 2048 ∧ (f.maxInt = 2048 → f.kind ≠ 1))
   else if f.cls = 8 then decide (f.maxInt < 2 ^ 33)
   else if f.kind = 1 then decide (f.sigBits ≤ 10) else true) &&
  (if bitB f.uses 1 then
     (if f.kind = 2 then decide (f.bits ≤ 8) else false) else true)

/-- A format table that may be used: every rule met and every reserved bit zero. -/
def fmtTableOk (b : List Nat) : Bool := fmtRules b && (fmtReserved b).isNone

/-- Can a format be held in a vector slot (R99)? -/
def Fmt.slotOk (f : Fmt) : Bool :=
  if f.scaleKind = 1 ∨ f.scaleKind = 2 then decide (f.blockLog2 ≤ 6) else true

/-- Scale bytes of a slot of 64 elements (R99). -/
def Fmt.slotScales (f : Fmt) : Nat :=
  if f.scaleKind = 1 ∨ f.scaleKind = 2 then 64 / 2 ^ f.blockLog2 else if f.scaleKind = 3 then 1 else 0

/-- Lines of a vector slot: 1 or 2 (R99). -/
def Fmt.slotLines (f : Fmt) : Nat := if 8 * f.bits + f.slotScales ≤ 128 then 1 else 2

/-! ### Decoding (R36, R38, R40, R45) -/

/-- The element with code `c`: its value before scaling; `cb` is its block's codebook. DESIGN CHOICE: in a table with
EXP_SPECIAL, HAS_INF, NAN_AT_MAX and no significand field the all-ones element is both infinity and NaN by R44; it is read as
infinity. -/
def Fmt.elem (f : Fmt) (cb : List Int) (c : Nat) : Num :=
  let neg := decide (f.signPos ≠ 255) && bitB c f.signPos
  let sgn := fun (x : Int) => if neg then -x else x
  if f.kind = 1 then
    let e := bitsOf c (f.expLsb + f.expBits - 1) f.expLsb % 2 ^ f.expBits
    let s := c / 2 ^ f.sigLsb % 2 ^ f.sigBits
    let top := decide (e = 2 ^ f.expBits - 1)
    if f.expSpecial && top then (if f.hasInf && decide (s = 0) then .inf neg else .nan)
    else if f.nanAtMax && top && decide (s = 2 ^ f.sigBits - 1) then .nan
    else if f.subnormals && decide (e = 0) then .fin (sgn s) (1 - f.bias - f.sigBits)
    else .fin (sgn (s + 2 ^ f.sigBits : Nat)) (e - f.bias - f.sigBits)
  else if f.kind = 2 then
    let d : Int :=
      if f.signPos = 255 then (c % 2 ^ f.bits : Nat)
      else if f.intMode = 0 then sext f.bits c
      else sgn (c % 2 ^ (f.bits - 1) : Nat)
    .fin d f.elemOffset
  else
    let i := if f.signPos = 255 then c % 2 ^ f.bits else c % 2 ^ f.signPos
    .fin (sgn (cb.getD i 0)) f.elemOffset

/-- A scale byte read as a scale exponent; `none` for the E8M0 code that is NaN (R36, R40). -/
def Fmt.scale (f : Fmt) (b : Nat) : Option Int :=
  if f.scaleKind = 1 then (if b = 0xFF then none else some ((b : Int) - 127))
  else if f.scaleKind = 0 then some 0
  else some (sext 8 b)

/-- A value multiplied by a scale; NaN under a NaN scale. -/
def Num.scaled (x : Num) (s : Option Int) : Num :=
  match s, x with
  | none, _ => .nan
  | some s, .fin m e => .fin m (e + s)
  | some _, y => y

/-- Element i of packed w-bit elements (R38). -/
def packedAt (l : List Nat) (w i : Nat) : Nat :=
  leAt l (w * i / 8) (w / 8 + 2) / 2 ^ (w * i % 8) % 2 ^ w

/-- The scale byte of lane i of a slot (R99). -/
def Fmt.laneScale (f : Fmt) (slot : List Nat) (i : Nat) : Option Int :=
  if f.scaleKind = 0 then some 0
  else if f.scaleKind = 3 then f.scale (slot.getD (8 * f.bits) 0)
  else f.scale (slot.getD (8 * f.bits + i / 2 ^ f.blockLog2) 0)

/-- The 64 values of a vector slot (R99). -/
def Fmt.slotVals (f : Fmt) (slot : List Nat) : List Num :=
  (List.range 64).map (fun i => (f.elem [] (packedAt slot f.bits i)).scaled (f.laneScale slot i))

/-! ### Tile records (R41, R42) -/

/-- Rounded up to a granule. -/
def granuleUp (n : Nat) : Nat := ceilDiv n 16 * 16

/-- Entries of a codebook record: 2^k, k the index width (R42). -/
def Fmt.cbEntries (f : Fmt) : Nat := 2 ^ (if f.signPos = 255 then f.bits else f.bits - 1)

/-- Bytes of the element plane. -/
def Fmt.elemPlane (f : Fmt) : Nat := 512 * f.bits

/-- Bytes of the codebook plane. -/
def Fmt.cbPlane (f : Fmt) (shared : Bool) : Nat :=
  if f.kind ≠ 3 then 0
  else if shared then granuleUp (ceilDiv (12 * f.cbEntries) 8) else granuleUp (64 * ceilDiv (12 * f.cbEntries) 8)

/-- Bytes of the scale plane. -/
def Fmt.scalePlane (f : Fmt) : Nat := if f.block = 0 then 0 else granuleUp (64 * (64 / f.block))

/-- Bytes of a whole tile record (R42). -/
def Fmt.tileBytes (f : Fmt) (shared : Bool) : Nat :=
  16 + f.elemPlane + f.cbPlane shared + f.scalePlane + 384

/-- Lines a tile record takes (R70). -/
def Fmt.tileLines (f : Fmt) (shared : Bool) : Nat := ceilDiv (f.tileBytes shared) 128

/-- CB_SHARED of a record's header. -/
def tileShared (b : List Nat) : Bool := bitB (b.getD 1 0) 0

/-- The codebook of column j of a record. -/
def Tile.codebook (t : Tile) (j : Nat) : List Int :=
  let rec1 := ceilDiv (12 * t.fmt.cbEntries) 8
  let o := 16 + t.fmt.elemPlane + (if tileShared t.bytes then 0 else rec1 * j)
  let r := slice 0 t.bytes o (rec1 + 2)
  (List.range t.fmt.cbEntries).map (fun i => sext 12 (packedAt r 12 i))

/-- Weight W[k][j] of a tile, decoded with its scale (R36, R41, R42, R45). -/
def Tile.weight (t : Tile) (k j : Nat) : Num :=
  let f := t.fmt
  let c := packedAt (slice 0 t.bytes (16 + 8 * f.bits * j) (8 * f.bits)) f.bits k
  let x := f.elem (if f.kind = 3 then t.codebook j else []) c
  if f.scaleKind = 3 then x.scaled (f.scale (t.bytes.getD 4 0))
  else if f.block = 0 then x
  else x.scaled (f.scale (t.bytes.getD
    (16 + f.elemPlane + f.cbPlane (tileShared t.bytes) + 64 / f.block * j + k / f.block) 0))

/-- EREF of a tile (R41). -/
def Tile.eref (t : Tile) : Int := sext 16 (leAt t.bytes 2 2)

/-- Entry c_k of the checksum row (R42, R59). -/
def Tile.check (t : Tile) (k : Nat) : Int :=
  let o := 16 + t.fmt.elemPlane + t.fmt.cbPlane (tileShared t.bytes) + t.fmt.scalePlane
  sext 48 (leAt t.bytes (o + 6 * k) 6)

/-- A number as an integer multiple of 2^r, if it is one; NaN and infinities count as 0 (R59). -/
def Num.inUnits (x : Num) (r : Int) : Option Int :=
  match x with
  | .fin m e => if m = 0 then some 0 else if r ≤ e then some (scaleUp m e r)
      else if m % (2 ^ (r - e).toNat : Nat) = 0 then some (m / (2 ^ (r - e).toNat : Nat)) else none
  | _ => some 0

/-- The checksum row recomputed from the weights: entry k, or `none` when a weight breaks the EREF rule (R59, R62). -/
def Tile.recheckRow (t : Tile) (k : Nat) : Option Int :=
  (List.range 64).foldl (fun acc j =>
    match acc, (t.weight k j).inUnits t.eref with
    | some s, some w => if w.natAbs < 2 ^ 40 then some (s + w) else none
    | _, _ => none) (some 0)

/-- The stored checksum row equals the recomputed one in every entry (R62). -/
def Tile.sound (t : Tile) : Bool := (List.range 64).all (fun k => t.recheckRow k = some (t.check k))

/-! ### Curve tables (R74, R143) -/

/-- Bytes of a curve record. -/
def curveBytes : Nat := 2336

/-- A curve record read as a table. -/
def Curve.ofBytes (b : List Nat) : Curve :=
  { xlo := leAt b 0 4, k := sext 8 (b.getD 4 0), ea := sext 8 (b.getD 5 0), eb := sext 8 (b.getD 6 0),
    ec := sext 8 (b.getD 7 0),
    coef := (List.range 256).map (fun s => (sext 24 (leAt b (32 + 9 * s) 3), sext 24 (leAt b (35 + 9 * s) 3),
      sext 24 (leAt b (38 + 9 * s) 3))) }

/-- R74: the largest and smallest of EA, EB - 16, EC - 32 differ by at most 40. -/
def Curve.spanOk (c : Curve) : Bool :=
  let l := [c.ea, c.eb - 16, c.ec - 32]
  decide (maxI 0 l - minI 0 l ≤ 40)

/-- X_LO as a number. -/
def fp32 (c : Nat) : Num := (Fmt.ieee 0x13 32 8 23 127 12 0x7FC00000 0).elem [] c

/-- The checks of R143 on a record: the offset of the first field that fails one, the exponents' at EA. -/
def curveBad (b : List Nat) : Option Nat :=
  let c := Curve.ofBytes b
  if (fp32 c.xlo).bad then some 0
  else if !decide (-16 ≤ c.k ∧ c.k ≤ 32) then some 4
  else if !c.spanOk then some 5
  else none

/-- A record meets them all. -/
def curveOk (b : List Nat) : Bool := (curveBad b).isNone

/-- floor of m * 2^e, for any e. -/
def floorShift (m e : Int) : Int := if 0 ≤ e then m * (2 ^ e.toNat : Nat) else m / (2 ^ (-e).toNat : Nat)

/-- The curve unit's result for one input, before its one rounding (R73). -/
def Curve.eval (c : Curve) (x : Num) : Num :=
  let parts : Option (Nat × Nat) := match x, fp32 c.xlo with
    | .nan, _ => none
    | .inf neg, _ => some (if neg then (0, 0) else (255, 65535))
    | .fin m e, .fin mx ex =>
      let b := min e ex
      let z := scaleUp m e b - scaleUp mx ex b
      let ez := b + 8 - c.k
      if z < 0 then some (0, 0)
      else
        let s := floorShift z ez
        if 256 ≤ s then some (255, 65535)
        else some (s.toNat, ((floorShift z (ez + 16)) - s * 65536).toNat)
    | _, _ => none
  match parts with
  | none => .nan
  | some (s, u) =>
    let (a, b, cc) := c.coef.getD s (0, 0, 0)
    ((Num.fin a c.ea).add (.fin (b * u) (c.eb - 16))).add (.fin (cc * u * u) (c.ec - 32))

/-! ### Operation words (R96, R104, R107, R110, R114) -/

/-- OPCODE of a word. -/
def opOf (w : Nat) : Nat := bitsOf w 127 120
/-- SIG of a word. -/
def sigOf (w : Nat) : Nat := bitsOf w 119 116

/-- The opcodes the tables of chapter 04 define. -/
def opDefined (o : Nat) : Bool :=
  decide (o ≤ 0x0C) || decide (0x20 ≤ o ∧ o ≤ 0x27) || decide (0x40 ≤ o ∧ o ≤ 0x4D) || decide (0x60 ≤ o ∧ o ≤ 0x61) ||
  decide (0x80 ≤ o ∧ o ≤ 0x83) || decide (0xA0 ≤ o ∧ o ≤ 0xA6)

/-- An address aligned as an operand of 128-byte lines must be. -/
def lineAligned (a : Nat) : Bool := a % 128 = 0

/-- Regions of the Tine-local address space (R78). -/
inductive Region where
  | weightA | tableA | weightB | tableB | work | progA | progB | fmtTables | reserved
deriving DecidableEq, Repr

/-- The region an address lies in (R78). -/
def regionOf (a : Nat) : Region :=
  if a < 0x13E8000 then .weightA
  else if a < 0x1400000 then .tableA
  else if a < 0x2000000 then .reserved
  else if a < 0x33E8000 then .weightB
  else if a < 0x3400000 then .tableB
  else if a < 0x4000000 then .reserved
  else if a < 0x4800000 then .work
  else if a < 0x5000000 then .reserved
  else if a < 0x5010000 then .progA
  else if a < 0x5020000 then .progB
  else if a < 0x5020800 then .fmtTables
  else .reserved

/-- The region is a weight area, table area, program store or the format table area: read-only to programs (R81). -/
def Region.readOnly : Region → Bool
  | .work => false
  | .reserved => false
  | _ => true

/-- The bank a weight or table region belongs to: 1 A, 2 B, 0 none. -/
def Region.bank : Region → Nat
  | .weightA | .tableA => 1
  | .weightB | .tableB => 2
  | _ => 0

end Sys2Proof.Machine
end

