-- ==== Sys2Proof/Machine/Flags.lean ====
section
/-! DEFINITION. Accumulation, rounding, encoding, and every flag they raise (R47 to R58), and the residue code (R63). A
set of flags is a number: bit 0 INEXACT_LOW, bit 1 RANGE, bit 2 INVALID. -/

namespace Sys2Proof.Machine

/-- RANGE. -/
def flagRange : Nat := 2
/-- INVALID. -/
def flagInvalid : Nat := 4

/-! ### Window accumulation (R48 to R50) -/

/-- An accumulator as WSET leaves it. -/
def Acc.zero : Acc := { x := 0, count := 0, flags := 0 }

/-- Quotient truncated toward zero. -/
def truncDiv (a : Int) (b : Nat) : Int := a.tdiv (b : Int)

/-- A product-block sum S * 2^c entering the window of least exponent l (R49). -/
def Acc.contribute (a : Acc) (l s c : Int) (invalid : Bool) : Acc :=
  let (t, f1) : Int × Nat :=
    if l ≤ c then (scaleUp s c l, 0)
    else
      let q := truncDiv s (2 ^ (l - c).toNat)
      (q, if q * (2 ^ (l - c).toNat : Nat) = s then 0 else 1)
  let (t', f2) : Int × Nat :=
    if t.natAbs < 2 ^ 111 then (t, 0) else ((if t < 0 then -1 else 1) * ((2 ^ 111 - 1 : Nat) : Int), flagRange)
  { x := a.x + t', count := a.count + 1, flags := a.flags ||| f1 ||| f2 ||| (if invalid then flagInvalid else 0) }

/-- The window value at drain and the flag the clamp raises (R51). -/
def Acc.window (a : Acc) : Int × Nat :=
  if a.x < -((2 ^ 111 : Nat) : Int) then (-((2 ^ 111 : Nat) : Int), flagRange)
  else if ((2 ^ 111 : Nat) : Int) ≤ a.x then (((2 ^ 111 - 1 : Nat) : Int), flagRange)
  else (a.x, 0)

/-! ### Stochastic rounding (R58) -/

/-- One step of the LFSR. -/
def lfsrStep (s : Nat) : Nat := if s % 2 = 1 then s / 2 ^^^ 0x80200003 else s / 2

/-- n steps of the LFSR. -/
def lfsr : Nat → Nat → Nat
  | 0, s => s
  | n + 1, s => lfsr n (lfsrStep s)

/-- r_i for a seed and a flat index. -/
def stochR (seed i : Nat) : Nat := lfsr (i + 1) (if seed % 2 ^ 32 = 0 then 1 else seed % 2 ^ 32)

/-! ### Rounding and encoding (R56, R57) -/

/-- round_up for kept part n and discarded part rem / den (R56). -/
def roundUp (mode n rem den r : Nat) : Bool :=
  if mode = 1 then false
  else if mode = 2 then decide (2 ^ 32 ≤ rem * 2 ^ 32 / den + r)
  else decide (den < 2 * rem) || (decide (2 * rem = den) && decide (n % 2 = 1))

/-- |m| * 2^(e - u) rounded to an integer. -/
def roundMag (mode : Nat) (m e u : Int) (r : Nat) : Nat :=
  let a := m.natAbs
  if u ≤ e then a * 2 ^ (e - u).toNat
  else
    let den := 2 ^ (u - e).toNat
    let n := a / den
    if roundUp mode n (a % den) den r then n + 1 else n

/-- Code of a float element from its significand n (with implicit bit when n ≥ 2^p), weight u and sign. -/
def Fmt.packFloat (f : Fmt) (neg : Bool) (n : Nat) (u : Int) : Nat :=
  let p := f.sigBits
  let (n, u) := if n = 2 ^ (p + 1) then (2 ^ p, u + 1) else (n, u)
  let (e, s) : Nat × Nat := if n < 2 ^ p then (0, n) else ((u + p + f.bias).toNat, n - 2 ^ p)
  e % 2 ^ f.expBits * 2 ^ f.expLsb + s % 2 ^ p * 2 ^ f.sigLsb +
    (if neg && decide (f.signPos ≠ 255) then 2 ^ f.signPos else 0)

/-- Does n * 2^u exceed n' * 2^u'? -/
def magGt (n : Nat) (u : Int) (n' : Nat) (u' : Int) : Bool :=
  let b := min u u'
  decide (n' * 2 ^ (u' - b).toNat < n * 2 ^ (u - b).toNat)

/-- Encode m * 2^e, m ≠ 0 or a format without zero, into a float format (R56): code and flags. -/
def Fmt.encFloat (f : Fmt) (m e : Int) (r : Nat) : Nat × Nat :=
  let p := f.sigBits
  let emin : Int := if f.subnormals then 1 - f.bias else -f.bias
  let neg := decide (m < 0)
  if m = 0 then (if f.subnormals then (0, 0) else (f.packFloat false (2 ^ p) (emin - p), 0))
  else if neg && decide (f.signPos = 255) then
    (if f.subnormals then (0, flagRange) else (f.packFloat false (2 ^ p) (emin - p), flagRange))
  else
    let t := e + log2 m.natAbs
    let u := max t emin - p
    let n := roundMag f.round m e u r
    let (nm, um) := f.maxFinite
    if magGt n u nm um then (f.packFloat neg nm um, flagRange)
    else if !f.subnormals && decide (n < 2 ^ p) then (f.packFloat neg (2 ^ p) (emin - p), 0)
    else (f.packFloat neg n u, 0)

/-- Ends of an integer format's element range (R56). -/
def Fmt.intRange (f : Fmt) : Int × Int :=
  if f.signPos = 255 then (0, ((2 ^ f.bits - 1 : Nat) : Int))
  else if f.intMode = 0 then (-((2 ^ (f.bits - 1) : Nat) : Int), ((2 ^ (f.bits - 1) - 1 : Nat) : Int))
  else (-((2 ^ (f.bits - 1) - 1 : Nat) : Int), ((2 ^ (f.bits - 1) - 1 : Nat) : Int))

/-- Code of an integer element. -/
def Fmt.packInt (f : Fmt) (v : Int) : Nat :=
  if f.signPos = 255 ∨ f.intMode = 0 then toBits f.bits v
  else v.natAbs + (if v < 0 then 2 ^ f.signPos else 0)

/-- Encode m * 2^e into an integer format with scale exponent t (R56): code and flags. A format without a sign bit gives a
negative nonzero value its smallest element, with RANGE. -/
def Fmt.encInt (f : Fmt) (m e t : Int) (r : Nat) : Nat × Nat :=
  if m < 0 ∧ f.signPos = 255 then (f.packInt 0, flagRange) else
  let n : Int := roundMag f.round m e (f.elemOffset + t) r
  let v := if m < 0 then -n else n
  let (lo, hi) := f.intRange
  if v < lo then (f.packInt lo, flagRange) else if hi < v then (f.packInt hi, flagRange) else (f.packInt v, 0)

/-- The largest positive finite element. -/
def Fmt.maxCode (f : Fmt) : Nat :=
  if f.kind = 1 then (let (n, u) := f.maxFinite; f.packFloat false n u) else f.packInt (f.intRange).2

/-- The element written for an INVALID output (R51). -/
def Fmt.invalidCode (f : Fmt) : Nat :=
  if f.sel < 0x40 then f.nanCode
  else if f.kind = 1 && (if f.expSpecial then !(f.hasInf && decide (f.sigBits = 0)) else f.nanAtMax) then
    f.nanCode % 2 ^ f.bits
  else f.maxCode

/-- Encode one value with scale exponent t: code and flags; an infinity is the largest finite value with RANGE. DESIGN CHOICE:
a codebook table with O in USES, which R46 permits and R56 gives no encoding for, is written as an integer table. -/
def Fmt.encode (f : Fmt) (x : Num) (t : Int) (r : Nat) : Nat × Nat :=
  match x with
  | .nan => (f.invalidCode, flagInvalid)
  | .inf neg =>
    if f.kind = 1 then
      let (n, u) := f.maxFinite
      if neg && decide (f.signPos = 255) then (0, flagRange) else (f.packFloat neg n u, flagRange)
    else
      let (lo, hi) := f.intRange
      (f.packInt (if neg then lo else hi), flagRange)
  | .fin m e => if f.kind = 1 then f.encFloat m (e - t) r else f.encInt m e t r

/-- floor(log2 |m * 2^e|) for m ≠ 0. -/
def Num.log2? : Num → Option Int
  | .fin m e => if m = 0 then none else some (e + log2 m.natAbs)
  | _ => none

/-- The block scale of R57: scale exponent, its code, and the flag the hold raises. Infinities and INVALID elements take
no part in the largest magnitude; a block of only INVALID elements takes the code of R51. -/
def Fmt.blockScale (f : Fmt) (xs : List Num) : Int × Nat × Nat :=
  let fl := (xs.filterMap Num.log2?)
  let allBad := xs ≠ [] && xs.all Num.isNan
  if f.scaleKind = 1 then
    if allBad then (-127, 0xFF, 0)
    else if fl = [] then (-127, 0, 0)
    else
      let s := maxI 0 fl - f.emaxElem
      if 127 < s then (127, 0xFE, flagRange) else if s < -127 then (-127, 0, 0) else (s, (s + 127).toNat, 0)
  else
    if allBad then (-128, 0x80, 0)
    else if fl = [] then (-128, 0x80, 0)
    else
      let s := maxI 0 fl - f.emaxElem
      if 127 < s then (127, 127, flagRange) else if s < -128 then (-128, 0x80, 0) else (s, toBits 8 s, 0)

/-- Encode a block (R57): scale code, element codes, flags. Clamping within the block sets no flag; `i0` is the flat
index of its first element. DESIGN CHOICE: a negative nonzero value in a block-scaled table without a sign bit, which R56
gives RANGE and R57 clamps without a flag, sets no flag. -/
def Fmt.encBlock (f : Fmt) (seed i0 : Nat) (xs : List Num) : Nat × List Nat × Nat :=
  let (s, code, fl) := f.blockScale xs
  let es := (List.range xs.length).map (fun i =>
    f.encode (xs.getD i .nan) s (if f.round = 2 then stochR seed (i0 + i) else 0))
  (code, es.map Prod.fst, fl ||| (es.foldl (fun a p => a ||| (p.2 &&& flagInvalid)) 0))

/-- Pack w-bit codes with no gaps (R38): the bytes. -/
def packCodes (w : Nat) (codes : List Nat) (nbytes : Nat) : List Nat :=
  toLe nbytes (codes.foldr (fun c acc => c % 2 ^ w + 2 ^ w * acc) 0)

/-- Split a list into runs of n (fuel k). -/
def chunks {α : Type} (n : Nat) : Nat → List α → List (List α)
  | 0, _ => []
  | k + 1, l => if l.isEmpty then [] else l.take n :: chunks n k (l.drop n)

/-- Encode 64 values as a vector slot (R56, R57, R99): its bytes (whole lines, unused bytes zero) and the flags. `t` is
the tensor exponent of formats with one scale per tensor, `seed` and `i0` serve stochastic rounding. -/
def Fmt.encSlot (f : Fmt) (t : Int) (seed i0 : Nat) (xs : List Num) : List Nat × Nat :=
  let n := 128 * f.slotLines
  let pad := fun (l : List Nat) => slice 0 l 0 n
  if f.block = 0 then
    let tt := if f.scaleKind = 3 then t else 0
    let es := (List.range 64).map (fun i =>
      f.encode (xs.getD i .zero) tt (if f.round = 2 then stochR seed (i0 + i) else 0))
    (pad (packCodes f.bits (es.map Prod.fst) (8 * f.bits) ++ (if f.scaleKind = 3 then [toBits 8 t] else [])),
      es.foldl (fun a p => a ||| p.2) 0)
  else
    let bs := chunks f.block 64 xs
    let rs := (List.range bs.length).map (fun b => f.encBlock seed (i0 + b * f.block) (bs.getD b []))
    (pad (packCodes f.bits (rs.map (fun r => r.2.1)).flatten (8 * f.bits) ++ rs.map Prod.fst),
      rs.foldl (fun a r => a ||| r.2.2) 0)

/-! ### Residue code (R63) -/

/-- r(x) = x mod 8,191, from 0 to 8,190. -/
def residue (x : Int) : Nat := (x % 8191).toNat

/-! ### Window partials (R53, R54) -/

/-- The 32 bytes of a window partial. -/
def partialBytes (a : Acc) (l : Int) : List Nat :=
  toLe 16 (toBits 128 a.x) ++ toLe 2 (toBits 16 l) ++ toLe 2 (residue a.x) ++ toLe 4 a.count ++
    [a.flags % 8] ++ List.replicate 7 0

/-- A window partial read: accumulator, WIN_LSB, RESIDUE. -/
def partialOf (b : List Nat) : Acc × Int × Nat :=
  ({ x := sext 128 (leAt b 0 16), count := leAt b 20 4, flags := b.getD 24 0 % 8 }, sext 16 (leAt b 16 2),
    leAt b 18 2 % 2 ^ 13)

end Sys2Proof.Machine
end

