-- ==== Sys2Proof/Machine/Structure.lean ====
section
/-! DEFINITION. The structure bitstream's sections read (R120 to R140), and the substitution of Tine sites (R91, R130, R136). -/

namespace Sys2Proof.Machine

/-- Little-endian field of n bytes at byte i. -/
def fieldAt (b : List Nat) (i n : Nat) : Nat := leAt b i n

/-- A directory entry (R123). -/
structure DirEnt where
  type : Nat
  off : Nat
  len : Nat
  count : Nat
deriving DecidableEq, Repr

/-- The directory of a bitstream. -/
def dirOf (b : List Nat) : List DirEnt :=
  (List.range (leAt b 6 2)).map (fun i =>
    let o := 128 + 16 * i
    { type := leAt b o 2, off := leAt b (o + 4) 4, len := leAt b (o + 8) 4, count := leAt b (o + 12) 4 })

/-- A section of a type, empty when absent. -/
def secOf (b : List Nat) (t : Nat) : DirEnt :=
  ((dirOf b).find? (fun e => e.type = t)).getD { type := t, off := 0, len := 0, count := 0 }

/-- Bytes of a section. -/
def secBytes (b : List Nat) (t : Nat) : List Nat :=
  let e := secOf b t
  if b = [] then [] else slice 0 b e.off e.len

/-! ### ROUTE (R126, R127, R18, R19) -/

/-- Mesh node (8 y + x) of an attachment code (R18, R136); code 0x64 stands for its first controller. -/
def nodeOf (code : Nat) : Nat :=
  if code < 64 then code
  else if code < 72 then 8 * 3 + (code - 64)
  else if code < 0x50 then code - 0x48
  else if code < 0x58 then 56 + (code - 0x50)
  else if code < 0x5E then 8 * (code - 0x58 + 1)
  else if code < 0x64 then 8 * (code - 0x5E + 1) + 7
  else if code = 0x64 then 8
  else if code = 0x65 then 8 * 2 + 2
  else if code = 0x66 then 8 * 5 + 5
  else if code = 0x67 then 8 * 4 + 3
  else if code = 0x68 then 8 * 3 + 4
  else if code = 0x69 then 8 * 5 + 2
  else 8 * 2 + 5

/-- X-first, then Y: the direction at node n towards d (R19). -/
def xFirst (n d : Nat) : Nat :=
  if n % 8 < d % 8 then 2 else if d % 8 < n % 8 then 4 else if n / 8 < d / 8 then 3 else if d / 8 < n / 8 then 1 else 0

/-- The ROUTE entry for class c, node n, destination d. -/
def routeEntry (sec : List Nat) (c n d : Nat) : Nat :=
  let i := c * 4096 + n * 64 + d
  if sec = [] then xFirst n d else sec.getD (i / 2) 0 / 16 ^ (i % 2) % 16

/-- The node one step in a direction; `none` outside the mesh. -/
def meshStep (n dir : Nat) : Option Nat :=
  match dir with
  | 1 => if n < 8 then none else some (n - 8)
  | 2 => if n % 8 = 7 then none else some (n + 1)
  | 3 => if 56 ≤ n then none else some (n + 8)
  | 4 => if n % 8 = 0 then none else some (n - 1)
  | _ => none

/-- The links (node, direction) a route takes from n to d, at most `fuel` of them; `none` when it leaves the mesh or does
not arrive. `sub`: the X-first substitution of RC0 has begun (R19). -/
def routePath (sec : List Nat) (c d : Nat) : Nat → Bool → Nat → Option (List (Nat × Nat))
  | 0, _, n => if n = d then some [] else none
  | k + 1, sub, n =>
    if n = d then some []
    else
      let e := routeEntry sec c n d
      let sub' := sub || (c = 0 && e = 15)
      let dir := if sub' then xFirst n d else e
      match meshStep n dir with
      | none => none
      | some n' => (routePath sec c d k sub' n').map (fun p => (n, dir) :: p)

/-- No west move after another direction (R127). -/
def turnsOk : Bool → List (Nat × Nat) → Bool
  | _, [] => true
  | moved, (_, dir) :: t => !(moved && dir = 4) && turnsOk (moved || dir ≠ 4) t

/-- Following the entries from n to d meets one that is no direction and that has a rule of its own broken: the route is stopped
by that entry's fault. -/
def routeStopped (sec : List Nat) (c d : Nat) : Nat → Bool → Nat → Bool
  | 0, _, _ => false
  | k + 1, sub, n =>
    let e := routeEntry sec c n d
    let sub' := sub || (c = 0 && e = 15)
    if n = d then false
    else if !sub' && decide (4 < e) then true
    else match meshStep n (if sub' then xFirst n d else e) with
      | none => false
      | some n' => routeStopped sec c d k sub' n'

/-- The checks of R127 on one entry's route: 0 sound, otherwise the result code. A route that ends at another entry with no route or a
reserved value is that entry's fault, and is reported there (R149: the first field found wrong). -/
def routeCheck (sec : List Nat) (c n d : Nat) : Nat :=
  let e := routeEntry sec c n d
  if c ≠ 0 ∧ e = 15 then 0x0B
  else if 4 < e ∧ e ≠ 15 then 0x0C
  else if (n = d) ≠ (e = 0) then 0x0C
  else match routePath sec c d 14 false n with
    | none => if routeStopped sec c d 14 false n then 0 else 0x0C
    | some p => if turnsOk false p then 0 else 0x0C

/-! ### RESV (R133 to R138) -/

/-- A Tine link profile (R134), shares in halves. -/
structure Tlp where
  fillIn : Nat
  streamIn : Nat
  dmaIn : Nat
  streamOut : Nat
  dmaOut : Nat
deriving DecidableEq, Repr

/-- A mesh flow (R136). -/
structure Flow where
  src : Nat
  dst : Nat
  cls : Nat
  rate : Nat
deriving DecidableEq, Repr

/-- A port-class record (R137). -/
structure PortClass where
  port : Nat
  vc : Nat
  share : Nat
  burst : Nat
  qbound : Nat
deriving DecidableEq, Repr

/-- TLP_COUNT, FLOW_COUNT, PCLASS_COUNT. -/
def resvCounts (r : List Nat) : Nat × Nat × Nat := (leAt r 0 2, leAt r 2 2, leAt r 4 2)

/-- Link profile i. -/
def tlpAt (r : List Nat) (i : Nat) : Tlp :=
  let o := 16 * (1 + i)
  { fillIn := r.getD o 0 % 32, streamIn := r.getD (o + 1) 0 % 32, dmaIn := r.getD (o + 2) 0 % 32,
    streamOut := r.getD (o + 3) 0 % 32, dmaOut := r.getD (o + 4) 0 % 32 }

/-- The mesh flows. -/
def flowsOf (r : List Nat) : List Flow :=
  (List.range (leAt r 2 2)).map (fun i =>
    let o := 16 * (1 + leAt r 0 2 + i)
    { src := r.getD o 0, dst := r.getD (o + 1) 0, cls := r.getD (o + 2) 0 % 4, rate := leAt r (o + 4) 2 })

/-- The port-class records. -/
def pclassesOf (r : List Nat) : List PortClass :=
  (List.range (leAt r 4 2)).map (fun i =>
    let o := 16 * (1 + leAt r 0 2 + leAt r 2 2 + i)
    { port := r.getD o 0 % 64, vc := r.getD (o + 1) 0 % 8, share := r.getD (o + 2) 0 % 128, burst := leAt r (o + 4) 2,
      qbound := leAt r (o + 8) 4 })

/-- The attachments a flow's code stands for, each with its rate in twelfths of a quarter (R136). -/
def flowEnds (code rate : Nat) : List (Nat × Nat) :=
  if code = 0x64 then (List.range 12).map (fun i => (0x58 + i, rate)) else [(code, 12 * rate)]

/-- Add to a counter. -/
def bump (k v : Nat) (l : SMap Nat) : SMap Nat := SMap.ins k (SMap.get 0 l k + v) l

/-- Loads of every mesh link (key 8 * node + direction), every attachment as source (key 1000 + code) and as destination
(key 2000 + code), with the node map `nd` (R136). -/
def flowLoads (sec : List Nat) (nd : Nat → Nat) (fs : List Flow) : SMap Nat :=
  fs.foldl (fun l f =>
    ((flowEnds f.src f.rate).map (fun s => (flowEnds f.dst f.rate).map (fun d => (s, d)))).flatten.foldl (fun l p =>
      let rate := min p.1.2 p.2.2
      let l1 := bump (2000 + p.2.1) rate (bump (1000 + p.1.1) rate l)
      match routePath sec f.cls (nd p.2.1) 14 false (nd p.1.1) with
      | some path => path.foldl (fun l k => bump (8 * k.1 + k.2) rate l) l1
      | none => l1) l) []

/-- The limits of R136, in twelfths of a quarter. -/
def loadsOk (l : SMap Nat) : Bool :=
  l.all (fun p =>
    if p.1 < 1000 then decide (p.2 ≤ 12 * 128)
    else
      let c := p.1 % 1000
      if 0x48 ≤ c ∧ c < 0x58 then decide (p.2 ≤ 12 * 64)
      else if c = 0x69 ∨ c = 0x6A then decide (p.2 ≤ 12 * 16) else true)

/-! ### TSET (R128 to R130) -/

/-- The site that stands for a named one: the substitution record followed to its end. -/
def Module.substOf (m : Module) : Nat → Nat → Nat
  | 0, s => s
  | k + 1, s => match SMap.find? m.saf.mor.subst s with
    | some p => Module.substOf m k p
    | none => s

/-- The site at which a flow's attachment code stands now: a replaced Tine's substitute takes its place in every flow (R130); a site
retired with no substitute keeps its own. -/
def Module.flowSite (m : Module) (code : Nat) : Nat :=
  let s := if code < 72 then m.substOf 72 code else code
  if code < 72 ∧ 72 ≤ s then code else s

/-- The node map of the flows. -/
def Module.flowNode (m : Module) (code : Nat) : Nat := nodeOf (m.flowSite code)

/-- The node map with site s, itself or as a substitute, moved to spare p's node. -/
def Module.movedNode (m : Module) (s p code : Nat) : Nat :=
  if code < 72 ∧ m.flowSite code = s then nodeOf p else m.flowNode code

/-- Spare p passes the spare check for site s (R136). -/
def Module.spareOk (m : Module) (sec : List Nat) (fs : List Flow) (s p : Nat) : Bool :=
  loadsOk (flowLoads sec (m.movedNode s p) fs)

/-- Some site names s as its substitute. -/
def Module.isSubst (m : Module) (s : Nat) : Bool := m.saf.mor.subst.any (fun p => p.2 = s)

/-- SITE_STATE (R91): 0 SPARE, 1 TESTING, 2 ACTIVE, 3 PARKED, 4 RETIRING, 5 RETIRED. -/
def Module.siteState (m : Module) (s : Nat) : Nat := m.rd Reg.tineState_siteState [s]

/-- Is site p a spare that stands for no site yet and is not marked as retired in the pool? -/
def Module.isSpare (m : Module) (p : Nat) : Bool :=
  m.siteState p = 0 && !(m.isSubst p) && (SMap.find? m.saf.mor.sites p).isNone

/-- The lowest-numbered spare that passes the spare check for site s and no migration has taken; 0xFF: none (R130). -/
def Module.spareFor (m : Module) (s : Nat) : Nat :=
  let sec := if m.str.force = [] then [] else secBytes m.str.force 1
  let fs := if m.str.force = [] then [] else flowsOf (secBytes m.str.force 4)
  ((List.range 72).find? (fun p => m.isSpare p && m.spareOk sec fs s p)).getD 0xFF

end Sys2Proof.Machine
end

