-- ==== Sys2Proof/Machine/Fabric.lean ====
section
/-! DEFINITION. Fabric links (R302 to R325) and the router (R326 to R345): what a port holds, what it sends, how a flit
received acts, and where a packet goes. The shared operations; each command's meaning stands in FabricOps.lean. -/

namespace Sys2Proof.Machine

/-! ### Ports -/

/-- Engine and local port of fabric port p. -/
def fp (p : Nat) : List Nat := [p / 4, p % 4]

/-- An optical port after reset. -/
def OptPort.reset : OptPort :=
  { switch := 0, pattern := 0, fails := 0, darkFails := 0, probeSeen := false, clkLock := false, timed := false, trained := false, txProp := 0, rxProp := 0,
    msgOut := 0, msgIn := 0, farLoop := false, track := 0, loop := 0, loopAsked := false, txClk := 16, swapOut := 0,
    countW := 0, countFb := false }

/-- Optical port p. -/
def Module.opt (m : Module) (p : Nat) : OptPort := SMap.get OptPort.reset m.optics p

/-- Optical port p changed. -/
def Module.modOpt (m : Module) (p : Nat) (f : OptPort → OptPort) : Module :=
  { m with optics := SMap.put OptPort.reset p (f (m.opt p)) m.optics }

/-- A link after reset. -/
def Link.reset : Link :=
  { replay := [], ctls := [], queue := [], cur := [], curReq := [], served := [], spent := [], oldAdv := [], usedH := [], usedD := [], retH := [], retD := [], rx := [],
    rxPart := [], owed := [], partOwed := [], rxH := [], rxD := [], rtnH := [], rtnD := [], changed := [], lastVc := 0, timeouts := 0, lastReplay := none,
    resumed := false, seenSent := false, farSeen := false, farNext := 0, pendTx := none, pendRx := none, wantTx := none, wantRx := none,
    mapFails := 0, txPos := 0, rxPos := 0, retries := [], starved := [], leaked := false, narrow := false,
    exhausted := false, fault := none }

/-- Link p. -/
def Module.link (m : Module) (p : Nat) : Link := SMap.get Link.reset m.links p

/-- Link p changed. -/
def Module.modLink (m : Module) (p : Nat) (f : Link → Link) : Module :=
  { m with links := SMap.put Link.reset p (f (m.link p)) m.links }

/-- State of link p: 0 DOWN, 1 INIT, 2 UP, 3 REINIT, 4 GRACE. -/
def Module.linkState (m : Module) (p : Nat) : Nat := m.rd Reg.fabLinkStatus_state [p]

/-- A port is usable for routing (R332). -/
def Module.usable (m : Module) (p : Nat) : Bool := decide (p < 64) && (m.linkState p == 2 || m.linkState p == 3)

/-- ROLE of port p in the VCMAP in force; disabled without a bitstream (R131, R151). -/
def Module.role (m : Module) (p : Nat) : Nat :=
  if m.str.force = [] then 0 else (secBytes m.str.force 3).getD (48 * p + 1) 0 % 4

/-- Header and data credits the VCMAP gives port p's VC v (R131). -/
def Module.vcCredits (m : Module) (p v : Nat) : Nat × Nat :=
  if m.str.force = [] then (0, 0)
  else let r := secBytes m.str.force 3
       (leAt r (48 * p + 16 + 2 * v) 2, leAt r (48 * p + 32 + 2 * v) 2)

/-- The port-class record of a port and VC, if any (R137). -/
def Module.pclass (m : Module) (p v : Nat) : Option PortClass :=
  if m.str.force = [] then none
  else (pclassesOf (secBytes m.str.force 4)).find? (fun c => decide (c.port = p) && decide (c.vc = v))

/-- Width of a port: the narrower of its two fibres (R322). -/
def Module.portWidth (m : Module) (p : Nat) : Nat :=
  min (m.rd Reg.firnPortStatus_txWidth (fp p)) (m.rd Reg.firnPortStatus_rxWidth (fp p))

/-- The queueing bound in force for a class at a port, in ns (R139). -/
def Module.qbound (m : Module) (p v : Nat) : Nat :=
  match m.pclass p v with
  | none => 0
  | some c => let w := (m.opt p).countW
              if 8 ≤ w ∧ w < 16 then ceilDiv (c.qbound * 16) w else c.qbound

/-- One-way latency of a port in ns, rounded up (R235). -/
def Module.latencyNs (m : Module) (p : Nat) : Nat := ceilDiv (m.rd Reg.firnPortLatency_oneWayPs (fp p)) 1000

/-- A fault of link p, which lasts until the link is UP again: the one it has already, or a new one (R406). -/
def Module.portFault (m : Module) (p : Nat) : Nat × Module :=
  match (m.link p).fault with
  | some f => (f, m)
  | none => let (f, m1) := m.newFault
            (f, m1.modLink p (fun l => { l with fault := some f }))

/-- An error record of a fabric link (class 0x0C): event, severity, detail. It belongs to the link's fault where it has one. -/
def Module.linkRec (m : Module) (p ev sev : Nat) (detail : List Nat) : Module :=
  let r := (LogRec.of 0x0C ev sev (0x48 + p / 4) p).at 0 detail
  match (m.link p).fault with
  | some f => m.logRec { r with faultId := f }
  | none => m.report r

/-- An error record of an optical port (class 0x0D). -/
def Module.optRec (m : Module) (p slot ev sev : Nat) : Module :=
  m.report ((LogRec.of 0x0D ev sev (0x48 + p / 4) (32 * p + slot)).at 0
    [m.rd Reg.firnWavePower_rxPower (fp p ++ [slot]), m.rd Reg.firnWaveRx_rxLock (fp p ++ [slot])])

/-- Bits PORTS_UP and PORTS_SAFE of the engine follow the state of its ports. -/
def Module.showFirn (m : Module) (p : Nat) : Module :=
  let st := m.rd Reg.firnPortStatus_state (fp p)
  (m.wrBit Reg.firnStatus_portsUp (p % 4) (st = 3) [p / 4]).wrBit Reg.firnStatus_portsSafe (p % 4) (st = 1 || st = 5) [p / 4]

/-- A port's optical state set: 0 DOWN, 1 SAFE, 2 TRAINING, 3 UP, 4 LOOPBACK, 5 SAFETY_CUT, which is latched (R293). -/
def Module.setFirn (m : Module) (p st : Nat) : Module :=
  if m.rd Reg.firnPortStatus_state (fp p) = 5 then m else (m.wr Reg.firnPortStatus_state st (fp p)).showFirn p

/-- A fibre's lane map set (R274): transmit (fibre 0) or receive (1), with its width. -/
def Module.setMap (m : Module) (p fibre map : Nat) : Module :=
  if fibre = 0 then (m.wr Reg.firnPortLanes_txMap map (fp p)).wr Reg.firnPortStatus_txWidth (popcount 16 map) (fp p)
  else (m.wr Reg.firnPortLanes_rxMap map (fp p)).wr Reg.firnPortStatus_rxWidth (popcount 16 map) (fp p)

/-- The map of a fibre. -/
def Module.laneMap (m : Module) (p fibre : Nat) : Nat :=
  if fibre = 0 then m.rd Reg.firnPortLanes_txMap (fp p) else m.rd Reg.firnPortLanes_rxMap (fp p)

/-- Flits between alignment boundaries at width w (R275). -/
def alignFlits (w : Nat) : Nat := w / Nat.gcd 2304 w

/-- The first alignment boundary at or after slot n at width w. -/
def alignUp (n w : Nat) : Nat := ceilDiv n (max 1 (alignFlits w)) * max 1 (alignFlits w)

/-- Flit slots that a time in ps spans at width w (a flit takes 2,304 / w UI of 19.53125 ps: 45,000 / w ps). -/
def flitSlots (ps w : Nat) : Nat := ceilDiv (ps * w) 45000

/-- X for a change this end starts (R320): on the own transmit fibre at least 1 us after the proposing flit, on the receive
fibre at least 2 L + 1 us after the slot being framed. The running slot index is no state of the spec: a free value. -/
def Module.switchSlot (m : Module) (p fibre : Nat) : Nat × Module :=
  let (n, m1) := m.draw 31
  let w := max 8 (popcount 16 (m.laneMap p fibre))
  let t := if fibre = 0 then 1000000 else 2 * m.rd Reg.firnPortLatency_oneWayPs (fp p) + 1000000
  (alignUp (n + flitSlots t w) w % 2 ^ 32, m1)

/-! ### Credits (R312 to R314) -/

/-- Credits a VC has left: ADV - ((USED - RET) mod 2^16). -/
def availOf (adv used ret : Nat) : Nat := adv - (used + 65536 - ret) % 65536

/-- Header credits available to VC v of link p. -/
def Module.availH (m : Module) (p v : Nat) : Nat :=
  let l := m.link p
  availOf (m.rd Reg.fabVcAdv_advH [p, v]) (SMap.get 0 l.usedH v) (SMap.get 0 l.retH v)

/-- Data credits available to VC v of link p. -/
def Module.availD (m : Module) (p v : Nat) : Nat :=
  let l := m.link p
  availOf (m.rd Reg.fabVcAdv_advD [p, v]) (SMap.get 0 l.usedD v) (SMap.get 0 l.retD v)

/-- FAB_VC_AVAIL and FAB_REPLAY follow what the link holds. -/
def Module.showLink (m : Module) (p : Nat) : Module :=
  (iter 8 (fun v m => (m.wr Reg.fabVcAvail_availH (m.availH p v) [p, v]).wr Reg.fabVcAvail_availD (m.availD p v) [p, v]) m).wr
    Reg.fabReplay_unacked (m.link p).replay.length [p]

/-! ### Sending (R303, R305 to R309, R312) -/

/-- The VC whose returns the next flit reports (R313), round robin after the last: one whose returns have changed, or else one with
credits. -/
def Module.pickVc (m : Module) (p : Nat) : Nat :=
  let l := m.link p
  let order := (List.range 8).map (fun i => (l.lastVc + 1 + i) % 8)
  match order.find? (fun v => l.changed.elem v) with
  | some v => v
  | none => (order.find? (fun v => m.vcCredits p v ≠ (0, 0))).getD ((l.lastVc + 1) % 8)

/-- Header bytes 0 to 11 of a flit as a number (R303): sequence number, type, VC, granules in use, START_MASK, with the ACK,
NAK and credit fields as they stand. -/
def Module.flitHead (m : Module) (p seq ftype vc n start : Nat) : Nat :=
  let l := m.link p
  let cv := m.pickVc p
  let ack := (m.rd Reg.fabSeqRx_expected [p] + 65535) % 65536
  seq + 2 ^ 16 * ack + 2 ^ 32 * (vc + 8 * m.rd Reg.fabSeqRx_nakActive [p] + 16 * ftype) + 2 ^ 40 * (cv + 16 * n) +
    2 ^ 48 * SMap.get 0 l.rtnH cv + 2 ^ 64 * SMap.get 0 l.rtnD cv + 2 ^ 80 * start

/-- The bytes of a flit that its CRC covers (R304): header bytes 0 to 11 and 18 bytes of each data granule. -/
def crcBytes (head : Nat) (gs : List (Nat × Nat)) : List Nat :=
  toLe 12 head ++ (gs.map (fun (g : Nat × Nat) => toLe 16 g.1 ++ toLe 2 g.2)).flatten

/-- Fifteen data granules, each with its check field: those in use, the rest zero. -/
def padGrans (gs : List (Nat × Nat)) : List (Nat × Nat) :=
  slice (0, 0) (gs.map (fun (g : Nat × Nat) => (g.1, codeCheck g.1 ^^^ g.2))) 0 15

/-- A flit put on the fibre: NAK_SENT counts, and the reported returns are no longer new. -/
def Module.putFlit (m : Module) (p seq ftype vc start : Nat) (gs : List (Nat × Nat)) : Module :=
  let head := m.flitHead p seq ftype vc gs.length start
  let body := padGrans gs
  let cv := m.pickVc p
  let m1 := if m.rdB Reg.fabSeqRx_nakActive [p] then m.count Reg.fabNakSent_count 1 [p] else m
  (m1.emit (.flit p (head + 2 ^ 96 * crc32c (crcBytes head body)) body (m.laneMap p 0) (m.link p).txPos)).modLink p
    (fun l => { l with lastVc := cv, txPos := l.txPos + 1, changed := l.changed.filter (fun v => v ≠ cv) })

/-- A held flit put on the fibre, first or again. -/
def Module.putTx (m : Module) (p : Nat) (f : TxFlit) : Module :=
  match f.ctl with
  | none => m.putFlit p f.seq 1 f.vc f.start f.grans
  | some (msg, fields) => (m.emit (.linkMsg p (m.flitHead p f.seq 2 0 4 0) msg fields)).modLink p (fun l => { l with txPos := l.txPos + 1 })

/-- A sequenced flit numbered, held for replay and sent (R307). -/
def Module.sendSeq (m : Module) (p : Nat) (f : TxFlit) : Module :=
  let seq := m.rd Reg.fabSeqTx_nextSeq [p]
  let f' := { f with seq := seq }
  ((m.modLink p (fun l => { l with replay := l.replay ++ [f'] })).wr Reg.fabSeqTx_nextSeq ((seq + 1) % 65536) [p]).putTx p f'

/-- A CTL message sent (R317); with a full window it waits (R307). -/
def Module.sendCtl (m : Module) (p msg : Nat) (fields : List Nat) : Module :=
  if m.linkState p ≠ 2 then m
  else if (m.link p).replay.length < 3640 ∧ (m.link p).ctls = [] then
    (m.sendSeq p { seq := 0, vc := 0, start := 0, grans := [], ctl := some (msg, fields), req := none }).showLink p
  else m.modLink p (fun l => { l with ctls := l.ctls ++ [(msg, fields)] })

/-- The two header granules of a packet (R329). -/
def Pkt.head (k : Pkt) : List (Nat × Nat) :=
  let g0 := k.dst % 2 ^ 20 + 2 ^ 24 * (k.src % 2 ^ 20) + 2 ^ 48 * (k.tc % 8 + 64 * ofB k.detoured + 128 * ofB k.last) +
    2 ^ 56 * (k.hops % 8) + 2 ^ 64 * (k.epoch % 2 ^ 32) + 2 ^ 96 * (k.rem % 2 ^ 32)
  let g1 := k.ctx % 2 ^ 16 + 2 ^ 16 * (k.len % 2 ^ 24) + 2 ^ 40 * (k.op % 256) + 2 ^ 48 * (k.srcPair % 2 ^ 14) +
    2 ^ 64 * (k.tag % 2 ^ 16) + 2 ^ 80 * (k.srcPeer % 2 ^ 14) + 2 ^ 96 * (k.offset % 2 ^ 32)
  [(g0, 0), (g1, 0)]

/-- A packet read from its header granules and its data. -/
def Pkt.ofHead (g0 g1 : Nat) (data : List (Nat × Nat)) : Pkt :=
  { dst := bitsOf g0 19 0, src := bitsOf g0 43 24, last := bitB g0 55, detoured := bitB g0 54, tc := bitsOf g0 50 48,
    hops := bitsOf g0 58 56, epoch := bitsOf g0 95 64, rem := bitsOf g0 127 96, ctx := bitsOf g1 15 0, len := bitsOf g1 39 16,
    op := bitsOf g1 47 40, srcPair := bitsOf g1 61 48, tag := bitsOf g1 79 64, srcPeer := bitsOf g1 93 80,
    offset := bitsOf g1 127 96, data := data, req := none }

/-- Granules of VC v for one flit, at most n: taken so far, START_MASK, what is left to send of the current packet, the
queue, and the credits left. -/
def fillFlit : Nat → List (Nat × Nat) → Nat → List (Nat × Nat) → List Pkt → Nat → Nat → Option Nat →
    List (Nat × Nat) × Nat × List (Nat × Nat) × List Pkt × Nat × Option Nat
  | 0, acc, start, cur, q, h, _, r => (acc, start, cur, q, h, r)
  | n + 1, acc, start, cur, q, h, d, r =>
    if d = 0 then (acc, start, cur, q, h, r)
    else match cur with
      | g :: t => fillFlit n (acc ++ [g]) start t q h (d - 1) r
      | [] => match q with
        | [] => (acc, start, [], [], h, r)
        | k :: q' =>
          if h = 0 then (acc, start, [], q, h, r)
          else match k.head ++ k.data with
            | g :: t => fillFlit n (acc ++ [g]) (start + 2 ^ acc.length) t q' (h - 1) (d - 1) k.req
            | [] => (acc, start, [], q', h, r)

/-- VC v has something that its credits let it send. -/
def Module.vcReady (m : Module) (p v : Nat) : Bool :=
  let l := m.link p
  decide (m.availD p v > 0) && (decide (SMap.get [] l.cur v ≠ []) ||
    (decide (SMap.get [] l.queue v ≠ []) && decide (m.availH p v > 0)))

/-- Flits of a VC that its SHARE covers in one round of a port w wavelengths wide (R137, R139). -/
def sharePerRound (share w : Nat) : Nat := share * (1820 * w / 16) / 64

/-- VC v of link p may send under its SHARE and BURST (R138): in any round no more flits leave than one burst beyond its share. A VC
with no record is not shaped. No flit slot is an event of the model, so the share is counted by the round. -/
def Module.shaped (m : Module) (p v : Nat) : Bool :=
  match m.pclass p v with
  | none => true
  | some c => decide (SMap.get 0 (m.link p).spent v < c.burst + sharePerRound c.share (m.portWidth p))

/-- A round has passed: each reserved VC's share of its slots covers that much of what it has sent. -/
def Module.shareRound (m : Module) (p : Nat) : Module :=
  m.modLink p (fun l => { l with
    spent := l.spent.filterMap (fun (x : Nat × Nat) =>
      let k := match m.pclass p x.1 with
        | some c => x.2 - sharePerRound c.share (m.portWidth p)
        | none => 0
      if k = 0 then none else some (x.1, k)) })

/-- The VC of the next DATA flit (R138, R312): VC7; then, of VC1 to VC5 with a record and within its shape, the one furthest behind
its SHARE; then VC0 and VC6. -/
def Module.pickTx (m : Module) (p : Nat) : Option Nat :=
  let l := m.link p
  if m.vcReady p 7 then some 7
  else
    let cand := [1, 2, 3, 4, 5].filterMap (fun v =>
      if m.vcReady p v && m.shaped p v then (m.pclass p v).map (fun c => (v, SMap.get 0 l.served v, max 1 c.share)) else none)
    match cand with
    | c :: t =>
      some (t.foldl (fun (a b : Nat × Nat × Nat) => if (b.2.1 + 1) * a.2.2 < (a.2.1 + 1) * b.2.2 then b else a) c).1
    | [] => [0, 6, 1, 2, 3, 4, 5].find? (fun v => m.vcReady p v && m.shaped p v)

/-- One DATA flit of VC v formed, numbered and sent. -/
def Module.sendData (m : Module) (p v : Nat) : Module :=
  let l := m.link p
  let (gs, start, cur, q, h, r) := fillFlit 15 [] 0 (SMap.get [] l.cur v) (SMap.get [] l.queue v) (m.availH p v)
    (m.availD p v) (SMap.find? l.curReq v)
  let m1 := m.modLink p (fun l =>
    { l with cur := SMap.put [] v cur l.cur, queue := SMap.put [] v q l.queue
             curReq := match r with
               | some x => SMap.ins v x l.curReq
               | none => SMap.del v l.curReq
             served := SMap.ins v (SMap.get 0 l.served v + 1) l.served
             spent := SMap.ins v (SMap.get 0 l.spent v + 1) l.spent
             usedH := SMap.ins v ((SMap.get 0 l.usedH v + (m.availH p v - h)) % 65536) l.usedH
             usedD := SMap.ins v ((SMap.get 0 l.usedD v + gs.length) % 65536) l.usedD })
  m1.sendSeq p { seq := 0, vc := v, start := start, grans := gs, ctl := none, req := r }

/-- CTL flits that waited, then DATA flits, sent while the link is UP, its window is open and a VC is ready (R307, R312): at most n. -/
def Module.pumpN (m : Module) (p : Nat) : Nat → Module
  | 0 => m
  | n + 1 =>
    if m.linkState p = 2 ∧ (m.link p).replay.length < 3640 then
      match (m.link p).ctls with
      | c :: t =>
        ((m.modLink p (fun l => { l with ctls := t })).sendSeq p
          { seq := 0, vc := 0, start := 0, grans := [], ctl := some c, req := none }).pumpN p n
      | [] =>
        match m.pickTx p with
        | some v => (m.sendData p v).pumpN p n
        | none => m
    else m

/-- What the port can send is sent; the registers follow. A flit slot is no event of the model: sending happens at once. -/
def Module.pump (m : Module) (p : Nat) : Module := (m.pumpN p 4096).showLink p

/-- After a flit was received: what can be sent is sent, and when nothing is, one IDLE carries the ACK, the NAK and the
credit returns (R309, R312). -/
def Module.answer (m : Module) (p : Nat) : Module :=
  let n := m.out.length
  let m1 := m.pump p
  if m1.out.length = n ∧ m1.linkState p = 2 then (m1.putFlit p (m1.rd Reg.fabSeqTx_nextSeq [p]) 0 0 0 []).showLink p else m1

/-- Everything unacknowledged sent again, from the oldest (R308, R310). -/
def Module.replayAll (m : Module) (p : Nat) : Module :=
  let l := m.link p
  let m1 := l.replay.foldl (fun m f => m.putTx p f) m
  (m1.count Reg.fabReplayedFlits_count l.replay.length [p]).modLink p (fun l =>
    { l with lastReplay := (l.replay.head?).map (fun f => f.seq) })

/-! ### Initialisation (R315, R316, R318) -/

/-- An INIT message sent: package, port, die serial, ROLE, kind, INIT_SEEN, NEXT_EXPECTED, then ADV_H and ADV_D of VC0 to
VC7. A resumed initialisation advertises what is not occupied. -/
def Module.sendInit (m : Module) (p : Nat) (seen : Bool) : Module :=
  let l := m.link p
  let part := fun v => SMap.get [] l.rxPart v
  let occH := fun v => if l.resumed then (SMap.get [] l.rx v).length + (if part v = [] then 0 else 1) else 0
  let occD := fun v => if l.resumed then sumN ((SMap.get [] l.rx v).map (fun k => 2 + k.data.length)) + (part v).length else 0
  let advH := (List.range 8).map (fun v => (m.vcCredits p v).1 - occH v)
  let advD := (List.range 8).map (fun v => (m.vcCredits p v).2 - occD v)
  let m1 := m.emit (.linkMsg p (m.flitHead p (m.rd Reg.fabSeqTx_nextSeq [p]) 3 0 4 0) 1
    ([m.rd Reg.rteId_pkgId, p, Config.dieSerial, m.role p, ofB l.resumed, ofB seen, m.rd Reg.fabSeqRx_expected [p]] ++ advH ++ advD))
  if seen then m1.modLink p (fun l => { l with seenSent := true }) else m1

/-- What a link keeps where it starts afresh: the complete packets it has received, which owe no credits any more. -/
def Link.fresh (l : Link) : Link := { Link.reset with rx := l.rx, fault := l.fault, owed := l.rx.map (fun x => (x.1, x.2.map (fun _ => (0, 0)))) }

/-- A fresh initialisation starts (R315). -/
def Module.startFresh (m : Module) (p : Nat) : Module :=
  let m1 := m.modLink p (fun l => { l.fresh with queue := l.queue })
  let m2 := ((((m1.wr Reg.fabSeqTx_nextSeq 0 [p]).wr Reg.fabSeqTx_acked 0xFFFF [p]).wr Reg.fabSeqRx_expected 0 [p]).clr
    Reg.fabSeqRx_nakActive [p]).wr Reg.fabLinkStatus_state 1 [p]
  (m2.sendInit p false).showLink p

/-- A resumed initialisation starts (R315): sequence numbers and replay buffer stay; the receiver counts credits afresh, and what its
buffer holds is taken off what it advertises (R316). -/
def Module.startResumed (m : Module) (p : Nat) : Module :=
  let m1 := m.modLink p (fun l => { l with
    resumed := true, seenSent := false, farSeen := false, lastReplay := none, txPos := 0, rxPos := 0, rxH := [], rxD := [], rtnH := [],
    rtnD := [], changed := [], owed := l.fresh.owed, partOwed := [] })
  ((m1.wr Reg.fabLinkStatus_state 3 [p]).sendInit p false).showLink p

/-- Requests of this module whose packets on VC2 to VC5 a port still holds. -/
def Link.reqs (l : Link) : List Nat :=
  let qs := (l.queue.filter (fun x => decide (2 ≤ x.1) && decide (x.1 ≤ 5))).flatMap (fun x => x.2.filterMap Pkt.req)
  let cs := (l.cur.filter (fun c => decide (c.2 ≠ []) && decide (2 ≤ c.1) && decide (c.1 ≤ 5))).filterMap (fun c => SMap.find? l.curReq c.1)
  let fs := (l.replay.filter (fun f => f.ctl.isNone && decide (2 ≤ f.vc) && decide (f.vc ≤ 5))).filterMap TxFlit.req
  (qs ++ cs ++ fs).eraseDups

/-- A retrain delays the packets a port holds: each request of theirs meets one fault (R319, R406). -/
def Module.retrainDelay (m : Module) (p : Nat) : Module :=
  let ids := (m.link p).reqs
  if ids = [] then m
  else
    let (f, m1) := m.portFault p
    m1.charge f (fun id _ => ids.elem id)

/-- A reinitialisation (R319, R323). -/
def Module.reinit (m : Module) (p : Nat) : Module := if m.linkState p = 2 then (m.retrainDelay p).startResumed p else m

/-- A reinitialisation that this end starts: the far end is asked for it by RETRAIN_REQ kind 0 (R318, R319). -/
def Module.reinitAsk (m : Module) (p : Nat) : Module := (m.sendCtl p 2 [0]).reinit p

/-- A credit leak found (R314): the event, its count and record, and the port reinitialises. -/
def Module.creditLeak (m : Module) (p : Nat) : Module :=
  let m1 := (((m.portFault p).2.set1 Reg.fabEvents_creditLeak [p]).count Reg.fabCreditLeaks_count 1 [p]).modLink p
    (fun l => { l with leaked := true })
  (m1.linkRec p 0 sevRecovered [m.rd Reg.fabLinkStatus_downReason [p], 0]).reinitAsk p

/-- Initialisation completes: the link is UP and a resumed one replays from NEXT_EXPECTED (R315, R323). The granules that
replay sends consume credits again. -/
def Module.initDone (m : Module) (p : Nat) : Module :=
  let l := m.link p
  if !(l.seenSent && l.farSeen) then m
  else
    let m1 := ((m.wr Reg.fabLinkStatus_state 2 [p]).wr Reg.fabLinkStatus_downReason 0 [p]).modLink p (fun l => { l with exhausted := false, fault := none })
    if !l.resumed then m1.pump p
    else
      let acked := (l.farNext + 65535) % 65536
      let adv := (acked + 65536 - m.rd Reg.fabSeqTx_acked [p]) % 65536
      let m2 := if adv ≤ l.replay.length then
          (m1.wr Reg.fabSeqTx_acked acked [p]).modLink p (fun l => { l with replay := l.replay.drop adv, timeouts := 0 }) else m1
      let m3 := m2.modLink p (fun l => l.replay.foldl (fun l f =>
        { l with usedH := SMap.ins f.vc (SMap.get 0 l.usedH f.vc + popcount 15 f.start) l.usedH
                 usedD := SMap.ins f.vc (SMap.get 0 l.usedD f.vc + f.grans.length) l.usedD })
        { l with usedH := [], usedD := [], retH := [], retD := [], leaked := false })
      (m3.replayAll p).pump p

/-- The replay buffer holds content of VC v. -/
def Link.holds (l : Link) (v : Nat) : Bool := l.replay.any (fun f => f.ctl.isNone && decide (f.vc = v))

/-- An old allotment that stayed in force ends when the content it was for has been delivered (R316). -/
def Module.endOldAdv (m : Module) (p : Nat) : Module :=
  let l := m.link p
  let gone := l.oldAdv.filter (fun v => !l.holds v)
  gone.foldl (fun m v => (m.wr Reg.fabVcAdv_advH 0 [p, v]).wr Reg.fabVcAdv_advD 0 [p, v])
    (m.modLink p (fun l => { l with oldAdv := l.oldAdv.filter (fun v => !gone.elem v) }))

/-- An INIT received (R315, R316, R318, R323): `ini` is package, port, serial, role, kind, INIT_SEEN, NEXT_EXPECTED; `advH` and
`advD` the credits of VC0 to VC7. -/
def Module.takeInit (m : Module) (p pkg port serial role next : Nat) (seen : Bool) (advH advD : List Nat) : Module :=
  let mine := m.rd Reg.rteId_pkgId * 64 + p
  let far := pkg * 64 + port
  let both := m.rd Reg.rteId_pkgId = 0x3FFF ∧ pkg = 0x3FFF
  let m1 := (((m.wr Reg.fabLinkStatus_peerPkg pkg [p]).wr Reg.fabLinkStatus_peerPort port [p]).wr Reg.fabLinkStatus_master
    (ofB (if both ∧ Config.dieSerial ≠ serial then decide (Config.dieSerial < serial) else decide (mine < far))) [p])
  if mine = far ∧ Config.dieSerial = serial then
    ((m1.wr Reg.fabLinkStatus_state 0 [p]).wr Reg.fabLinkStatus_downReason 3 [p]).set1 Reg.fabEvents_selfLoop [p]
      |>.linkRec p 3 sevDegraded [3, 0]
  else if role ≠ m.role p then
    ((m1.wr Reg.fabLinkStatus_state 0 [p]).wr Reg.fabLinkStatus_downReason 4 [p]).set1 Reg.fabEvents_roleMismatch [p]
      |>.linkRec p 2 sevDegraded [4, 0]
  else
    let l := m1.link p
    let old := fun (v : Nat) => l.resumed && decide (advH.getD v 0 = 0 ∧ advD.getD v 0 = 0) && l.holds v
    let m2 := iter 8 (fun v m => if old v then m else
      (m.wr Reg.fabVcAdv_advH (advH.getD v 0) [p, v]).wr Reg.fabVcAdv_advD (advD.getD v 0) [p, v]) m1
    let m3 := m2.modLink p (fun l => { l with farSeen := l.farSeen || seen, farNext := next, oldAdv := (List.range 8).filter old })
    let m4 := if (m3.link p).seenSent then m3 else m3.sendInit p true
    (m4.initDone p).showLink p

/-! ### Receiving (R304 to R311, R313) -/

/-- One more flit slot of the receive fibre has passed (R302). -/
def Module.flitCame (m : Module) (p : Nat) : Module := m.modLink p (fun l => { l with rxPos := l.rxPos + 1 })

/-- The ACK, NAK and credit returns of a flit that passed its CRC (R305, R308, R309, R313). `late`: at least 2 L + 1 us have
passed since the last replay from the same point started. -/
def Module.takeReturns (m : Module) (p ack nak cv ch cd : Nat) (late : Bool) : Module :=
  let m := m.flitCame p
  let l := m.link p
  let adv := (ack + 65536 - m.rd Reg.fabSeqTx_acked [p]) % 65536
  let m1 := if adv ≤ l.replay.length then
      if adv = 0 then m
      else ((m.wr Reg.fabSeqTx_acked ack [p]).modLink p (fun l => { l with replay := l.replay.drop adv, timeouts := 0 })).endOldAdv p
    else m.count Reg.fabAckErr_count 1 [p]
  let l1 := m1.link p
  let dh := (ch + 65536 - SMap.get 0 l1.retH cv) % 65536
  let dd := (cd + 65536 - SMap.get 0 l1.retD cv) % 65536
  let okH := decide (dh ≤ (SMap.get 0 l1.usedH cv + 65536 - SMap.get 0 l1.retH cv) % 65536)
  let okD := decide (dd ≤ (SMap.get 0 l1.usedD cv + 65536 - SMap.get 0 l1.retD cv) % 65536)
  let m2 := if okH && okD then m1.modLink p (fun l => { l with retH := SMap.ins cv ch l.retH, retD := SMap.ins cv cd l.retD })
    else m1.creditLeak p
  if nak = 1 ∧ (m2.link p).replay ≠ [] then
    if (m2.link p).lastReplay = ((m2.link p).replay.head?).map (fun f => f.seq) ∧ !late then m2 else m2.replayAll p
  else m2

/-- The receiver enters the NAK condition (R308). -/
def Module.nak (m : Module) (p : Nat) : Module := m.set1 Reg.fabSeqRx_nakActive [p]

/-- A sequenced flit judged by its number (R308): accepted, with `k` acting on the module; a duplicate; or missing. -/
def Module.takeSeq (m : Module) (p seq : Nat) (k : Module → Module) : Module :=
  let e := m.rd Reg.fabSeqRx_expected [p]
  if seq = e then k ((m.wr Reg.fabSeqRx_expected ((e + 1) % 65536) [p]).clr Reg.fabSeqRx_nakActive [p])
  else if 1 ≤ (e + 65536 - seq) % 65536 ∧ (e + 65536 - seq) % 65536 ≤ 32767 then m.count Reg.fabDuplicates_count 1 [p]
  else m.nak p

/-- The n-th set bit of x among the low `w` bits, counted from i. -/
def nthBit : Nat → Nat → Nat → Nat → Nat
  | 0, i, _, _ => i
  | w + 1, i, n, x => if x % 2 = 0 then nthBit w (i + 1) n (x / 2) else if n = 0 then i else nthBit w (i + 1) (n - 1) (x / 2)

/-- The slot and the unit interval of bit b of the flit that is the `pos`-th since the map's last change: stream bit 2,304 pos + b goes
to the (bit mod w)-th slot of the map (R274). -/
def lane (map pos b : Nat) : Nat × Nat :=
  let w := max 1 (popcount 16 map)
  (nthBit 16 0 ((2304 * pos + b) % w) map, (2304 * pos + b) / w)

/-- A corrected bit of the flit being received is attributed to the slot that carried it (R274); `b`: its place in the flit. -/
def Module.waveErr (m : Module) (p b : Nat) : Module :=
  m.count Reg.firnWaveErr_errors 1 (fp p ++ [(lane (m.laneMap p 1) ((m.link p).rxPos - 1) b).1])

/-- Granule k of the flit being received at mesh entry (R191): corrected, counted and attributed to its slot, or forwarded
poisoned. -/
def Module.meshEntry (m : Module) (p k : Nat) (g : Nat × Nat) : (Nat × Nat) × Module :=
  match codeDecode g.2 with
  | .clean => ((g.1, 0), m)
  | .data b => ((codeData g.1 (.data b), 0), (m.count Reg.fabCodeCorr_count 1 [p]).waveErr p (144 * k + b))
  | .check => ((g.1, 0), (m.count Reg.fabCodeCheckfield_count 1 [p]).waveErr p (144 * k + 128 + lowBit 16 0 g.2))
  | .poison => ((g.1, poisonSynd), m)
  | .uncorr => ((g.1, poisonSynd), m)

/-- Credits returned for a packet that leaves the receive buffer (R313): h header and n data credits. -/
def Module.freeRx (m : Module) (p v h n : Nat) : Module :=
  if h = 0 ∧ n = 0 then m
  else m.modLink p (fun l =>
    { l with rtnH := SMap.ins v ((SMap.get 0 l.rtnH v + h) % 65536) l.rtnH
             rtnD := SMap.ins v ((SMap.get 0 l.rtnD v + n) % 65536) l.rtnD
             changed := if l.changed.elem v then l.changed else l.changed ++ [v] })

/-- Granule k of a flit joins the packet being received on VC v (R306): the packet is complete when its header granules and its
data are there; a packet whose TC or LENGTH is wrong, or whose header is uncorrectable, is discarded (R329). -/
def Module.rxGranule (m : Module) (p v k : Nat) (g : Nat × Nat) : Module :=
  let (g', m0) := m.meshEntry p k g
  let old := SMap.get [] (m0.link p).rxPart v
  let owe := SMap.get (0, 0) (m0.link p).partOwed v
  let owe' := (owe.1 + (if old = [] then 1 else 0), owe.2 + 1)
  let m1 := m0.modLink p (fun l => { l with partOwed := SMap.ins v owe' l.partOwed })
  let part := old ++ [g']
  match part with
  | (h0, s0) :: (h1, s1) :: data =>
    let k := Pkt.ofHead h0 h1 data
    let need := if k.len ≤ 4096 then ceilDiv k.len 16 else 0
    if data.length < need then m1.modLink p (fun l => { l with rxPart := SMap.put [] v part l.rxPart })
    else
      let m2 := m1.modLink p (fun l => { l with rxPart := SMap.put [] v [] l.rxPart, partOwed := SMap.del v l.partOwed })
      if k.tc ≠ v ∨ k.len > 4096 ∨ s0 ≠ 0 ∨ s1 ≠ 0 then (m2.count Reg.rteBadHeader_count).freeRx p v owe'.1 owe'.2
      else m2.modLink p (fun l => { l with rx := SMap.ins v (SMap.get [] l.rx v ++ [k]) l.rx
                                           owed := SMap.ins v (SMap.get [] l.owed v ++ [owe']) l.owed })
  | _ => m1.modLink p (fun l => { l with rxPart := SMap.put [] v part l.rxPart })

/-- The data area of an accepted DATA flit enters the receive buffer (R306). -/
def Module.rxData (m : Module) (p v start : Nat) (gs : List (Nat × Nat)) : Module :=
  let m1 := m.modLink p (fun l =>
    { l with rxH := SMap.ins v ((SMap.get 0 l.rxH v + popcount 15 start) % 65536) l.rxH
             rxD := SMap.ins v ((SMap.get 0 l.rxD v + gs.length) % 65536) l.rxD })
  gs.zipIdx.foldl (fun m x => m.rxGranule p v (x.2 + 1) x.1) m1

/-- A flit that fails its CRC or carries a reserved type (R304, R308). -/
def Module.badFlit (m : Module) (p : Nat) : Module := (((m.flitCame p).count Reg.fabCrcErr_count 1 [p]).nak p).answer p

/-- The packet at the head of a port's receive buffer for a VC. -/
def Module.headPkt (m : Module) (p v : Nat) : Option Pkt := (SMap.get [] (m.link p).rx v).head?

/-- The head packet leaves the receive buffer; its credits are returned. -/
def Module.popPkt (m : Module) (p v : Nat) : Module :=
  match m.headPkt p v with
  | none => m
  | some _ =>
    let owe := (SMap.get [] (m.link p).owed v).headD (0, 0)
    (m.modLink p (fun l => { l with rx := SMap.ins v (SMap.get [] l.rx v).tail l.rx
                                    owed := SMap.ins v (SMap.get [] l.owed v).tail l.owed })).freeRx p v owe.1 owe.2

/-! ### Link down, grace, flush (R323, R324) -/

/-- A flush (R324): replay buffer, queued packets and credit state are discarded and counted; complete packets received stay. The answer names the requests
of this module whose packets on VC2 to VC5 were lost, and whether VC1 lost one. -/
def Module.flushPort (m : Module) (p : Nat) : List Nat × Bool × Module :=
  let l := m.link p
  let qs := ((List.range 8).map (fun v => (SMap.get [] l.queue v).map (fun k => (v, k.req)))).flatten
  let cs := (l.cur.filter (fun (c : Nat × List (Nat × Nat)) => decide (c.2 ≠ []))).map (fun c => (c.1, SMap.find? l.curReq c.1))
  let fs := (l.replay.filter (fun f => f.ctl.isNone)).map (fun f => (f.vc, f.req))
  let starts := sumN ((l.replay.filter (fun f => f.ctl.isNone)).map (fun f => popcount 15 f.start))
  let all := qs ++ cs ++ fs
  let n := qs.length + starts
  let m1 := ((m.modLink p Link.fresh).count Reg.fabFlushedPkts_count n [p]).set1 Reg.fabEvents_flushed [p]
  let m2 := iter 8 (fun v m => (m.wr Reg.fabVcAdv_advH 0 [p, v]).wr Reg.fabVcAdv_advD 0 [p, v]) m1
  ((all.filter (fun a => decide (2 ≤ a.1) && decide (a.1 ≤ 5))).filterMap (fun a => a.2),
   all.any (fun a => a.1 = 1), (m2.linkRec p 6 sevDegraded [m.rd Reg.fabLinkStatus_downReason [p], n]).showLink p)

/-- A link goes DOWN with a flush and a reason (R323): 1 PHY_DOWN, 5 WIDTH_BELOW_8, 6 HOST. -/
def Module.linkDown (m : Module) (p reason : Nat) : List Nat × Bool × Module :=
  if m.linkState p = 0 then ([], false, m)
  else
    let m0 : Module := { m with rte := { m.rte with routes := m.rte.routes.filter (fun r => r.2.2.2.1 ≠ p) } }
    ((m0.wr Reg.fabLinkStatus_downReason reason [p]).wr Reg.fabLinkStatus_state 0 [p]).flushPort p

/-- Pairing state of this member (PAIR_STATUS.STATE): 0 UNPAIRED, 1 JOINING, 2 STANDBY, 3 ACTIVE, 4 ACTIVE_ALONE, 5 CLAIMING,
6 FENCED. -/
def Module.pairState (m : Module) : Nat := m.rd Reg.pairStatus_state

/-- A member that accepts no request, releases nothing and emits nothing of its pair but on VC1 and VC7 (R381). -/
def Module.silent (m : Module) : Bool :=
  let st := m.pairState
  st = 1 || st = 2 || st = 5 || st = 6

/-- What lies behind a port for notices: a member for a local port, a group for a global one. -/
def Module.behind (m : Module) (p : Nat) : Bool × Nat :=
  let peer := m.rd Reg.fabLinkStatus_peerPkg [p]
  if m.role p = 2 then (true, peer / 32) else (false, peer % 32)

/-- A link leaves UP or REINIT for GRACE (R323): new packets take other routes at once, and messages in course are routed
afresh (R331). Nothing is lost. -/
def Module.toGrace (m : Module) (p : Nat) (narrow : Bool) : Module :=
  if m.linkState p = 2 ∨ m.linkState p = 3 then
    let m1 := (m.wr Reg.fabLinkStatus_state 4 [p]).modLink p (fun l => { l with narrow := narrow, pendTx := none, pendRx := none, wantTx := none, wantRx := none })
    { m1 with rte := { m1.rte with routes := m1.rte.routes.filter (fun r => r.2.2.2.1 ≠ p) } }
  else m

/-! ### Lane map changes (R320) -/

/-- Bits of a that are not bits of b. -/
def maskOff (a b : Nat) : Nat := a - (a &&& b)

/-- A fibre switched to its new map: event, count and record; flits are counted anew; fallback moves the clock source, and a return to
slot 16 ends it (R275, R283, R320). -/
def Module.applyMap (m : Module) (p fibre : Nat) (c : MapChange) : Module :=
  let m1 := ((m.setMap p fibre c.map).set1 Reg.fabEvents_mapChange [p]).count Reg.fabMapChanges_count 1 [p]
  let m2 := m1.linkRec p 4 sevRecovered [0, c.map]
  if fibre = 0 then (m2.modOpt p (fun o => { o with txClk := c.clk })).modLink p (fun l => { l with txPos := 0 })
  else
    let m3 := (m2.wr Reg.firnPortStatus_clkSource c.clk (fp p)).modLink p (fun l => { l with rxPos := 0 })
    if c.clk = 16 then m3.clr Reg.firnPortStatus_clkFallback (fp p) else m3

/-- A wished change laid over a map and its clock source. -/
def laidOver (base : Nat × Nat) (w : Option (Nat × Nat × Nat)) : Nat × Nat :=
  match w with
  | none => base
  | some (out, put, clk) => (maskOff base.1 out ||| put, clk)

/-- The map and clock source of a fibre once everything agreed or wished has taken effect. -/
def Module.nextMap (m : Module) (p fibre : Nat) : Nat × Nat :=
  let l := m.link p
  let base := match if fibre = 0 then l.pendTx else l.pendRx with
    | some c => (c.map, c.clk)
    | none => (m.laneMap p fibre, if fibre = 0 then (m.opt p).txClk else m.rd Reg.firnPortStatus_clkSource (fp p))
  laidOver base (if fibre = 0 then l.wantTx else l.wantRx)

/-- A change of a fibre's map that waits until the one the far end leads is complete (R318). -/
def Module.wishMap (m : Module) (p fibre : Nat) (w : Option (Nat × Nat × Nat)) : Module :=
  m.modLink p (fun l => if fibre = 0 then { l with wantTx := w } else { l with wantRx := w })

/-- This end starts a map change: MAP_PROPOSE (fibre 0) or MAP_REQUEST (fibre 1). Fields: map, X, clock source. While the far end leads a
change of the fibre the own one waits (R318). -/
def Module.startMap (m : Module) (p fibre map clk : Nat) : Module :=
  if m.linkState p ≠ 2 then m
  else
    let l := m.link p
    let led : Option MapChange := (if fibre = 0 then l.pendTx else l.pendRx).filter (fun c => !c.own)
    match led with
    | some c => m.wishMap p fibre (some (maskOff c.map map, maskOff map c.map, clk))
    | none =>
      let (x, m1) := m.switchSlot p fibre
      let c : MapChange := { x := x, map := map, clk := clk, own := true }
      let m2 := (m1.wishMap p fibre none).modLink p (fun l => if fibre = 0 then { l with pendTx := some c } else { l with pendRx := some c })
      m2.sendCtl p (if fibre = 0 then 3 else 4) [map, x, clk]

/-- A change that waited starts (R318). -/
def Module.startWish (m : Module) (p fibre : Nat) : Module :=
  match if fibre = 0 then (m.link p).wantTx else (m.link p).wantRx with
  | none => m
  | some _ =>
    let (map, clk) := m.nextMap p fibre
    (m.wishMap p fibre none).startMap p fibre map clk

/-! ### Routing (R332 to R341) -/

/-- Package ID of this package. -/
def Module.own (m : Module) : Nat := m.rd Reg.rteId_pkgId

/-- A notice marks the path from a member to a group or member down. -/
def Module.noted (m : Module) (member : Nat) (group : Bool) (target : Nat) : Bool :=
  m.rte.notices.elem (member, group, target)

/-- The first exception entry that matches (R335). -/
def Module.exception (m : Module) (d tc : Nat) : Option Nat :=
  (List.range 1024).findSome? (fun i =>
    let lo := m.rd Reg.rteExc_lo [i]
    let hi := m.rd Reg.rteExcHi_hi [i]
    let dest := bitsOf hi 23 10
    let port := bitsOf lo 29 24
    if bitB hi 31 && bitB hi tc && (if bitB hi 30 then decide (dest = d) else decide (dest % 512 = d / 32)) && m.usable port
    then some port else none)

/-- The route to a member of the own group (R337); `fromLocal`: the packet arrived on a local port. -/
def Module.localRoute (m : Module) (member : Nat) (detoured fromLocal : Bool) : Option Nat :=
  let e := m.rd Reg.rteLocal_word [member]
  let via := bitsOf e 12 8
  let ve := m.rd Reg.rteLocal_word [via]
  if bitB e 31 && m.usable (bitsOf e 21 16) then some (bitsOf e 21 16)
  else if bitB e 15 && !detoured && !fromLocal && bitB ve 31 && m.usable (bitsOf ve 21 16) && !m.noted via false member then
    some (bitsOf ve 21 16)
  else none

/-- A candidate of the group table: valid, member, port (R333); candidate 0 A, 1 B. -/
def Module.candidateOf (m : Module) (g c : Nat) : Option (Nat × Nat) :=
  let e := m.rd Reg.rteGroup_word [g]
  if c = 0 then (if bitB e 31 then some (bitsOf e 28 24, bitsOf e 21 16) else none)
  else if bitB e 15 then some (bitsOf e 12 8, bitsOf e 5 0) else none

/-- The route of a packet to package d (R337), the exception table first; before any detour. -/
def Module.tableRoute (m : Module) (d tc : Nat) (detoured fromLocal : Bool) : Option Nat :=
  match m.exception d tc with
  | some p => some p
  | none =>
    if d / 32 = m.own / 32 then m.localRoute (d % 32) detoured fromLocal
    else [0, 1].findSome? (fun c =>
      match m.candidateOf (d / 32) c with
      | none => none
      | some (mem, port) =>
        if mem = m.own % 32 then (if m.usable port then some port else none)
        else if m.noted mem true (d / 32) then none
        else m.localRoute mem detoured fromLocal)

/-- Granules of VC6 queued at a port. -/
def Module.queued6 (m : Module) (p : Nat) : Nat :=
  let l := m.link p
  (SMap.get [] l.cur 6).length + sumN ((SMap.get [] l.queue 6).map (fun k => 2 + k.data.length))

/-- The detour of a VC6 packet (R340): the own usable global port with the fewest queued granules, unless it leads to the
destination group. -/
def Module.detour (m : Module) (k : Pkt) (port : Option Nat) : Option Nat × Bool :=
  let full : Bool := match port with
    | none => true
    | some p => decide (m.queued6 p > m.rd Reg.rteCtl_detourThresh * 64)
  if k.tc = 6 ∧ !k.detoured ∧ k.src / 64 / 32 = m.own / 32 ∧ m.rdB Reg.rteCtl_detourEn ∧ full then
    let cand := (List.range 64).filter (fun p => m.usable p && decide (m.role p = 2) &&
      decide (m.rd Reg.fabLinkStatus_peerPkg [p] / 32 ≠ k.dst / 64 / 32))
    match cand with
    | [] => (port, false)
    | p :: t => (some (t.foldl (fun a b => if m.queued6 b < m.queued6 a then b else a) p), true)
  else (port, false)

/-- A packet handed to a port: HOPS and the remaining budget updated (R235, R341), then queued and sent. -/
def Module.enqueue (m : Module) (p : Nat) (k : Pkt) : Module :=
  if k.hops + 1 > 6 then m.count Reg.rteHopLimit_count
  else
    let cost := m.latencyNs p + m.qbound p k.tc
    let m1 := if k.rem < cost then m.count Reg.fabBudgetZero_count 1 [p] else m
    let k' := { k with hops := k.hops + 1, rem := k.rem - cost }
    (m1.modLink p (fun l => { l with queue := SMap.ins k.tc (SMap.get [] l.queue k.tc ++ [k']) l.queue })).pump p

/-- A packet routed and queued; `none` when it has no route (R337, R339). A message in course keeps its port, and its
detour (R331, R340); an unassigned package sends nothing but link-scope packets (R328). -/
def Module.routePkt (m : Module) (k : Pkt) (fromLocal : Bool) : Option Module :=
  let d := k.dst / 64
  let known := (m.rte.routes.find? (fun r => r.1 = k.src ∧ r.2.1 = k.tag ∧ r.2.2.1 = k.tc)).map (fun r => r.2.2.2)
  let (port, det) := match known with
    | some (p, det) => (some p, det)
    | none => if m.own = 0x3FFF then (none, false) else m.detour k (m.tableRoute d k.tc k.detoured fromLocal)
  match port with
  | none => none
  | some p =>
    let m1 := if det then m.count Reg.rteDetoured_count else m
    let rest := m1.rte.routes.filter (fun r => !(r.1 = k.src ∧ r.2.1 = k.tag ∧ r.2.2.1 = k.tc))
    let m2 : Module := { m1 with rte := { m1.rte with
      routes := if k.last then rest else rest ++ [(k.src, k.tag, k.tc, p, det)] } }
    some (m2.enqueue p { k with detoured := k.detoured || det })

/-- A redirect written by ANNOUNCE replaces an old member as destination (R396). -/
def Module.redirect (m : Module) (pkg : Nat) : Nat :=
  ((List.range 256).findSome? (fun i =>
    if m.rdB Reg.pairRedirect_valid [i] && decide (m.rd Reg.pairRedirect_fromPkg [i] = pkg)
    then some (m.rd Reg.pairRedirect_toPkg [i]) else none)).getD pkg

/-- Epoch a is newer than b (R344). -/
def newerEpoch (a b : Nat) : Bool := decide (0 < (a + 2 ^ 32 - b) % 2 ^ 32) && decide ((a + 2 ^ 32 - b) % 2 ^ 32 < 2 ^ 31)

/-- A redirect entry set. -/
def Module.setRedirect (m : Module) (i old new epoch : Nat) : Module :=
  (((m.set1 Reg.pairRedirect_valid [i]).wr Reg.pairRedirect_fromPkg old [i]).wr Reg.pairRedirect_toPkg new [i]).wr
    Reg.pairRedirectEpoch_epoch epoch [i]

/-- A redirect from an old member to the new active one (R396): an entry is replaced only by a newer epoch; in a full table the
one with the oldest epoch goes. An older entry that leads away from the new active ends. -/
def Module.writeRedirect (m : Module) (old new epoch : Nat) : Module :=
  let ix := List.range 256
  let m1 := ix.foldl (fun m i =>
    if m.rdB Reg.pairRedirect_valid [i] && decide (m.rd Reg.pairRedirect_fromPkg [i] = new) &&
      newerEpoch epoch (m.rd Reg.pairRedirectEpoch_epoch [i]) then m.clr Reg.pairRedirect_valid [i] else m) m
  match ix.find? (fun i => m1.rdB Reg.pairRedirect_valid [i] && decide (m1.rd Reg.pairRedirect_fromPkg [i] = old)) with
  | some i => if newerEpoch epoch (m1.rd Reg.pairRedirectEpoch_epoch [i]) then m1.setRedirect i old new epoch else m1
  | none => match ix.find? (fun i => !m1.rdB Reg.pairRedirect_valid [i]) with
    | some i => m1.setRedirect i old new epoch
    | none =>
      m1.setRedirect (ix.foldl (fun a b =>
        if newerEpoch (m1.rd Reg.pairRedirectEpoch_epoch [a]) (m1.rd Reg.pairRedirectEpoch_epoch [b]) then b else a) 0) old new epoch

/-- A pair member cannot be reached: its peer takes its place, when the peer is known and the member is not redirected yet
(R396). -/
def Module.learnRedirect (m : Module) (pkg : Nat) : Option Module :=
  match SMap.find? m.rte.peers pkg with
  | some (peer, e) => if m.redirect pkg = pkg ∧ peer ≠ 0x3FFF then some (m.writeRedirect pkg peer e) else none
  | none => none

/-- The pair fields of what this package sends (R329): EPOCH, SRC_PAIR, SRC_PEER. -/
def Module.pairFields (m : Module) : Nat × Nat × Nat :=
  let peer := m.rd Reg.pairIds_peerPkg
  if m.pairState = 0 then (0, 0x3FFF, 0x3FFF) else (m.rd Reg.pairEpoch_epoch, min m.own peer, peer)

/-- The packets of a message of granules (R331): segments of at most 4,096 bytes. -/
def segments (base : Pkt) (len : Nat) (gs : List (Nat × Nat)) : List Pkt :=
  let n := max 1 (ceilDiv len 4096)
  (List.range n).map (fun i =>
    { base with offset := 4096 * i, len := min 4096 (len - 4096 * i), last := decide (i + 1 = n),
                data := (gs.drop (256 * i)).take (ceilDiv (min 4096 (len - 4096 * i)) 16) })

/-- A message sent to an endpoint: routed segment by segment; `none` when a segment finds no route. -/
def Module.sendMsg (m : Module) (dstPkg dstTine srcTine op vc ctx tag rem len : Nat) (gs : List (Nat × Nat))
    (req : Option Nat) : Option Module :=
  let (ep, pr, pe) := m.pairFields
  let base : Pkt :=
    { dst := (if dstPkg = 0x3FFF then dstPkg else m.redirect dstPkg) * 64 + dstTine % 64, src := m.own * 64 + srcTine % 64,
      last := false, detoured := false, tc := vc, hops := 0, epoch := ep, rem := min rem (2 ^ 32 - 1), ctx := ctx, len := 0,
      op := op, srcPair := pr, tag := tag, srcPeer := pe, offset := 0, data := [], req := req }
  if m.silent ∧ vc ≠ 1 ∧ vc ≠ 7 then some m else (segments base len gs).foldl (fun a k => match a with
    | none => none
    | some x => x.routePkt k false) (some m)

/-- Bytes as granules with correct check fields. -/
def grans (b : List Nat) : List (Nat × Nat) := (List.range (ceilDiv b.length 16)).map (fun i => (leAt b (16 * i) 16, 0))

/-- A new message tag. -/
def Module.newTag (m : Module) : Nat × Module :=
  (m.rte.nextTag, { m with rte := { m.rte with nextTag := (m.rte.nextTag + 1) % 65536 } })

/-- A link-scope packet sent on one port (R328): it takes that port whatever the tables say. -/
def Module.sendOn (m : Module) (p op vc tag : Nat) (b : List Nat) : Module :=
  let (ep, pr, pe) := m.pairFields
  let k : Pkt :=
    { dst := 0x3FFF * 64, src := m.own * 64, last := true, detoured := false, tc := vc, hops := 0, epoch := ep,
      rem := 2 ^ 32 - 1, ctx := 0, len := b.length, op := op, srcPair := pr, tag := tag, srcPeer := pe, offset := 0,
      data := grans b, req := none }
  m.enqueue p k

/-- A message whose payload the spec does not lay out, sent to a package's Cirque (R238, R338): the payload is a free value of
its opcode and its fields; with no route it is discarded and counted (R339). -/
def Module.sendFields (m : Module) (pkg op vc ctx tag rem : Nat) (fields : List Nat) (req : Option Nat) : Module :=
  let b := (Config.fabricBytes op fields).map (· % 256)
  match m.sendMsg pkg 0 0 op vc ctx tag rem b.length (grans b) req with
  | some m1 => m1
  | none => m.count Reg.rteNoRoute_count

/-- A notice sent to every member of the own group (R338): "member own to x down" or "up". It serves no request: its budget is
the largest (R234). -/
def Module.sendNotice (m : Module) (group : Bool) (target : Nat) (down : Bool) : Module :=
  let own := m.own
  if own = 0x3FFF ∨ m.silent then m
  else
    let m1 := (List.range 32).foldl (fun m i =>
      if i = own % 32 then m
      else
        let (tag, m') := m.newTag
        m'.sendFields (own / 32 * 32 + i) 0x08 0 0 tag (2 ^ 32 - 1) [own % 32, ofB group, target, ofB down] none) m
    { m1 with rte := { m1.rte with
        sent := if down then (m1.rte.sent.filter (fun x => x ≠ (group, target))) ++ [(group, target)]
                else m1.rte.sent.filter (fun x => x ≠ (group, target)) } }

/-! ### COPY messages (R230, R330, R385) -/

/-- A COPY message to the peer (VC1), on the port of the pairing link that the round of its delta selects, else on the other one. -/
def Module.copyOut (m : Module) (round : Nat) (b : List Nat) : Module :=
  let first := 62 + round % 2
  let p := if m.usable first then first else 125 - first
  if !m.usable p then m
  else
    let (ep, pr, pe) := m.pairFields
    let (tag, m1) := m.newTag
    let base : Pkt :=
      { dst := 0x3FFF * 64, src := m.own * 64, last := true, detoured := false, tc := 1, hops := 0, epoch := ep,
        rem := 2 ^ 32 - 1, ctx := 0, len := 0, op := 0x06, srcPair := pr, tag := tag, srcPeer := pe, offset := 0,
        data := [], req := none }
    (segments base b.length (grans b)).foldl (fun m k => m.enqueue p k) m1

/-- A KV record of one granule: context, granule offset, data. -/
def kvRecord (w : Nat × Nat × Nat) : List Nat :=
  [0x02, 0] ++ toLe 2 w.1 ++ toLe 4 w.2.1 ++ toLe 4 1 ++ [0, 0, 0, 0] ++ toLe 16 w.2.2

/-- The KV records of the running round that have not left yet: the active sends them while the round runs (R230). -/
def Module.sendKv (m : Module) : Module :=
  let new := m.ctx.kvWrites.reverse.drop m.ctx.kvSent
  if new = [] ∨ (m.pairState ≠ 3 ∧ m.pairState ≠ 4) then m
  else ({ m with ctx := { m.ctx with kvSent := m.ctx.kvWrites.length } } : Module).copyOut m.hub.round (new.map kvRecord).flatten

/-! ### Reassembly and epochs (R331, R344) -/

/-- The epoch filter (R344): whether the packet is taken. -/
def Module.epochOk (m : Module) (k : Pkt) : Bool × Module :=
  if k.srcPair = 0x3FFF then (true, m)
  else
    let n := SMap.get 0 m.rte.epochs k.srcPair
    let d := (k.epoch + 2 ^ 32 - n) % 2 ^ 32
    if d = 0 then (true, m)
    else if d < 2 ^ 31 then (true, { m with rte := { m.rte with epochs := SMap.put 0 k.srcPair k.epoch m.rte.epochs } })
    else (false, m.count Reg.rteEpochDiscards_count)

/-- A segment joins its message (R331): the header and granules of the message once it is complete. -/
def Module.assemble (m : Module) (k : Pkt) : Option (Pkt × List (Nat × Nat)) × Module :=
  let same := fun (x : Partial) => decide (x.src = k.src) && decide (x.tag = k.tag) && decide (x.vc = k.tc)
  let old := (m.rte.parts.find? same).getD { src := k.src, tag := k.tag, vc := k.tc, hdr := k, total := none, pieces := [] }
  let x : Partial := { old with pieces := SMap.ins k.offset (k.len, k.data) old.pieces
                                total := if k.last then some (k.offset + k.len) else old.total }
  let others := m.rte.parts.filter (fun y => !same y)
  let have_ := sumN (x.pieces.map (fun (q : Nat × (Nat × List (Nat × Nat))) => q.2.1))
  if x.total = some have_ then
    (some ({ k with len := have_, offset := 0 }, (x.pieces.map (fun (q : Nat × (Nat × List (Nat × Nat))) => q.2.2)).flatten),
     { m with rte := { m.rte with parts := others } })
  else (none, { m with rte := { m.rte with parts := others ++ [x] } })

/-- The bytes of a message, and whether a granule of it is poisoned. -/
def msgBytes (len : Nat) (gs : List (Nat × Nat)) : List Nat × Bool :=
  (((gs.map (fun (g : Nat × Nat) => toLe 16 g.1)).flatten).take len, gs.any (fun g => g.2 ≠ 0))

end Sys2Proof.Machine
end

