-- ==== Sys2Proof/Machine/Tine.lean ====
section
/-! DEFINITION. What every stage operation shares: the state of a site, reads and writes of its SRAM with the checks and
row marking of R80 to R94, faults that end a stage, and the issue of one operation by the sequencer (R76, R97 to R102). -/

namespace Sys2Proof.Machine

/-! ### Sites -/

/-- A dispatch nobody made. -/
def Dispatch.blank : Dispatch :=
  { ctx := 0, stage := 0, req := 0, attempt := 0, slice := 0, entry := 0, words := 0, seed := 0, flat := 0, inLen := 0 }

/-- The sequencer after reset: nothing opened (the values SBEGIN sets, R97, with no request). -/
def Seqr.reset : Seqr :=
  { nextPc := 0, wait := .run, c := [], ab := [], tokens := [], checked := false, wsFirst := 0, wsCount := 0,
    disp := Dispatch.blank, pend := [], astages := 0, flags := 0, opened := false }

/-- A site after reset. -/
def Tine.reset : Tine :=
  { engines := [], curves := [], seq := Seqr.reset, bankA := ⟨0, 0, 0, 0⟩, bankB := ⟨0, 0, 0, 0⟩, heldSwitch := 0,
    switchTo := 0, rowErrs := [], lost := [], origin := [], inbound := [], tested := false, cause := 0xFF, report := none,
    last := Dispatch.blank, waiting := none, faultId := 0, cycles := 0, passes := 0, frac := 0 }

/-- The state of site s. -/
def Module.tine (m : Module) (s : Nat) : Tine := SMap.get Tine.reset m.tines s

/-- Site s with a new state. -/
def Module.setTine (m : Module) (s : Nat) (t : Tine) : Module := { m with tines := SMap.put Tine.reset s t m.tines }

/-- Site s changed. -/
def Module.modTine (m : Module) (s : Nat) (f : Tine → Tine) : Module := m.setTine s (f (m.tine s))

/-- The sequencer of site s changed. -/
def Module.modSeq (m : Module) (s : Nat) (f : Seqr → Seqr) : Module := m.modTine s (fun t => { t with seq := f t.seq })

/-- RUNNING_BANK: 0 none, 1 A, 2 B. -/
def Module.runBank (m : Module) (s : Nat) : Nat := m.rd Reg.tineBankStatus_runningBank [s]

/-- State of bank b (1 A, 2 B): 0 EMPTY, 1 FILLING, 2 READY, 3 RUNNING, 4 FAULTED. -/
def Module.bankState (m : Module) (s b : Nat) : Nat :=
  if b = 1 then m.rd Reg.tineBankStatus_bankAState [s] else m.rd Reg.tineBankStatus_bankBState [s]

/-- Bank b of site s in a new state. -/
def Module.setBank (m : Module) (s b v : Nat) : Module :=
  if b = 1 then m.wr Reg.tineBankStatus_bankAState v [s] else m.wr Reg.tineBankStatus_bankBState v [s]

/-- The context ID held for bank b. -/
def Module.bankCtx (m : Module) (s b : Nat) : Nat :=
  if b = 1 then m.rd Reg.tineBankCtx_ctxA [s] else m.rd Reg.tineBankCtx_ctxB [s]

/-- Bank b's record. -/
def Tine.bank (t : Tine) (b : Nat) : Bank := if b = 1 then t.bankA else t.bankB

/-- Bank b's record replaced. -/
def Tine.setBank (t : Tine) (b : Nat) (x : Bank) : Tine := if b = 1 then { t with bankA := x } else { t with bankB := x }

/-- Start of a bank's weight area, table area and program store (R78). -/
def weightBase (b : Nat) : Nat := if b = 1 then 0 else 0x2000000
/-- Start of the table area. -/
def tableBase (b : Nat) : Nat := if b = 1 then 0x13E8000 else 0x33E8000
/-- Start of the program store. -/
def progBase (b : Nat) : Nat := if b = 1 then 0x5000000 else 0x5010000

/-- Where a Tine-local address lies in the module's SRAM. -/
def sramKey (s a : Nat) : Nat := s * 2 ^ 27 + a % 2 ^ 27

/-- Working bundles of a site in halves (R94). -/
def Module.halfBundles (m : Module) (s : Nat) : Nat :=
  2 * m.rd Reg.tineState_bundlesFull [s] + m.rd Reg.tineState_bundlesHalf [s]

/-- Halves of bundle a site's link carries once its bundles are in service: the width of the map chosen for every bundle that
is not RETIRED (R181, R226, R370, R371); a spare is powered off, so none of its bundles is UP yet. -/
def Module.linkHalves (m : Module) (s : Nat) : Nat :=
  sumN ((List.range 10).map (fun b =>
    if m.rd Reg.qlkBundleState_state [s, b] = 4 then 0 else if m.rdB Reg.qlkBundleState_half [s, b] then 1 else 2))

/-- A site that leaves service: its slices are to move to its substitute (R130, R180), which is recorded. -/
def Module.leaveService (m : Module) (s : Nat) : Module :=
  let mg : Migration := { site := s, target := m.spareFor s, started := false }
  { m with
    ctx := { m.ctx with migs := m.ctx.migs ++ [mg] }
    saf := { m.saf with mor := { m.saf.mor with subst := SMap.ins s mg.target m.saf.mor.subst } } }

/-- A Tine enters RETIRING (R91): its TINE_STATE record names the TINE_FAULT bit and the substitute (R420). -/
def Module.retire (m : Module) (s cause faultId : Nat) : Module :=
  if m.siteState s = 2 ∨ m.siteState s = 3 then
    let m1 := (m.wr Reg.tineState_siteState 4 [s]).modTine s (fun t => { t with cause := cause, faultId := faultId })
    (m1.leaveService s).logRec
      { ((LogRec.of 0x09 0 sevDegraded s cause).at 0 [m.spareFor s]) with faultId := faultId }
  else m

/-- A site becomes RETIRED (R91): its domains go off, its banks are EMPTY, the moraine pool counts it (R421). -/
def Module.retired (m : Module) (s cause : Nat) : Module :=
  let m1 := (((m.wr Reg.tineState_siteState 5 [s]).wr Reg.tineBankStatus_bankAState 0 [s]).wr
    Reg.tineBankStatus_bankBState 0 [s]).wr Reg.tineBankStatus_runningBank 0 [s]
  { (m1.clr Reg.tineSeqStatus_stageActive [s]) with
    saf := { m1.saf with mor := { m1.saf.mor with sites := SMap.ins s cause m1.saf.mor.sites } } }

/-- A site that goes to RETIRED at once (R91, last row): its substitute is recorded as at RETIRING. -/
def Module.retireNow (m : Module) (s cause faultId : Nat) : Module :=
  if m.siteState s = 5 then m
  else
    let used := decide (m.siteState s = 2 ∨ m.siteState s = 3)
    let m1 := if used then m.leaveService s else m
    let m2 := (m1.modTine s (fun t => { t with cause := cause, faultId := faultId })).retired s cause
    m2.logRec { ((LogRec.of 0x09 0 sevDegraded s cause).at 0 [if used then m.spareFor s else 0xFF]) with faultId := faultId }

/-! ### SRAM rows (R80, R85) -/

/-- The array of an address: region, sub-bank, ordinal; `none` for the format table area, which has no arrays. -/
def arrayOf (a : Nat) : Option Nat :=
  match regionOf a with
  | .weightA | .tableA => some (bitsOf a 10 7 * 1024 + a / 2048 / 128)
  | .weightB | .tableB => some (0x100000 + bitsOf a 10 7 * 1024 + (a - 0x2000000) / 2048 / 128)
  | .work => some (0x200000 + bitsOf a 10 7 * 1024 + (a - 0x4000000) / 2048 / 128)
  | .progA => some (0x300000 + (a - 0x5000000) / 128 / 128)
  | .progB => some (0x400000 + (a - 0x5010000) / 128 / 128)
  | _ => none

/-- TINE_FAULT bit of an uncorrectable error at an address (R94): 3 bank, 4 working store, 5 program store. DESIGN CHOICE: R94
gives no row for the device format table area; an error there counts as one of the working store and marks no row. -/
def uncorrBit (a : Nat) : Nat :=
  match regionOf a with
  | .weightA | .tableA | .weightB | .tableB => 3
  | .progA | .progB => 5
  | _ => 4

/-- Mark the row of an address for remapping; an array with no spare row left retires the Tine (R85). -/
def Module.markRow (m : Module) (s a : Nat) : Module :=
  match arrayOf a with
  | none => m
  | some k =>
    let m1 := m.modTine s (fun t => { t with rowErrs := SMap.ins (a / 128) 16 t.rowErrs })
    if SMap.get 0 m.saf.mor.rows (s * 2 ^ 24 + k) ≥ 4 ∧ (m.siteState s = 2 ∨ m.siteState s = 3) then
      let (f, m2) := m1.newFault
      m2.retire s (uncorrBit a) f
    else m1

/-- One more corrected error of a row: the sixteenth marks it (R85). -/
def Module.rowError (m : Module) (s a : Nat) : Module :=
  let n := SMap.get 0 (m.tine s).rowErrs (a / 128)
  if n ≥ 15 then m.markRow s a
  else m.modTine s (fun t => { t with rowErrs := SMap.ins (a / 128) (n + 1) t.rowErrs })

/-- n granules from SRAM granule g as a spare row takes them over: corrected, poison kept, free where they were lost. -/
def Module.moveRow (m : Module) (g : Nat) : Nat → Module
  | 0 => m
  | n + 1 =>
    let r := codeDecode (m.sram.syndrome g)
    let m1 : Module := match r with
      | .clean => m
      | .poison => m
      | .uncorr =>
        let (v, m') := m.draw 128
        { m' with sram := m'.sram.setGranule g v 0 }
      | _ => { m with sram := m.sram.setGranule g (codeData (m.sram.granule g) r) 0 }
    m1.moveRow (g + 1) n

/-- Remap the marked rows that lie in a region class: 3 bank rows of bank b, 4 working store and program stores (R85).
Each takes a spare of its array while one is left, and its errors are forgotten; a row that finds none left retires the Tine.
DESIGN CHOICE: the row's granules go with it,
corrected, and one that is uncorrectable becomes a free value (the spec states no contents of the spare row). -/
def Module.remap (m : Module) (s : Nat) (sel : Nat → Bool) : Module :=
  let rows := (m.tine s).rowErrs.filter (fun p => decide (16 ≤ p.2) && sel (p.1 * 128))
  rows.foldl (fun m p =>
    match arrayOf (p.1 * 128) with
    | none => m
    | some k =>
      let used := SMap.get 0 m.saf.mor.rows (s * 2 ^ 24 + k)
      if used ≥ 4 then
        let (f, m1) := m.newFault
        m1.retire s (uncorrBit (p.1 * 128)) f
      else
        let m0 : Module := { m with saf := { m.saf with mor :=
          { m.saf.mor with rows := SMap.ins (s * 2 ^ 24 + k) (used + 1) m.saf.mor.rows } } }
        let m1 := (m0.moveRow (sramKey s (p.1 * 128) / 16) 8).modTine s (fun t => { t with rowErrs := SMap.del p.1 t.rowErrs })
        let m2 := m1.count Reg.tineSpareRows_spareRowsUsed 1 [s]
        let m3 := m2.count Reg.morSramRows_rowsUsed 1
        if used + 1 = 4 then (m3.count Reg.tineSpareRows_arraysExhausted 1 [s]).count Reg.morSramArrays_arraysExhausted 1
        else m3) m

/-! ### Reads and writes of SRAM -/

/-- One granule read (R94, R188): data, 0 or the fault code it raises, the module with its counts. Uncorrectable rows are
marked; TINE_FAULT_ADDR takes the address. -/
def Module.sramGranule (m : Module) (s a : Nat) : Nat × Nat × Module :=
  let g := sramKey s a / 16
  let d := m.sram.granule g
  match codeDecode (m.sram.syndrome g) with
  | .clean => (d, 0, m)
  | .data b => (d ^^^ 2 ^ b, 0, (m.count Reg.tineEccCorr_corrected 1 [s]).rowError s a)
  | .check => (d, 0, (m.count Reg.tineEccCheckfield_checkFieldCorrected 1 [s]).rowError s a)
  | _ =>
    let code := match uncorrBit a with
      | 3 => 0x100
      | 5 => 0x101
      | _ => 0x102
    (d, code, (m.wr Reg.tineFaultAddr_addr (a / 16 * 16) [s]).markRow s a)

/-- n granules from address a. -/
def Module.sramGranules (m : Module) (s : Nat) : Nat → Nat → List Nat × List (Nat × Nat) × Module
  | 0, _ => ([], [], m)
  | n + 1, a =>
    let (d, f, m1) := m.sramGranule s a
    let (ds, fs, m2) := Module.sramGranules m1 s n (a + 16)
    (d :: ds, (if f = 0 then fs else (f, a) :: fs), m2)

/-- Does [a, a + n) meet one of the ranges? -/
def meets (l : List (Nat × Nat)) (a n : Nat) : Bool := l.any (fun p => decide (a < p.1 + p.2) && decide (p.1 < a + n))

/-- Granules that an uncompleted operation is still to write (R77), and those whose contents nothing preserves (R84, R86), are
free values. -/
def Module.overlay (m : Module) (busy : List (Nat × Nat)) : Nat → List Nat → List Nat × Module
  | _, [] => ([], m)
  | a, d :: t =>
    if meets busy a 16 then
      let (v, m1) := m.draw 128
      let (r, m2) := Module.overlay m1 busy (a + 16) t
      (v :: r, m2)
    else
      let (r, m2) := Module.overlay m busy (a + 16) t
      (d :: r, m2)

/-- What an operation's meaning yields: the module, the faults it raises, the ranges it writes here and in device memory, the
curve table registers it loads, the staging buffers it streams and, for a RECV, what is still to come. An operation that
raises a fault has moved nothing. -/
structure OpOut where
  m : Module
  faults : List StageFault
  writes : List (Nat × Nat)
  devWrites : List (Nat × Nat)
  tabs : List Nat
  streams : List Nat
  recv : Option (Nat × Nat × Nat × Nat × Nat × Nat)

/-- An operation that ends well. -/
def OpOut.ok (m : Module) (writes : List (Nat × Nat)) : OpOut :=
  { m := m, faults := [], writes := writes, devWrites := [], tabs := [], streams := [], recv := none }

/-- An operation that faults. -/
def OpOut.bad (m : Module) (fs : List StageFault) : OpOut := { OpOut.ok m [] with faults := fs }

/-- A fault of the operation last issued by site s. -/
def Module.flt (m : Module) (s code : Nat) : StageFault :=
  { code := code, pc := m.rd Reg.tineSeqStatus_pc [s], stageId := m.rd Reg.tineSeqStatus_stageId [s], sub := 0, addr := 0,
    detail := [], org := none }

/-- Ranges still to be written by uncompleted operations of site s. -/
def Tine.busy (t : Tine) : List (Nat × Nat) := (t.seq.pend.map Pending.writes).flatten

/-- n bytes at Tine-local address a as an operation reads them: bytes, faults, module (R77, R84, R86, R94, R98). -/
def Module.tread (m : Module) (s a n : Nat) : List Nat × List StageFault × Module :=
  if n = 0 then ([], [], m)
  else
    let o := a % 16
    let (gs, fs, m1) := m.sramGranules s (ceilDiv (o + n) 16) (a - o)
    let (gs', m2) := m1.overlay ((m.tine s).busy ++ (m.tine s).lost) (a - o) gs
    (((gs'.map (toLe 16)).flatten.drop o).take n,
      fs.map (fun p => { m.flt s p.1 with addr := p.2, detail := toLe 2 (m.sram.syndrome (sramKey s p.2 / 16)) }), m2)

/-- Ranges (start, length) without [a, a + n). -/
def cutRange (a n : Nat) (l : List (Nat × Nat)) : List (Nat × Nat) :=
  (l.map (fun p =>
    let e := p.1 + p.2
    let k := max p.1 (a + n)
    [(p.1, min e a - p.1), (k, e - k)].filter (fun q => q.2 ≠ 0))).flatten

/-- Ranges with an image offset (start, length, offset) without [a, a + n). -/
def cutOrigin (a n : Nat) (l : List (Nat × Nat × Nat)) : List (Nat × Nat × Nat) :=
  (l.map (fun p =>
    let e := p.1 + p.2.1
    let k := max p.1 (a + n)
    [(p.1, min e a - p.1, p.2.2), (k, e - k, p.2.2 + (k - p.1))].filter (fun q => q.2.1 ≠ 0))).flatten

/-- The contents of [a, a + n) of a site's SRAM are discarded: what is read there before it is written again is a free value
(R84, R86, R91). -/
def Module.loseRange (m : Module) (s a n : Nat) : Module :=
  ({ m with sram := m.sram.zero (sramKey s a / 16) (n / 16) } : Module).modTine s (fun t =>
    { t with lost := (a, n) :: cutRange a n t.lost, origin := cutOrigin a n t.origin })

/-- Bytes written at Tine-local address a: whole granules are encoded afresh, and a write clears the corrected-error
count of its rows (R85). A partly written granule keeps its other bytes as decoded, and they stay undefined where nothing
preserved them (R84). -/
def Module.twrite (m : Module) (s a : Nat) (l : List Nat) : Module :=
  if l = [] then m
  else
    let o := a % 16
    let n := ceilDiv (o + l.length) 16
    let lost := (m.tine s).lost
    let m1 := iter n (fun i (m : Module) =>
      let g := sramKey s (a - o) / 16 + i
      let lo := if i = 0 then o else 0
      let hi := min 16 (o + l.length - 16 * i)
      if lo = 0 ∧ hi = 16 then { m with sram := m.sram.setGranule g (leNat (slice 0 l (16 * i - o) 16)) 0 }
      else
        let r := codeDecode (m.sram.syndrome g)
        let gone := meets lost (a - o + 16 * i) 16
        let (old, m') : Nat × Module := if gone then m.draw 128 else (codeData (m.sram.granule g) r, m)
        let new := leNat (slice 0 l (16 * i + lo - o) (hi - lo)) * 256 ^ lo
        let synd := if r.bad && !gone then poisonSynd else 0
        { m' with sram := m'.sram.setGranule g (mergeBytes old new ((2 ^ (hi - lo) - 1) * 2 ^ lo)) synd }) m
    let lines := (List.range (ceilDiv (a % 128 + l.length) 128)).map (fun i => a / 128 + i)
    m1.modTine s (fun t =>
      { t with rowErrs := t.rowErrs.filter (fun p => !(lines.elem p.1 && decide (p.2 < 16)))
               lost := cutRange (a - o) (16 * n) t.lost, origin := cutOrigin a l.length t.origin })

/-! ### Ranges an operand may name (R78, R81, R98) -/

/-- [a, a + n) lies within [lo, hi). -/
def within (a n lo hi : Nat) : Bool := decide (lo ≤ a) && decide (a + n ≤ hi)

/-- The declared working-store region (R84). -/
def Tine.wsRange (t : Tine) : Nat × Nat :=
  (0x4000000 + t.seq.wsFirst * 0x10000, min 0x4800000 (0x4000000 + (t.seq.wsFirst + t.seq.wsCount) * 0x10000))

/-- May a program read [a, a + n)? (a count of 0 is checked at its base, R102). -/
def Module.readable (m : Module) (s a n : Nat) : Bool :=
  let n := max n 1
  let b := m.runBank s
  let (lo, hi) := (m.tine s).wsRange
  within a n lo hi || (decide (b ≠ 0) && within a n (weightBase b) (weightBase b + 0x1400000)) ||
    within a n 0x5000000 0x5020800

/-- The fault of writing [a, a + n): 0 none, 2 ADDRESS_RANGE, 3 WRITE_RUNNING_BANK (R81, R98). -/
def Module.writeFault (m : Module) (s a n : Nat) : Nat :=
  let n := max n 1
  let (lo, hi) := (m.tine s).wsRange
  if within a n lo hi then 0
  else if within a n 0 0x1400000 || within a n 0x2000000 0x3400000 || within a n 0x5000000 0x5020800 then 3
  else 2

/-- Faults of a source operand of n bytes; `line`: it must be 128-byte aligned. -/
def Module.srcFaults (m : Module) (s a n : Nat) (line : Bool) : List StageFault :=
  (if m.readable s a n then [] else [m.flt s 0x02]) ++ (if line && !lineAligned a then [m.flt s 0x11] else [])

/-- Faults of a destination operand of n bytes. -/
def Module.dstFaults (m : Module) (s a n : Nat) (line : Bool) : List StageFault :=
  (match m.writeFault s a n with
    | 0 => []
    | c => [m.flt s c]) ++ (if line && !lineAligned a then [m.flt s 0x11] else [])

/-- The address a 23-bit local operand names (R98). -/
def Tine.local (t : Tine) (f : Nat) : Nat := (SMap.get 0 t.seq.ab (bitsOf f 22 20) + 16 * bitsOf f 19 0) % 2 ^ 27

/-- Register number n of the sequencer read as a number (R97). -/
def Seqr.reg (q : Seqr) (n : Nat) : Nat :=
  if n = 0 then 0 else if n < 16 then SMap.get 0 q.c n else if n < 24 then SMap.get 0 q.ab (n - 16) else 0

/-- Register number n written (R97, R98). -/
def Seqr.setReg (q : Seqr) (n v : Nat) : Seqr :=
  if n = 0 then q
  else if n < 16 then { q with c := SMap.ins n (v % 2 ^ 32) q.c }
  else if n < 24 then { q with ab := SMap.ins (n - 16) (v % 2 ^ 27 / 16 * 16) q.ab }
  else q

/-- T of R56: C12[7:0] as a signed number. -/
def Seqr.scaleT (q : Seqr) : Int := sext 8 (q.reg 12)

/-- Where the table a selector names lies for site s (R35): a device table, or a slot of the running bank; none for a built-in
format. -/
def Module.tableAt (m : Module) (s sel : Nat) : Option Nat :=
  if sel < 0x40 then none
  else if sel < 0x80 then some (0x5020000 + 32 * (sel - 0x40))
  else if sel < 0x90 then some (tableBase (m.runBank s) + 32 * (sel - 0x80))
  else none

/-- The format a selector names for site s (R35), its table read through the check (R80). -/
def Module.fmt (m : Module) (s sel : Nat) : Option Fmt :=
  match m.tableAt s sel with
  | none => Fmt.builtin sel
  | some a =>
    let g := sramKey s a / 16
    let b := ([0, 1].map (fun i => toLe 16 (codeData (m.sram.granule (g + i)) (codeDecode (m.sram.syndrome (g + i)))))).flatten
    if fmtTableOk b then some (Fmt.ofTable sel b) else none

/-- The format tables that an operation reads (R80, R94): each read is checked, counted and marked, and may fault. DESIGN CHOICE:
a table is read once for each operation that names it, when the operation starts (the spec states no time). -/
def Module.readTables (m : Module) (s : Nat) : List Nat → List StageFault × Module
  | [] => ([], m)
  | sel :: t =>
    match m.tableAt s sel with
    | none => m.readTables s t
    | some a =>
      let (_, f, m1) := m.tread s a 32
      let (fs, m2) := m1.readTables s t
      (f ++ fs, m2)

/-! ### Bank switch commands (R86, R88) -/

/-- The bank-event record of R86: event 1 fill refused, 2 switch refused, 3 granule count mismatch (R420). -/
def Module.bankEvent (m : Module) (s b ev c : Nat) : Module :=
  m.report ((LogRec.of 0x09 0 sevRecovered s 0xFF).at 0 [b - 1, ev, c])

/-- A switch command taken between stages (R86, R88): refused unless the bank is READY. DESIGN CHOICE: R86 lists the refusal for
a FILLING bank; one that is EMPTY, RUNNING or FAULTED is refused with the same record. -/
def Module.startSwitch (m : Module) (s b : Nat) : Module :=
  let m0 := m.modTine s (fun t => { t with heldSwitch := 0 })
  if m.bankState s b = 2 then
    (m0.set1 Reg.tineBankStatus_switching [s]).modTine s (fun t =>
      { t with switchTo := b, curves := []
               engines := t.engines.map (fun p => (p.1, { p.2 with active := none, shadow := none, buf0 := none, buf1 := none })) })
  else m0.bankEvent s b 2 (m.bankCtx s b)

/-- A switch command that a stage held is taken when the stage ends, however it ends (R88). -/
def Module.takeHeld (m : Module) (s : Nat) : Module :=
  if (m.tine s).heldSwitch = 0 then m else m.startSwitch s (m.tine s).heldSwitch

/-! ### Faults that end a stage (R93, R94, R118) -/

/-- Rank of a fault among those of one cycle (R118): the lower is carried. -/
def faultRank (c : Nat) : Nat := if 0x100 ≤ c ∧ c < 0x200 then c - 0x100 else if c < 0x100 then 0x10 + c else c

/-- The highest-ranked of several faults. -/
def worstFault (f : StageFault) (l : List StageFault) : StageFault :=
  l.foldl (fun a b => if faultRank b.code < faultRank a.code then b else a) f

/-- A matrix engine after reset or a bank switch. -/
def Engine.reset : Engine :=
  { active := none, shadow := none, buf0 := none, buf1 := none, lastBuf := 0, wlsb := 0, acc := [] }

/-- Accumulators, staging buffers and tile registers discarded; L stays (R93). -/
def discardEngines (l : SMap Engine) : SMap Engine := l.map (fun p => (p.1, { Engine.reset with wlsb := p.2.wlsb }))

/-- The bank an uncorrectable error faults (R86, R94): the one whose weight area, table area or program store it struck, while
that bank is READY or RUNNING; 0 none. -/
def Module.struckBank (m : Module) (s : Nat) (f : StageFault) : Nat :=
  let b := if f.code = 0x100 then (regionOf f.addr).bank
    else if f.code = 0x101 then (if regionOf f.addr = .progA then 1 else if regionOf f.addr = .progB then 2 else 0) else 0
  if b ≠ 0 ∧ (m.bankState s b = 2 ∨ m.bankState s b = 3) then b else 0

/-- A fault ends the stage of site s (R93, R94): TINE_FAULT is set, accumulators, staging buffers and tile registers of
the stage are discarded, the bank an uncorrectable error struck becomes FAULTED, and the fault is reported to the Cirque; a
switch the stage held is taken (R88). -/
def Module.stageFault (m : Module) (s : Nat) (f : StageFault) : Module :=
  let m1 := if f.code < 0x100 then m.set1 Reg.tineFault_programFault [s]
    else if f.code = 0x100 then m.set1 Reg.tineFault_bankUncorr [s]
    else if f.code = 0x101 then m.set1 Reg.tineFault_pstoreUncorr [s]
    else if f.code = 0x102 then m.set1 Reg.tineFault_wstoreUncorr [s]
    else if f.code = 0x200 then m.set1 Reg.tineFault_checksumFail [s]
    else if f.code = 0x201 then m.set1 Reg.tineFault_residueFail [s]
    else m
  let b := m.struckBank s f
  let m2 := if b = 0 then m1
    else if b = m.runBank s then (m1.setBank s b 4).wr Reg.tineBankStatus_runningBank 0 [s] else m1.setBank s b 4
  (((m2.clr Reg.tineSeqStatus_stageActive [s]).modTine s (fun t =>
    { t with engines := discardEngines t.engines, seq := { t.seq with pend := [], wait := .run, opened := false, tokens := [] },
             report := some (.fault f) })).emit (.tineReport s 1 f.code)).takeHeld s

/-- A stage stopped from outside without a report of its own (R409). -/
def Module.stopStage (m : Module) (s : Nat) : Module :=
  ((m.clr Reg.tineSeqStatus_stageActive [s]).modTine s (fun t =>
    { t with engines := discardEngines t.engines, seq := { t.seq with pend := [], wait := .run, opened := false, tokens := [] }, report := none })).takeHeld s

/-! ### Contexts as a stage sees them -/

/-- A descriptor replaced. -/
def Module.setCtx (m : Module) (c : Nat) (x : Ctx) : Module :=
  { m with ctx := { m.ctx with table := SMap.put Ctx.blank c x m.ctx.table } }

/-- A slice with nothing in it. -/
def Slice.blank : Slice :=
  { progOff := 0, progWords := 0, fmtOff := 0, fmtCount := 0, curves := [], weightOff := 0, weightLen := 0, peers := [],
    spillOff := 0, spillLen := 0, entries := [], uses := 0 }

/-- Slice i of a context's image. -/
def Ctx.slice (c : Ctx) (i : Nat) : Slice :=
  match c.img with
  | some g => g.slices.getD i Slice.blank
  | none => Slice.blank

/-- Word i of the slice that site s runs is an entry point of a stage below STAGE_COUNT (R103, R115). -/
def Module.entryPoint (m : Module) (s i : Nat) : Bool :=
  let d := (m.tine s).seq.disp
  let c := m.ctxOf d.ctx
  match c.img with
  | some g => ((c.slice d.slice).entries.take g.stageCount).elem i
  | none => false

/-- The round whose mark connection c last acted on (R31, R117). -/
def Module.markRound (m : Module) (c : Nat) : Nat :=
  match SMap.find? m.hub.marks c with
  | some k => m.hub.round - (m.hub.round + 65536 - k % 65536) % 65536
  | none => m.hub.round

/-! ### Issue (R76, R96, R100 to R102, R116) -/

/-- The site may issue: a stage runs on an ACTIVE or RETIRING site, the sequencer does not wait, and the site has its clock
(R29). -/
def Module.issuing (m : Module) (s : Nat) : Bool :=
  (m.siteState s = 2 || m.siteState s = 4) && m.rdB Reg.tineSeqStatus_stageActive [s] && decide ((m.tine s).seq.wait = .run)
    && decide (m.runBank s ≠ 0) && !(m.hub.lossNotices.elem s)

/-- The word at the sequencer's next index, as the program store holds it. -/
def Module.nextWord (m : Module) (s : Nat) : Nat :=
  m.sram.granule (sramKey s (progBase (m.runBank s) + 16 * (m.tine s).seq.nextPc) / 16)

/-- The queue of an operation's unit (R76): 0 matrix, 1 vector, 2 curve, 3 format, 4 movement. -/
def queueOf (op : Nat) : Nat := op / 0x20 - 1

/-- What starts in program order (R100): a queue, but for the movement unit's two classes, 4 receive and 5 send. -/
def lineOf (op : Nat) : Nat :=
  if op < 0xA0 then queueOf op else if op = 0xA1 ∨ op = 0xA2 ∨ op = 0xA5 then 4 else 5

/-- The engine mask of a matrix operation (R104). -/
def engineMask (w : Nat) : Nat := bitsOf w 115 100

/-- A started operation p holds what operation `op`, word w, the k-th ASTAGE of its stage, needs (R69, R71, R100, R105, R106): an
engine's tile port, cells or staging buffer, the drain path, or a whole unit. DESIGN CHOICE: the spec counts a resource as
held until the busy count has elapsed; no command marks that moment, so it is held until the operation completes. -/
def Pending.holds (p : Pending) (op w k : Nat) : Bool :=
  let share := decide (engineMask p.word &&& engineMask w ≠ 0)
  let o := p.opcode
  if lineOf o ≠ lineOf op then false
  else if 0x40 ≤ op then true
  else if op = 0x20 then share && decide (o = 0x20)
  else if op = 0x21 then (share && decide (o = 0x21)) ||
    p.streams.any (fun r => decide (r % 2 = k % 2) && bitB (engineMask w) (r / 2))
  else if op = 0x22 then share && decide (o ≤ 0x25)
  else if op = 0x23 then share && decide (0x22 ≤ o ∧ o ≤ 0x25)
  else if op ≤ 0x25 then (share && decide (o = 0x22 ∨ o = 0x23)) || decide (0x24 ≤ o)
  else decide (0x24 ≤ o)

/-- An operation may start past the operations issued before it: none of its order waits, and none that runs holds what it
needs. -/
def mayStart (before : List Pending) (op w k : Nat) : Bool :=
  before.all (fun p => if p.started then !(p.holds op w k) else decide (lineOf p.opcode ≠ lineOf op))

/-- The queue of an operation's unit holds 4 operations (R76). -/
def queueFull (l : List Pending) (op : Nat) : Bool :=
  decide (4 ≤ (l.filter (fun p => !p.started && decide (queueOf p.opcode = queueOf op))).length)

/-- What the operation that issues now takes with it. DESIGN CHOICE: a matrix, vector, curve or format operation that waits in its
queue may start in hardware before the operations ahead of it have completed, so all they have yet to write is undefined to
it; a movement operation starts when the one ahead has ended, and reads what stands then. -/
def Module.capture (m : Module) (s w : Nat) (env : OpEnv) : Captured :=
  let q := (m.tine s).seq
  let comp := opOf w < 0xA0
  { pc := m.rd Reg.tineSeqStatus_pc [s], c := q.c, ab := q.ab, astage := q.astages, checked := q.checked, round := m.markRound s,
    env := env, hazards := if comp then (m.tine s).busy else [], tabs := if comp then (q.pend.map Pending.tabs).flatten else [] }

/-- Record an issued operation as pending, started or in its queue: its token rises, CHECKED clears for a computing operation
(R101, R116) and an ASTAGE is counted (R106). -/
def Module.pend (m : Module) (s w : Nat) (env : OpEnv) (started : Bool) (o : OpOut) : Module :=
  let sig := sigOf w
  let op := opOf w
  let p : Pending := { opcode := op, sig := sig, word := w, started := started, cap := m.capture s w env, writes := o.writes,
                       devWrites := o.devWrites, tabs := o.tabs, streams := o.streams, recv := if started then o.recv else none }
  m.modSeq s (fun q =>
    { q with pend := q.pend ++ [p],
             tokens := if sig = 0 then q.tokens else SMap.ins sig (SMap.get 0 q.tokens sig + 1) q.tokens,
             checked := if op < 0xA0 then false else q.checked,
             astages := if op = 0x21 then q.astages + 1 else q.astages })

/-- Format selectors an operation word names. -/
def fmtSels (w : Nat) : List Nat :=
  let op := opOf w
  if op = 0x20 ∨ op = 0x21 ∨ op = 0x24 ∨ op = 0x27 then [bitsOf w 53 46]
  else if op = 0x48 ∨ op = 0x80 then [bitsOf w 38 31]
  else if op = 0x4D then [bitsOf w 46 39]
  else if (0x40 ≤ op ∧ op ≤ 0x4C) ∨ op = 0x61 ∨ op = 0x81 ∨ op = 0x82 then [bitsOf w 38 31, bitsOf w 46 39]
  else []

/-- The meaning of a word with the reads of the format tables it names before it. -/
def Module.withFormats (m : Module) (s w : Nat) (k : Module → OpOut) : OpOut :=
  match m.readTables s (fmtSels w) with
  | ([], m1) => k m1
  | (fs, m1) => OpOut.bad m1 (fs ++ (k m1).faults)

/-- An operation word enters the queue of its unit and, where it may, starts and acts at once; else it waits, and the ranges it
is to write are those it would write now. -/
def Module.queueOp (m : Module) (s w : Nat) (env : OpEnv) (sem : Nat → Module → OpOut) : Module :=
  let q := (m.tine s).seq
  let o := m.withFormats s w (sem w)
  if mayStart q.pend (opOf w) w q.astages then
    match o.faults with
    | f :: t => o.m.stageFault s (worstFault f t)
    | [] => o.m.pend s w env true o
  else m.pend s w env false o

/-- The waiting operation i of site s starts if it may (R100): its meaning acts with what it took at its issue. -/
def Module.startOp (m : Module) (s i : Nat) (sem : OpEnv → Nat → Module → OpOut) : Module :=
  let q := (m.tine s).seq
  match q.pend[i]? with
  | none => m
  | some p =>
    if p.started || !mayStart (q.pend.take i) p.opcode p.word p.cap.astage then m
    else
      let self : Pending := { p with writes := p.cap.hazards, tabs := p.cap.tabs, devWrites := [], streams := [], recv := none }
      let seen := q.pend.take i ++ self :: (q.pend.drop (i + 1)).filter Pending.started
      let o := (m.modSeq s (fun q => { q with c := p.cap.c, ab := p.cap.ab, astages := p.cap.astage, checked := p.cap.checked,
                                              pend := seen })).withFormats s p.word (sem p.cap.env p.word)
      let p' : Pending := { p with started := true, writes := o.writes, devWrites := o.devWrites, tabs := o.tabs, streams := o.streams,
                                   recv := o.recv.map (fun r => (r.1, r.2.1, r.2.2.1, r.2.2.2.1, p.cap.round, r.2.2.2.2.2)) }
      let m1 := o.m.modSeq s (fun x => { x with c := q.c, ab := q.ab, astages := q.astages, checked := q.checked,
                                                pend := q.pend.set i p' })
      match o.faults with
      | f :: t => m1.stageFault s { worstFault f t with pc := p.cap.pc }
      | [] => m1

/-- One operation issued by site s, if the sequencer's next word is one that `is` names: the word is fetched and checked
(PSTORE_UNCORR, NO_SBEGIN), its token must be below 63 and its queue not full, and then a control operation acts, and any
other enters its queue. When the word is another, nothing happens. -/
def Module.issue (m0 : Module) (s : Nat) (env : OpEnv) (is : Nat → Bool) (sem : Nat → Module → OpOut) : Module :=
  if !m0.issuing s then m0
  else
    let m := { m0 with sram := m0.sram.upsets (env.upsets.map (fun (p : Nat × Nat) => (s * 2 ^ 23 + p.1 % 2 ^ 23, p.2))) }
    let q := (m.tine s).seq
    if q.nextPc ≥ q.disp.words ∨ q.nextPc > 4095 then m.stageFault s (m.flt s 0x0C)
    else
      let (w, bad, m1) := m.sramGranule s (progBase (m.runBank s) + 16 * q.nextPc)
      let m2 := m1.wr Reg.tineSeqStatus_pc q.nextPc [s]
      if bad ≠ 0 then m2.stageFault s { m2.flt s 0x101 with addr := progBase (m.runBank s) + 16 * q.nextPc }
      else if !(is (opOf w)) then m0
      else if sigOf w ≠ 0 ∧ SMap.get 0 q.tokens (sigOf w) ≥ 63 then m0
      else if 0x20 ≤ opOf w ∧ queueFull q.pend (opOf w) then m0
      else if (if opOf w = 1 then q.opened && !m.entryPoint s q.nextPc else !q.opened) then m2.stageFault s (m2.flt s 0x0C)
      else
        let m3 := m2.modSeq s (fun q => { q with nextPc := q.nextPc + 1 })
        if opOf w < 0x20 then
          match (sem w m3).faults with
          | f :: t => (sem w m3).m.stageFault s (worstFault f t)
          | [] => (sem w m3).m
        else m3.queueOp s w env sem

/-- An operation of opcode `op` issued. -/
def Module.issueOp (m : Module) (s op : Nat) (env : OpEnv) (sem : Nat → Module → OpOut) : Module :=
  m.issue s env (fun o => o = op) sem

/-- Flags of drains and encodes join the stage's (R52, R108). -/
def Module.addFlags (m : Module) (s f : Nat) : Module := m.modSeq s (fun q => { q with flags := q.flags ||| f })

end Sys2Proof.Machine
end

