-- ==== Sys2Proof/Machine/Matrix.lean ====
section
/-! DEFINITION. The matrix operations (R47 to R54, R59 to R61, R68 to R71, R104 to R106). -/

namespace Sys2Proof.Machine

/-- OPA of layout M (R104). -/
def mOpa (w : Nat) : Nat := bitsOf w 99 77
/-- OPB. -/
def mOpb (w : Nat) : Nat := bitsOf w 76 54
/-- STRIDE in granules (TLOAD). -/
def mStride (w : Nat) : Nat := bitsOf w 73 54
/-- FMT. -/
def mFmt (w : Nat) : Nat := bitsOf w 53 46
/-- ROWS. -/
def mRows (w : Nat) : Nat := bitsOf w 45 39
/-- WLSB, signed. -/
def mWlsb (w : Nat) : Int := sext 10 (bitsOf w 38 29)

/-- The engines of a mask, ascending. -/
def enginesOf (w : Nat) : List Nat := bitList 16 0 (engineMask w)

/-- Engine e of a site. -/
def Tine.engine (t : Tine) (e : Nat) : Engine := SMap.get Engine.reset t.engines e

/-- Engine e of site s changed. -/
def Module.modEngine (m : Module) (s e : Nat) (f : Engine → Engine) : Module :=
  m.modTine s (fun t => { t with engines := SMap.put Engine.reset e (f (t.engine e)) t.engines })

/-- ROWS above 64 (R105). -/
def Module.rowsFault (m : Module) (s w : Nat) : List StageFault := if 64 < mRows w then [m.flt s 0x04] else []

/-- Rows that an operation moves: with ROWS above 64 it moves none before the stage ends, so that only the address an operand
names is looked at, as for a count of 0 (R102, R105). -/
def usedRows (w : Nat) : Nat := if 64 < mRows w then 0 else mRows w

/-- A format with the use named by bit `u` (0 W, 1 A, 2 O, 3 V), fit for a slot when `slot` is set. -/
def Module.useFmt (m : Module) (s sel u : Nat) (slot : Bool) : Option Fmt :=
  match m.fmt s sel with
  | some f => if bitB f.uses u && (!slot || f.slotOk) then some f else none
  | none => none

/-! ### TLOAD, ASTAGE, WSET -/

/-- Image offset of the byte at a working-store address, where it came out of the context's image (R62). -/
def Tine.orgAt (t : Tine) (a : Nat) : Option Nat :=
  (t.origin.find? (fun p => decide (p.1 ≤ a ∧ a < p.1 + p.2.1))).map (fun p => p.2.2 + (a - p.1))

/-- Image offset of n bytes at address a of the site, where all of them came out of the image in one piece: the weight area of
the running bank, or working store filled from it (R62, R177). -/
def Module.orgOf (m : Module) (s a n : Nat) : Option Nat :=
  let t := m.tine s
  let sl := (m.ctxOf t.seq.disp.ctx).slice t.seq.disp.slice
  let w := weightBase (m.runBank s)
  if w ≤ a ∧ a + n ≤ w + sl.weightLen then some (sl.weightOff + (a - w))
  else match t.orgAt a with
    | none => none
    | some o => if (List.range (ceilDiv n 16)).all (fun i => t.orgAt (a + 16 * i) = some (o + 16 * i)) then some o else none

/-- TLOAD for one engine: the record at address a, or faults (R70, R105). -/
def Module.loadTile (m : Module) (s a : Nat) (f : Fmt) : Tile × List StageFault × Module :=
  let blank : Tile := { fmt := f, bytes := [], addr := a, org := none }
  let pre := m.srcFaults s a 16 true
  if pre ≠ [] then (blank, pre, m)
  else
    let (h, fs0, m1) := m.tread s a 16
    let n := f.tileBytes (tileShared h)
    let fs := (if h.getD 0 0 = f.sel then [] else [m.flt s 0x07]) ++ m.srcFaults s a n true
    if fs0 ++ fs ≠ [] then (blank, fs0 ++ fs, m1)
    else
      let (r, fs2, m2) := m1.tread s (a + 16) (n - 16)
      ({ fmt := f, bytes := h ++ r, addr := a, org := m.orgOf s a n }, fs2, m2)

/-- TLOAD (R105): each engine's shadow register takes its record. -/
def Module.tload (m : Module) (s w : Nat) : OpOut :=
  let base := (m.tine s).local (mOpa w)
  match m.useFmt s (mFmt w) 0 false with
  | none => OpOut.bad m (m.flt s 0x07 ::
      ((List.range (enginesOf w).length).map (fun r => m.srcFaults s ((base + 16 * mStride w * r) % 2 ^ 27) 16 true)).flatten)
  | some f =>
    let (_, fs, m1, put) := (enginesOf w).foldl (fun (acc : Nat × List StageFault × Module × List (Nat × Tile)) e =>
      let (r, fs, m, put) := acc
      let (t, f1, m1) := m.loadTile s ((base + 16 * mStride w * r) % 2 ^ 27) f
      (r + 1, fs ++ f1, m1, put ++ [(e, t)])) (0, [], m, [])
    if fs ≠ [] then OpOut.bad m1 fs
    else OpOut.ok (put.foldl (fun m p => m.modEngine s p.1 (fun e => { e with shadow := some p.2 })) m1) []

/-- ASTAGE (R105, R106): ROWS lines of the format into buffer k mod 2 of every engine of the mask. DESIGN CHOICE: one with ROWS 0
counts as the k-th ASTAGE too: the buffer then holds no row, which lifts UNLOADED (R102 says only that it moves nothing); and
an engine outside the mask of the last ASTAGE issued goes on reading the buffer it was itself last written. -/
def Module.astage (m : Module) (s w : Nat) : OpOut :=
  let rows := usedRows w
  let a := (m.tine s).local (mOpa w)
  match m.useFmt s (mFmt w) 1 true with
  | none => OpOut.bad m (m.flt s 0x07 :: m.rowsFault s w ++ m.srcFaults s a 0 true)
  | some f =>
    let n := 128 * f.slotLines
    let pre := m.rowsFault s w ++ m.srcFaults s a (n * rows) true
    if pre ≠ [] then OpOut.bad m pre
    else
      let (b, fs, m1) := m.tread s a (n * rows)
      if fs ≠ [] then OpOut.bad m1 fs
      else
        let st : Staged := { fmt := f, rows := (List.range rows).map (fun r => slice 0 b (n * r) n) }
        let k := (m.tine s).seq.astages % 2
        let m2 := (enginesOf w).foldl (fun m e => m.modEngine s e (fun x =>
          if k = 0 then { x with buf0 := some st, lastBuf := 0 } else { x with buf1 := some st, lastBuf := 1 })) m1
        OpOut.ok m2 []

/-- WSET (R48, R105). -/
def Module.wset (m : Module) (s w : Nat) : OpOut :=
  OpOut.ok ((enginesOf w).foldl (fun m e => m.modEngine s e (fun x => { x with wlsb := mWlsb w, acc := [] })) m) []

/-! ### STREAM -/

/-- The operand pairs of R39. -/
def pairOk (wf af : Fmt) : Bool :=
  if wf.cls = 16 then af.sel = 0x11 || af.sel = 0x12
  else decide (wf.cls ≠ 0) && decide (af.kind = 2) && decide (af.bits ≤ 8)

/-- Length of a product block (R47). -/
def productBlock (wf af : Fmt) : Nat :=
  if wf.cls = 16 then 1
  else min 64 (min (if wf.block = 0 then 64 else wf.block) (if af.block = 0 then 64 else af.block))

/-- NaN and infinite operands take no part in a sum (R40). -/
def Num.part (x : Num) : Num := if x.bad then .zero else x

/-- An error added to an exact number's integer. -/
def Num.bump (x : Num) (d : Int) : Num :=
  match x with
  | .fin m e => .fin (m + d) e
  | y => y

/-- Position of a product of engine e, row r, reduction index k, column j. -/
def productPos (e r k j : Nat) : Nat := ((e * 64 + r) * 64 + k) * 64 + j

/-- The error the world adds at a position. -/
def errAt (l : List (Nat × Int)) (p : Nat) : Int := sumI ((l.filter (fun x => x.1 = p)).map Prod.snd)

/-- The product-block sum of column j over rows k0 to k0 + len - 1, and whether it is INVALID (R40, R47). -/
def blockSum (ws as : List Num) (hw : List (Nat × Int)) (e r j k0 len : Nat) : Num × Bool :=
  (List.range len).foldl (fun acc i =>
    let k := k0 + i
    let x := ws.getD k .zero
    let y := as.getD k .zero
    let p := (Num.mul x.part y.part).bump (errAt hw (productPos e r k j))
    (acc.1.add p, acc.2 || x.bad || y.bad)) (.zero, false)

/-- Q of a product block: the checksum row against the activations (R60). -/
def checkSum (t : Tile) (as : List Num) (k0 len : Nat) : Num :=
  (List.range len).foldl (fun acc i =>
    acc.add (Num.mul (.fin (t.check (k0 + i)) t.eref) (as.getD (k0 + i) .zero).part)) .zero

/-- P - Q as a 64-bit number in units of EREF and the activation's exponent (R420). -/
def checkDiff (p q : Num) (t : Tile) (as : List Num) (k0 len : Nat) : Nat :=
  let ea := ((List.range len).filterMap (fun i => match as.getD (k0 + i) .nan with
    | .fin _ e => some e
    | _ => none)).headD 0
  match p.add q.neg with
  | .fin m e => toBits 64 (floorShift m (e - (t.eref + ea)))
  | _ => 0

/-- The 64 columns of a tile, each with its 64 weights. -/
def Tile.columns (t : Tile) : List (List Num) :=
  (List.range 64).map (fun j => (List.range 64).map (fun k => t.weight k j))

/-- One row of a stream through one engine: for each product block its 64 sums, and the first check that fails
(block number and P - Q). -/
def streamRow (t : Tile) (cols : List (List Num)) (as : List Num) (hw : List (Nat × Int)) (e r len : Nat) :
    List (List (Num × Bool)) × Option (Nat × Nat) :=
  (List.range (64 / len)).foldl (fun (acc : List (List (Num × Bool)) × Option (Nat × Nat)) b =>
    let k0 := b * len
    let ss := (List.range 64).map (fun j => blockSum (cols.getD j []) as hw e r j k0 len)
    let p := ss.foldl (fun a x => a.add x.1) Num.zero
    let q := checkSum t as k0 len
    (acc.1 ++ [ss], match acc.2 with
      | some x => some x
      | none => if Num.eq p q then none else some (b, checkDiff p q t as k0 len))) ([], none)

/-- The contributions of one row entering accumulator set r (R49), with the residue check of R64 over an error added by
the world: the accumulators and the first column whose check fails. -/
def addRow (acc : SMap Acc) (l : Int) (blocks : List (List (Num × Bool))) (errs : List (Nat × Int)) (e r : Nat) :
    SMap Acc × Option (Nat × Int × Int) :=
  (List.range 64).foldl (fun (st : SMap Acc × Option (Nat × Int × Int)) j =>
    let a0 := SMap.get Acc.zero st.1 (64 * r + j)
    let a1 := blocks.foldl (fun a ss => match ss.getD j (.zero, false) with
      | (.fin m ex, inv) => a.contribute l m ex inv
      | (_, _) => a.contribute l 0 l true) a0
    let d := errAt errs (e * 4096 + r * 64 + j)
    (SMap.put Acc.zero (64 * r + j) { a1 with x := a1.x + d } st.1,
      match st.2 with
      | some x => some x
      | none => if residue (a1.x + d) = residue a1.x then none else some (j, a1.x, a1.x + d))) (acc, none)

/-- Detail of a RESIDUE_FAIL record: opcode, lane, predicted and found residues (R420). DESIGN CHOICE: R420 names the fields
and gives no widths: 1, 2, 2 and 2 bytes here. -/
def residueDetail (op lane : Nat) (predicted found : Int) : List Nat :=
  op % 256 :: toLe 2 lane ++ toLe 2 (residue predicted) ++ toLe 2 (residue found)

/-- A STREAM through one engine: its faults and the engine after it. DESIGN CHOICE: R420 names the fields of a CHECKSUM_FAIL
record's DETAIL and gives no widths: the Tine-local tile address in 4 bytes, block and row in 1 each, P - Q in 8. -/
def Module.streamEngine (m : Module) (s e rows : Nat) (env : OpEnv) : Engine × List StageFault :=
  let x := (m.tine s).engine e
  let act := match x.shadow with
    | some t => some t
    | none => x.active
  let buf := if x.lastBuf = 0 then x.buf0 else x.buf1
  match act, buf with
  | some t, some b =>
    if !(pairOk t.fmt b.fmt) then (x, [m.flt s 0x07])
    else if rows = 0 then (x, [])
    else
      let len := productBlock t.fmt b.fmt
      let nb := 64 / len
      if (List.range (64 * rows)).any (fun k => decide (65536 < (SMap.get Acc.zero x.acc k).count + nb)) then
        (x, [m.flt s 0x05])
      else
        let cols := t.columns
        let (acc, fs) := (List.range rows).foldl (fun (st : SMap Acc × List StageFault) r =>
          let as := b.fmt.slotVals (b.rows.getD r [])
          let (blocks, chk) := streamRow t cols as env.hw e r len
          let f1 := match chk with
            | some (bn, d) => [{ m.flt s 0x200 with sub := e, addr := t.addr, detail := toLe 4 t.addr ++ [bn, r] ++ toLe 8 d, org := t.org }]
            | none => []
          let (acc', res) := addRow st.1 x.wlsb blocks env.acc e r
          let f2 := match res with
            | some (j, p, f) => [{ m.flt s 0x201 with sub := 2, detail := residueDetail 0x22 j p f }]
            | none => []
          (acc', st.2 ++ f1 ++ f2)) (x.acc, [])
        ({ x with active := some t, shadow := none, acc := acc }, fs)
  | _, _ => (x, [m.flt s 0x10])

/-- STREAM (R105, R47 to R50, R60, R69, R71). -/
def Module.stream (m : Module) (s w : Nat) (env : OpEnv) : OpOut :=
  let rows := usedRows w
  let es := enginesOf w
  let pre := m.rowsFault s w
  if pre ≠ [] then OpOut.bad m pre
  else
    let rs := es.map (fun e => (e, m.streamEngine s e rows env))
    let fs := (rs.map (fun r => r.2.2)).flatten
    if fs ≠ [] then OpOut.bad m fs
    else
      let m1 := rs.foldl (fun m r => m.modEngine s r.1 (fun _ => r.2.1)) m
      { OpOut.ok (m1.modTine s (fun t => { t with passes := (t.passes + rows * es.length) % 2 ^ 64 })) [] with
        streams := es.map (fun e => 2 * e + ((m.tine s).engine e).lastBuf) }

/-! ### DRAIN, DRAINW -/

/-- The value an accumulator drains and its flags (R51). -/
def Acc.value (a : Acc) (l : Int) : Num × Nat :=
  let (x, f) := a.window
  (if bitB a.flags 2 then .nan else .fin x l, a.flags ||| f)

/-- The residue check of an accumulator read by a drain (R64). -/
def Module.accFaults (m : Module) (s op e r : Nat) (x : Engine) (env : OpEnv) : List StageFault :=
  (List.range 64).filterMap (fun j =>
    let d := errAt env.acc (e * 4096 + r * 64 + j)
    let v := (SMap.get Acc.zero x.acc (64 * r + j)).x
    if residue (v + d) = residue v then none
    else some { m.flt s 0x201 with sub := 2, detail := residueDetail op j v (v + d) })

/-- Accumulator j of set r as a drain reads it. -/
def Engine.accAt (x : Engine) (env : OpEnv) (e r j : Nat) : Acc :=
  let a := SMap.get Acc.zero x.acc (64 * r + j)
  { a with x := a.x + errAt env.acc (e * 4096 + r * 64 + j) }

/-- One output line of a drain: the bytes of engine e's set r in format f, and its flags. -/
def Engine.drainSlot (x : Engine) (f : Fmt) (t : Int) (seed i0 e r : Nat) (env : OpEnv) : List Nat × Nat :=
  let vs := (List.range 64).map (fun j => (x.accAt env e r j).value x.wlsb)
  let (b, fl) := f.encSlot t seed i0 (vs.map Prod.fst)
  (b, vs.foldl (fun a p => a ||| p.2) fl)

/-- DRAIN (R51, R56, R57, R105). -/
def Module.drain (m : Module) (s w : Nat) (env : OpEnv) : OpOut :=
  let rows := usedRows w
  let es := enginesOf w
  let t := m.tine s
  let a := t.local (mOpa w)
  match m.useFmt s (mFmt w) 2 true with
  | none => OpOut.bad m (m.flt s 0x07 :: m.rowsFault s w ++ m.dstFaults s a 0 true)
  | some f =>
    let ln := 128 * f.slotLines
    let total := rows * es.length * ln
    let pre := m.rowsFault s w ++ m.dstFaults s a total true
    if pre ≠ [] then OpOut.bad m pre
    else
      let cells := ((List.range rows).map (fun r => (List.range es.length).map (fun i => (r, i)))).flatten
      let fs := (cells.map (fun c => m.accFaults s 0x24 (es.getD c.2 0) c.1 (t.engine (es.getD c.2 0)) env)).flatten
      if fs ≠ [] then OpOut.bad m fs
      else
        let outs := cells.map (fun c =>
          let e := es.getD c.2 0
          (t.engine e).drainSlot f t.seq.scaleT (t.seq.reg 13) (t.seq.reg 14 + 64 * (c.1 * es.length + c.2)) e c.1 env)
        let m1 := m.twrite s a (outs.map Prod.fst).flatten
        OpOut.ok (m1.addFlags s (outs.foldl (fun x p => x ||| p.2) 0)) (if total = 0 then [] else [(a, total)])

/-- DRAINW (R53, R105). -/
def Module.drainw (m : Module) (s w : Nat) (env : OpEnv) : OpOut :=
  let rows := usedRows w
  let es := enginesOf w
  let t := m.tine s
  let a := t.local (mOpa w)
  let total := rows * es.length * 2048
  let pre := m.rowsFault s w ++ m.dstFaults s a total false
  if pre ≠ [] then OpOut.bad m pre
  else
    let cells := ((List.range rows).map (fun r => es.map (fun e => (r, e)))).flatten
    let fs := (cells.map (fun c => m.accFaults s 0x25 c.2 c.1 (t.engine c.2) env)).flatten
    if fs ≠ [] then OpOut.bad m fs
    else
      let b := (cells.map (fun c =>
        let x := t.engine c.2
        ((List.range 64).map (fun j => partialBytes (x.accAt env c.2 c.1 j) x.wlsb)).flatten)).flatten
      OpOut.ok (m.twrite s a b) (if total = 0 then [] else [(a, total)])

/-! ### PADD, PDRAIN -/

/-- The n window partials in a run of bytes. -/
def partialsOf (b : List Nat) (n : Nat) : List (Acc × Int × Nat) :=
  (List.range n).map (fun i => partialOf (slice 0 b (32 * i) 32))

/-- Residue faults of partials read (R54, R64): the stored RESIDUE must be that of VALUE. -/
def Module.partialFaults (m : Module) (s op : Nat) (ps : List (Acc × Int × Nat)) : List StageFault :=
  (List.range ps.length).filterMap (fun i =>
    match ps.getD i (Acc.zero, 0, 0) with
    | (a, _, r) => if residue a.x = r then none
        else some { m.flt s 0x201 with sub := 2, detail := op :: toLe 2 (i % 64) ++ toLe 2 r ++ toLe 2 (residue a.x) })

/-- Two partials combined (R54). -/
def Acc.combine (a b : Acc) (err : Int) : Acc :=
  { x := sext 128 (toBits 128 (a.x + b.x + err)), count := a.count + b.count, flags := a.flags ||| b.flags }

/-- PADD (R54, R105). -/
def Module.padd (m : Module) (s w : Nat) (env : OpEnv) : OpOut :=
  let rows := usedRows w
  let t := m.tine s
  let a := t.local (mOpa w)
  let b := t.local (mOpb w)
  let n := 2048 * rows
  let pre := m.rowsFault s w ++ m.srcFaults s b n false ++ m.dstFaults s a n false
  if pre ≠ [] then OpOut.bad m pre
  else
    let (xa, f1, m1) := m.tread s a n
    let (xb, f2, m2) := m1.tread s b n
    let pa := partialsOf xa (64 * rows)
    let pb := partialsOf xb (64 * rows)
    let z := (List.range (64 * rows)).map (fun i => (i, pa.getD i (Acc.zero, 0, 0), pb.getD i (Acc.zero, 0, 0)))
    let fs := f1 ++ f2 ++ m.partialFaults s 0x26 pa ++ m.partialFaults s 0x26 pb ++
      (if z.any (fun p => decide (p.2.1.2.1 ≠ p.2.2.2.1)) then [m.flt s 0x06] else []) ++
      (if z.any (fun p => decide (65536 < p.2.1.1.count + p.2.2.1.count)) then [m.flt s 0x05] else []) ++
      (z.filterMap (fun p =>
        let d := errAt env.acc p.1
        let v := p.2.1.1.x + p.2.2.1.x
        if residue (v + d) = residue v then none
        else some { m.flt s 0x201 with sub := 2, detail := residueDetail 0x26 (p.1 % 64) v (v + d) }))
    if fs ≠ [] then OpOut.bad m2 fs
    else
      let out := z.map (fun p => partialBytes (p.2.1.1.combine p.2.2.1 (errAt env.acc p.1)) p.2.1.2.1)
      OpOut.ok (m2.twrite s a out.flatten) (if n = 0 then [] else [(a, n)])

/-- PDRAIN (R51, R54, R105). -/
def Module.pdrain (m : Module) (s w : Nat) : OpOut :=
  let rows := usedRows w
  let t := m.tine s
  let a := t.local (mOpa w)
  let b := t.local (mOpb w)
  match m.useFmt s (mFmt w) 2 true with
  | none => OpOut.bad m (m.flt s 0x07 :: m.rowsFault s w ++ m.srcFaults s a (2048 * rows) false ++ m.dstFaults s b 0 true)
  | some f =>
    let ln := 128 * f.slotLines
    let pre := m.rowsFault s w ++ m.srcFaults s a (2048 * rows) false ++ m.dstFaults s b (ln * rows) true
    if pre ≠ [] then OpOut.bad m pre
    else
      let (x, f1, m1) := m.tread s a (2048 * rows)
      let ps := partialsOf x (64 * rows)
      let fs := f1 ++ m.partialFaults s 0x27 ps
      if fs ≠ [] then OpOut.bad m1 fs
      else
        let outs := (List.range rows).map (fun r =>
          let vs := (slice (Acc.zero, 0, 0) ps (64 * r) 64).map (fun p => p.1.value p.2.1)
          let (y, fl) := f.encSlot t.seq.scaleT (t.seq.reg 13) (t.seq.reg 14 + 64 * r) (vs.map Prod.fst)
          (y, vs.foldl (fun a p => a ||| p.2) fl))
        let m2 := m1.twrite s b (outs.map Prod.fst).flatten
        OpOut.ok (m2.addFlags s (outs.foldl (fun x p => x ||| p.2) 0)) (if rows = 0 then [] else [(b, ln * rows)])

/-! ### Meanings -/

/-- TLOAD. -/
def tloadOp (s : Nat) (env : OpEnv) (m : Module) : Module := m.issueOp s 0x20 env (fun w m => m.tload s w)
/-- ASTAGE. -/
def astageOp (s : Nat) (env : OpEnv) (m : Module) : Module := m.issueOp s 0x21 env (fun w m => m.astage s w)
/-- STREAM. -/
def streamOp (s : Nat) (env : OpEnv) (m : Module) : Module := m.issueOp s 0x22 env (fun w m => m.stream s w env)
/-- WSET. -/
def wsetOp (s : Nat) (env : OpEnv) (m : Module) : Module := m.issueOp s 0x23 env (fun w m => m.wset s w)
/-- DRAIN. -/
def drainOp (s : Nat) (env : OpEnv) (m : Module) : Module := m.issueOp s 0x24 env (fun w m => m.drain s w env)
/-- DRAINW. -/
def drainwOp (s : Nat) (env : OpEnv) (m : Module) : Module := m.issueOp s 0x25 env (fun w m => m.drainw s w env)
/-- PADD. -/
def paddOp (s : Nat) (env : OpEnv) (m : Module) : Module := m.issueOp s 0x26 env (fun w m => m.padd s w env)
/-- PDRAIN. -/
def pdrainOp (s : Nat) (env : OpEnv) (m : Module) : Module := m.issueOp s 0x27 env (fun w m => m.pdrain s w)

end Sys2Proof.Machine
end

