-- ==== Sys2Proof/Machine/Vector.lean ====
section
/-! DEFINITION. The vector, curve and format operations (R72 to R75, R99, R107 to R109). -/

namespace Sys2Proof.Machine

/-- OPD of layout V (R107). -/
def vOpd (w : Nat) : Nat := bitsOf w 115 93
/-- OPS1. -/
def vOps1 (w : Nat) : Nat := bitsOf w 92 70
/-- OPS2. -/
def vOps2 (w : Nat) : Nat := bitsOf w 69 47
/-- FMT_D. -/
def vFmtD (w : Nat) : Nat := bitsOf w 46 39
/-- FMT_S. -/
def vFmtS (w : Nat) : Nat := bitsOf w 38 31
/-- NVEC. -/
def vNvec (w : Nat) : Nat := bitsOf w 30 15
/-- FUNC. -/
def vFunc (w : Nat) : Nat := bitsOf w 14 11
/-- AUX. -/
def vAux (w : Nat) : Nat := bitsOf w 10 3

/-! ### Slots -/

/-- Bytes of one slot of a format. -/
def Fmt.slotBytes (f : Fmt) : Nat := 128 * f.slotLines

/-- Bytes of one slot of a format, none where the selector names no usable format: then only the address an operand names is
looked at (R102). -/
def slotSize (f : Option Fmt) : Nat :=
  match f with
  | some f => f.slotBytes
  | none => 0

/-- FORMAT_ILLEGAL where one of the formats is not usable (R118). -/
def Module.fmtFault (m : Module) (s : Nat) (fs : List (Option Fmt)) : List StageFault :=
  if fs.all Option.isSome then [] else [m.flt s 0x07]

/-- A source format readable by a curve or format operation: any format a slot can hold but a codebook format. -/
def Module.readFmt (m : Module) (s sel : Nat) : Option Fmt :=
  match m.fmt s sel with
  | some f => if f.kind ≠ 3 && f.slotOk then some f else none
  | none => none

/-- The values of n slots in a run of bytes. -/
def Fmt.runVals (f : Fmt) (b : List Nat) (n : Nat) : List (List Num) :=
  (List.range n).map (fun i => f.slotVals (slice 0 b (f.slotBytes * i) f.slotBytes))

/-- Slots of values encoded one after another (R56, R57): bytes and flags. -/
def Fmt.encRun (f : Fmt) (t : Int) (seed i0 : Nat) (vs : List (List Num)) : List Nat × Nat :=
  let rs := (List.range vs.length).map (fun i => f.encSlot t seed (i0 + 64 * i) (vs.getD i []))
  ((rs.map Prod.fst).flatten, rs.foldl (fun a p => a ||| p.2) 0)

/-- A slot in which only the lanes with a new value are written (R108): kept lanes of a block-scaled block that receives
a new element, or of a slot with one scale per tensor that does, are encoded again from their decoded values. -/
def Fmt.patchSlot (f : Fmt) (t : Int) (seed i0 : Nat) (old : List Nat) (new : List (Option Num)) : List Nat × Nat :=
  let vals := f.slotVals old
  let hit := fun i => (new.getD i none).isSome
  let val := fun i => (new.getD i none).getD (vals.getD i .zero)
  let rnd := fun i => if f.round = 2 then stochR seed (i0 + i) else 0
  if !((List.range 64).any hit) then (old, 0)
  else if f.block = 0 then
    if f.scaleKind = 3 then f.encSlot t seed i0 ((List.range 64).map val)
    else
      let es := (List.range 64).map (fun i => if hit i then f.encode (val i) 0 (rnd i) else (packedAt old f.bits i, 0))
      (slice 0 (packCodes f.bits (es.map Prod.fst) (8 * f.bits)) 0 f.slotBytes, es.foldl (fun a p => a ||| p.2) 0)
  else
    let rs := (List.range (64 / f.block)).map (fun b =>
      let is := (List.range f.block).map (fun i => b * f.block + i)
      if is.any hit then f.encBlock seed (i0 + b * f.block) (is.map val)
      else (old.getD (8 * f.bits + b) 0, is.map (fun i => packedAt old f.bits i), 0))
    (slice 0 (packCodes f.bits (rs.map (fun r => r.2.1)).flatten (8 * f.bits) ++ rs.map Prod.fst) 0 f.slotBytes,
      rs.foldl (fun a r => a ||| r.2.2) 0)

/-- Residue faults of a guarded unit: lanes at which the world adds an error its check finds (R63, R65). -/
def Module.laneFaults (m : Module) (s unit op : Nat) (env : OpEnv) (n : Nat) (vs : List (List Num)) : List StageFault :=
  env.hw.filterMap (fun p =>
    if p.1 < 64 * n ∧ residue p.2 ≠ 0 then
      let x : Int := match (vs.getD (p.1 / 64) []).getD (p.1 % 64) .zero with
        | .fin m _ => m
        | _ => 0
      some { m.flt s 0x201 with sub := unit, detail := residueDetail op (p.1 % 64) x (x + p.2) }
    else none)

/-- Errors the residue code cannot see stay in the result. -/
def bumpLanes (env : OpEnv) (vs : List (List Num)) : List (List Num) :=
  if env.hw = [] then vs
  else (List.range vs.length).map (fun i =>
    (List.range 64).map (fun j => ((vs.getD i []).getD j .zero).bump (errAt env.hw (64 * i + j))))

/-- Operand faults of a lane-by-lane operation (R98, R102, R118). -/
def Module.laneOperands (m : Module) (s w : Nat) (fs fd : Option Fmt) (two : Bool) : List StageFault :=
  let t := m.tine s
  let n := vNvec w
  m.fmtFault s [fs, fd] ++ m.srcFaults s (t.local (vOps1 w)) (n * slotSize fs) true ++
    (if two then m.srcFaults s (t.local (vOps2 w)) (n * slotSize fs) true else []) ++
    m.dstFaults s (t.local (vOpd w)) (n * slotSize fd) true

/-- A lane-by-lane operation over NVEC slots (R72, R108, R109): sources read in `fs`, an optional third operand read from
the destination, results of `fn` encoded into `fd`. `two`: OPS2 is read. -/
def Module.lanes (m : Module) (s w : Nat) (env : OpEnv) (fs fd : Option Fmt) (two third : Bool) (guard : Option Nat)
    (fn : Num → Num → Num → Num) : OpOut :=
  let pre := m.laneOperands s w fs fd two
  match fs, fd, pre with
  | some fs, some fd, [] =>
    let t := m.tine s
    let n := vNvec w
    let d := t.local (vOpd w)
    let (xa, f1, m1) := m.tread s (t.local (vOps1 w)) (n * fs.slotBytes)
    let (xb, f2, m2) := if two then m1.tread s (t.local (vOps2 w)) (n * fs.slotBytes) else ([], [], m1)
    let (xd, f3, m3) := if third then m2.tread s d (n * fd.slotBytes) else ([], [], m2)
    let va := fs.runVals xa n
    let vb := if two then fs.runVals xb n else []
    let vd := if third then fd.runVals xd n else []
    let rs := (List.range n).map (fun i => (List.range 64).map (fun j =>
      fn ((va.getD i []).getD j .zero) ((vb.getD i []).getD j .zero) ((vd.getD i []).getD j .zero)))
    let fs' := f1 ++ f2 ++ f3 ++ (match guard with
      | some u => m.laneFaults s u (opOf w) env n rs
      | none => [])
    if fs' ≠ [] then OpOut.bad m3 fs'
    else
      let (bytes, fl) := fd.encRun t.seq.scaleT (t.seq.reg 13) (t.seq.reg 14) (bumpLanes (if guard.isSome then env else OpEnv.calm) rs)
      OpOut.ok ((m3.twrite s d bytes).addFlags s fl) (if n = 0 then [] else [(d, n * fd.slotBytes)])
  | _, _, _ => OpOut.bad m pre

/-- A vector operation of two sources with use V into a destination with use O. -/
def Module.vec2 (m : Module) (s w : Nat) (env : OpEnv) (guard : Option Nat) (fn : Num → Num → Num) : OpOut :=
  m.lanes s w env (m.useFmt s (vFmtS w) 3 true) (m.useFmt s (vFmtD w) 2 true) true false guard (fun a b _ => fn a b)

/-- VFMA: OPD is read in FMT_D, and the product and sum are fused (R108). -/
def Module.vfma (m : Module) (s w : Nat) (env : OpEnv) : OpOut :=
  m.lanes s w env (m.useFmt s (vFmtS w) 3 true) (m.useFmt s (vFmtD w) 2 true) true true (some 0) (fun a b c => (a.mul b).add c)

/-! ### Vector operations -/

/-- Exact two's complement bitwise operations on integers. -/
def intBits (f : Nat → Nat → Nat) (a b : Int) : Int :=
  let w := max (log2 a.natAbs) (log2 b.natAbs) + 2
  sext w (f (toBits w a) (toBits w b))

/-- VLOGIC on one lane (R108). -/
def logicLane (func : Nat) (a b : Num) : Num :=
  match a, b with
  | .fin m e, .fin m' e' =>
    if func = 3 then .fin (-m - 1) e
    else
      let l := min e e'
      let x := scaleUp m e l
      let y := scaleUp m' e' l
      .fin (if func = 0 then intBits Nat.land x y else if func = 1 then intBits Nat.lor x y else intBits Nat.xor x y) l
  | .fin m e, _ => if func = 3 then .fin (-m - 1) e else .nan
  | _, _ => .nan

/-- VLOGIC: integer formats only. -/
def Module.vlogic (m : Module) (s w : Nat) (env : OpEnv) : OpOut :=
  let int := fun (o : Option Fmt) => match o with
    | some f => if f.kind = 2 then some f else none
    | none => none
  if 3 < vFunc w then OpOut.bad m [m.flt s 0x07]
  else m.lanes s w env (int (m.useFmt s (vFmtS w) 3 true)) (int (m.useFmt s (vFmtD w) 2 true)) (vFunc w ≠ 3) false none
    (fun a b _ => logicLane (vFunc w) a b)

/-- VSHIFT on one lane: integers truncate toward zero (R108). -/
def shiftLane (intMode : Bool) (k : Int) (x : Num) : Num :=
  match x with
  | .fin m e => if intMode && decide (k < 0) then .fin (truncDiv m (2 ^ (-k).toNat)) e
      else if intMode then .fin (m * (2 ^ k.toNat : Nat)) e else .fin m (e + k)
  | y => y

/-- VSHIFT. -/
def Module.vshift (m : Module) (s w : Nat) (env : OpEnv) : OpOut :=
  let fs := m.useFmt s (vFmtS w) 3 true
  let fd := m.useFmt s (vFmtD w) 2 true
  let isFloat := fun (o : Option Fmt) => match o with
    | some f => decide (f.kind = 1)
    | none => false
  m.lanes s w env fs fd false false (some 0) (fun a _ _ => shiftLane (!(isFloat fs || isFloat fd)) (sext 8 (vAux w)) a)

/-- VCMP on one lane: NaN compares false, and true for ne. -/
def cmpLane (func : Nat) (a b : Num) : Bool :=
  match func with
  | 0 => Num.eq a b
  | 1 => !(Num.eq a b)
  | 2 => Num.lt a b
  | 3 => Num.lt a b || Num.eq a b
  | 4 => Num.lt b a
  | _ => Num.lt b a || Num.eq a b

/-- VCMP: INT8 slots of 0x01 and 0x00 with tensor exponent 0 (R108). -/
def Module.vcmp (m : Module) (s w : Nat) : OpOut :=
  let fmt := m.useFmt s (vFmtS w) 3 true
  let t := m.tine s
  let n := vNvec w
  let a := t.local (vOps1 w)
  let b := t.local (vOps2 w)
  let d := t.local (vOpd w)
  let pre := m.fmtFault s [fmt, if vFmtD w = 0x10 ∧ vFunc w ≤ 5 then fmt else none] ++ m.srcFaults s a (n * slotSize fmt) true ++
    m.srcFaults s b (n * slotSize fmt) true ++ m.dstFaults s d (128 * n) true
  match fmt, pre with
  | some f, [] =>
    let (xa, f1, m1) := m.tread s a (n * f.slotBytes)
    let (xb, f2, m2) := m1.tread s b (n * f.slotBytes)
    if f1 ++ f2 ≠ [] then OpOut.bad m2 (f1 ++ f2)
    else
      let va := f.runVals xa n
      let vb := f.runVals xb n
      let out := (List.range n).map (fun i => slice 0 ((List.range 64).map (fun j =>
        ofB (cmpLane (vFunc w) ((va.getD i []).getD j .zero) ((vb.getD i []).getD j .zero)))) 0 128)
      OpOut.ok (m2.twrite s d out.flatten) (if n = 0 then [] else [(d, 128 * n)])
  | _, _ => OpOut.bad m pre

/-- VSEL: lanes with a nonzero mask take OPS1; the others keep their values (R108). -/
def Module.vsel (m : Module) (s w : Nat) : OpOut :=
  let src := m.useFmt s (vFmtS w) 3 true
  let dst := m.useFmt s (vFmtD w) 2 true
  let t := m.tine s
  let n := vNvec w
  let a := t.local (vOps1 w)
  let b := t.local (vOps2 w)
  let d := t.local (vOpd w)
  let pre := m.fmtFault s [src, dst] ++ m.srcFaults s a (n * slotSize src) true ++ m.srcFaults s b (128 * n) true ++
    m.dstFaults s d (n * slotSize dst) true
  match src, dst, pre with
  | some fs, some fd, [] =>
    let (xa, f1, m1) := m.tread s a (n * fs.slotBytes)
    let (xb, f2, m2) := m1.tread s b (128 * n)
    let (xd, f3, m3) := m2.tread s d (n * fd.slotBytes)
    if f1 ++ f2 ++ f3 ≠ [] then OpOut.bad m3 (f1 ++ f2 ++ f3)
    else
      let va := fs.runVals xa n
      let rs := (List.range n).map (fun i =>
        fd.patchSlot t.seq.scaleT (t.seq.reg 13) (t.seq.reg 14 + 64 * i) (slice 0 xd (fd.slotBytes * i) fd.slotBytes)
          ((List.range 64).map (fun j => if xb.getD (128 * i + j) 0 ≠ 0 then (va.getD i [])[j]? else none)))
      OpOut.ok ((m3.twrite s d (rs.map Prod.fst).flatten).addFlags s (rs.foldl (fun a p => a ||| p.2) 0))
        (if n = 0 then [] else [(d, n * fd.slotBytes)])
  | _, _, _ => OpOut.bad m pre

/-- Sum, largest, smallest of a list (R108). -/
def reduceList (func : Nat) (l : List Num) : Num :=
  match l with
  | [] => .zero
  | x :: t => t.foldl (if func % 4 = 0 then Num.add else if func % 4 = 1 then Num.max else Num.min) x

/-- VREDUCE: across the lanes of each slot (FUNC 0 to 2) or across slots (4 to 6). -/
def Module.vreduce (m : Module) (s w : Nat) (env : OpEnv) : OpOut :=
  let src := m.useFmt s (vFmtS w) 3 true
  let dst := m.useFmt s (vFmtD w) 2 true
  let t := m.tine s
  let n := vNvec w
  let func := vFunc w
  let a := t.local (vOps1 w)
  let d := t.local (vOpd w)
  let nOut := if n = 0 then 0 else if func < 4 then ceilDiv n 64 else 1
  let pre := m.fmtFault s [src, if func % 4 < 3 ∧ func < 8 then dst else none] ++ m.srcFaults s a (n * slotSize src) true ++
    m.dstFaults s d (nOut * slotSize dst) true
  match src, dst, pre with
  | some fs, some fd, [] =>
    let (xa, f1, m1) := m.tread s a (n * fs.slotBytes)
    let va := fs.runVals xa n
    let res := if func < 4 then va.map (reduceList func)
      else (List.range 64).map (fun j => reduceList func (va.map (fun v => v.getD j .zero)))
    let rs := (List.range nOut).map (fun i => slice .zero res (64 * i) 64)
    let f2 := m.laneFaults s 0 0x4A env nOut rs
    if f1 ++ f2 ≠ [] then OpOut.bad m1 (f1 ++ f2)
    else
      let (b, fl) := fd.encRun t.seq.scaleT (t.seq.reg 13) (t.seq.reg 14) (bumpLanes env rs)
      OpOut.ok ((m1.twrite s d b).addFlags s fl) (if nOut = 0 then [] else [(d, nOut * fd.slotBytes)])
  | _, _, _ => OpOut.bad m pre

/-- Where element idx of an operand lies: the address of its slot and its lane (R108); `none` below address 0. -/
def slotOf (base : Nat) (f : Fmt) (idx : Int) : Option Nat × Nat :=
  let a := (base : Int) + (f.slotBytes : Int) * (idx / 64)
  (if a < 0 then none else some a.toNat, (idx % 64).toNat)

/-- The INT32 indices of n slots. -/
def indicesOf (b : List Nat) (n : Nat) : List (List Int) :=
  (List.range n).map (fun i => (List.range 64).map (fun j => sext 32 (leAt b (256 * i + 4 * j) 4)))

/-- Bytes of a slot, as offset and count, that lane j needs: its element and its scale; `wr`: all that a new element there has
rewritten, its block or, with one scale per tensor, the slot (R99, R108). -/
def Fmt.touch (f : Fmt) (wr : Bool) (j : Nat) : List (Nat × Nat) :=
  let el := fun (i n : Nat) => (f.bits * i / 8, ceilDiv (f.bits * (i + n)) 8 - f.bits * i / 8)
  if f.scaleKind = 3 then (if wr then [(0, 8 * f.bits + 1)] else [el j 1, (8 * f.bits, 1)])
  else if f.block = 0 then [el j 1]
  else [if wr then el (j / f.block * f.block) f.block else el j 1, (8 * f.bits + j / f.block, 1)]

/-- The lines of a slot that some lanes need. -/
def Fmt.touchLines (f : Fmt) (wr : Bool) (js : List Nat) : List Nat :=
  (List.range f.slotLines).filter (fun l => js.any (fun j => (f.touch wr j).any (fun p =>
    decide (p.1 < 128 * (l + 1) ∧ 128 * l < p.1 + p.2))))

/-- Lines of the slot at address x read: the slot's bytes, zero in the other lines, the faults and the module. -/
def Module.readLines (m : Module) (s x : Nat) (f : Fmt) (ls : List Nat) : List Nat × List StageFault × Module :=
  (List.range f.slotLines).foldl (fun (st : List Nat × List StageFault × Module) l =>
    if ls.elem l then
      let (b, fs, m1) := st.2.2.tread s (x + 128 * l) 128
      (st.1 ++ b, st.2.1 ++ fs, m1)
    else (st.1 ++ List.replicate 128 0, st.2)) ([], [], m)

/-- Lanes of the slot at x among the places of elements. -/
def lanesAt (places : List (Option Nat × Nat)) (x : Nat) : List Nat :=
  (places.filter (fun p => p.1 = some x)).map Prod.snd

/-- VGATHER (R108). -/
def Module.vgather (m : Module) (s w : Nat) : OpOut :=
  let src := m.useFmt s (vFmtS w) 3 true
  let dst := m.useFmt s (vFmtD w) 2 true
  let t := m.tine s
  let n := vNvec w
  let a := t.local (vOps1 w)
  let b := t.local (vOps2 w)
  let d := t.local (vOpd w)
  let pre := m.fmtFault s [src, dst] ++ m.srcFaults s a 0 true ++ m.srcFaults s b (256 * n) true ++
    m.dstFaults s d (n * slotSize dst) true
  match src, dst, pre with
  | some fs, some fd, [] =>
    let (xb, f1, m1) := m.tread s b (256 * n)
    let idx := (indicesOf xb n).flatten
    let places := idx.map (slotOf a fs)
    let slots := (places.filterMap Prod.fst).eraseDups
    let f2 := if places.all (fun p => match p.1 with
        | some x => (fs.touch false p.2).all (fun q => m.readable s (x + q.1) q.2)
        | none => false) then [] else [m.flt s 0x02]
    if f1 ++ f2 ≠ [] then OpOut.bad m1 (f1 ++ f2)
    else
      let (tab, f3, m2) := slots.foldl (fun (st : SMap (List Num) × List StageFault × Module) x =>
        let (b, f, m') := st.2.2.readLines s x fs (fs.touchLines false (lanesAt places x))
        (SMap.ins x (fs.slotVals b) st.1, st.2.1 ++ f, m')) ([], [], m1)
      if f3 ≠ [] then OpOut.bad m2 f3
      else
        let vals := places.map (fun p => (SMap.get [] tab (p.1.getD 0)).getD p.2 .zero)
        let (bytes, fl) := fd.encRun t.seq.scaleT (t.seq.reg 13) (t.seq.reg 14)
          ((List.range n).map (fun i => slice .zero vals (64 * i) 64))
        OpOut.ok ((m2.twrite s d bytes).addFlags s fl) (if n = 0 then [] else [(d, n * fd.slotBytes)])
  | _, _, _ => OpOut.bad m pre

/-- VSCATTER (R108): where indices repeat, the highest lane's element is written. -/
def Module.vscatter (m : Module) (s w : Nat) : OpOut :=
  let src := m.useFmt s (vFmtS w) 3 true
  let dst := m.useFmt s (vFmtD w) 2 true
  let t := m.tine s
  let n := vNvec w
  let a := t.local (vOps1 w)
  let b := t.local (vOps2 w)
  let d := t.local (vOpd w)
  let pre := m.fmtFault s [src, dst] ++ m.srcFaults s a (n * slotSize src) true ++ m.srcFaults s b (256 * n) true ++
    m.dstFaults s d 0 true
  match src, dst, pre with
  | some fs, some fd, [] =>
    let (xa, f1, m1) := m.tread s a (n * fs.slotBytes)
    let (xb, f2, m2) := m1.tread s b (256 * n)
    let vals := (fs.runVals xa n).flatten
    let places := (indicesOf xb n).flatten.map (slotOf d fd)
    let codes := (places.map (fun p => match p.1 with
      | some x => (fd.touch true p.2).map (fun q => m.writeFault s (x + q.1) q.2)
      | none => [2])).flatten
    let f3 := (codes.filter (· ≠ 0)).map (fun c => m.flt s c)
    if f1 ++ f2 ++ f3 ≠ [] then OpOut.bad m2 (f1 ++ f2 ++ f3)
    else
      let slots := (places.filterMap Prod.fst).eraseDups
      let hits := places.zip vals
      let (m3, f4, fl, ws) := slots.foldl (fun (st : Module × List StageFault × Nat × List (Nat × Nat)) x =>
        let ls := fd.touchLines true (lanesAt places x)
        let (old, f, m') := st.1.readLines s x fd ls
        let new := (List.range 64).map (fun j =>
          ((hits.filter (fun h => decide (h.1 = (some x, j)))).getLast?).map Prod.snd)
        let slotNo := ((x : Int) - d) / fd.slotBytes
        let i0 := (((t.seq.reg 14 : Int) + 64 * slotNo) % (2 ^ 32 : Nat)).toNat
        let (y, fl) := fd.patchSlot t.seq.scaleT (t.seq.reg 13) i0 old new
        (ls.foldl (fun m l => m.twrite s (x + 128 * l) (slice 0 y (128 * l) 128)) m', st.2.1 ++ f, st.2.2.1 ||| fl,
          st.2.2.2 ++ ls.map (fun l => (x + 128 * l, 128)))) (m2, [], 0, [])
      if f4 ≠ [] then OpOut.bad m2 f4
      else OpOut.ok (m3.addFlags s fl) ws
  | _, _, _ => OpOut.bad m pre

/-- VFILL (R108). -/
def Module.vfill (m : Module) (s w : Nat) : OpOut :=
  let dst := m.useFmt s (vFmtD w) 2 true
  let t := m.tine s
  let n := vNvec w
  let d := t.local (vOpd w)
  let pre := m.fmtFault s [dst] ++ m.dstFaults s d (n * slotSize dst) true
  match dst, pre with
  | some fd, [] =>
    let c := t.seq.reg (vAux w % 16)
    let x := if fd.kind = 1 then fp32 c else .fin (sext 32 c) 0
    let (b, fl) := fd.encRun t.seq.scaleT (t.seq.reg 13) (t.seq.reg 14) (List.replicate n (List.replicate 64 x))
    OpOut.ok ((m.twrite s d b).addFlags s fl) (if n = 0 then [] else [(d, n * fd.slotBytes)])
  | _, _ => OpOut.bad m pre

/-! ### Curve and format operations (R109) -/

/-- CLOAD: a curve slot of the running bank into a table register. -/
def Module.cload (m : Module) (s w : Nat) : OpOut :=
  let a := tableBase (m.runBank s) + 0x300 + curveBytes * (vAux w % 32)
  let (b, fs, m1) := m.tread s a curveBytes
  let c := Curve.ofBytes b
  let fs' := fs ++ (if c.spanOk then [] else [m.flt s 0x07])
  if fs' ≠ [] then OpOut.bad m1 fs'
  else { OpOut.ok (m1.modTine s (fun t => { t with curves := SMap.ins (vFunc w % 8) c t.curves })) [] with tabs := [vFunc w % 8] }

/-- n free bytes. -/
def Module.drawBytes (m : Module) : Nat → List Nat × Module
  | 0 => ([], m)
  | n + 1 =>
    let (v, m1) := m.draw 8
    let (r, m2) := Module.drawBytes m1 n
    (v :: r, m2)

/-- CEVAL. Where it reads a table register whose CLOAD has not completed its results are undefined (R77): free bytes and free
flags. -/
def Module.ceval (m : Module) (s w : Nat) (env : OpEnv) : OpOut :=
  let fs := m.readFmt s (vFmtS w)
  let fd := m.useFmt s (vFmtD w) 2 true
  let r := vFunc w % 8
  match SMap.find? (m.tine s).curves r with
  | none => OpOut.bad m (m.flt s 0x10 :: m.laneOperands s w fs fd false)
  | some c =>
    let o := m.lanes s w env fs fd false false (some 1) (fun x _ _ => c.eval x)
    if (m.tine s).seq.pend.any (fun p => p.tabs.elem r) && o.faults = [] then
      let n := vNvec w * slotSize fd
      let (b, m1) := o.m.drawBytes n
      let (fl, m2) := m1.draw 3
      { o with m := (m2.twrite s ((m.tine s).local (vOpd w)) b).addFlags s (if n = 0 then 0 else fl) }
    else o

/-- What a conversion makes of an infinity (R40): no number. -/
def Num.conv (x : Num) : Num := if x.bad then .nan else x

/-- FDECODE. -/
def Module.fdecode (m : Module) (s w : Nat) : OpOut :=
  m.lanes s w OpEnv.calm (m.readFmt s (vFmtS w)) (if vFmtD w = 0x13 then Fmt.builtin 0x13 else none) false false none
    (fun x _ _ => x.conv)

/-- FENCODE. -/
def Module.fencode (m : Module) (s w : Nat) : OpOut :=
  m.lanes s w OpEnv.calm (m.readFmt s (vFmtS w)) (m.useFmt s (vFmtD w) 2 true) false false none (fun x _ _ => x.conv)

/-- A list of n free 32-bit integers as numbers. -/
def Module.drawNums (m : Module) : Nat → List Num × Module
  | 0 => ([], m)
  | n + 1 =>
    let (v, m1) := m.draw 32
    let (r, m2) := Module.drawNums m1 n
    (.fin (sext 32 v) 0 :: r, m2)

/-- FREBLOCK: element i of the destination is element i + AUX of the source run; the elements beyond the run's end are
free values (the spec gives no content for them). -/
def Module.freblock (m : Module) (s w : Nat) : OpOut :=
  let src := m.readFmt s (vFmtS w)
  let dst := m.useFmt s (vFmtD w) 2 true
  let pre := m.laneOperands s w src dst false
  match src, dst, pre with
  | some fs, some fd, [] =>
    let t := m.tine s
    let n := vNvec w
    let k := vAux w % 64
    let d := t.local (vOpd w)
    let (xa, f1, m1) := m.tread s (t.local (vOps1 w)) (n * fs.slotBytes)
    if f1 ≠ [] then OpOut.bad m1 f1
    else
      let (tail, m2) := m1.drawNums (if n = 0 then 0 else k)
      let vals := ((fs.runVals xa n).flatten.map Num.conv).drop k ++ tail
      let (b, fl) := fd.encRun t.seq.scaleT (t.seq.reg 13) (t.seq.reg 14)
        ((List.range n).map (fun i => slice .zero vals (64 * i) 64))
      OpOut.ok ((m2.twrite s d b).addFlags s fl) (if n = 0 then [] else [(d, n * fd.slotBytes)])
  | _, _, _ => OpOut.bad m pre

/-- The columns FTILE forms from 64 slots (R109): for each column its 64 codes and its scale bytes, the tensor exponent,
and the flags of re-encodings. -/
def tileColumns (f : Fmt) (trans : Bool) (slots : List (List Nat)) : List (List Nat × List Nat) × Int × Nat :=
  let code := fun k j => if trans then packedAt (slots.getD j []) f.bits k else packedAt (slots.getD k []) f.bits j
  let vals := slots.map f.slotVals
  let val := fun k j => if trans then (vals.getD j []).getD k .zero else (vals.getD k []).getD j .zero
  if f.sel = 0x0D then
    let cols := (List.range 64).map (fun j =>
      if trans then ((List.range 64).map (fun k => code k j), [(slots.getD j []).getD 64 0, (slots.getD j []).getD 65 0], 0)
      else
        let (s0, c0, f0) := f.encBlock 0 0 ((List.range 32).map (fun k => val k j))
        let (s1, c1, f1) := f.encBlock 0 0 ((List.range 32).map (fun k => val (32 + k) j))
        (c0 ++ c1, [s0, s1], f0 ||| f1))
    (cols.map (fun c => (c.1, c.2.1)), 0, cols.foldl (fun a c => a ||| c.2.2) 0)
  else if f.sel = 0x10 then
    let exps := slots.map (fun b => sext 8 (b.getD 64 0))
    let t := maxI 0 exps
    let cols := (List.range 64).map (fun j => (List.range 64).map (fun k =>
      if exps.getD (if trans then j else k) 0 = t then (code k j, 0) else f.encode (val k j) t 0))
    (cols.map (fun c => (c.map Prod.fst, [])), t, cols.foldl (fun a c => c.foldl (fun a p => a ||| p.2) a) 0)
  else ((List.range 64).map (fun j => ((List.range 64).map (fun k => code k j), [])), 0, 0)

/-- The record of a built tile before its checksum row: header with EREF e, element and scale planes, zeros. -/
def tileRecord (f : Fmt) (cols : List (List Nat × List Nat)) (t e : Int) : List Nat :=
  [f.sel, 0] ++ toLe 2 (toBits 16 e) ++ [if f.scaleKind = 3 then toBits 8 t else 0] ++ List.replicate 11 0 ++
    (cols.map (fun c => packCodes f.bits c.1 (8 * f.bits))).flatten ++ (cols.map Prod.snd).flatten ++
    List.replicate 384 0

/-- EREF of a tile as written: the smallest exponent of a nonzero weight; 0 for a tile of zeros. -/
def Tile.lowExp (t : Tile) : Int :=
  minI 0 ((t.columns.flatten).filterMap (fun x => match x with
    | .fin m e => if m = 0 then none else some e
    | _ => none))

/-- FTILE. -/
def Module.ftile (m : Module) (s w : Nat) (env : OpEnv) : OpOut :=
  let n := vNvec w
  let t := m.tine s
  let a := t.local (vOps1 w)
  let d := t.local (vOpd w)
  match m.fmt s (vFmtS w) with
  | none => OpOut.bad m (m.flt s 0x07 :: m.srcFaults s a 0 true ++ m.dstFaults s d 0 true)
  | some f =>
    let size := f.tileBytes false
    let okFmt := (f.sel = 0x0D || f.sel = 0x10 || f.sel = 0x11 || f.sel = 0x12) && decide (vFmtD w = f.sel)
    let pre := (if okFmt && (n = 64 || n = 0) then [] else [m.flt s 0x07]) ++ m.srcFaults s a (n * f.slotBytes) true ++
      m.dstFaults s d (if n = 0 then 0 else size) true
    if pre ≠ [] then OpOut.bad m pre
    else if n = 0 then OpOut.ok m []
    else
      let (x, f1, m1) := m.tread s a (n * f.slotBytes)
      let slots := (List.range 64).map (fun i => slice 0 x (f.slotBytes * i) f.slotBytes)
      let (cols, te, fl) := tileColumns f (vFunc w % 2 = 1) slots
      let t0 : Tile := { fmt := f, bytes := tileRecord f cols te 0, addr := d, org := none }
      let t1 : Tile := { t0 with bytes := tileRecord f cols te t0.lowExp }
      let row := (List.range 64).map t1.recheckRow
      let f2 := if row.all Option.isSome then [] else [m.flt s 0x0A]
      let f3 := m.laneFaults s 3 0x83 env 1 [row.map (fun r => .fin (r.getD 0) 0)]
      if f1 ++ f2 ++ f3 ≠ [] then OpOut.bad m1 (f1 ++ f2 ++ f3)
      else
        let sums := (List.range 64).map (fun k => (row.getD k none).getD 0 + errAt env.hw k)
        let bytes := t1.bytes.take (size - 384) ++ (sums.map (fun v => toLe 6 (toBits 48 v))).flatten
        OpOut.ok ((m1.twrite s d bytes).addFlags s fl) [(d, size)]

/-! ### Meanings -/

/-- VADD. -/
def vaddOp (s : Nat) (env : OpEnv) (m : Module) : Module := m.issueOp s 0x40 env (fun w m => m.vec2 s w env (some 0) Num.add)
/-- VSUB. -/
def vsubOp (s : Nat) (env : OpEnv) (m : Module) : Module :=
  m.issueOp s 0x41 env (fun w m => m.vec2 s w env (some 0) (fun a b => a.add b.neg))
/-- VMUL. -/
def vmulOp (s : Nat) (env : OpEnv) (m : Module) : Module := m.issueOp s 0x42 env (fun w m => m.vec2 s w env (some 0) Num.mul)
/-- VFMA. -/
def vfmaOp (s : Nat) (env : OpEnv) (m : Module) : Module := m.issueOp s 0x43 env (fun w m => m.vfma s w env)
/-- VMIN. -/
def vminOp (s : Nat) (env : OpEnv) (m : Module) : Module := m.issueOp s 0x44 env (fun w m => m.vec2 s w env none Num.min)
/-- VMAX. -/
def vmaxOp (s : Nat) (env : OpEnv) (m : Module) : Module := m.issueOp s 0x45 env (fun w m => m.vec2 s w env none Num.max)
/-- VLOGIC. -/
def vlogicOp (s : Nat) (env : OpEnv) (m : Module) : Module := m.issueOp s 0x46 env (fun w m => m.vlogic s w env)
/-- VSHIFT. -/
def vshiftOp (s : Nat) (env : OpEnv) (m : Module) : Module := m.issueOp s 0x47 env (fun w m => m.vshift s w env)
/-- VCMP. -/
def vcmpOp (s : Nat) (env : OpEnv) (m : Module) : Module := m.issueOp s 0x48 env (fun w m => m.vcmp s w)
/-- VSEL. -/
def vselOp (s : Nat) (env : OpEnv) (m : Module) : Module := m.issueOp s 0x49 env (fun w m => m.vsel s w)
/-- VREDUCE. -/
def vreduceOp (s : Nat) (env : OpEnv) (m : Module) : Module := m.issueOp s 0x4A env (fun w m => m.vreduce s w env)
/-- VGATHER. -/
def vgatherOp (s : Nat) (env : OpEnv) (m : Module) : Module := m.issueOp s 0x4B env (fun w m => m.vgather s w)
/-- VSCATTER. -/
def vscatterOp (s : Nat) (env : OpEnv) (m : Module) : Module := m.issueOp s 0x4C env (fun w m => m.vscatter s w)
/-- VFILL. -/
def vfillOp (s : Nat) (env : OpEnv) (m : Module) : Module := m.issueOp s 0x4D env (fun w m => m.vfill s w)
/-- CLOAD. -/
def cloadOp (s : Nat) (env : OpEnv) (m : Module) : Module := m.issueOp s 0x60 env (fun w m => m.cload s w)
/-- CEVAL. -/
def cevalOp (s : Nat) (env : OpEnv) (m : Module) : Module := m.issueOp s 0x61 env (fun w m => m.ceval s w env)
/-- FDECODE. -/
def fdecodeOp (s : Nat) (env : OpEnv) (m : Module) : Module := m.issueOp s 0x80 env (fun w m => m.fdecode s w)
/-- FENCODE. -/
def fencodeOp (s : Nat) (env : OpEnv) (m : Module) : Module := m.issueOp s 0x81 env (fun w m => m.fencode s w)
/-- FREBLOCK. -/
def freblockOp (s : Nat) (env : OpEnv) (m : Module) : Module := m.issueOp s 0x82 env (fun w m => m.freblock s w)
/-- FTILE. -/
def ftileOp (s : Nat) (env : OpEnv) (m : Module) : Module := m.issueOp s 0x83 env (fun w m => m.ftile s w env)

end Sys2Proof.Machine
end

