-- ==== Sys2Proof/Machine/Sequencer.lean ====
section
/-! DEFINITION. The control and movement operations, their completion, and stream granules (R110 to R117). -/

namespace Sys2Proof.Machine

/-- REG of layout K (R114). -/
def kReg (w : Nat) : Nat := bitsOf w 115 111
/-- SRC. -/
def kSrc (w : Nat) : Nat := bitsOf w 110 106
/-- COND. -/
def kCond (w : Nat) : Nat := bitsOf w 105 103
/-- MASK. -/
def kMask (w : Nat) : Nat := bitsOf w 102 88
/-- TARGET. -/
def kTarget (w : Nat) : Nat := bitsOf w 87 76
/-- IMM. -/
def kImm (w : Nat) : Nat := bitsOf w 75 44

/-- LOCAL of layout X (R110). -/
def xLocal (w : Nat) : Nat := bitsOf w 115 93
/-- LOCAL2. -/
def xLocal2 (w : Nat) : Nat := bitsOf w 92 70
/-- PEER. -/
def xPeer (w : Nat) : Nat := bitsOf w 92 87
/-- CHAN. -/
def xChan (w : Nat) : Nat := bitsOf w 86 83
/-- REGION. -/
def xRegion (w : Nat) : Nat := bitsOf w 82 79
/-- ROFF. -/
def xRoff (w : Nat) : Nat := bitsOf w 69 34
/-- IDXREG. -/
def xIdx (w : Nat) : Nat := bitsOf w 33 30
/-- LEN in granules. -/
def xLen (w : Nat) : Nat := bitsOf w 29 6
/-- WAITLIM in rounds. -/
def xWait (w : Nat) : Nat := bitsOf w 5 0

/-! ### Requests and contexts as a stage sees them -/

/-- SLICE_COUNT. -/
def Ctx.sliceCount (c : Ctx) : Nat :=
  match c.img with
  | some g => g.slices.length
  | none => 0

/-- MAX_INPUT_LEN. -/
def Ctx.maxIn (c : Ctx) : Nat :=
  match c.img with
  | some g => g.maxIn
  | none => 0

/-- MAX_OUTPUT_LEN. -/
def Ctx.maxOut (c : Ctx) : Nat :=
  match c.img with
  | some g => g.maxOut
  | none => 0

/-- A request changed, if it is in flight. -/
def Module.modReq (m : Module) (r : Nat) (f : Req → Req) : Module :=
  match SMap.find? m.host.reqs r with
  | some x => { m with host := { m.host with reqs := SMap.ins r (f x) m.host.reqs } }
  | none => m

/-- OUTPUT granules of a request that no release point covers yet (R117). -/
def Req.outGrans (r : Req) : SMap Nat := r.held.foldl (fun a g => SMap.ins g.1 g.2 a) r.kept

/-- A release point of the request that site s serves: it covers every OUTPUT granule held (R117). In a chain only the
last context's points exist (R254). -/
def Module.releasePoint (m : Module) (s : Nat) (fin : Bool) : Module :=
  let d := (m.tine s).seq.disp
  let rnd := m.markRound s
  m.modReq d.req (fun r =>
    if r.chain.length > 1 then r
    else { r with points := r.points ++ [{ round := rnd, fin := fin, grans := r.outGrans, endOff := r.maxEnd }], held := [], kept := [] })

/-! ### Control operations (R115) -/

/-- An operation of the sequencer alone. -/
def Module.ctrl (m : Module) (s : Nat) (f : Seqr → Seqr) : OpOut := OpOut.ok (m.modSeq s f) []

/-- SBEGIN (R97, R106, R115, R116). -/
def Module.sbegin (m : Module) (s w : Nat) : OpOut :=
  let m1 := m.wr Reg.tineSeqStatus_stageId (bitsOf w 43 28) [s]
  let b := m.runBank s
  OpOut.ok (m1.modTine s (fun t =>
    let d := t.seq.disp
    { t with
      engines := t.engines.map (fun p => (p.1, { p.2 with active := none, shadow := none, buf0 := none, buf1 := none }))
      curves := []
      seq := { t.seq with
        opened := true, checked := true, tokens := [], astages := 0, wsFirst := bitsOf w 27 21, wsCount := bitsOf w 20 13
        c := [(13, d.seed), (14, d.flat), (15, d.inLen)]
        ab := [(6, tableBase b), (7, weightBase b)] } })) []

/-- SETREG. -/
def Module.setreg (m : Module) (s w : Nat) : OpOut :=
  m.ctrl s (fun q => q.setReg (kReg w) (q.reg (kSrc w) + kImm w))

/-- ADDREG. -/
def Module.addreg (m : Module) (s w : Nat) : OpOut :=
  m.ctrl s (fun q => q.setReg (kReg w) (q.reg (kReg w) + kImm w))

/-- LOOP. -/
def Module.loop (m : Module) (s w : Nat) : OpOut :=
  m.ctrl s (fun q =>
    let c := q.reg (kReg w)
    if c = 0 then q
    else
      let q1 := q.setReg (kReg w) (c - 1)
      if q1.reg (kReg w) = 0 then q1 else { q1 with nextPc := kTarget w })

/-- The condition of BRCNT. -/
def condHolds (c : Nat) (a b : Int) : Bool :=
  match c with
  | 0 => a = b
  | 1 => a ≠ b
  | 2 => a < b
  | 3 => a ≥ b
  | 4 => a > b
  | 5 => a ≤ b
  | _ => false

/-- BRCNT. -/
def Module.brcnt (m : Module) (s w : Nat) : OpOut :=
  m.ctrl s (fun q =>
    if condHolds (kCond w) (sext 32 (q.reg (kReg w))) (sext 32 (kImm w)) then { q with nextPc := kTarget w } else q)

/-- Waits that have been met end here (R101, R115 to R117): BARRIER when its tokens read zero; SYNC and EOS when nothing
is pending; CSCHK when no computing operation is, setting CHECKED; RELMARK when no OUTPUT is, making a release point. At
the end of the stage a switch command that was held is taken (R88). -/
def Module.settle (m : Module) (s : Nat) : Module :=
  let q := (m.tine s).seq
  match q.wait with
  | .run => m
  | .barrier mask =>
    if (List.range 15).all (fun t => !(bitB mask t) || decide (SMap.get 0 q.tokens (t + 1) = 0)) then
      m.modSeq s (fun q => { q with wait := .run })
    else m
  | .sync => if q.pend = [] then m.modSeq s (fun q => { q with wait := .run }) else m
  | .cschk =>
    if q.pend.any (fun p => decide (p.opcode < 0xA0)) then m
    else m.modSeq s (fun q => { q with wait := .run, checked := true })
  | .relmark =>
    if q.pend.any (fun p => decide (p.opcode = 0xA6)) then m
    else (m.releasePoint s false).modSeq s (fun q => { q with wait := .run })
  | .eos outcome target =>
    if q.pend ≠ [] then m
    else
      let m1 := if outcome = 1 then m.releasePoint s true else m
      let m2 := ((m1.clr Reg.tineSeqStatus_stageActive [s]).modTine s (fun t =>
        { t with report := some (.ended outcome target t.seq.flags), last := t.seq.disp,
                 seq := { t.seq with wait := .run, opened := false } })).emit (.tineReport s 0 outcome)
      m2.takeHeld s

/-- A waiting operation of the sequencer. -/
def Module.waitFor (m : Module) (s : Nat) (k : SeqWait) : OpOut :=
  OpOut.ok ((m.modSeq s (fun q => { q with wait := k })).settle s) []

/-- EOS: an outcome 2 beyond the stage's iteration limit ends the stage with ITERATION_LIMIT. -/
def Module.eos (m : Module) (s w : Nat) : OpOut :=
  let d := (m.tine s).seq.disp
  let limit := match (m.ctxOf d.ctx).img with
    | some g => g.limits.getD (kTarget w) 0
    | none => 0
  let used := match SMap.find? m.host.reqs d.req with
    | some r => SMap.get 0 r.iters (kTarget w)
    | none => 0
  if kCond w = 2 ∧ used ≥ limit then OpOut.bad m [m.flt s 0x0B]
  else m.waitFor s (.eos (kCond w) (kTarget w))

/-! ### Movement operations (R111 to R113) -/

/-- Faults of reading LEN granules at a local operand. -/
def Module.granSrc (m : Module) (s a n : Nat) : List StageFault := m.srcFaults s a (16 * n) false
/-- Faults of writing LEN granules at a local operand. -/
def Module.granDst (m : Module) (s a n : Nat) : List StageFault := m.dstFaults s a (16 * n) false

/-- Granules of a run of bytes as numbers. -/
def granulesOf (b : List Nat) : List Nat := (List.range (b.length / 16)).map (fun i => leAt b (16 * i) 16)

/-- The peer a PEER field names. -/
def Module.peerOf (m : Module) (s i : Nat) : Option Peer :=
  let d := (m.tine s).seq.disp
  ((m.ctxOf d.ctx).slice d.slice).peers[i]?

/-- How the source of a stream is named at its receiver: a slice, or a partner's slice. -/
def Peer.key (p : Peer) : Nat := if p.kind = 0 then p.slice else 0x10000 + 256 * p.remote + p.slice

/-- Cycles of the fabric clock from a request's acceptance to the end of its budget, counted from round 0 (R209). -/
def Req.deadline (r : Req) : Nat := 8192 * r.accRound + r.accCycle + 1600 * r.budgetUs

/-- The remaining budget a packet of a request carries, in ns (R234); the cycle of the round it is sent in is no state of
the model: a free value. -/
def Module.remBudget (m : Module) (req : Nat) : Nat × Module :=
  match SMap.find? m.host.reqs req with
  | none => (2 ^ 32 - 1, m)
  | some r => let (c, m1) := m.draw 13
              (min (2 ^ 32 - 1) ((r.deadline - (8192 * m.hub.round + c)) * 5 / 8), m1)

/-- Shipment site whose substitute a site is, or the site itself: its Tine index (R129, R327). -/
def Module.tineIndex (m : Module) (s : Nat) : Nat := (((List.range 64).find? (fun i => m.substOf 72 i = s)).getD s) % 64

/-- Stream granules sent to a remote partner (R111, R329, R330); with no route to a pair member they go to its peer (R396),
else they are discarded and counted (R339). The
spec does not say how the sender learns the partner's Tine index: a free value. -/
def Module.sendStream (m : Module) (s pkg ctx vc chan req : Nat) (gs : List (Nat × Nat)) : Module :=
  let (rem, m0) := m.remBudget req
  let (dst, m1) := m0.draw 6
  let go := fun (m : Module) => m.sendMsg pkg dst (m.tineIndex s) 0x03 vc ctx chan rem (16 * gs.length) gs (some req)
  match (go m1).orElse (fun _ => (m1.learnRedirect (m1.redirect pkg)).bind go) with
  | some m2 => m2
  | none => m1.count Reg.rteNoRoute_count

/-- SEND. -/
def Module.send (m : Module) (s w : Nat) : OpOut :=
  let t := m.tine s
  let a := t.local (xLocal w)
  let n := xLen w
  let d := t.seq.disp
  let pre := (if (m.peerOf s (xPeer w)).isSome then [] else [m.flt s 0x0E]) ++ m.granSrc s a n
  if pre ≠ [] then OpOut.bad m pre
  else
    let (b, fs, m1) := m.tread s a (16 * n)
    if fs ≠ [] then OpOut.bad m1 fs
    else match m.peerOf s (xPeer w) with
      | none => OpOut.ok m1 []
      | some p =>
        let gs := granulesOf b
        if p.kind = 0 then
          OpOut.ok { m1 with mesh := m1.mesh ++ gs.map (fun g =>
            { ctx := d.ctx, src := d.slice, dst := p.slice, chan := xChan w, req := d.req, stage := d.stage,
              attempt := d.attempt, data := g, synd := 0 }) } []
        else
          let (pkg, rc) := (m.ctxOf d.ctx).remote.getD p.remote (0, 0)
          OpOut.ok (if n = 0 then m1 else m1.sendStream s pkg rc (2 + (m.ctxOf d.ctx).latClass) (xChan w) d.req
            (gs.map (fun g => (g, 0)))) []

/-- A granule written raw, with the syndrome it carries (R191). -/
def Module.putGranule (m : Module) (s a d synd : Nat) : Module :=
  let m1 := m.twrite s a (toLe 16 d)
  if synd = 0 then m1 else { m1 with sram := m1.sram.setGranule (sramKey s a / 16) d synd }

/-- The flits of a list that a (source, channel, request) names, at most n, and the rest. -/
def takeFlits (src chan req : Nat) : Nat → List Flit → List Flit × List Flit
  | _, [] => ([], [])
  | n, f :: t =>
    if n > 0 ∧ f.src = src ∧ f.chan = chan ∧ f.req = req then
      let (a, b) := takeFlits src chan req (n - 1) t
      (f :: a, b)
    else
      let (a, b) := takeFlits src chan req n t
      (a, f :: b)

/-- Flits written one after another from address a. -/
def Module.putFlits (m : Module) (s a : Nat) (l : List Flit) : Module :=
  iter l.length (fun i m => match l[i]? with
    | some f => m.putGranule s (a + 16 * i) f.data f.synd
    | none => m) m

/-- RECV. DESIGN CHOICE: one with WAITLIM 0 that has to wait in its queue times out when it starts, not when it issues, unless all
its data is present then (R113 knows no such wait). -/
def Module.recv (m : Module) (s w : Nat) : OpOut :=
  let t := m.tine s
  let a := t.local (xLocal w)
  let n := xLen w
  match m.peerOf s (xPeer w) with
  | none => OpOut.bad m (m.flt s 0x0E :: m.granDst s a n)
  | some p =>
    let pre := m.granDst s a n
    if pre ≠ [] then OpOut.bad m pre
    else
      let (got, rest) := takeFlits p.key (xChan w) t.seq.disp.req n t.inbound
      let left := n - got.length
      if left > 0 ∧ xWait w = 0 then OpOut.bad m [{ m.flt s 0x09 with detail := toLe 4 p.key }]
      else
        let m1 := (m.modTine s (fun t => { t with inbound := rest })).putFlits s a got
        { OpOut.ok m1 (if n = 0 then [] else [(a, 16 * n)]) with
          recv := some (p.key, xChan w, a + 16 * got.length, left, m.markRound s, xWait w) }

/-- ROFF + C[IDXREG]. -/
def Module.remoteOff (m : Module) (s w : Nat) : Nat := xRoff w + (m.tine s).seq.reg (xIdx w)

/-- The address a stage reads the image region from (R216): the CXL copy for TIER 1, or TIER 2 without a pin. -/
def Ctx.dmaAddr (c : Ctx) : Nat :=
  if c.tier = 2 ∧ c.pin ≥ 1 then c.imageAddr2.getD c.imageAddr else c.imageAddr

/-- The request that reads a poisoned granule completes with FAILED_INTEGRITY (R171, R200). -/
def Module.poisonReq (m : Module) (r : Nat) (latch : Bool) (c : Nat) : Module :=
  let m1 := m.modReq r (fun x => { x with result := some { status := 0x07, detail := if latch then 0x17 else 0x00, value := x.released, value2 := 0 } })
  if latch then m1.setCtx c { m1.ctxOf c with latch := 1 } else m1

/-- Device ranges that DMAWR operations not yet completed are still to write: a read of them is a free value (R77). -/
def Module.devBusy (m : Module) : List (Nat × Nat) :=
  (m.tines.map (fun (p : Nat × Tine) => (p.2.seq.pend.map Pending.devWrites).flatten)).flatten

/-- DMARD. -/
def Module.dmard (m : Module) (s w : Nat) (env : OpEnv) : OpOut :=
  let t := m.tine s
  let a := t.local (xLocal w)
  let n := xLen w
  let d := t.seq.disp
  let c := m.ctxOf d.ctx
  let off := m.remoteOff s w
  let size := if xRegion w = 0 then c.imageGranules else if xRegion w = 1 then c.kvGranules else 0
  let pre := (if n > 0 ∧ size < off + n then [m.flt s 0x0F] else []) ++ m.granDst s a n
  if pre ≠ [] then OpOut.bad m pre
  else
    let base := if xRegion w = 0 then c.dmaAddr else c.kvAddr
    let busy := m.devBusy
    let there := m.rangeOk (base + 16 * off) (16 * n)
    let m0 := if n = 0 || there then m else m.addrInvalid s (base + 16 * off) (16 * n)
    let m1 := iter n (fun i m =>
      let (g0, bad, m0) := if there then m.devReadVia (base + 16 * (off + i)) 0 sevDegraded (env.at i) else (0, true, m)
      let (g, m') := if meets busy (base + 16 * (off + i)) 16 then m0.draw 128 else (g0, m0)
      let m'' := m'.putGranule s (a + 16 * i) g (if bad then poisonSynd else 0)
      if bad then m''.poisonReq d.req (decide (xRegion w = 0)) d.ctx else m'') m0
    let m1 := if xRegion w = 0 ∧ n > 0 then m1.modTine s (fun t => { t with origin := t.origin ++ [(a, 16 * n, 16 * off)] }) else m1
    OpOut.ok m1 (if n = 0 then [] else [(a, 16 * n)])

/-- DMAWR: the image region is read-only. -/
def Module.dmawr (m : Module) (s w : Nat) (env : OpEnv) : OpOut :=
  let t := m.tine s
  let a := t.local (xLocal w)
  let n := xLen w
  let d := t.seq.disp
  let c := m.ctxOf d.ctx
  let off := m.remoteOff s w
  let size := if xRegion w = 1 then c.kvGranules else 0
  let pre := (if n > 0 ∧ size < off + n then [m.flt s 0x0F] else []) ++ m.granSrc s a n
  if pre ≠ [] then OpOut.bad m pre
  else
    let (b, fs, m1) := m.tread s a (16 * n)
    if fs ≠ [] then OpOut.bad m1 fs
    else
      let gs := granulesOf b
      let m2 := iter n (fun i m => m.devWriteVia (c.kvAddr + 16 * (off + i)) (gs.getD i 0) false (env.at i)) m1
      let log := (List.range n).map (fun i => (d.ctx, off + i, gs.getD i 0))
      { OpOut.ok (if c.pairing = 1 then ({ m2 with ctx := { m2.ctx with kvWrites := log.reverse ++ m2.ctx.kvWrites } } : Module).sendKv else m2) [] with
        devWrites := if n = 0 then [] else [(c.kvAddr + 16 * off, 16 * n)] }

/-- The image bytes among n bytes at address a of a site, as ranges at address b with their image offsets (R62). -/
def Module.originOf (m : Module) (s a b n : Nat) : List (Nat × Nat × Nat) :=
  let t := m.tine s
  let sl := (m.ctxOf t.seq.disp.ctx).slice t.seq.disp.slice
  let w := weightBase (m.runBank s)
  (((w, sl.weightLen, sl.weightOff) :: t.origin).map (fun p =>
    let lo := max p.1 a
    (b + (lo - a), min (p.1 + p.2.1) (a + n) - lo, p.2.2 + (lo - p.1)))).filter (fun p => p.2.1 ≠ 0)

/-- COPY. -/
def Module.copyOp (m : Module) (s w : Nat) : OpOut :=
  let t := m.tine s
  let a := t.local (xLocal w)
  let b := t.local (xLocal2 w)
  let n := xLen w
  let pre := m.granSrc s a n ++ m.granDst s b n
  if pre ≠ [] then OpOut.bad m pre
  else
    let (x, fs, m1) := m.tread s a (16 * n)
    if fs ≠ [] then OpOut.bad m1 fs
    else
      let org := m.originOf s a b (16 * n)
      OpOut.ok ((m1.twrite s b x).modTine s (fun t => { t with origin := t.origin ++ org })) (if n = 0 then [] else [(b, 16 * n)])

/-- INPUT: zeros beyond the request's actual input (R112). -/
def Module.input (m : Module) (s w : Nat) : OpOut :=
  let t := m.tine s
  let a := t.local (xLocal w)
  let n := xLen w
  let d := t.seq.disp
  let off := m.remoteOff s w
  let size := ceilDiv (m.ctxOf d.ctx).maxIn 16
  let pre := (if n > 0 ∧ size < off + n then [m.flt s 0x0F] else []) ++ m.granDst s a n
  if pre ≠ [] then OpOut.bad m pre
  else
    let bytes := match SMap.find? m.host.reqs d.req with
      | some r => slice 0 r.input (16 * off) (16 * n)
      | none => List.replicate (16 * n) 0
    OpOut.ok (m.twrite s a bytes) (if n = 0 then [] else [(a, 16 * n)])

/-- Output capacity of a request in bytes: OUT_CAP, or the context's MAX_OUTPUT_LEN within a chain (R112, R254). -/
def Module.outCap (m : Module) (r : Req) : Nat :=
  if r.chain.length > 1 then (m.ctxOf (r.chain.headD 0)).maxOut else r.outCap

/-- OUTPUT (R112, R116). -/
def Module.output (m : Module) (s w : Nat) : OpOut :=
  let t := m.tine s
  let a := t.local (xLocal w)
  let n := xLen w
  let d := t.seq.disp
  let off := m.remoteOff s w
  let pre := (if t.seq.checked then [] else [m.flt s 0x08]) ++ m.granSrc s a n
  if pre ≠ [] then OpOut.bad m pre
  else
    let (b, fs, m1) := m.tread s a (16 * n)
    if fs ≠ [] then OpOut.bad m1 fs
    else if n = 0 then OpOut.ok m1 []
    else
      let gs := granulesOf b
      OpOut.ok (m1.modReq d.req (fun r =>
        let e := max r.maxEnd (16 * (off + n))
        if m.outCap r < 16 * (off + n) then { r with maxEnd := e }
        else { r with maxEnd := e, held := iter n (fun i h => SMap.ins (off + i) (gs.getD i 0) h) r.held })) []

/-! ### Completion and arrival -/

/-- The meaning of an operation word that enters a queue, by its opcode (R105, R108, R109, R111). -/
def Module.opMeaning (s : Nat) (env : OpEnv) (w : Nat) (m : Module) : OpOut :=
  match opOf w with
  | 0x20 => m.tload s w
  | 0x21 => m.astage s w
  | 0x22 => m.stream s w env
  | 0x23 => m.wset s w
  | 0x24 => m.drain s w env
  | 0x25 => m.drainw s w env
  | 0x26 => m.padd s w env
  | 0x27 => m.pdrain s w
  | 0x40 => m.vec2 s w env (some 0) Num.add
  | 0x41 => m.vec2 s w env (some 0) (fun a b => a.add b.neg)
  | 0x42 => m.vec2 s w env (some 0) Num.mul
  | 0x43 => m.vfma s w env
  | 0x44 => m.vec2 s w env none Num.min
  | 0x45 => m.vec2 s w env none Num.max
  | 0x46 => m.vlogic s w env
  | 0x47 => m.vshift s w env
  | 0x48 => m.vcmp s w
  | 0x49 => m.vsel s w
  | 0x4A => m.vreduce s w env
  | 0x4B => m.vgather s w
  | 0x4C => m.vscatter s w
  | 0x4D => m.vfill s w
  | 0x60 => m.cload s w
  | 0x61 => m.ceval s w env
  | 0x80 => m.fdecode s w
  | 0x81 => m.fencode s w
  | 0x82 => m.freblock s w
  | 0x83 => m.ftile s w env
  | 0xA0 => m.send s w
  | 0xA1 => m.recv s w
  | 0xA2 => m.dmard s w env
  | 0xA3 => m.dmawr s w env
  | 0xA4 => m.copyOp s w
  | 0xA5 => m.input s w
  | _ => m.output s w

/-- Every waiting operation of a site that may start now starts, in program order (R100). -/
def Module.startOps (m : Module) (s : Nat) : Module :=
  iter (m.tine s).seq.pend.length (fun i m => m.startOp s i (Module.opMeaning s)) m

/-- Pending operation i of a site completes (R101): its token falls, the operations that waited for what it held start, and
waits that are met end. One that has not started, or a RECV whose granules have not all come, stays. -/
def Module.opComplete (m : Module) (s i : Nat) : Module :=
  let q := (m.tine s).seq
  match q.pend[i]? with
  | none => m
  | some p =>
    let waits := match p.recv with
      | some (_, _, _, left, _, _) => decide (left > 0)
      | none => false
    if waits || !p.started then m
    else
      (((m.modSeq s (fun q =>
        { q with pend := q.pend.eraseIdx i,
                 tokens := if p.sig = 0 then q.tokens else SMap.ins p.sig (SMap.get 0 q.tokens p.sig - 1) q.tokens })).startOps s)).settle s

/-- The first pending RECV that waits for a granule of this source and channel. -/
def recvFor (f : Flit) : Nat → List Pending → Option (Nat × Nat × Nat)
  | _, [] => none
  | i, p :: t =>
    match p.recv with
    | some (src, chan, a, left, _, _) =>
      if src = f.src ∧ chan = f.chan ∧ left > 0 then some (i, a, left) else recvFor f (i + 1) t
    | none => recvFor f (i + 1) t

/-- A RECV at index i has taken one granule. -/
def bumpRecv (l : List Pending) (i : Nat) : List Pending :=
  match l[i]? with
  | some p => l.set i { p with recv := p.recv.map (fun r => (r.1, r.2.1, r.2.2.1 + 16, r.2.2.2.1 - 1, r.2.2.2.2)) }
  | none => l

/-- A granule delivered to a site: written by the RECV that waits for it, or kept in the inbound buffer (R113). -/
def Module.deliver (m : Module) (s : Nat) (f : Flit) : Module :=
  let q := (m.tine s).seq
  let here := m.rdB Reg.tineSeqStatus_stageActive [s] && decide (q.disp.req = f.req)
  match (if here then recvFor f 0 q.pend else none) with
  | some (i, a, _) => (m.putGranule s a f.data f.synd).modSeq s (fun q => { q with pend := bumpRecv q.pend i })
  | none => m.modTine s (fun t => { t with inbound := t.inbound ++ [f] })

/-- Flit i of the mesh reaches its site (R113): in the order its pair sent, and while the 16 KiB inbound buffer has room; every
node it enters on its way checks it (R17, R191). -/
def Module.streamFlit (m : Module) (s i : Nat) (hits : List (Nat × Nat × Nat)) : Module :=
  match m.mesh[i]? with
  | none => m
  | some f =>
    let earlier := (m.mesh.take i).any (fun g =>
      decide (g.ctx = f.ctx ∧ g.src = f.src ∧ g.dst = f.dst ∧ g.chan = f.chan ∧ g.req = f.req))
    let t := m.tine s
    let mine := t.seq.disp.ctx = f.ctx ∧ t.seq.disp.slice = f.dst
    if earlier ∨ ¬ mine ∨ t.inbound.length ≥ 1024 then m
    else
      let (g, m1) := ({ m with mesh := m.mesh.eraseIdx i } : Module).meshPath hits (f.data, f.synd)
      m1.deliver s { f with data := g.1, synd := g.2 }

/-- A RECV's watchdog (R113): WAITLIM round marks have passed since it issued and granules are missing, or it still waits in
its queue. -/
def Module.recvTimeout (m : Module) (s i : Nat) : Module :=
  match (m.tine s).seq.pend[i]? with
  | none => m
  | some p =>
    let late := fun (rnd lim : Nat) => decide (m.markRound s ≥ rnd + lim) && m.rdB Reg.tineSeqStatus_stageActive [s]
    match p.recv with
    | some (src, _, _, left, rnd, lim) =>
      if left > 0 ∧ late rnd lim then m.stageFault s { m.flt s 0x09 with pc := p.cap.pc, detail := toLe 4 src } else m
    | none =>
      match m.peerOf s (xPeer p.word) with
      | some k =>
        if p.opcode = 0xA1 ∧ !p.started ∧ xLen p.word > 0 ∧ late p.cap.round (xWait p.word) then
          m.stageFault s { m.flt s 0x09 with pc := p.cap.pc, detail := toLe 4 k.key }
        else m
      | none => m

/-! ### Meanings -/

/-- SEND. -/
def sendOp (s : Nat) (env : OpEnv) (m : Module) : Module := m.issueOp s 0xA0 env (fun w m => m.send s w)
/-- RECV. -/
def recvOp (s : Nat) (env : OpEnv) (m : Module) : Module := m.issueOp s 0xA1 env (fun w m => m.recv s w)
/-- DMARD. -/
def dmardOp (s : Nat) (env : OpEnv) (m : Module) : Module := m.issueOp s 0xA2 env (fun w m => m.dmard s w env)
/-- DMAWR. -/
def dmawrOp (s : Nat) (env : OpEnv) (m : Module) : Module := m.issueOp s 0xA3 env (fun w m => m.dmawr s w env)
/-- COPY. -/
def copyOp (s : Nat) (env : OpEnv) (m : Module) : Module := m.issueOp s 0xA4 env (fun w m => m.copyOp s w)
/-- INPUT. -/
def inputOp (s : Nat) (env : OpEnv) (m : Module) : Module := m.issueOp s 0xA5 env (fun w m => m.input s w)
/-- OUTPUT. -/
def outputOp (s : Nat) (env : OpEnv) (m : Module) : Module := m.issueOp s 0xA6 env (fun w m => m.output s w)
/-- NOP. -/
def nopOp (s : Nat) (env : OpEnv) (m : Module) : Module := m.issueOp s 0x00 env (fun _ m => OpOut.ok m [])
/-- SBEGIN. -/
def sbeginOp (s : Nat) (env : OpEnv) (m : Module) : Module := m.issueOp s 0x01 env (fun w m => m.sbegin s w)
/-- SETREG. -/
def setregOp (s : Nat) (env : OpEnv) (m : Module) : Module := m.issueOp s 0x02 env (fun w m => m.setreg s w)
/-- ADDREG. -/
def addregOp (s : Nat) (env : OpEnv) (m : Module) : Module := m.issueOp s 0x03 env (fun w m => m.addreg s w)
/-- LOOP. -/
def loopOp (s : Nat) (env : OpEnv) (m : Module) : Module := m.issueOp s 0x04 env (fun w m => m.loop s w)
/-- BRCNT. -/
def brcntOp (s : Nat) (env : OpEnv) (m : Module) : Module := m.issueOp s 0x05 env (fun w m => m.brcnt s w)
/-- JUMP. -/
def jumpOp (s : Nat) (env : OpEnv) (m : Module) : Module :=
  m.issueOp s 0x06 env (fun w m => m.ctrl s (fun q => { q with nextPc := kTarget w }))
/-- BARRIER. -/
def barrierOp (s : Nat) (env : OpEnv) (m : Module) : Module := m.issueOp s 0x07 env (fun w m => m.waitFor s (.barrier (kMask w)))
/-- SYNC. -/
def syncOp (s : Nat) (env : OpEnv) (m : Module) : Module := m.issueOp s 0x08 env (fun _ m => m.waitFor s .sync)
/-- CSCHK. -/
def cschkOp (s : Nat) (env : OpEnv) (m : Module) : Module := m.issueOp s 0x09 env (fun _ m => m.waitFor s .cschk)
/-- RELMARK. -/
def relmarkOp (s : Nat) (env : OpEnv) (m : Module) : Module := m.issueOp s 0x0A env (fun _ m => m.waitFor s .relmark)
/-- TRAP: IMM[15:0] goes into the record (R115). -/
def trapOp (s : Nat) (env : OpEnv) (m : Module) : Module :=
  m.issueOp s 0x0B env (fun w m => OpOut.bad m [{ m.flt s 0x0D with detail := toLe 2 (kImm w % 65536) }])
/-- EOS. -/
def eosOp (s : Nat) (env : OpEnv) (m : Module) : Module := m.issueOp s 0x0C env (fun w m => m.eos s w)
/-- A reserved opcode reached at run time (R118). -/
def reservedOp (s : Nat) (env : OpEnv) (m : Module) : Module :=
  m.issue s env (fun o => !(opDefined o)) (fun _ m => OpOut.bad m [m.flt s 0x01])

end Sys2Proof.Machine
end

