-- ==== Sys2Proof/Machine/Struct.lean ====
section
/-! DEFINITION. The structure bitstream: its Tine sets resolved, what a context's placement reads of it, and its
verification (R123 to R150). -/

namespace Sys2Proof.Machine

/-- The sets of a bitstream as the module resolves them; `none` with the byte offset of a record broken (R129). -/
def Module.resolveSets (m : Module) (b : List Nat) : List Tset :=
  let e := secOf b 2
  (List.range (if b = [] then 0 else e.count)).map (fun i =>
    let o := e.off + 16 * i
    let named := bitList 72 0 (leAt b (o + 4) 9)
    { id := b.getD o 0 % 64, profile := b.getD (o + 1) 0 % 64,
      members := named.map (fun n =>
        let s := m.substOf 72 n
        if s < 72 ∧ m.siteState s ≠ 5 then s else 0xFF) })

/-- The set with an ID in force. -/
def Module.tset (m : Module) (id : Nat) : Option Tset := m.str.sets.find? (fun t => t.id = id)

/-- The site of a slice of a placed context (R172); none where the rank is lost (R130). -/
def Module.siteOf (m : Module) (c : Ctx) (slice : Nat) : Option Nat :=
  match m.tset c.tset with
  | some t => (t.members[c.firstRank + slice]?).filter (fun s => decide (s < 72))
  | none => none

/-- The sites of a placed context, in slice order. -/
def Module.sitesOf (m : Module) (c : Ctx) : List Nat := (List.range c.sliceCount).filterMap (m.siteOf c)

/-- The bank of a slice: 1 A, 2 B (R165 BANK_MASK). -/
def Ctx.bankOf (c : Ctx) (slice : Nat) : Nat := if bitB c.bankMask slice then 2 else 1

/-- A share scaled for a link of w working halves (R135). -/
def scaleShare (w sum x : Nat) : Nat := if sum ≤ w then x else if x = 0 then 0 else max 1 (x * w / sum)

/-- The link profile in force for a site of a profile, scaled to its working bundles (R135). -/
def Module.profile (m : Module) (s prof : Nat) : Tlp :=
  let p := tlpAt (secBytes m.str.force 4) prof
  let w := m.halfBundles s
  let sum := max (p.fillIn + p.streamIn + p.dmaIn) (p.streamOut + p.dmaOut)
  { fillIn := scaleShare w sum p.fillIn, streamIn := scaleShare w sum p.streamIn, dmaIn := scaleShare w sum p.dmaIn,
    streamOut := scaleShare w sum p.streamOut, dmaOut := scaleShare w sum p.dmaOut }

/-- A profile gives a nonzero share to every movement class a set of slices uses (R173). -/
def Tlp.serves (p : Tlp) (uses : Nat) : Bool :=
  (!(bitB uses 0) || decide (p.streamIn ≠ 0)) && (!(bitB uses 1) || decide (p.dmaIn ≠ 0)) &&
  (!(bitB uses 2) || decide (p.streamOut ≠ 0)) && (!(bitB uses 3) || decide (p.dmaOut ≠ 0))

/-- The movement classes a context's programs use. -/
def Ctx.uses (c : Ctx) : Nat :=
  match c.img with
  | some g => g.slices.foldl (fun a s => a ||| s.uses) 0
  | none => 0

/-! ### ADMIT and the rest (R140 to R148) -/

/-- A field of the ADMIT section in force. -/
def Module.admitField (m : Module) (o n : Nat) : Nat := leAt (secBytes m.str.force 5) o n

/-- DECIDE_ROUNDS. -/
def Module.decideRounds (m : Module) : Nat := m.admitField 0 1 % 4
/-- MAX_ADMIT. -/
def Module.maxAdmit (m : Module) : Nat := m.admitField 2 2
/-- GDDR7_BOUND_4X. -/
def Module.bound4 (m : Module) : Nat := m.admitField 8 2
/-- RESERVE_EXTRA. -/
def Module.reserveExtra (m : Module) : Nat := m.admitField 14 2
/-- MARGIN_NS. -/
def Module.marginNs (m : Module) : Nat := m.admitField 16 4

/-- Device curve table i of a bitstream; empty when there is none. -/
def deviceCurve (b : List Nat) (i : Nat) : List Nat :=
  let e := secOf b 7
  if b ≠ [] ∧ i < e.count then slice 0 b (e.off + curveBytes * i) curveBytes else []

/-- Device format table i of a bitstream; empty when there is none. -/
def deviceFmt (b : List Nat) (i : Nat) : List Nat :=
  let e := secOf b 6
  if b ≠ [] ∧ i < e.count then slice 0 b (e.off + 32 * i) 32 else []

/-! ### SEQ tables (R144 to R147, R298, R299, R454) -/

/-- The catalogue of a kind: `none` where the field is not in it, otherwise whether it is read-only. -/
def seqField (kind f : Nat) : Option Bool :=
  let port : Option Bool :=
    if f = 1 ∨ f = 2 then some false
    else if 0x10 ≤ f ∧ f ≤ 0x15 then some false
    else if f = 0x16 then some true
    else if f = 0x20 then some false
    else if f = 0x21 then some true
    else if f = 0x22 ∨ f = 0x23 then some false
    else if 0x24 ≤ f ∧ f ≤ 0x26 then some true
    else if f = 0x27 ∨ f = 0x28 then some false
    else if 0x30 ≤ f ∧ f ≤ 0x32 then some false
    else if f = 0x33 then some true
    else if f = 0x34 then some false
    else if f = 0x40 ∨ f = 0x41 then some true
    else none
  let laser : Option Bool :=
    if f = 0x101 ∨ f = 0x102 then some false
    else if 0x110 ≤ f ∧ f ≤ 0x112 then some false
    else if f = 0x113 ∨ f = 0x114 then some true
    else if f = 0x120 ∨ f = 0x121 then some false
    else if f = 0x122 then some true
    else if f = 0x123 then some false
    else if f = 0x124 then some true
    else if f = 0x130 then some false
    else none
  let dom : Option Bool :=
    if f = 0x201 ∨ f = 0x210 ∨ f = 0x211 then some false
    else if f = 0x212 ∨ f = 0x213 then some true
    else if 0x214 ≤ f ∧ f ≤ 0x216 then some false
    else if f = 0x217 then some true
    else if f = 0x218 then some false
    else if f = 0x219 then some true
    else none
  if kind = 5 then laser
  else if kind = 6 ∨ kind = 7 then dom
  else if kind = 8 then (if port.isSome then port else laser)
  else if 1 ≤ kind ∧ kind ≤ 4 then port
  else none

/-- A step read from its 16 bytes. Bits [4:3] of byte 1 are reserved and are checked where the section is (R120). -/
def seqStepAt (b : List Nat) (o : Nat) : SeqStep :=
  { op := b.getD o 0, cond := bitsOf (b.getD (o + 1) 0) 7 5, scr := bitsOf (b.getD (o + 1) 0) 2 0, field := leAt b (o + 2) 2,
    value := leAt b (o + 4) 4, next := leAt b (o + 8) 2, alt := leAt b (o + 10) 2, time := leAt b (o + 12) 4 }

/-- A table read at offset o. -/
def seqTableAt (b : List Nat) (o : Nat) : SeqTable :=
  { kind := b.getD o 0, entry := leAt b (o + 4) 2, stepLimit := leAt b (o + 6) 2, timeLimit := leAt b (o + 8) 4,
    steps := (List.range (leAt b (o + 2) 2)).map (fun i => seqStepAt b (o + 32 + 16 * i)) }

/-- Offsets of the tables of a SEQ section, at most n. -/
def seqOffsets (b : List Nat) : Nat → Nat → List Nat
  | 0, _ => []
  | n + 1, o => o :: seqOffsets b n (o + 32 + 16 * leAt b (o + 2) 2)

/-- Where n tables that begin at o end. -/
def seqEndsAt (b : List Nat) : Nat → Nat → Nat
  | 0, o => o
  | n + 1, o => seqEndsAt b n (o + 32 + 16 * leAt b (o + 2) 2)

/-- The tables of a SEQ section. -/
def seqTablesOf (s : List Nat) : List SeqTable := (seqOffsets s (leAt s 0 2) 16).map (seqTableAt s)

/-- The table of a kind in force: of the bitstream, or built in under the default structure, for domain sequencing only (R151);
with none for WAVE_RETRAIN, FIRN_RETRAIN serves (R144). -/
def Module.seqTable (m : Module) (kind : Nat) : Option SeqTable :=
  let l := if m.str.force = [] then (seqTablesOf Config.builtinSeq).filter (fun t => decide (t.kind = 6 ∨ t.kind = 7))
    else seqTablesOf (secBytes m.str.force 8)
  match l.find? (fun t => t.kind = kind) with
  | some t => some t
  | none => if kind = 3 then l.find? (fun t => t.kind = 2) else none

/-- The index a NEXT field names from step i; only there 0xFFFF is the step that follows (R145). -/
def seqNext (i x : Nat) : Nat := if x = 0xFFFF then i + 1 else x

/-- Successors of step i (R145). -/
def seqSucc (t : SeqTable) (i : Nat) : List Nat :=
  match t.steps[i]? with
  | none => []
  | some s =>
    if s.op = 0x0A ∨ s.op = 0x0B then []
    else if s.op = 7 ∨ s.op = 8 ∨ s.op = 9 then [seqNext i s.next, s.alt] else [seqNext i s.next]

/-- Steps reachable from a list, after n rounds. -/
def seqReach (t : SeqTable) : Nat → List Nat → List Nat
  | 0, l => l
  | n + 1, l => seqReach t n ((l ++ (l.map (seqSucc t)).flatten).eraseDups)

/-- The first rule of R146 a step breaks: the offset of the field within the table. The NEXT and the ALT of every step are indices
of the table, whatever its operation; a NEXT of 0xFFFF needs a step that follows only where the instance goes on. -/
def seqStepBad (t : SeqTable) (i : Nat) (s : SeqStep) : Option Nat :=
  let o := 32 + 16 * i
  let n := t.steps.length
  if s.op = 0 ∨ 0x0B < s.op then some o
  else if 3 < s.cond then some (o + 1)
  else if (s.op = 1 ∨ s.op = 2 ∨ s.op = 3 ∨ s.op = 7) ∧ seqField t.kind s.field = none then some (o + 2)
  else if (s.op = 1 ∨ s.op = 2) ∧ seqField t.kind s.field = some true then some (o + 2)
  else if (s.next ≠ 0xFFFF ∧ n ≤ s.next) ∨ (s.op < 0x0A ∧ n ≤ seqNext i s.next) then some (o + 8)
  else if n ≤ s.alt then some (o + 10)
  else none

/-- No DONE step can be reached from ENTRY (R146). -/
def seqNoDone (t : SeqTable) : Bool :=
  !((seqReach t t.steps.length [t.entry]).any (fun i => match t.steps[i]? with
    | some s => s.op = 0x0A
    | none => false))

/-! ### Verification (R149, R150) -/

/-- A rejection: result code, section TYPE, byte offset. -/
abbrev Rej := Option (Nat × Nat × Nat)

/-- The first rejection of a list. -/
def firstRej (l : List Rej) : Rej := l.findSome? id

/-- A rejection when a condition fails. -/
def need (ok : Bool) (code type off : Nat) : Rej := if ok then none else some (code, type, off)

/-- Bytes [o, o + n) are zero. -/
def zeros (b : List Nat) (o n : Nat) : Bool := (slice 0 b o n).all (· = 0)

/-- Rounded up to 16. -/
def up16 (n : Nat) : Nat := ceilDiv n 16 * 16

/-- A directory entry's LENGTH and COUNT agree with its type (R124). -/
def dirLenOk (e : DirEnt) : Bool :=
  match e.type with
  | 1 => decide (e.len = 8192 ∧ e.count = 4)
  | 2 => decide (e.count ≤ 64 ∧ e.len = 16 * e.count)
  | 3 => decide (e.len = 3072 ∧ e.count = 64)
  | 4 => decide (e.count = 1 ∧ 16 ≤ e.len)
  | 5 => decide (e.len = 64 ∧ e.count = 1)
  | 6 => decide (e.count ≤ 64 ∧ e.len = 32 * e.count)
  | 7 => decide (e.count ≤ 256 ∧ e.len = 2336 * e.count)
  | 8 => decide (e.count = 1 ∧ 16 ≤ e.len)
  | 9 => decide (e.count ≤ 256 ∧ e.len = 16 * e.count)
  | 255 => decide (e.len ≤ 65536 ∧ e.count = 0)
  | _ => false

/-- The LENGTH that a section's own subheader gives it: RESV (R133) and SEQ (R144); a table is read only where it lies in the section. -/
def subLenOk (b : List Nat) (e : DirEnt) : Bool :=
  let s := slice 0 b e.off e.len
  match e.type with
  | 4 => decide (e.len = 16 * (1 + leAt s 0 2 + leAt s 2 2 + leAt s 4 2))
  | 8 => decide (7 ≤ leAt s 0 2 ∧ leAt s 0 2 ≤ 8 → e.len = seqEndsAt s (leAt s 0 2) 16)
  | _ => true

/-- The directory checks (R120, R123, R124): the entries, then what lies between the last section and the trailer, then the sections
that must be there, and last the lengths that RESV and SEQ give themselves. -/
def dirCheck (b : List Nat) : Rej :=
  let n := leAt b 6 2
  let d := dirOf b
  let tot := leAt b 8 4
  let last := match d[n - 1]? with
    | some e => e.off + e.len
    | none => 0
  let start := fun (i : Nat) => if i = 0 then 128 + 16 * n else match d[i - 1]? with
    | some e => up16 (e.off + e.len)
    | none => 0
  firstRej ([need (decide (6 ≤ n ∧ n ≤ 10)) 0x09 0 6] ++
    (List.range n).map (fun i =>
      let o := 128 + 16 * i
      let e := d.getD i { type := 0, off := 0, len := 0, count := 0 }
      let prev := if i = 0 then 0 else (d.getD (i - 1) e).type
      let pend := if i = 0 then 128 + 16 * n else (match d[i - 1]? with
        | some p => p.off + p.len
        | none => 0)
      firstRej [need (decide (prev < e.type ∧ (e.type ≤ 9 ∨ e.type = 255))) 0x09 0 o,
        need (zeros b (o + 2) 2) 0x18 0 (o + 2),
        need (decide (e.off = start i)) 0x09 0 (o + 4),
        need (dirLenOk e) 0x09 0 (o + 8),
        need (decide (e.off + e.len + 128 ≤ tot)) 0x09 0 (o + 8),
        need (zeros b pend (e.off - pend)) 0x18 0 pend]) ++
    [need (decide (start n + 128 = tot)) 0x09 0 (128 + 16 * (n - 1) + 8), need (zeros b last (tot - 128 - last)) 0x18 0 last] ++
    [1, 2, 3, 4, 5, 8].map (fun t => need (d.any (fun e => e.type = t)) 0x0A 0 128) ++
    (List.range n).map (fun i =>
      need (subLenOk b (d.getD i { type := 0, off := 0, len := 0, count := 0 })) 0x09 0 (128 + 16 * i + 8)))

/-- ROUTE (R127). -/
def routeRej (b : List Nat) : Rej :=
  let e := secOf b 1
  let sec := secBytes b 1
  (List.range 16384).findSome? (fun i =>
    match routeCheck sec (i / 4096) (i / 64 % 64) (i % 64) with
    | 0 => none
    | c => some (c, 1, e.off + i / 2))

/-- TSET (R128, R129). -/
def Module.tsetRej (m : Module) (b : List Nat) : Rej :=
  let e := secOf b 2
  let sites := fun i => bitList 72 0 (leAt b (e.off + 16 * i + 4) 9)
  firstRej ((List.range e.count).map (fun i =>
    let o := e.off + 16 * i
    let before := ((List.range i).map sites).flatten
    firstRej [need (decide (b.getD o 0 < 64)) 0x18 2 o,
      need (i = 0 || decide (b.getD (o - 16) 0 % 64 < b.getD o 0 % 64)) 0x0D 2 o,
      need (decide (b.getD (o + 1) 0 < 64)) 0x18 2 (o + 1), need (zeros b (o + 2) 2) 0x18 2 (o + 2),
      need (sites i ≠ [] && (sites i).all (fun s => !(before.elem s)) && decide ((sites i).length + before.length ≤ 64)) 0x0D 2 (o + 4),
      need ((sites i).all (fun s => !(m.siteState s = 0 && !(m.isSubst s)) || (SMap.find? m.saf.mor.subst s).isSome)) 0x0D 2 (o + 4),
      need (zeros b (o + 13) 3) 0x18 2 (o + 13)]))

/-- The first credit field of a VCMAP record that R132 refuses, in byte order: HDR_CREDITS of VC0 to VC7, then DATA_CREDITS. A field is
wrong that must be zero and is not, that is below the least a VC with credits has, or that takes its sum past the buffer. -/
def creditsRej (o role : Nat) (h d : Nat → Nat) : Rej :=
  let vs := List.range 8
  let none0 := fun (v : Nat) => decide (role = 0) || (decide (v = 1) && decide (role ≠ 3)) || (decide (2 ≤ v ∧ v ≤ 6) && decide (role = 3))
  let used := fun (v : Nat) => decide (v = 0) || decide (v = 7) || decide (h v ≠ 0) || decide (d v ≠ 0)
  let ok := fun (x : Nat → Nat) (least cap v : Nat) =>
    (if none0 v then decide (x v = 0) else !used v || decide (least ≤ x v)) && decide (sumN ((List.range (v + 1)).map x) ≤ cap)
  firstRej (vs.map (fun v => need (ok h 2 512 v) 0x0E 3 (o + 16 + 2 * v)) ++ vs.map (fun v => need (ok d 30 8192 v) 0x0E 3 (o + 32 + 2 * v)))

/-- VCMAP (R131, R132). -/
def vcmapRej (b : List Nat) : Rej :=
  let e := secOf b 3
  firstRej ((List.range 64).map (fun p =>
    let o := e.off + 48 * p
    let role := b.getD (o + 1) 0 % 4
    firstRej [need (decide (b.getD o 0 < 64)) 0x18 3 o, need (decide (b.getD o 0 = p)) 0x0E 3 o,
      need (decide (b.getD (o + 1) 0 < 4)) 0x18 3 (o + 1),
      need (decide (role = 3 → 62 ≤ p) && decide (62 ≤ p → role = 0 ∨ role = 3)) 0x0E 3 (o + 1),
      need (zeros b (o + 2) 14) 0x18 3 (o + 2),
      creditsRej o role (fun v => leAt b (o + 16 + 2 * v) 2) (fun v => leAt b (o + 32 + 2 * v) 2)]))

/-- Smallest QBOUND_NS (R138): ceil(2.8125 * (64 * BURST / SHARE + 2)). -/
def qboundMin (burst share : Nat) : Nat := ceilDiv (45 * (64 * burst + 2 * share)) (16 * share)

/-- A Tine link profile (R134): the first field that is reserved, zero, or takes its sum past 20. -/
def profileRej (b : List Nat) (o : Nat) : Rej :=
  let x := fun k => b.getD (o + k) 0
  let sum := fun k => if k < 3 then sumN ((List.range (k + 1)).map x) else x 3 + (if k = 4 then x 4 else 0)
  firstRej (((List.range 5).map (fun k =>
      firstRej [need (decide (x k < 32)) 0x18 4 (o + k), need (decide (sum k ≤ 20) && decide (k = 0 → 1 ≤ x k)) 0x0F 4 (o + k)])) ++
    [need (zeros b (o + 5) 11) 0x18 4 (o + 5)])

/-- The PROFILE of each Tine set, checked when RESV is (R129, R149): the field found wrong is the set's. -/
def setProfileRej (b : List Nat) (tlps : Nat) : Rej :=
  let e := secOf b 2
  firstRej ((List.range e.count).map (fun i => need (decide (b.getD (e.off + 16 * i + 1) 0 < tlps)) 0x0D 2 (e.off + 16 * i + 1)))

/-- RESV (R133 to R138). -/
def Module.resvRej (m : Module) (b : List Nat) : Rej :=
  let e := secOf b 4
  let r := secBytes b 4
  let (nt, nf, np) := resvCounts r
  let sec := secBytes b 1
  let fs := flowsOf r
  let ps := pclassesOf r
  let members := (((m.resolveSets b).map Tset.members).flatten).filter (fun s => decide (s < 72))
  let spares := (List.range 72).filter m.isSpare
  let role := fun p => b.getD ((secOf b 3).off + 48 * p + 1) 0 % 4
  firstRej ([need (decide (1 ≤ nt ∧ nt ≤ 64)) 0x0F 4 e.off, need (decide (nf ≤ 1024)) 0x0F 4 (e.off + 2),
      need (decide (np ≤ 320)) 0x0F 4 (e.off + 4), need (zeros b (e.off + 6) 10) 0x18 4 (e.off + 6),
      setProfileRej b nt] ++
    (List.range nt).map (fun i => profileRej b (e.off + 16 * (1 + i))) ++
    (List.range nf).map (fun i =>
      let o := e.off + 16 * (1 + nt + i)
      let f := fs.getD i { src := 0, dst := 0, cls := 0, rate := 0 }
      firstRej [need (decide (f.src ≤ 0x6A)) 0x0F 4 o, need (decide (f.dst ≤ 0x6A)) 0x0F 4 (o + 1),
        need (decide (b.getD (o + 2) 0 < 4)) 0x18 4 (o + 2), need (zeros b (o + 3) 1) 0x18 4 (o + 3),
        need (decide (1 ≤ f.rate ∧ f.rate ≤ 128)) 0x0F 4 (o + 4), need (zeros b (o + 6) 10) 0x18 4 (o + 6),
        need (loadsOk (flowLoads sec m.flowNode (fs.take (i + 1)))) 0x0F 4 (o + 4)]) ++
    (List.range np).map (fun i =>
      let o := e.off + 16 * (1 + nt + nf + i)
      let p := ps.getD i { port := 0, vc := 0, share := 0, burst := 0, qbound := 0 }
      let same := (ps.take (i + 1)).filter (fun q => q.port = p.port)
      let prev := ps.getD (i - 1) p
      firstRej [need (decide (b.getD o 0 < 64)) 0x18 4 o, need (decide (b.getD (o + 1) 0 < 8)) 0x18 4 (o + 1),
        need (decide (b.getD (o + 2) 0 < 128)) 0x18 4 (o + 2), need (zeros b (o + 3) 1) 0x18 4 (o + 3),
        need (i = 0 || decide (prev.port * 8 + prev.vc < p.port * 8 + p.vc)) 0x0F 4 o,
        need (decide (1 ≤ p.vc ∧ p.vc ≤ 5) && (if p.vc = 1 then decide (role p.port = 3) else decide (role p.port = 1 ∨ role p.port = 2))) 0x0F 4 (o + 1),
        need (decide (1 ≤ p.share ∧ p.share ≤ 60) && decide (sumN (same.map PortClass.share) ≤ 60)) 0x0F 4 (o + 2),
        need (decide (1 ≤ p.burst ∧ p.burst ≤ 4096)) 0x0F 4 (o + 4), need (zeros b (o + 6) 2) 0x18 4 (o + 6),
        need (decide (qboundMin p.burst p.share ≤ p.qbound)) 0x11 4 (o + 8), need (zeros b (o + 12) 4) 0x18 4 (o + 12)]) ++
    [need (members.all (fun s => spares.any (fun p => m.spareOk sec fs s p))) 0x10 4 e.off])

/-- ADMIT (R140). -/
def admitRej (b : List Nat) : Rej :=
  let o := (secOf b 5).off
  let f := fun k n => leAt b (o + k) n
  firstRej [need (decide (f 0 1 < 4)) 0x18 5 o, need (decide (1 ≤ f 0 1 ∧ f 0 1 ≤ 2)) 0x12 5 o, need (zeros b (o + 1) 1) 0x18 5 (o + 1),
    need (decide (1 ≤ f 2 2 ∧ f 2 2 ≤ 4096)) 0x12 5 (o + 2), need (decide (1024 ≤ f 4 2)) 0x12 5 (o + 4),
    need (decide (1152 ≤ f 6 2)) 0x12 5 (o + 6), need (decide (1408 ≤ f 8 2)) 0x12 5 (o + 8),
    need (decide (960 ≤ f 10 2)) 0x12 5 (o + 10), need (decide (1088 ≤ f 12 2)) 0x12 5 (o + 12),
    need (decide (f 14 2 ≤ 64)) 0x12 5 (o + 14), need (decide (f 16 4 ≤ 1000000)) 0x12 5 (o + 16),
    need (zeros b (o + 20) 44) 0x18 5 (o + 20)]

/-- FMT, CURVE, PLACE-HINT (R142, R143, R148). -/
def tablesRej (b : List Nat) (t : Nat) : Rej :=
  let e := secOf b t
  firstRej ((List.range e.count).map (fun i =>
    if t = 6 then
      let o := e.off + 32 * i
      let r := slice 0 b o 32
      firstRej [need (fmtRules r) 0x13 6 o, (fmtReserved r).map (fun k => (0x18, 6, o + k))]
    else if t = 7 then
      let o := e.off + 2336 * i
      firstRej [(curveBad (slice 0 b o 2336)).map (fun k => (0x14, 7, o + k)), need (zeros b (o + 10) 22) 0x18 7 (o + 10)]
    else
      let o := e.off + 16 * i
      let ids := (List.range (secOf b 2).count).map (fun k => b.getD ((secOf b 2).off + 16 * k) 0 % 64)
      firstRej [need (decide (b.getD o 0 < 128)) 0x18 9 o, need (zeros b (o + 2) 6) 0x18 9 (o + 2),
        need ((bitList 64 0 (leAt b (o + 8) 8)).all (fun s => ids.elem s)) 0x17 9 (o + 8)]))

/-- SEQ (R144 to R146), field by field; `o` a table's offset in the section, `b` the section, `at0` the section's place. -/
def seqTableRej (b : List Nat) (at0 o : Nat) (earlier : List Nat) : Rej :=
  let t := seqTableAt b o
  let n := t.steps.length
  let x := at0 + o
  firstRej ([need (decide (1 ≤ t.kind ∧ t.kind ≤ 8) && !earlier.elem t.kind) 0x15 8 x, need (zeros b (o + 1) 1) 0x18 8 (x + 1),
      need (decide (1 ≤ n ∧ n ≤ 1024)) 0x15 8 (x + 2), need (decide (t.entry < n)) 0x15 8 (x + 4),
      need (decide (1 ≤ t.stepLimit)) 0x15 8 (x + 6), need (zeros b (o + 12) 20) 0x18 8 (x + 12)] ++
    (List.range n).map (fun i =>
      let s := t.steps.getD i { op := 0, cond := 0, scr := 0, field := 0, value := 0, next := 0, alt := 0, time := 0 }
      match seqStepBad t i s with
      | some k => if bitsOf (b.getD (o + 33 + 16 * i) 0) 4 3 ≠ 0 ∧ 33 + 16 * i < k then some (0x18, 8, x + 33 + 16 * i) else some (0x15, 8, x + k)
      | none => need (decide (bitsOf (b.getD (o + 33 + 16 * i) 0) 4 3 = 0)) 0x18 8 (x + 33 + 16 * i)) ++
    [need (!seqNoDone t) 0x15 8 (x + 4)])

/-- SEQ (R144, R146): its subheader, its tables in order, and the kinds that must be there. -/
def seqRej (b : List Nat) : Rej :=
  let e := secOf b 8
  let s := secBytes b 8
  let n := leAt s 0 2
  let offs := seqOffsets s n 16
  let kinds := offs.map (fun o => s.getD o 0)
  firstRej ([need (decide (7 ≤ n ∧ n ≤ 8)) 0x16 8 e.off, need (zeros b (e.off + 2) 14) 0x18 8 (e.off + 2)] ++
    (List.range n).map (fun i => seqTableRej s e.off (offs.getD i 0) (kinds.take i)) ++
    [need ([1, 2, 4, 5, 6, 7, 8].all (fun k => kinds.elem k)) 0x16 8 e.off])

/-- Key identifier against which structure signatures are checked (R462, R464). -/
def Module.structKey (m : Module) : List Nat :=
  match m.flash.owner with
  | some o => o.structKeyId
  | none => Config.aliowellStructKeyId

/-- Verification of a bitstream whose staged length is n (R149): the first rejection, if any. -/
def Module.verifyStruct (m : Module) (b : List Nat) (n : Nat) : Rej :=
  let tot := leAt b 8 4
  let tr := tot - 128
  firstRej [need (decide (b.take 4 = [0x54, 0x39, 0x53, 0x42])) 0x01 0 0,
    need (decide (b.getD 4 0 = 0)) 0x02 0 4, need (decide (b.getD 5 0 = 1)) 0x02 0 5,
    need (decide (tot ≤ 0x100000 ∧ tot = n ∧ 256 ≤ tot)) 0x03 0 8,
    need (decide (leAt b 12 4 = 0x972)) 0x04 0 12,
    need (bitB (leAt b 16 4) (m.rd Reg.hubId_cirqueRev)) 0x04 0 16,
    need (zeros b 124 4) 0x18 0 124,
    need (decide (slice 0 b 76 48 = m.structKey)) 0x05 0 76,
    need (decide (slice 0 b tr 4 = [0x54, 0x39, 0x53, 0x47])) 0x01 0 tr,
    need (decide (b.getD (tr + 4) 0 = 1)) 0x06 0 (tr + 4),
    need (zeros b (tr + 5) 11) 0x18 0 (tr + 5), need (zeros b (tr + 112) 16) 0x18 0 (tr + 112),
    need (Config.ecdsaVerify m.structKey (b.take tr) (slice 0 b (tr + 16) 96)) 0x06 0 (tr + 16),
    need (decide (m.rd Reg.secStructMin_min ≤ leAt b 24 4)) 0x07 0 24,
    need (decide (slice 0 b 28 48 = Config.sha384 (slice 0 b 128 (tr - 128)))) 0x08 0 28,
    dirCheck b, routeRej b, m.tsetRej b, vcmapRej b, m.resvRej b, admitRej b, tablesRej b 6, tablesRej b 7, seqRej b,
    tablesRej b 9]

end Sys2Proof.Machine
end

