-- ==== Sys2Proof/Machine/Host.lean ====
section
/-! DEFINITION. Host queues and completions: the rings, what a completion entry says, and its interrupt (R246 to R268). -/

namespace Sys2Proof.Machine

/-! ### The PCIe endpoint (R241 to R243) -/

/-- Subsystem ID (R241): 0 for an empty module, 1 for guest site 0 fitted, 2 for guest site 1, 3 for both. -/
def Module.subsystemId (m : Module) : Nat := m.rd Reg.hubId_guest0Fitted + 2 * m.rd Reg.hubId_guest1Fitted

/-- What the endpoint presents of itself (R241, R242): Vendor ID, Device ID, Revision ID, class code, subsystem vendor ID,
Subsystem ID, functions, Device Serial Number (two words), lanes and rate of the link. -/
def Module.identity (m : Module) : List Nat :=
  [Config.aliowellVid, 0x0972, m.rd Reg.hubId_cirqueRev, 0x120000, Config.aliowellVid, m.subsystemId, 1, Config.dieSerial % 2 ^ 32,
   Config.dieSerial / 2 ^ 32 % 2 ^ 32, m.host.pcie.linkWidth, m.host.pcie.linkRate]

/-- Sizes of BAR0, BAR2 and BAR4 (R243). -/
def barSizes : List Nat := [2 ^ 26, 2 ^ 20, 2 ^ 32]

/-- The type each BAR shows in its low four bits (R243): 64-bit, and BAR4 prefetchable. -/
def barTypes : List Nat := [4, 4, 12]

/-- Words 16 on of the configuration space: MSI-X control, power state, the two words of each BAR, Max_Payload_Size,
Max_Read_Request_Size, enables, AER uncorrectable and correctable status. -/
def Module.configFields (m : Module) : List Nat :=
  let x := m.host.pcie
  let bar : Nat → Nat × Nat := fun i => (x.bars.getD i 0 % 2 ^ 32 + barTypes.getD i 0, x.bars.getD i 0 / 2 ^ 32)
  [2 ^ 15 * ofB x.msixEnable + 2 ^ 14 * ofB x.msixMask + 2047, if x.d3hot then 3 else 0, (bar 0).1, (bar 0).2, (bar 1).1, (bar 1).2, (bar 2).1,
   (bar 2).2, x.maxPayload, x.maxRead, ofB x.relaxed + 2 * ofB x.tags10, x.aerUncorr, x.aerCorr]

/-- Word k of the configuration space. DESIGN CHOICE: the spec lays none out, and the numbering is the model's (log entry 96). -/
def Module.configRead (m : Module) (k : Nat) : Nat := if k < 16 then m.identity.getD k 0 else m.configFields.getD (k - 16) 0

/-- BAR i with one of its words written: the bits below its size stay 0 (R243). -/
def Pcie.setBar (x : Pcie) (i : Nat) (high : Bool) (v : Nat) : Pcie :=
  let old := x.bars.getD i 0
  let new := if high then old % 2 ^ 32 + 2 ^ 32 * v else old / 2 ^ 32 * 2 ^ 32 + v
  { x with bars := x.bars.set i (new - new % barSizes.getD i 1) }

/-! ### Queues -/

/-- A queue nobody has created. -/
def Queue.blank : Queue :=
  { sqTail := 0, cqHead := 0, posted := 0, phase := true, binds := [], fetched := [], pendCount := 0, pendRound := 0,
    deleting := none, enabling := false }

/-- The queue record of q. -/
def Module.queue (m : Module) (q : Nat) : Queue := SMap.get Queue.blank m.host.queues q

/-- Queue q replaced. -/
def Module.setQueue (m : Module) (q : Nat) (x : Queue) : Module :=
  { m with host := { m.host with queues := SMap.put Queue.blank q x m.host.queues } }

/-- Queue q changed. -/
def Module.modQueue (m : Module) (q : Nat) (f : Queue → Queue) : Module := m.setQueue q (f (m.queue q))

/-- QUE_STATUS.STATE: 0 DISABLED, 1 ENABLED, 2 DRAINING, 3 ERROR. -/
def Module.qState (m : Module) (q : Nat) : Nat := m.rd Reg.queStatus_state [q]

/-- Depth of the submission queue. -/
def Module.sqDepth (m : Module) (q : Nat) : Nat := 2 ^ m.rd Reg.queCfg_sqDepthLog2 [q]

/-- Depth of the completion queue. -/
def Module.cqDepth (m : Module) (q : Nat) : Nat := 2 ^ m.rd Reg.queCfg_cqDepthLog2 [q]

/-- Entries taken without a final completion. -/
def Module.qInFlight (m : Module) (q : Nat) : Nat := m.rd Reg.queStatus_inFlight [q]

/-- Owner key of a queue (R267). -/
def Module.ownerKey (m : Module) (q : Nat) : Nat :=
  m.rd Reg.queOwnerLo_ownerKey [q] + 2 ^ 32 * m.rd Reg.queOwnerHi_ownerKey [q]

/-- A queue enters ERROR, where it takes no more entries (R266). -/
def Module.qError (m : Module) (q err : Nat) : Module :=
  (m.wr Reg.queStatus_state 3 [q]).wr Reg.queStatus_err err [q]

/-- The bind set named by QID: a queue's, or the fabric's at 0xFFFF (R249, R267). -/
def Module.bindSet (m : Module) (q : Nat) : List Nat := if q = 0xFFFF then m.ctx.fabricBinds else (m.queue q).binds

/-- A bind set replaced. -/
def Module.setBinds (m : Module) (q : Nat) (l : List Nat) : Module :=
  if q = 0xFFFF then { m with ctx := { m.ctx with fabricBinds := l } }
  else m.modQueue q (fun x => { x with binds := l })

/-- Bind table entries in use (CTX_BIND_USED). -/
def Module.bindUsed (m : Module) : Nat :=
  sumN (m.host.queues.map (fun p => p.2.binds.length)) + m.ctx.fabricBinds.length

/-- A context removed from every bind set. -/
def Module.unbindAll (m : Module) (c : Nat) : Module :=
  let qs := m.host.queues.map (fun (p : Nat × Queue) =>
    let x : Queue := { p.2 with binds := p.2.binds.filter (fun b => b ≠ c) }
    (p.1, x))
  { m with host := { m.host with queues := qs }
           ctx := { m.ctx with fabricBinds := m.ctx.fabricBinds.filter (fun b => b ≠ c) } }

/-- The queue of an entry taken before a PCIe reset deleted its queue: no write to host memory follows (R271). -/
def orphan (q : Nat) : Nat := q % 2 ^ 16 + 2 ^ 16

/-- The number of a queue that can still be written to. -/
def liveQueue (q : Nat) : Bool := decide (q < 2 ^ 16)

/-! ### Completions (R260 to R265, R268) -/

/-- A completion's status, detail code and qualifier, and values. -/
def Compl.of (status detail value value2 : Nat) : Compl :=
  { status := status, detail := detail, value := value % 2 ^ 32, value2 := value2 % 2 ^ 32 }

/-- DONE with no values. -/
def Compl.done : Compl := Compl.of 0 0 0 0

/-- The 16 bytes of a completion entry as a number (R260); `low` is bits 6 to 0 of byte 5. -/
def complEntry (cid sqHead phase low : Nat) (c : Compl) : Nat :=
  cid % 2 ^ 16 + 2 ^ 16 * (sqHead % 2 ^ 16) + 2 ^ 32 * (c.status % 256) + 2 ^ 40 * (low % 128 + 128 * phase) +
  2 ^ 48 * (c.detail % 2 ^ 16) + 2 ^ 64 * (c.value % 2 ^ 32) + 2 ^ 96 * (c.value2 % 2 ^ 32)

/-- The MSI-X vector of a queue: 0 for queue 0 (R268). -/
def Module.vectorOf (m : Module) (q : Nat) : Nat := if q = 0 then 0 else m.rd Reg.queCfg_vector [q]

/-- The interrupt after a posting (R268): at COAL_COUNT pending completions, or at every one when it is 0. -/
def Module.coalesce (m : Module) (q : Nat) : Module :=
  let x := m.queue q
  let n := x.pendCount + 1
  if m.rdB Reg.queCfg_intEn [q] && decide (m.rd Reg.queIntr_coalCount [q] ≤ n) then
    (m.modQueue q (fun x => { x with pendCount := 0 })).msix (m.vectorOf q)
  else m.modQueue q (fun x => { x with pendCount := n, pendRound := if x.pendCount = 0 then m.hub.round else x.pendRound })

/-- A MOD entry of the running round's delta (R385): KIND 0 TAKE, 1 POST. An active member records it. -/
def Module.modEntry (m : Module) (kind q idx : Nat) : Module :=
  if m.pairState = 3 ∨ m.pairState = 4 then
    { m with pair := { m.pair with mods := (kind * 2 ^ 30 + q % 2 ^ 14 * 2 ^ 16 + idx % 2 ^ 16) :: m.pair.mods } }
  else m

/-- The SQ index of an entry in flight is forgotten, and its POST recorded (R385). -/
def Module.posted (m : Module) (q cid : Nat) : Module :=
  match SMap.find? m.pair.idx (q * 65536 + cid) with
  | none => m
  | some i => ({ m with pair := { m.pair with idx := SMap.del (q * 65536 + cid) m.pair.idx } } : Module).modEntry 1 q i

/-- A completion entry written to queue q's ring (R260, R261), unless a PCIe reset has deleted the queue (R271). A module that latched a FATAL event posts none (R414), and a
member that does not serve posts none for a mirrored queue (R381, R382). -/
def Module.post (m0 : Module) (q cid low : Nat) (c : Compl) (final : Bool) : Module :=
  let m := if final then m0.posted (q % 2 ^ 16) cid else m0
  if !liveQueue q ∨ m.qState q = 0 ∨ m.rdB Reg.safStatus_fatalLatched ∨ (m.silent ∧ q ≠ 0) then m
  else
    let x := m.queue q
    let t := m.rd Reg.quePtrs_cqTail [q]
    let e := complEntry cid (m.rd Reg.quePtrs_sqHead [q]) (ofB x.phase) low c
    let t' := if t + 1 ≥ m.cqDepth q then 0 else t + 1
    let m1 := (m.emit (.completion q t e)).wr Reg.quePtrs_cqTail t' [q]
    let m2 := m1.modQueue q (fun x => { x with posted := x.posted + 1, phase := if t' = 0 then !x.phase else x.phase })
    let m3 := if final then m2.wr Reg.queStatus_inFlight (m.qInFlight q - 1) [q] else m2
    m3.coalesce q

/-- A final completion of an entry that is no request. -/
def Module.finish (m : Module) (q cid : Nat) (c : Compl) : Module := m.post q cid 0 c true

/-- ACCESS_DENIED with a detail code, naming a context (R263). -/
def denied (detail c : Nat) : Compl := Compl.of 0x05 detail (c % 2 ^ 16) 0

/-- REJECT_CONTEXT with a detail code and a context's state (R263). -/
def rejectCtx (detail state : Nat) : Compl := Compl.of 0x02 detail state 0

/-- MODEL_TOO_LARGE with a detail word and a shortfall (R263). -/
def tooLarge (detail short : Nat) : Compl := Compl.of 0x0A detail short (short / 2 ^ 32)

/-- LENGTH_EXCEEDS with a detail code and a length (R263). -/
def lengthExceeds (detail n : Nat) : Compl := Compl.of 0x03 detail n (n / 2 ^ 32)

/-- FORMAT_MISMATCH with a detail word and values (R263, R264). -/
def fmtMismatch (detail v v2 : Nat) : Compl := Compl.of 0x04 detail v v2

end Sys2Proof.Machine
end

