-- ==== Sys2Proof/Machine/Image.lean ====
section
/-! DEFINITION. The model image (R159 to R163): its parts read, and every check LOAD_IMAGE makes of it (R46, R74, R103,
R143, R161, R163, R169, R170). -/

namespace Sys2Proof.Machine

/-! ### Reading -/

/-- Start of the trailer, or of nothing when the image is unsigned. -/
def imgEnd (b : List Nat) : Nat := let t := leAt b 16 8; if bitB (leAt b 6 2) 0 then t - 128 else t

/-- Byte offset of slice i's directory entry. -/
def imgDir (b : List Nat) (i : Nat) : Nat := 16 * leAt b 40 4 + 64 * i

/-- A peer entry (R161). -/
def peerAt (v : Nat) : Peer := { kind := bitsOf v 31 30, slice := bitsOf v 29 24, remote := bitsOf v 23 22 }

/-- Movement classes of a program (R173). -/
def progUses (words : List Nat) : Nat :=
  words.foldl (fun a w =>
    let o := opOf w
    a ||| (if o = 0xA1 then 1 else if o = 0xA2 ∨ o = 0xA5 then 2 else if o = 0xA0 then 4
           else if o = 0xA3 ∨ o = 0xA6 then 8 else 0)) 0

/-- The operation words of a program at a byte offset. -/
def progAt (b : List Nat) (o n : Nat) : List Nat := (chunks 16 n (b.drop o)).map leNat

/-- Slice i of an image, as its directory entry gives it. -/
def sliceAt (b : List Nat) (i : Nat) : Slice :=
  let o := imgDir b i
  { progOff := 16 * leAt b o 4, progWords := leAt b (o + 4) 2, fmtOff := 16 * leAt b (o + 16) 4, fmtCount := b.getD (o + 6) 0
    curves := (List.range (b.getD (o + 7) 0)).map (fun k => leAt b (16 * leAt b (o + 20) 4 + 2 * k) 2)
    weightOff := 16 * leAt b (o + 8) 4, weightLen := leAt b (o + 12) 4
    peers := (List.range (b.getD (o + 28) 0)).map (fun k => peerAt (leAt b (16 * leAt b (o + 24) 4 + 4 * k) 4))
    spillOff := 16 * leAt b (o + 32) 4, spillLen := leAt b (o + 36) 4
    entries := (List.range 64).map (fun k => leAt b (16 * leAt b (o + 40) 4 + 2 * k) 2)
    uses := progUses (progAt b (16 * leAt b o 4) (leAt b (o + 4) 2)) }

/-- A stage record (R163). -/
def stageRecAt (b : List Nat) (o : Nat) : StageRec :=
  { stage := b.getD o 0, slice := b.getD (o + 1) 0, t := leAt b (o + 4) 4, f := leAt b (o + 8) 4 }

/-- A dependency record (R163). -/
def depRecAt (b : List Nat) (o : Nat) : DepRec :=
  { fromStage := b.getD o 0, fromSlice := b.getD (o + 1) 0, toStage := b.getD (o + 2) 0, toSlice := b.getD (o + 3) 0,
    lagF := leAt b (o + 4) 4 }

/-- What the Cirque keeps of an image. -/
def imageOf (b : List Nat) : Image :=
  let tm := 16 * leAt b 48 4
  let ns := leAt b tm 2
  { tag := leAt b 12 4, stageCount := b.getD 25 0, remoteCount := b.getD 26 0, maxIn := leAt b 28 3, maxOut := leAt b 32 3
    kvMin := leAt b 36 4, poolOff := 16 * leAt b 56 4
    slices := (List.range (b.getD 24 0)).map (sliceAt b)
    limits := (List.range (b.getD 25 0)).map (fun k => leAt b (16 * leAt b 44 4 + 2 * k) 2)
    stages := (List.range ns).map (fun k => stageRecAt b (tm + 16 * (1 + k)))
    deps := (List.range (leAt b (tm + 2) 2)).map (fun k => depRecAt b (tm + 16 * (1 + ns + k))) }

/-! ### Checking -/

/-- FORMAT_MISMATCH, detail OFFSET, qualifier 0: the byte offset in the image (R264). -/
def badOffset (o : Nat) : Option Compl := some (fmtMismatch 0x0A o (o / 2 ^ 32))

/-- One condition and what its failure reports. -/
def must (ok : Bool) (c : Option Compl) : Option Compl := if ok then none else c

/-- The first failure of a list. -/
def firstBad (l : List (Option Compl)) : Option Compl := l.findSome? id

/-- The header (R159, R160). -/
def headerBad (b : List Nat) (remotes : List Nat) : Option Compl :=
  firstBad [must (decide (b.take 4 = [0x54, 0x39, 0x4D, 0x49])) (badOffset 0),
    must (decide (b.getD 4 0 = 0)) (badOffset 4), must (decide (b.getD 5 0 = 1)) (badOffset 5),
    must (decide (leAt b 6 2 < 4)) (badOffset 6), must (decide (leAt b 8 4 = 0x972)) (badOffset 8),
    must (decide (leAt b 16 8 % 16 = 0)) (badOffset 16),
    must (decide (1 ≤ b.getD 24 0 ∧ b.getD 24 0 ≤ 64)) (badOffset 24),
    must (decide (1 ≤ b.getD 25 0 ∧ b.getD 25 0 ≤ 64)) (badOffset 25),
    must (decide (b.getD 26 0 ≤ 4)) (badOffset 26), must (zeros b 27 1) (badOffset 27),
    must (zeros b 31 1) (badOffset 31), must (zeros b 35 1) (badOffset 35),
    must (decide (16 * leAt b 40 4 + 64 * b.getD 24 0 ≤ imgEnd b)) (badOffset 40),
    must (decide (16 * leAt b 44 4 + 2 * b.getD 25 0 ≤ imgEnd b)) (badOffset 44),
    must (decide (16 * leAt b 48 4 + 16 ≤ imgEnd b)) (badOffset 48),
    must (decide (leAt b 60 2 ≤ 1024)) (badOffset 60),
    must (decide (16 * leAt b 56 4 + curveBytes * leAt b 60 2 ≤ imgEnd b)) (badOffset 56),
    must (zeros b 62 2) (badOffset 62), must (zeros b 160 96) (badOffset 160),
    must (!(bitB (leAt b 6 2) 0) || zeros b (imgEnd b + 5) 11) (badOffset (imgEnd b + 5)),
    must (!(bitB (leAt b 6 2) 0) || zeros b (imgEnd b + 112) 16) (badOffset (imgEnd b + 112)),
    firstBad ((List.range 4).map (fun i =>
      must (decide (i < b.getD 26 0 ∨ remotes.getD i 0 = 0)) (some (fmtMismatch 0x010A (40 + 4 * i) 0))))]

/-- Detail LIMIT: a count limit, naming the slice (R264). -/
def badLimit (i : Nat) : Option Compl := some (fmtMismatch 0x0D (i * 2 ^ 24) 0)

/-- A directory entry (R161, R170). An area that passes the end of the image is refused at the field that places it. -/
def dirBad (b : List Nat) (i : Nat) : Option Compl :=
  let o := imgDir b i
  let fits := fun (k n : Nat) => must (decide (n = 0 ∨ 16 * leAt b (o + k) 4 + n ≤ imgEnd b)) (badOffset (o + k))
  let words := leAt b (o + 4) 2
  firstBad [must (decide (1 ≤ words ∧ words ≤ 4096)) (badLimit i), must (decide (b.getD (o + 6) 0 ≤ 16)) (badLimit i),
    must (decide (b.getD (o + 7) 0 ≤ 32)) (badLimit i),
    must (decide (leAt b (o + 12) 4 % 16 = 0 ∧ leAt b (o + 12) 4 ≤ 20873216)) (badOffset (o + 12)),
    must (decide (b.getD (o + 28) 0 ≤ 64)) (badOffset (o + 28)), must (zeros b (o + 29) 3) (badOffset (o + 29)),
    must (zeros b (o + 44) 20) (badOffset (o + 44)),
    fits 0 (16 * words), fits 8 (leAt b (o + 12) 4), fits 16 (32 * b.getD (o + 6) 0), fits 20 (2 * b.getD (o + 7) 0),
    fits 24 (4 * b.getD (o + 28) 0), fits 32 (leAt b (o + 36) 4), fits 40 128]

/-- Peer entries of slice i (R161). -/
def peersBad (b : List Nat) (i : Nat) : Option Compl :=
  let o := imgDir b i
  firstBad ((List.range (b.getD (o + 28) 0)).map (fun k =>
    let a := 16 * leAt b (o + 24) 4 + 4 * k
    let v := leAt b a 4
    let p := peerAt v
    must (decide (v % 2 ^ 22 = 0 ∧ p.kind ≤ 1 ∧ (p.kind = 0 → p.slice < b.getD 24 0) ∧ (p.kind = 1 → p.remote < b.getD 26 0)))
      (badOffset a)))

/-- Does slice i take part in stage k? -/
def Image.takesPart (g : Image) (k i : Nat) : Bool := (g.slices.getD i Slice.blank).entries.getD k 0xFFFF ≠ 0xFFFF

/-- Slices that take part in stage k. -/
def Image.participants (g : Image) (k : Nat) : List Nat := (List.range g.slices.length).filter (g.takesPart k)

/-- A stage record names stage and slice (k, i). -/
def Image.hasStage (g : Image) (k i : Nat) : Bool := g.stages.any (fun r => r.stage = k && r.slice = i)

/-- Slices reached from a set along the dependency records of stage k, in n rounds. -/
def Image.reach (g : Image) (k : Nat) : Nat → List Nat → List Nat
  | 0, l => l
  | n + 1, l =>
    Image.reach g k n ((l ++ (g.deps.filterMap (fun d =>
      if d.fromStage = k ∧ d.toStage = k ∧ l.elem d.fromSlice then some d.toSlice else none))).eraseDups)

/-- The timing table (R163, R217). -/
def timingBad (b : List Nat) (g : Image) : Option Compl :=
  let tm := 16 * leAt b 48 4
  let ns := leAt b tm 2
  let nd := leAt b (tm + 2) 2
  let len := leAt b 52 4
  firstBad ([must (decide (len = 16 * (1 + ns + nd) ∧ tm + len ≤ imgEnd b)) (badOffset 52),
      must (zeros b (tm + 4) 12) (badOffset (tm + 4))] ++
    (List.range ns).map (fun i =>
      let o := tm + 16 * (1 + i)
      let r := stageRecAt b o
      must (zeros b (o + 2) 2 && zeros b (o + 12) 4 && decide (r.stage < g.stageCount) && decide (r.slice < g.slices.length) &&
        g.takesPart r.stage r.slice && !((g.stages.take i).any (fun q => q.stage = r.stage && q.slice = r.slice)))
        (badOffset o)) ++
    [must ((List.range g.stageCount).all (fun k => (g.participants k).all (g.hasStage k))) (badOffset tm)] ++
    (List.range nd).map (fun i =>
      let o := tm + 16 * (1 + ns + i)
      let d := depRecAt b o
      must (zeros b (o + 8) 8 && decide (d.fromStage ≤ d.toStage) && g.hasStage d.fromStage d.fromSlice &&
        g.hasStage d.toStage d.toSlice) (badOffset o)) ++
    (List.range g.stageCount).map (fun k =>
      firstBad ((List.range g.deps.length).map (fun i => match g.deps[i]? with
        | some d => must (!(decide (d.fromStage = k ∧ d.toStage = k) && (g.reach k 64 [d.toSlice]).elem d.fromSlice))
            (some (fmtMismatch 0x0F k i))
        | none => none))))

/-- Detail TABLE: slice, and format slot or curve reference (R264). -/
def badTable (i ref : Nat) : Option Compl := some (fmtMismatch 0x0C (i * 2 ^ 24 + ref) 0)

/-- Format and curve tables of slice i (R46, R74, R143); `dev` gives a device curve table's bytes. -/
def sliceTablesBad (b : List Nat) (dev : Nat → List Nat) (g : Image) (i : Nat) : Option Compl :=
  let s := g.slices.getD i Slice.blank
  firstBad ((List.range s.fmtCount).map (fun k => must (fmtTableOk (slice 0 b (s.fmtOff + 32 * k) 32)) (badTable i k)) ++
    s.curves.map (fun r =>
      must (if r < 0x100 then decide (dev r ≠ [])
            else decide (0x8000 ≤ r) && decide (r - 0x8000 < leAt b 60 2) &&
              curveOk (slice 0 b (g.poolOff + curveBytes * (r - 0x8000)) curveBytes)) (badTable i r)))

/-- The rule of R103 a word breaks, or 0. `fm` gives the format a selector names in this image. DESIGN CHOICE: rule 7 is held
for the REG and SRC fields that the operation uses; a value of 24 to 31 in one it does not use (SRC of ADDREG, LOOP, BRCNT,
REG of JUMP) is not checked, as rule 3 says of unused fields. -/
def wordRule (fm : Nat → Option Fmt) (stages words w : Nat) : Nat :=
  let o := opOf w
  let use := fun (sel u : Nat) (slot : Bool) => match fm sel with
    | some f => bitB f.uses u && (!slot || f.slotOk)
    | none => false
  let readable := fun (sel : Nat) => match fm sel with
    | some f => decide (f.kind ≠ 3) && f.slotOk
    | none => false
  let m := bitsOf w 53 46
  let d := bitsOf w 46 39
  let s := bitsOf w 38 31
  let tgt := bitsOf w 87 76
  let func := bitsOf w 14 11
  let cond := bitsOf w 105 103
  if !(opDefined o) then 2
  else if !(if o < 0x20 then decide (w % 2 ^ 13 = 0)
            else if o < 0x40 then decide (w % 2 ^ 29 = 0) && (decide (o ≠ 0x20) || decide (bitsOf w 76 74 = 0))
            else if o < 0xA0 then decide (w % 8 = 0)
            else decide (o = 0xA4) || decide (bitsOf w 78 70 = 0)) then 3
  else if (decide (o = 0x04 ∨ o = 0x05 ∨ o = 0x06) && decide (words ≤ tgt)) ||
      (decide (o = 0x0C ∧ cond = 2) && decide (stages ≤ tgt)) then 4
  else if o < 0x20 ∧ sigOf w ≠ 0 then 5
  else if !(match o with
      | 0x20 => use m 0 false
      | 0x21 => use m 1 true
      | 0x24 | 0x27 => use m 2 true
      | 0x4D => use d 2 true
      | 0x60 => true
      | 0x80 => decide (d = 0x13) && readable s
      | 0x61 | 0x81 | 0x82 => use d 2 true && readable s
      | 0x83 => use d 0 false && readable s
      | _ => if 0x40 ≤ o ∧ o < 0x60 then use d 2 true && use s 3 true else true) then 6
  else if !(match o with
      | 0x02 => decide (bitsOf w 115 111 < 24 ∧ bitsOf w 110 106 < 24)
      | 0x03 | 0x04 => decide (bitsOf w 115 111 < 24)
      | 0x05 => decide (bitsOf w 115 111 < 24 ∧ cond < 6)
      | 0x0C => decide (cond < 3)
      | 0x46 => decide (func < 4)
      | 0x48 => decide (func < 6)
      | 0x4A => decide (func < 7 ∧ func ≠ 3)
      | _ => true) then 7
  else 0

/-- The program of slice i (R103): entry points first, then the words in order. -/
def programBad (b : List Nat) (dfmt : Nat → List Nat) (g : Image) (i : Nat) : Option Compl :=
  let s := g.slices.getD i Slice.blank
  let ws := progAt b s.progOff s.progWords
  let fm := fun sel =>
    let tab := fun (t : List Nat) => if t ≠ [] && fmtTableOk t then some (Fmt.ofTable sel t) else none
    if sel < 0x40 then Fmt.builtin sel
    else if sel < 0x80 then tab (dfmt (sel - 0x40))
    else if sel < 0x80 + s.fmtCount ∧ sel < 0x90 then tab (slice 0 b (s.fmtOff + 32 * (sel - 0x80)) 32)
    else none
  let bad := fun (k r : Nat) => some (fmtMismatch 0x0B (i * 2 ^ 24 + k % 4096 * 2 ^ 12 + r) 0)
  firstBad ((List.range g.stageCount).map (fun k =>
      let e := s.entries.getD k 0xFFFF
      must (decide (e = 0xFFFF) || (decide (e < s.progWords) && decide (opOf (ws.getD e 0) = 0x01))) (bad e 1)) ++
    (List.range ws.length).map (fun k => match wordRule fm g.stageCount s.progWords (ws.getD k 0) with
      | 0 => none
      | r => bad k r))

/-- The image key enrolled, and whether signed images are required (R464). -/
def Module.imageKey (m : Module) : Option (List Nat) := m.flash.owner.map OwnerBlk.imageKeyId

/-- Hash and signature (step 5 of R169): HASH, then SIGNATURE. -/
def Module.imageAuth (m : Module) (b : List Nat) : Option Compl :=
  let tr := imgEnd b
  let signed := bitB (leAt b 6 2) 0
  let required := match m.flash.owner with
    | some o => o.requireSigned
    | none => false
  let key := slice 0 b 112 48
  firstBad [must (decide (slice 0 b 64 48 = Config.sha384 (slice 0 b 256 (tr - 256)))) (some (Compl.of 0x07 0x03 0 0)),
    must (if signed then
        decide (m.imageKey = some key) && decide (slice 0 b tr 4 = [0x54, 0x39, 0x4D, 0x53]) && decide (b.getD (tr + 4) 0 = 1) &&
          Config.ecdsaVerify key (b.take tr) (slice 0 b (tr + 16) 96)
      else !required) (some (Compl.of 0x07 0x04 0 0))]

/-- Step 6 of R169. -/
def Module.imageBad (m : Module) (b : List Nat) (remotes : List Nat) : Option Compl :=
  let n := b.getD 24 0
  let g := imageOf b
  match headerBad b remotes with
  | some c => some c
  | none => firstBad ((List.range n).map (dirBad b) ++ (List.range n).map (peersBad b) ++ [timingBad b g] ++
      (List.range n).map (sliceTablesBad b (deviceCurve m.str.force) g) ++
      (List.range n).map (programBad b (deviceFmt m.str.force) g))

end Sys2Proof.Machine
end

