-- ==== Sys2Proof/Machine/Contexts.lean ====
section
/-! DEFINITION. Contexts: storage (R206, R207), residency and placement (R166, R172, R173), bank fills (R174 to R176), bank
switches (R88, R89), LOAD_IMAGE, EVICT, PIN (R168 to R171, R178, R179), migration (R180 to R182). -/

namespace Sys2Proof.Machine

/-! ### Storage pools (R206) -/

/-- Bytes rounded up to whole MiB. -/
def mibUp (n : Nat) : Nat := ceilDiv n (2 ^ 20) * 2 ^ 20

/-- A range inserted by its start. -/
def insRange (r : Nat × Nat) : List (Nat × Nat) → List (Nat × Nat)
  | [] => [r]
  | x :: t => if r.1 ≤ x.1 then r :: x :: t else x :: insRange r t

/-- Ranges of storage in use: start and bytes, rising. -/
def Module.inUse (m : Module) : List (Nat × Nat) :=
  let rs := (m.ctx.table.map (fun (p : Nat × Ctx) =>
    let c := p.2
    if c.state = 0 then []
    else [(c.imageAddr, 16 * c.imageGranules), (match c.imageAddr2 with | some a => (a, 16 * c.imageGranules) | none => (0, 0)),
      (c.kvAddr, 16 * c.kvGranules), (c.ckptAddr, 16 * c.ckptGranules)])).flatten
  (rs.filter (fun (r : Nat × Nat) => r.2 ≠ 0)).foldl (fun l (r : Nat × Nat) => insRange (r.1, mibUp r.2) l) []

/-- Free runs of [lo, hi) given the rising ranges in use. -/
def freeRuns : Nat → Nat → List (Nat × Nat) → List (Nat × Nat)
  | lo, hi, [] => if lo < hi then [(lo, hi - lo)] else []
  | lo, hi, (a, n) :: t =>
    if a + n ≤ lo ∨ hi ≤ a then freeRuns lo hi t
    else (if lo < a then [(lo, a - lo)] else []) ++ freeRuns (max lo (a + n)) hi t

/-- Free runs of a tier: 0 GDDR7 pool, 1 CXL windows, 2 CXL port 0, 3 CXL port 1. -/
def Module.runs (m : Module) (tier : Nat) : List (Nat × Nat) :=
  let u := m.inUse
  let port := fun p => if m.rdB Reg.cxlPortStatus_ready [p] then
      freeRuns (cxlBase p) (cxlBase p + m.cxlSize p) (u.filter (fun (r : Nat × Nat) => decide (cxlBase p ≤ r.1 ∧ r.1 < cxlBase p + m.cxlSize p)))
    else []
  match tier with
  | 0 =>
    let lo := m.rd Reg.memHostRegion_size256m * 2 ^ 28
    freeRuns lo (gddrEnd - 2 ^ 29) (u.filter (fun (r : Nat × Nat) => decide (r.1 < gddrEnd)))
  | 1 => port 0 ++ port 1
  | 2 => port 0
  | _ => port 1

/-- First fit of n bytes in a tier: the address, or the shortfall (R206). -/
def Module.alloc (m : Module) (tier n : Nat) : Except Nat Nat :=
  let rs := m.runs tier
  match rs.find? (fun (r : Nat × Nat) => decide (mibUp n ≤ r.2)) with
  | some r => .ok r.1
  | none => .error (n - maxN (rs.map Prod.snd))

/-- GDDR7 copies kept as a cache beside a CXL copy are dropped, lowest context first, until n bytes fit (R171). -/
def Module.dropCaches (m : Module) (n : Nat) : Module :=
  m.ctx.table.foldl (fun m (p : Nat × Ctx) =>
    match m.alloc 0 n with
    | .ok _ => m
    | .error _ =>
      let c := m.ctxOf p.1
      let busy := m.ctx.fills.any (fun f => f.ctx = p.1 && f.started)
      if c.tier = 2 ∧ c.pin = 0 ∧ c.imageAddr2.isSome ∧ !busy ∧ (c.state = 2 ∨ c.state = 3) then
        m.setCtx p.1 { c with imageAddr2 := none } else m) m

/-- Storage of a tier, after dropping cached copies when GDDR7 has no run long enough. -/
def Module.allocOr (m : Module) (tier n : Nat) : Except Nat Nat × Module :=
  match m.alloc tier n with
  | .ok a => (.ok a, m)
  | .error e =>
    if tier = 0 then
      let m1 := m.dropCaches n
      match m1.alloc 0 n with
      | .ok a => (.ok a, m1)
      | .error _ => (.error e, m)
    else (.error e, m)

/-- Bytes [src, src + n) of a store copied to dst, with their syndromes; n a multiple of 16. -/
def Store.copy (st : Store) (src dst n : Nat) : Store :=
  let base := st.zero (dst / 16) (n / 16)
  let cs := (st.cells.filter (fun p => decide (src ≤ p.1 ∧ p.1 < src + n))).map (fun p => (p.1 - src + dst, p.2))
  let ss := (st.synd.filter (fun p => decide (src / 16 ≤ p.1 ∧ p.1 < src / 16 + n / 16))).map (fun p => (p.1 - src / 16 + dst / 16, p.2))
  { cells := cs.foldl (fun l p => SMap.put 0 p.1 p.2 l) base.cells
    synd := ss.foldl (fun l p => SMap.put 0 p.1 p.2 l) base.synd }

/-- n bytes of an image at src copied to dst, n a multiple of 16: each granule is checked as it is read (R191), and a port that
is down answers poisoned (R205). -/
def Module.copyImage (m : Module) (src dst n : Nat) : Module :=
  let down := match m.place src with
    | .cxl p => !m.rdB Reg.cxlPortStatus_ready [p]
    | _ => false
  if down then
    let z := m.dev.zero (dst / 16) (n / 16)
    { m with dev := { z with synd := (List.range (n / 16)).foldl (fun l i => SMap.put 0 (dst / 16 + i) poisonSynd l) z.synd } }
  else
    let hit := (m.dev.synd.filter (fun p => decide (src / 16 ≤ p.1 ∧ p.1 < src / 16 + n / 16))).map Prod.fst
    let m1 := hit.foldl (fun m g => (m.devRead (16 * g) 0 sevDegraded).2.2) m
    { m1 with dev := m1.dev.copy src dst n }

/-- The bytes of an image written at one of its copies; a port that is down drops them and records it (R205). -/
def Module.putImage (m : Module) (a granules : Nat) (b : List Nat) : Module :=
  let put : Module := { m with dev := (m.dev.zero (a / 16) granules).setBytes a b }
  match m.place a with
  | .cxl p => if m.rdB Reg.cxlPortStatus_ready [p] then put else m.dropWrite p a
  | _ => put

/-! ### Residency (R166) -/

/-- Bank b of site s carries slice i of context c: what its last fill wrote into its header matches, and no other fill has
claimed it. -/
def Module.holds (m : Module) (c : Nat) (x : Ctx) (i s b : Nat) : Bool :=
  let tag := match x.img with
    | some g => g.tag
    | none => 0
  (decide (m.bankState s b = 2) || decide (m.bankState s b = 3)) &&
    decide ((m.tine s).bank b = { ctx := c, slice := i, tag := tag, gen := x.loadGen }) && !(m.ctx.fills.any (fun f => f.site = s && f.bank = b))

/-- Slice i of a placed context is resident. -/
def Module.resident (m : Module) (c : Nat) (x : Ctx) (i : Nat) : Bool :=
  match m.siteOf x i with
  | some s => m.holds c x i s (x.bankOf i)
  | none => false

/-- Every slice is resident. -/
def Module.hot (m : Module) (c : Nat) (x : Ctx) : Bool :=
  x.placed && (List.range x.sliceCount).all (m.resident c x)

/-- RESIDENT_COLD or RESIDENT_HOT by R166; other states stand. -/
def Module.refresh (m : Module) (c : Nat) : Module :=
  let x := m.ctxOf c
  if x.state = 2 ∨ x.state = 3 then m.setCtx c { x with state := if m.hot c x then 3 else 2 } else m

/-- Every context's residency looked at again. -/
def Module.refreshAll (m : Module) : Module := m.ctx.table.foldl (fun m (p : Nat × Ctx) => m.refresh p.1) m

/-- The context that holds bank b of site s, if any: the one whose fill goes there, else the placed one whose slice it carries.
A context whose bank was taken by another stays PLACED (R166) and holds it no more. -/
def Module.owner (m : Module) (s b : Nat) : Option Nat :=
  match m.ctx.fills.find? (fun f => f.site = s && f.bank = b) with
  | some f => some f.ctx
  | none =>
    let k := (m.tine s).bank b
    let x := m.ctxOf k.ctx
    if x.placed && decide (m.siteOf x k.slice = some s) && decide (x.bankOf k.slice = b) && m.holds k.ctx x k.slice s b then
      some k.ctx
    else none

/-! ### Placement (R172, R173) -/

/-- Bank b of site s may be taken for slice i of context c: it holds the slice, or is EMPTY, FAULTED or freed, or holds a
context with nothing in flight and no PIN 2. -/
def Module.bankFree (m : Module) (c : Nat) (x : Ctx) (i s b : Nat) : Bool :=
  let st := m.bankState s b
  let pinned := fun o => (m.ctxOf o).pin ≥ 2 || decide ((m.ctxOf o).inFlight ≠ 0)
  m.holds c x i s b ||
  (decide (st ≠ 3) && (match m.owner s b with
    | none => true
    | some o => decide (o = c) || !(pinned o)) && !(m.ctx.fills.any (fun f => f.site = s && f.bank = b && decide (f.ctx ≠ c))))

/-- The target bank at site s (R173): the one not RUNNING; with none running, A unless only B is EMPTY or free. -/
def Module.targetBank (m : Module) (s : Nat) : Nat :=
  let open' := fun b => decide (m.bankState s b = 0) || (m.owner s b).isNone
  if m.bankState s 1 = 3 then 2 else if m.bankState s 2 = 3 then 1
  else if !(open' 1) && open' 2 then 2 else 1

/-- The bank slice i would take at site s: one that already holds it, the one a fill of it already asked for goes to (R171),
else the target. -/
def Module.bankFor (m : Module) (c : Nat) (x : Ctx) (i s : Nat) : Nat :=
  if m.holds c x i s 1 then 1 else if m.holds c x i s 2 then 2
  else match m.ctx.fills.find? (fun f => f.site = s && f.ctx = c && f.slice = i) with
    | some f => f.bank
    | none => m.targetBank s

/-- The window of a set from a rank on: the bank of each slice, when every one is usable. -/
def Module.window (m : Module) (c : Nat) (x : Ctx) (t : Tset) (r : Nat) : Option Nat :=
  let ok := (List.range x.sliceCount).all (fun i => match t.members[r + i]? with
    | some s => decide (s < 72) && decide (m.siteState s = 2) && m.bankFree c x i s (m.bankFor c x i s)
    | none => false)
  if ok then some (sumN ((List.range x.sliceCount).map (fun i =>
    if m.bankFor c x i ((t.members[r + i]?).getD 0) = 2 then 2 ^ i else 0))) else none

/-- Is a set a candidate: enough members in service and a share for every class used (R173)? -/
def Module.candidate (m : Module) (x : Ctx) (t : Tset) : Bool :=
  let live := t.members.filter (fun s => decide (s < 72))
  decide (x.sliceCount ≤ live.length) && live.all (fun s => (m.profile s t.profile).serves x.uses)

/-- Tine sets in the order in which they are tried for a context: matching hints, lowest RANK first, then ascending
SET_ID (R148, R173). -/
def Module.setOrder (m : Module) (x : Ctx) : List Tset :=
  let sec := secBytes m.str.force 9
  let pairBit := if x.pairing = 1 then 4 else if x.pairing = 2 then 5 else 6
  let hints := (List.range (sec.length / 16)).filterMap (fun i =>
    let b := sec.getD (16 * i) 0
    if bitB b x.latClass && bitB b pairBit then some (sec.getD (16 * i + 1) 0, leAt sec (16 * i + 8) 8) else none)
  let byRank := (List.range 256).map (fun r => (hints.filter (fun h => h.1 = r)).map Prod.snd)
  let ids := (byRank.flatten.map (bitList 64 0)).flatten ++ List.range 64
  (ids.eraseDups).filterMap m.tset

/-- The first usable window of the first candidate set that has one. -/
def Module.findPlace (m : Module) (c : Nat) (x : Ctx) : Option (Nat × Nat × Nat) :=
  ((m.setOrder x).filter (m.candidate x)).findSome? (fun t =>
    (List.range t.members.length).findSome? (fun r => (m.window c x t r).map (fun mask => (t.id, r, mask))))

/-- The shortfall when no set is large enough, else `none` (R170, R173). -/
def Module.tooFew (m : Module) (x : Ctx) : Option Nat :=
  let big := maxN (m.str.sets.map (fun t => (t.members.filter (fun s => decide (s < 72))).length))
  if big < x.sliceCount then some (x.sliceCount - big)
  else if m.str.sets.any (m.candidate x) then none else some x.sliceCount

/-- A placement kept, with banks chosen again at ranks that need a fill, when every rank is usable (R173). -/
def Module.keepPlace (m : Module) (c : Nat) (x : Ctx) : Option (Nat × Nat × Nat) :=
  match m.tset x.tset with
  | none => none
  | some t => if x.placed && m.candidate x t then (m.window c x t x.firstRank).map (fun mask => (x.tset, x.firstRank, mask)) else none

/-- Fills for the slices of a placed context that are not resident and not yet asked for. -/
def Module.askFills (m : Module) (c : Nat) : Module :=
  let x := m.ctxOf c
  let want := (List.range x.sliceCount).filterMap (fun i => match m.siteOf x i with
    | some s =>
      let b := x.bankOf i
      if m.resident c x i || m.ctx.fills.any (fun f => f.site = s && f.bank = b && f.ctx = c) then none
      else
        let f : Fill := { site := s, bank := b, ctx := c, slice := i, started := false, pos := 0, src := 0, addr := 0,
                          rate := 0, migration := false, retry := false, bad := false }
        some f
    | none => none)
  if x.placed then { m with ctx := { m.ctx with fills := m.ctx.fills ++ want } } else m

/-- A context takes a placement: set, first rank and bank mask, with the fills it needs (R173). -/
def Module.placeAt (m : Module) (c t r mask : Nat) : Module :=
  (m.setCtx c { m.ctxOf c with placed := true, tset := t, firstRank := r, bankMask := mask, replace := false }).askFills c

/-- Place a context (R173): its window and the fills it needs, or nothing when no window is usable now. -/
def Module.place? (m : Module) (c : Nat) : Option Module :=
  let x := m.ctxOf c
  if m.hot c x then some m
  else match (m.keepPlace c x).orElse (fun _ => m.findPlace c x) with
    | some (t, r, mask) => some (m.placeAt c t r mask)
    | none => none

/-! ### Freeing (R166, R178) -/

/-- Fills of a context given up: a FILLING bank returns to EMPTY (R86). -/
def Module.dropFills (m : Module) (p : Fill → Bool) : Module :=
  let m1 := (m.ctx.fills.filter p).foldl (fun m f => if f.started then m.setBank f.site f.bank 0 else m) m
  { m1 with ctx := { m1.ctx with fills := m1.ctx.fills.filter (fun f => !(p f)) } }

/-- Banks and placement of a context freed; `again`: it is to be placed anew as soon as a window is usable (R173, R182). PIN
keeps its level. -/
def Module.freeBanks (m : Module) (c : Nat) (again : Bool := false) : Module :=
  let m1 := m.dropFills (fun f => f.ctx = c)
  m1.setCtx c { m1.ctxOf c with placed := false, bankMask := 0, tset := 0, firstRank := 0, replace := again }

/-- A context becomes ABSENT: descriptor, storage, banks and bindings freed; LOAD_GEN alone is kept for the next load. -/
def Module.dropCtx (m : Module) (c : Nat) : Module :=
  let m1 := m.freeBanks c
  let m2 := (m1.setCtx c { Ctx.blank with loadGen := (m.ctxOf c).loadGen }).unbindAll c
  { m2 with ctx := { m2.ctx with loads := SMap.del c m2.ctx.loads } }

/-- EVICT acts on a context with nothing in flight (R166, R178). -/
def Module.evictNow (m : Module) (c level : Nat) : Module :=
  if level = 0 then m.dropCtx c
  else
    let m1 := m.freeBanks c
    m1.setCtx c { m1.ctxOf c with state := 2 }

/-- Banks of a site held by PIN level 2, by contexts other than c. -/
def Module.pinnedBanks (m : Module) (c s : Nat) : Nat :=
  ([1, 2].filter (fun b => match m.owner s b with
    | some o => decide (o ≠ c) && decide ((m.ctxOf o).pin ≥ 2 ∨ m.ctx.waiters.any (fun w => w.kind = 1 && w.ctx = o))
    | none => false)).length

/-- Some Tine of a context's placement would have both banks pinned (R179). -/
def Module.pinClash (m : Module) (c : Nat) : Bool :=
  let x := m.ctxOf c
  x.placed && (m.sitesOf x).any (fun s => decide (1 ≤ m.pinnedBanks c s))

/-- EVICTs that waited for a context's last request, and PINs at level 2 whose slices are all filled, complete; a PIN 2
whose placement would pin both banks of a Tine is refused whenever that placement is made (R179). -/
def Module.pokeWaiters (m : Module) : Module :=
  m.ctx.waiters.foldl (fun m w =>
    let x := m.ctxOf w.ctx
    let drop := fun (m : Module) => ({ m with ctx := { m.ctx with waiters := m.ctx.waiters.filter (fun v => v ≠ w) } } : Module)
    if w.kind = 0 then
      if x.state = 5 ∧ x.inFlight = 0 then ((drop m).evictNow w.ctx w.level).finish w.queue w.cid Compl.done else m
    else if m.pinClash w.ctx then (drop m).finish w.queue w.cid (rejectCtx 0x09 x.state)
    else if m.hot w.ctx x then
      ((drop m).setCtx w.ctx { x with pin := 2 }).finish w.queue w.cid Compl.done
    else if x.state = 0 then (drop m).finish w.queue w.cid (rejectCtx 0x16 0)
    else match m.tooFew x with
      | some n => (drop m).finish w.queue w.cid (tooLarge 0x05 n)
      | none => match m.place? w.ctx with
        | none => m
        | some m1 => if m1.pinClash w.ctx then (drop m).finish w.queue w.cid (rejectCtx 0x09 x.state) else m1) m

/-- A context's requests in flight fall by one (R166). -/
def Module.ctxDone (m : Module) (c : Nat) : Module :=
  let x := m.ctxOf c
  let m1 := m.setCtx c { x with inFlight := x.inFlight - 1, state := if x.inFlight ≤ 1 ∧ x.state = 4 then 2 else x.state }
  (m1.refresh c).pokeWaiters

/-! ### Completing a request (R233, R263) -/

/-- The low bits of byte 5 of a request's completion (R260). -/
def Req.low (r : Req) : Nat := 4 * bitsOf r.flags 0 0 + 8 * (r.rflags % 8)

/-- A reply to the package that sent a request (R234, R269, R330, R339): a completion entry with PHASE 0 and `low` in byte 5, then
the output released so far; with no route it is discarded and counted. -/
def Module.replyWith (m : Module) (r : Req) (low : Nat) (c : Compl) : Module :=
  let out := ((List.range (ceilDiv r.released 16)).map (fun i => toLe 16 (SMap.get 0 r.outAll i))).flatten.take r.released
  let b := toLe 16 (complEntry r.cid 0 0 low c) ++ out
  let (cycle, m1) := m.draw 13
  let rem := (r.deadline - (8192 * m.hub.round + cycle)) * 5 / 8
  match m1.sendMsg r.peerPkg 0 0 0x02 r.vc (r.ctxs.headD 0) r.tag rem b.length (grans b) none with
  | some m2 => m2
  | none => m1.count Reg.rteNoRoute_count

/-- The reply that completes a fabric request. -/
def Module.sendReply (m : Module) (r : Req) (c : Compl) : Module := m.replyWith r r.low c

/-- A request completes: its completion or reply goes out, its staging space, block and holds are given up, and its
contexts' IN_FLIGHT falls (R255, R263, R269). -/
def Module.complete (m : Module) (id : Nat) (c : Compl) : Module :=
  match SMap.find? m.host.reqs id with
  | none => m
  | some r =>
    let m1 : Module := { m with host := { m.host with reqs := SMap.del id m.host.reqs }
                                adm := { m.adm with blocks := m.adm.blocks.filter (fun b => b.req ≠ id) } }
    let m2 := if r.origin = 0 then m1.post r.queue r.cid r.low c true else m1.sendReply r c
    if r.counted then r.ctxs.foldl (fun m c => m.ctxDone c) m2 else m2

/-- Every request of a context that has no final completion completes with FAILED_INTEGRITY, LATCH (R171). -/
def Module.latch (m : Module) (c : Nat) : Module :=
  let m1 := m.setCtx c { m.ctxOf c with latch := 1 }
  m1.host.reqs.foldl (fun m (p : Nat × Req) =>
    if p.2.ctxs.elem c then m.modReq p.1 (fun r => { r with result := r.result.orElse (fun _ =>
      some (Compl.of 0x07 0x17 r.released 0)) }) else m) m1

/-! ### Bank fills (R86, R174 to R176) -/

/-- Granules of a fill: program, weights, format slots, curve slots, header. -/
def Slice.fillParts (s : Slice) : List Nat := [s.progWords, s.weightLen / 16, 32, 146 * s.curves.length, 16]

/-- Fill size in bytes (R174). -/
def Slice.fillSize (s : Slice) : Nat := 16 * sumN s.fillParts

/-- The bank header of a slice (R174). -/
def bankHeader (c i : Nat) (x : Ctx) (s : Slice) : List Nat :=
  let tag := match x.img with
    | some g => g.tag
    | none => 0
  toLe 2 c ++ [i, 0] ++ toLe 4 tag ++ toLe 4 x.loadGen ++ toLe 4 0 ++ ((slice 0xFFFF s.entries 0 64).map (toLe 2)).flatten ++
    ((slice 0 s.curves 0 32).map (toLe 2)).flatten ++ List.replicate 48 0

/-- Granule `pos` of a fill: Tine-local address, and where it comes from: an offset in the image or its bytes. -/
def Module.fillGranule (m : Module) (c : Nat) (x : Ctx) (i b pos : Nat) : Nat × (Nat ⊕ Nat) :=
  let s := x.slice i
  let pool := match x.img with
    | some g => g.poolOff
    | none => 0
  let p := s.progWords
  let w := p + s.weightLen / 16
  let f := w + 32
  let k := f + 146 * s.curves.length
  if pos < p then (progBase b + 16 * pos, .inl (s.progOff + 16 * pos))
  else if pos < w then (weightBase b + 16 * (pos - p), .inl (s.weightOff + 16 * (pos - p)))
  else if pos < f then
    let o := pos - w
    (tableBase b + 16 * o, if o < 2 * s.fmtCount then .inl (s.fmtOff + 16 * o) else .inr 0)
  else if pos < k then
    let o := pos - f
    let ref := s.curves.getD (o / 146) 0
    (tableBase b + 0x300 + 16 * o,
      if ref < 0x100 then .inr (leAt (deviceCurve m.str.force ref) (16 * (o % 146)) 16)
      else .inl (pool + curveBytes * (ref - 0x8000) + 16 * (o % 146)))
  else (tableBase b + 0x200 + 16 * (pos - k), .inr (leAt (bankHeader c i x s) (16 * (pos - k)) 16))

/-- The copy a fill reads and its source: 0 GDDR7, 1 or 2 the CXL port plus 1 (R171). -/
def Module.fillSource (m : Module) (x : Ctx) : Nat × Nat :=
  let a := if x.tier = 2 then x.imageAddr2.getD x.imageAddr else x.imageAddr
  match m.place a with
  | .cxl p => (p + 1, a)
  | _ => (0, a)

/-- RESV rate at an attachment in units of 0.1 GB/s: 6.4 GB/s for each quarter of a flow to or from it (R176, R204). -/
def Module.resvRate (m : Module) (p : Nat → Bool) : Nat :=
  64 * sumN (((flowsOf (secBytes m.str.force 4)).filter (fun f => p f.src || p f.dst)).map Flow.rate)

/-- Counted GDDR7 fill capacity in 0.1 GB/s for a band (0: 1x, 1: 2x, 2: 4x) (R176, R195). -/
def Module.gddrCap (m : Module) (band : Nat) : Nat :=
  16128 - (if band = 0 then 645 else if band = 1 then 1290 else 2580) -
    m.resvRate (fun c => decide (0x58 ≤ c ∧ c ≤ 0x64))

/-- Counted fill capacity of a CXL port in 0.1 GB/s (R204): RATE 2 is 128 GT/s. -/
def Module.cxlCap (m : Module) (p : Nat) : Nat :=
  let raw := if m.rd Reg.cxlPortStatus_rate [p] = 2 then 1792 else 896
  (if m.rd Reg.cxlPortStatus_width [p] = 16 then raw else raw / 2) - m.resvRate (fun c => c = 0x65 + p)

/-- Counted rate of a fill in 0.1 GB/s: 12.8 GB/s for each half of FILL_IN; a migration's at the full link (R175, R181). -/
def Module.fillRate (m : Module) (x : Ctx) (s : Nat) (migration : Bool) : Nat :=
  let prof := match m.tset x.tset with
    | some t => t.profile
    | none => 0
  128 * (if migration then m.linkHalves s else (m.profile s prof).fillIn)

/-- Rates of the fills in progress from a source, of those that `p` picks. -/
def Module.filling (m : Module) (src : Nat) (p : Fill → Bool) : Nat :=
  sumN ((m.ctx.fills.filter (fun f => f.started && f.src = src && p f)).map Fill.rate)

/-- Fill i of the list changed. -/
def Module.modFill (m : Module) (i : Nat) (f : Fill → Fill) : Module :=
  { m with ctx := { m.ctx with fills := match m.ctx.fills[i]? with
    | some x => m.ctx.fills.set i (f x)
    | none => m.ctx.fills } }

/-- Counted rounds of a fill at a rate in 0.1 GB/s: 512 bytes a round for each (R175). -/
def fillRounds (bytes rate : Nat) : Nat := ceilDiv bytes (max 1 rate * 512)

/-- Fill rate booked from a source in a round, in 0.1 GB/s (R221). -/
def Module.fillBooked (m : Module) (src r : Nat) : Nat :=
  sumN (m.adm.fillBooks.map (fun b => if b.src = src ∧ b.start ≤ r ∧ r < b.start + b.len then b.rate else 0))

/-- The migration reserve of a source (R221). -/
def Module.fillReserve (m : Module) (src : Nat) : Nat := if src = 0 then 2560 else m.cxlCap (src - 1) / 4

/-- What fills may book from a source: the capacity one band up, at 4x for a request whose budget exceeds 1 s (`long`), less the
migration reserve (R196, R221). -/
def Module.fillRoom (m : Module) (long : Bool) (src : Nat) : Nat :=
  (if src = 0 then m.gddrCap (if m.rd Reg.memStatus_moduleBand = 0 && !long then 1 else 2) else m.cxlCap (src - 1)) - m.fillReserve src

/-- A fill's rate fits in the calendar in every one of its rounds (R221). -/
def Module.fillFits (m : Module) (long : Bool) (src rate len r : Nat) : Bool :=
  (List.range len).all (fun i => decide (m.fillBooked src (r + i) + rate ≤ m.fillRoom long src))

/-- The first round from r, among n, from which a fill's rate fits until its counted end. -/
def Module.fillSlot (m : Module) (long : Bool) (src rate len : Nat) : Nat → Nat → Option Nat
  | 0, _ => none
  | n + 1, r => if m.fillFits long src rate len r then some r else Module.fillSlot m long src rate len n (r + 1)

/-- The calendar holds a booking for the bank that a fill goes to. -/
def Module.isBooked (m : Module) (f : Fill) : Bool := m.adm.fillBooks.any (fun b => b.site = f.site && b.bank = f.bank && b.ctx = f.ctx)

/-- A fill that no booking of its bank covers is entered in the fill calendar at its start (R175, R221); a migration fill runs
in the reserve that bookings leave. -/
def Module.bookStart (m : Module) (f : Fill) (src rate : Nat) : Module :=
  if f.migration || m.isBooked f then m
  else
    let b : FillBook := { site := f.site, bank := f.bank, ctx := f.ctx, src := src, rate := rate, start := m.hub.round,
                          len := fillRounds ((m.ctxOf f.ctx).slice f.slice).fillSize rate }
    { m with adm := { m.adm with fillBooks := m.adm.fillBooks ++ [b] } }

/-- A fill may start from a source at a rate (R176, R221): all fills in progress stay within the capacity, those that are no
migration leave the migration reserve free, and one without a booking fits the calendar until its counted end. -/
def Module.fillMay (m : Module) (f : Fill) (src rate : Nat) : Bool :=
  let cap := if src = 0 then m.gddrCap (m.rd Reg.memStatus_moduleBand) else m.cxlCap (src - 1)
  decide (m.filling src (fun _ => true) + rate ≤ cap) &&
    (f.migration || (decide (m.filling src (fun g => !g.migration) + rate + m.fillReserve src ≤ cap) &&
      (m.isBooked f || m.fillFits false src rate (fillRounds ((m.ctxOf f.ctx).slice f.slice).fillSize rate) m.hub.round)))

/-- FILL_START (R86, R175, R176, R181): fill i of the Cirque's list starts at a round boundary when its rate fits, its
site is ACTIVE, and no migration fill waits before it. A bank that is FILLING or RUNNING refuses it. -/
def Module.fillStart (m : Module) (i : Nat) : Module :=
  match m.ctx.fills[i]? with
  | none => m
  | some f =>
    let x := m.ctxOf f.ctx
    let (src, addr) := if f.bad ∧ (f.addr = x.imageAddr ∨ some f.addr = x.imageAddr2) then (f.src, f.addr) else m.fillSource x
    let rate := m.fillRate x f.site f.migration
    let behind := !f.migration && m.ctx.fills.any (fun g => g.migration && !g.started)
    let st := m.bankState f.site f.bank
    if f.started ∨ behind ∨ m.siteState f.site ≠ 2 ∨ !m.fillMay f src rate then m
    else if st = 1 ∨ st = 3 then m.bankEvent f.site f.bank 1 f.ctx
    else
      let m1 := m.remap f.site (fun a => decide ((regionOf a).bank = f.bank) && (uncorrBit a = 3))
      let m2 := ((m1.setBank f.site f.bank 1).wr (if f.bank = 1 then Reg.tineBankCtx_ctxA else Reg.tineBankCtx_ctxB) f.ctx [f.site]).wr
        Reg.tineFillProgress_fillGranules 0 [f.site]
      let m3 := (m2.loseRange f.site (weightBase f.bank) 0x1400000).loseRange f.site (progBase f.bank) 0x10000
      ((m3.bookStart f src rate).modFill i (fun f => { f with started := true, src := src, addr := addr, rate := rate })).refreshAll

/-- The other copy of a context's image than the one at an address; `none` when there is none (R171). -/
def Ctx.otherCopy (x : Ctx) (a : Nat) : Option Nat :=
  if x.tier = 2 then
    if x.imageAddr2 = some a then some x.imageAddr else if a = x.imageAddr then x.imageAddr2 else none
  else none

/-- A fill ends FAULTED, is counted (R86), and makes way for what follows it. -/
def Module.fillFails (m : Module) (f : Fill) (next : List Fill) : Module :=
  let m1 := (m.setBank f.site f.bank 4).count Reg.ctxFillFaults_fillFaults
  { m1 with ctx := { m1.ctx with fills := m1.ctx.fills.filter (fun g => !(g.site = f.site && g.bank = f.bank)) ++ next } }

/-- A fill that an in-transit fault ended is asked for once more; a second such failure retires the Tine (R171). -/
def Module.fillFaulted (m : Module) (f : Fill) : Module :=
  if f.retry then
    let (fid, m1) := (m.fillFails f []).newFault
    m1.retire f.site 3 fid
  else m.fillFails f [{ f with started := false, pos := 0, retry := true }]

/-- A granule of the copy a fill reads was uncorrectable (R171): the bank is refilled from the other copy, or, with no other
that is good, the context latches. -/
def Module.fillPoisoned (m : Module) (f : Fill) : Module :=
  match (m.ctxOf f.ctx).otherCopy f.addr with
  | some o =>
    if f.bad then (m.fillFails f []).latch f.ctx
    else
      let src := match m.place o with
        | .cxl p => p + 1
        | _ => 0
      m.fillFails f [{ f with started := false, pos := 0, bad := true, addr := o, src := src }]
  | none => (m.fillFails f []).latch f.ctx

/-- Index of the fill that runs into a bank of a site in service (R86). -/
def Module.fillAt (m : Module) (s b : Nat) : Option Nat :=
  if m.siteState s = 2 ∨ m.siteState s = 3 ∨ m.siteState s = 4 then
    m.ctx.fills.findIdx? (fun f => f.site = s && f.bank = b && f.started)
  else none

/-- FILL_GRANULE (R86, R171, R174): the next granule of the fill into bank b is read, crosses the mesh and is written, or is
poisoned; `e` is what befalls it on its way. -/
def Module.fillStep (m : Module) (s b : Nat) (e : MemFault) : Module :=
  match m.fillAt s b with
  | none => m
  | some i =>
    match m.ctx.fills[i]? with
    | none => m
    | some f =>
      let x := m.ctxOf f.ctx
      let sl := x.slice f.slice
      if sumN sl.fillParts ≤ f.pos then m
      else
        let (a, src) := m.fillGranule f.ctx x f.slice b f.pos
        let (d, bad, m1) := match src with
          | .inr d =>
            let (g, m1) := m.meshPath e.mesh (d, 0)
            (g.1, decide (g.2 ≠ 0), m1)
          | .inl o => m.devReadVia (f.addr + o) 2 (if (x.otherCopy f.addr).isSome && !f.bad then sevRecovered else sevDegraded) e
        if bad then m1.fillPoisoned f
        else
          let m2 := m1.twrite s a (toLe 16 d)
          let m3 := if sl.progWords ≤ f.pos then m2.count Reg.tineFillProgress_fillGranules 1 [s] else m2
          m3.modFill i (fun f => { f with pos := f.pos + 1 })

/-- A GDDR7 copy re-created after a fill from CXL when the pool has room (R171). -/
def Module.recache (m : Module) (c src : Nat) : Module :=
  let x := m.ctxOf c
  if src ≠ 0 ∧ x.tier = 2 ∧ x.imageAddr2.isNone then
    match m.alloc 0 (16 * x.imageGranules) with
    | .ok a => (m.copyImage x.imageAddr a (16 * x.imageGranules)).setCtx c { x with imageAddr2 := some a }
    | .error _ => m
  else m

/-- FILL_END (R86, R166, R171, R179): READY when every granule has come, otherwise FAULTED with its record. -/
def Module.fillEnd (m : Module) (s b : Nat) : Module :=
  match m.fillAt s b with
  | none => m
  | some i =>
    match m.ctx.fills[i]? with
    | none => m
    | some f =>
      let x := m.ctxOf f.ctx
      if f.pos = sumN (x.slice f.slice).fillParts then
        let tag := match x.img with
          | some g => g.tag
          | none => 0
        let m1 := ((m.setBank s b 2).count Reg.ctxFills_fills).modTine s (fun t =>
          t.setBank b { ctx := f.ctx, slice := f.slice, tag := tag, gen := x.loadGen })
        let m2 : Module := { m1 with ctx := { m1.ctx with fills := m1.ctx.fills.eraseIdx i } }
        let m3 := if f.migration then m2.count Reg.ctxMigrations_migrations else m2
        (m3.recache f.ctx f.src).refreshAll.pokeWaiters
      else ((m.bankEvent s b 3 f.ctx).fillFaulted f).refreshAll

/-- FILL_ABORT (R86): the Cirque gives the fill up and the bank returns to EMPTY. -/
def Module.fillAbort (m : Module) (s b : Nat) : Module :=
  if (m.fillAt s b).isSome then (m.dropFills (fun f => f.site = s && f.bank = b && f.started)).refreshAll else m

/-! ### Bank switches (R88, R89) -/

/-- A stage that was dispatched starts on site s. -/
def Module.startStage (m : Module) (s : Nat) (d : Dispatch) : Module :=
  (m.wr Reg.tineSeqStatus_stageActive 1 [s]).modTine s (fun t =>
    { t with waiting := none, last := d
             seq := { Seqr.reset with nextPc := d.entry, disp := d }
             inbound := t.inbound.filter (fun f => f.req = d.req) })

/-- BANK_SWITCH_END (R88, R89): the header and the words prefetched are read; the target runs, or is FAULTED and no bank
runs, and the Tine reports the stage that waited for it as stopped by the bank or the program store (R94, R411). The rows marked
before it in the working store and program stores are remapped (R85), and nothing of the working store is preserved (R84). -/
def Module.switchEnd (m : Module) (s : Nat) (env : OpEnv) : Module :=
  if !(m.rdB Reg.tineBankStatus_switching [s]) || (m.tine s).report.isSome then m
  else
    let m0 : Module := { m with sram := m.sram.upsets (env.upsets.map (fun p => (sramKey s 0 / 16 + p.1, p.2))) }
    let b := (m.tine s).switchTo
    let old := m.runBank s
    let (h, f1, m1) := (m0.remap s (fun a => uncorrBit a ≠ 3)).sramGranules s 16 (tableBase b + 512)
    let (_, f2, m2) := m1.sramGranules s 64 (progBase b)
    let m3 := m2.loseRange s 0x4000000 0x800000
    let ok := decide (f1 = []) && decide (f2 = []) && decide ((h.headD 0) % 2 ^ 16 = m.bankCtx s b)
    let m4 := (if old = 0 ∨ old = b then m3 else m3.setBank s old 2).clr Reg.tineBankStatus_switching [s]
    let m5 := m4.modTine s (fun t => { t with engines := [], seq := { t.seq with tokens := [], c := [] } })
    if ok then
      let m6 := (m5.setBank s b 3).wr Reg.tineBankStatus_runningBank b [s]
      match (m.tine s).waiting with
      | some d => m6.startStage s d
      | none => m6
    else
      let m6 := (m5.setBank s b 4).wr Reg.tineBankStatus_runningBank 0 [s]
      let (code, a) := (f1 ++ f2).headD (0x100, tableBase b + 512)
      match (m.tine s).waiting with
      | some d => ((m6.modTine s (fun t => { t with waiting := none, last := d })).stageFault s { m.flt s code with addr := a }).refreshAll
      | none => m6.refreshAll

/-! ### LOAD_IMAGE (R168 to R170) -/

/-- The first reserved field or value of a load parameter block that is wrong: its byte offset (R168, R170). -/
def paramBad (p : List Nat) : Option Nat :=
  let b2 := p.getD 2 0
  [(decide (b2 < 64 ∧ b2 / 4 % 4 ≠ 3 ∧ b2 % 4 ≠ 3), 2), (decide (p.getD 3 0 < 4), 3), (zeros p 4 4, 4),
   (decide (leAt p 8 8 % 16 = 0), 8), (decide (p.getD 16 0 < 2), 16), (zeros p 17 7, 17), (zeros p 36 4, 36),
   (decide (leAt p 40 2 < 2 ^ 14), 40), (decide (leAt p 44 2 < 2 ^ 14), 44), (decide (leAt p 48 2 < 2 ^ 14), 48),
   (decide (leAt p 52 2 < 2 ^ 14), 52), (zeros p 56 72, 56)].findSome? (fun (q : Bool × Nat) => if q.1 then none else some q.2)

/-- The lowest ID from k on that is ABSENT, among n. -/
def freeId (t : SMap Ctx) : Nat → Nat → Option Nat
  | 0, _ => none
  | n + 1, k => if (SMap.get Ctx.blank t k).state = 0 then some k else freeId t n (k + 1)

/-- A LOAD_IMAGE is accepted or refused (steps 1 and 2 of R169): parameter block p, from queue q. -/
def Module.loadImage (m : Module) (q cid : Nat) (p : List Nat) : Module :=
  let want := leAt p 0 2
  let b2 := p.getD 2 0
  let tier := b2 / 4 % 4
  let pairing := b2 % 4
  let key := m.ownerKey q
  let id? := if want = 0xFFFF then freeId m.ctx.table 0xFFFF 0 else some want
  match paramBad p with
  | some o => m.finish q cid (fmtMismatch 0x010A o 0)
  | none =>
    match id? with
    | none => m.finish q cid (Compl.of 0x0D 0x01 0 0)
    | some c =>
      let x := m.ctxOf c
      let reload := decide ((x.state = 2 ∨ x.state = 3) ∧ x.latch ≠ 0 ∧ x.inFlight = 0 ∧ x.owner = key)
      let bound := (m.queue q).binds.elem c
      let len := leAt p 24 8
      let gr := ceilDiv len 16
      if x.state ≠ 0 ∧ !reload then m.finish q cid (rejectCtx 0x01 x.state)
      else if !bound ∧ ((m.queue q).binds.length ≥ 1024 ∨ m.bindUsed ≥ 1048576) then m.finish q cid (Compl.of 0x0D 0x02 0 0)
      else if 2 ^ 36 < len then m.finish q cid (lengthExceeds 0x12 len)
      else if pairing = 2 ∧ !(m.rdB Reg.cxlPortStatus_ready [0]) ∧ !(m.rdB Reg.cxlPortStatus_ready [1]) then
        m.finish q cid (rejectCtx 0x08 x.state)
      else
        let m0 := if reload then m.freeBanks c else m
        let base : Ctx := { Ctx.blank with
          state := 1, loadGen := (x.loadGen + 1) % 2 ^ 32, owner := key, tier := tier, latClass := p.getD 3 0 % 4
          pairing := if pairing = 1 then 1 else if pairing = 2 then 2 else 0, sealedCtx := decide (pairing = 2)
          lastUse := x.lastUse
          remote := (List.range 4).map (fun i => (leAt p (40 + 4 * i) 2 % 2 ^ 14, leAt p (42 + 4 * i) 2)) }
        let m1 := m0.setCtx c base
        let (a1, m2) := m1.allocOr (if tier = 0 then 0 else 1) len
        let fail := fun (q' e : Nat) => (m.dropCtx c).setCtx c { Ctx.blank with loadGen := base.loadGen } |>.finish q cid (tooLarge (0x07 + 256 * q') e)
        match a1 with
        | .error e => fail (if tier = 0 then 0 else 1) e
        | .ok addr =>
          let m3 := m2.setCtx c { base with imageAddr := addr, imageGranules := gr }
          let (a2, m4) := if tier = 2 then m3.allocOr 0 len else (.ok addr, m3)
          match a2 with
          | .error e => fail 0 e
          | .ok addr2 =>
            let ld : Load := { queue := q, cid := cid, fillNow := bitB b2 5, allowSpill := bitB b2 4, srcAddr := leAt p 8 8,
                               srcDevice := bitB (p.getD 16 0) 0, srcLen := len, kvReq := leAt p 32 4, reload := reload }
            let m5 := m4.setCtx c { base with imageAddr := addr, imageGranules := gr, imageAddr2 := if tier = 2 then some addr2 else none }
            let m6 := if bound then m5 else m5.setBinds q (c :: (m5.queue q).binds)
            { m6 with ctx := { m6.ctx with loads := SMap.ins c ld m6.ctx.loads } }

/-- A load that fails: ABSENT, storage freed (R166). -/
def Module.loadFail (m : Module) (c : Nat) (ld : Load) (cm : Compl) : Module := (m.dropCtx c).finish ld.queue ld.cid cm

/-- The bytes a load copies: those the host's memory gave, or those of the host region (R168, R206). -/
def Module.loadBytes (m : Module) (ld : Load) (bytes : List Nat) : List Nat × Bool × Module :=
  if ld.srcDevice then
    if ld.srcAddr + ld.srcLen ≤ m.rd Reg.memHostRegion_size256m * 2 ^ 28 then m.devBytes 0 ld.srcAddr ld.srcLen
    else ([], true, m.addrInvalid 0x67 ld.srcAddr ld.srcLen)
  else (bytes.take ld.srcLen, false, m)

/-- Steps 4 to 8 of R169 on a copy `b`: what fails first, or the module with the context loaded. -/
def Module.loadChecked (m : Module) (c : Nat) (ld : Load) (b : List Nat) (bad : Bool) : Except Compl Module :=
  let x := m.ctxOf c
  let g := imageOf b
  let kv := if ld.kvReq = 0 then g.kvMin else ld.kvReq
  let spill := sumN (g.slices.map Slice.spillLen)
  if leAt b 16 8 ≠ ld.srcLen then .error (lengthExceeds 0x12 (leAt b 16 8))
  else if bad then .error (Compl.of 0x07 0x03 0 0)
  else match (m.imageAuth b).orElse (fun _ => m.imageBad b (x.remote.map (fun (r : Nat × Nat) => r.1 + 2 ^ 16 * r.2))) with
  | some e => .error e
  | none =>
    let x1 : Ctx := { x with img := some g, spill := decide (spill ≠ 0), kvGranules := kv, state := 2 }
    let (ka, m1) := if kv = 0 then (.ok 0, m) else (m.setCtx c { x1 with kvGranules := 0, state := 1 }).allocOr 0 (16 * kv)
    match ka with
    | .error e => .error (tooLarge 0x0007 e)
    | .ok kvAddr =>
      let x2 : Ctx := { x1 with kvAddr := kvAddr }
      let ck := kv + 4096
      let free := fun t => sumN ((m1.runs t).map Prod.snd)
      let port := if free 3 > free 2 then 3 else 2
      let (ca, m2) := if x.sealedCtx then ((m1.setCtx c x2).alloc port (16 * ck), m1.setCtx c x2) else (.ok 0, m1.setCtx c x2)
      match ca with
      | .error _ => .error (tooLarge 0x0107 (16 * ck - maxN ((m1.runs 1).map Prod.snd)))
      | .ok ckAddr =>
        let x3 : Ctx := { x2 with ckptAddr := ckAddr, ckptGranules := if x.sealedCtx then ck else 0 }
        match m.tooFew x3 with
        | some n => .error (tooLarge 0x05 n)
        | none =>
          if spill ≠ 0 ∧ !ld.allowSpill then .error (tooLarge 0x06 spill)
          else
            let dev := (m2.dev.zero (kvAddr / 16) kv).zero (ckAddr / 16) (if x.sealedCtx then ck else 0)
            let sec := if x.sealedCtx then
                { m2.sec with nonces := m2.sec.nonces + 1
                              ctxNonce := SMap.ins c ((Config.nonceBase m2.sec.nonces).toNat, 0) m2.sec.ctxNonce }
              else m2.sec
            .ok (({ m2 with dev := dev, sec := sec } : Module).setCtx c x3)

/-- LOAD_IMAGE_COPIED (R169, R170): the copy of context c is complete; the checks run on it, and the load completes. -/
def Module.loadCopied (m : Module) (c : Nat) (bytes : List Nat) : Module :=
  match SMap.find? m.ctx.loads c with
  | none => m
  | some ld =>
    let x := m.ctxOf c
    let (b, bad, m1) := m.loadBytes ld bytes
    let m2 := ([x.imageAddr] ++ x.imageAddr2.toList).foldl (fun m a => m.putImage a x.imageGranules b) m1
    match m2.loadChecked c ld b bad with
    | .error e => m2.loadFail c ld e
    | .ok m3 =>
      let m4 : Module := { m3 with ctx := { m3.ctx with loads := SMap.del c m3.ctx.loads } }
      let m5 := if ld.fillNow then (m4.place? c).getD m4 else m4
      m5.finish ld.queue ld.cid (Compl.of 0 0 c 0)

/-! ### EVICT and PIN (R178, R179, R259) -/

/-- EVICT, taken from queue q. -/
def Module.evict (m : Module) (q cid c level : Nat) : Module :=
  let x := m.ctxOf c
  if 1 < level then m.finish q cid (denied 0x15 c)
  else if c = 0xFFFF then m.finish q cid (denied 0x1C c)
  else if !((m.queue q).binds.elem c) then m.finish q cid (denied 0x14 c)
  else if x.state = 1 then
    match SMap.find? m.ctx.loads c with
    | some ld => ((m.dropCtx c).finish ld.queue ld.cid (Compl.of 0x08 0 0 0)).finish q cid Compl.done
    | none => (m.dropCtx c).finish q cid Compl.done
  else if x.state = 5 then m.finish q cid (rejectCtx 0x16 5)
  else if x.pin ≥ 2 then m.finish q cid (rejectCtx 0x09 x.state)
  else if x.state = 4 then
    let w : Waiter := { kind := 0, queue := q, cid := cid, ctx := c, level := level }
    let m1 := m.setCtx c { x with state := 5 }
    { m1 with ctx := { m1.ctx with waiters := m1.ctx.waiters ++ [w] } }
  else (m.evictNow c level).finish q cid Compl.done

/-- The GDDR7 copy that PIN 1 and 2 keep: created when there is none, or the shortfall. -/
def Module.pinCopy (m : Module) (c : Nat) : Except Nat Module :=
  let x := m.ctxOf c
  if x.tier = 0 ∨ x.imageAddr2.isSome then .ok m
  else
    let (a, m1) := m.allocOr 0 (16 * x.imageGranules)
    match a with
    | .error e => .error e
    | .ok a => .ok ((m1.copyImage x.imageAddr a (16 * x.imageGranules)).setCtx c { x with tier := 2, imageAddr2 := some a })

/-- PIN, taken from queue q. -/
def Module.pin (m : Module) (q cid c level : Nat) : Module :=
  let x := m.ctxOf c
  if 2 < level then m.finish q cid (denied 0x15 c)
  else if c = 0xFFFF then m.finish q cid (denied 0x1C c)
  else if !((m.queue q).binds.elem c) then m.finish q cid (denied 0x14 c)
  else if x.state = 1 ∨ x.state = 5 then m.finish q cid (rejectCtx 0x16 x.state)
  else if level = 0 then (m.setCtx c { x with pin := 0 }).finish q cid Compl.done
  else match m.pinCopy c with
    | .error e => m.finish q cid (tooLarge 0x07 e)
    | .ok m1 =>
      let y := m1.ctxOf c
      if level = 1 then (m1.setCtx c { y with pin := 1 }).finish q cid Compl.done
      else match m1.tooFew y with
        | some n => m1.finish q cid (tooLarge 0x05 n)
        | none =>
          let m2 := (m1.place? c).getD m1
          if m2.pinClash c then
            m1.finish q cid (rejectCtx 0x09 y.state)
          else
            let w : Waiter := { kind := 1, queue := q, cid := cid, ctx := c, level := 2 }
            ({ m2 with ctx := { m2.ctx with waiters := m2.ctx.waiters ++ [w] } } : Module).pokeWaiters

/-- A descriptor as it reads: the device's own context 0xFFFF is cold (R183). DESIGN CHOICE: its other fields, of which the
spec says nothing, read as those of a context in which nothing is loaded. -/
def Module.shownCtx (m : Module) (c : Nat) : Ctx := if c = 0xFFFF then { Ctx.blank with pairing := 2 } else m.ctxOf c

/-- CTX_LATCH_VIEW: the 128 bytes of a descriptor (R165); the owner key of context 0xFFFF reads zero. -/
def Module.descBytes (m : Module) (c : Nat) (hideKey : Bool) : List Nat :=
  let x := m.shownCtx c
  let tag := match x.img with
    | some g => g.tag
    | none => 0
  toLe 2 c ++ [x.state, x.pairing + 4 * ofB x.sealedCtx + 8 * x.pin + 128 * ofB x.placed] ++ toLe 4 tag ++ toLe 8 x.imageAddr ++
    toLe 8 (x.imageAddr2.getD 0) ++ toLe 4 x.imageGranules ++ toLe 8 x.kvAddr ++ toLe 4 x.kvGranules ++ toLe 3 x.maxIn ++
    [x.latClass + 4 * ofB x.spill + 8 * x.tier, x.tset, x.firstRank, x.sliceCount, x.latch] ++ toLe 8 x.bankMask ++
    toLe 8 (if hideKey then 0 else x.owner) ++
    (((List.range 4).map (fun i => let r := x.remote.getD i (0, 0); toLe 2 r.1 ++ toLe 2 r.2)).flatten) ++
    toLe 8 x.ckptAddr ++ toLe 4 x.ckptGranules ++ toLe 4 x.loadGen ++ toLe 4 x.lastUse ++ toLe 2 x.inFlight ++ List.replicate 26 0

/-- Granules of the Cirque's SRAM as they are read, where bits have flipped: granule index, pattern (R191): a corrected one is
written back and counted; an uncorrectable one is poisoned and counted, and in a table of the Cirque it is fatal (R420):
`table` names it. DESIGN CHOICE: tables are numbered in the order in which R420 lists them, the context table 0. -/
def Module.cirqueRead (m : Module) (table : Nat) (errs : List (Nat × Nat)) (b : List Nat) : List Nat × Module :=
  errs.foldl (fun a e =>
    let g := leAt a.1 (16 * e.1) 16
    let d := g ^^^ (e.2 % 2 ^ 128)
    let s := codeSynd e.2
    match codeDecode s with
    | .clean => a
    | .poison => a
    | .uncorr => (a.1.take (16 * e.1) ++ toLe 16 d ++ a.1.drop (16 * e.1 + 16), (a.2.count Reg.memCirqueUncorr_count).report
        ((LogRec.of 0x16 0 sevFatal 0x74 table).at 0 [s]))
    | _ => (a.1, a.2.count Reg.memCirqueCorr_count)) (b, m)

/-- CTX_LATCH_VIEW: the descriptor is read from the context table in Cirque SRAM. -/
def Module.latchView (m0 : Module) (errs : List (Nat × Nat)) : Module :=
  let c := m0.rd Reg.ctxSel_ctxId
  let (d, m) := m0.cirqueRead 0 (errs.filter (fun e => e.1 < 8)) (m0.descBytes c (decide (c = 0xFFFF)))
  let m1 := iter 32 (fun i m => m.wr Reg.ctxDesc_word (leAt d (4 * i) 4) [i]) m
  (m1.set1 Reg.ctxViewStatus_viewValid).wr Reg.ctxViewStatus_state (m.ctxOf c).state

/-! ### Migration (R180 to R182) -/

/-- Every Tine set with site s replaced, or lost (R130). -/
def Module.swapMember (m : Module) (s p : Nat) : Module :=
  { m with str := { m.str with sets := m.str.sets.map (fun t => { t with members := t.members.map (fun x => if x = s then p else x) }) } }

/-- The earliest deadline of the accepted requests of the contexts that hold bank b of site s, in fabric cycles; `none`
without one. -/
def Module.bankDue (m : Module) (s b : Nat) (cs : List Nat) : Option Nat :=
  let here := cs.filter (fun c => let x := m.ctxOf c
                                  (List.range x.sliceCount).any (fun i => decide (m.siteOf x i = some s) && decide (x.bankOf i = b)))
  m.host.reqs.foldl (fun (a : Option Nat) (p : Nat × Req) =>
    if p.2.counted ∧ p.2.ctxs.any here.elem then
      let d := 8192 * p.2.accRound + p.2.accCycle + 1600 * p.2.budgetUs
      some (match a with
        | some e => min e d
        | none => d)
    else a) none

/-- The bank of a leaving site whose slice moves first (R181): the running one, or, once it has gone, that of the stage last
dispatched, unless the other bank's context holds the earlier-due request. -/
def Module.firstBank (m : Module) (s : Nat) (cs : List Nat) : Nat :=
  let d := (m.tine s).last
  let run := if m.runBank s ≠ 0 then m.runBank s else if cs.elem d.ctx then (m.ctxOf d.ctx).bankOf d.slice else 1
  match m.bankDue s run cs, m.bankDue s (3 - run) cs with
  | some a, some b => if b < a then 3 - run else run
  | none, some _ => 3 - run
  | _, none => run

/-- MIGRATION_START (R180, R181): the slices of a site that leaves service move to its substitute's bank of the same
letter, the running bank's first; with no substitute the set shrinks and the contexts lose their placement (R182). -/
def Module.migrate (m : Module) (s : Nat) : Module :=
  match m.ctx.migs.find? (fun g => g.site = s && !g.started) with
  | none => m
  | some g =>
    let hit := (m.ctx.table.filter (fun (p : Nat × Ctx) => p.2.placed && (m.sitesOf p.2).elem s)).map Prod.fst
    let first := m.firstBank s hit
    let m1 := (m.dropFills (fun f => f.site = s)).swapMember s g.target
    let m2 : Module := { m1 with ctx := { m1.ctx with migs := m1.ctx.migs.map (fun x => if x = g then { x with started := true } else x) } }
    if g.target ≥ 72 then
      (hit.foldl (fun m c => m.freeBanks c true) m2).refreshAll
    else
      let fills := ([first, 3 - first].map (fun b => (hit.map (fun c =>
        let x := m.ctxOf c
        (List.range x.sliceCount).filterMap (fun i =>
          if m.siteOf x i = some s ∧ x.bankOf i = b then
            let f : Fill := { site := g.target, bank := b, ctx := c, slice := i, started := false, pos := 0, src := 0, addr := 0,
                              rate := 0, migration := true, retry := false, bad := false }
            some f
          else none))).flatten)).flatten
      ({ m2 with ctx := { m2.ctx with fills := fills ++ m2.ctx.fills } } : Module).refreshAll

/-- MIGRATION_DONE (R91): once no slice of a retiring site waits to be filled elsewhere, the site is RETIRED. -/
def Module.migrated (m : Module) (s : Nat) : Module :=
  match m.ctx.migs.find? (fun g => g.site = s && g.started) with
  | none => m
  | some g =>
    if m.ctx.fills.any (fun f => f.migration && f.site = g.target) then m
    else
      let m1 : Module := { m with ctx := { m.ctx with migs := m.ctx.migs.filter (fun x => x ≠ g) } }
      if m.siteState s = 4 then m1.retired s (m.tine s).cause else m1

end Sys2Proof.Machine
end

