-- ==== Sys2Proof/Machine/Requests.lean ====
section
/-! DEFINITION. A request's stages: dispatch, end, and what follows a fault that ends one (R62, R162, R219, R409 to
R413). -/

namespace Sys2Proof.Machine

/-- The request with an ID, if in flight. -/
def Module.req? (m : Module) (id : Nat) : Option Req := SMap.find? m.host.reqs id

/-- The context a request runs now. -/
def Req.ctx (r : Req) : Nat := r.chain.headD 0

/-- Slices that take part in a request's stage, with their sites. -/
def Module.stageSites (m : Module) (r : Req) : List (Nat × Nat) :=
  let x := m.ctxOf r.ctx
  let parts := match x.img with
    | some g => g.participants r.stage
    | none => []
  parts.filterMap (fun i => (m.siteOf x i).map (fun s => (i, s)))

/-- How many slices take part in a request's stage. -/
def Module.stageWidth (m : Module) (r : Req) : Nat :=
  match (m.ctxOf r.ctx).img with
  | some g => (g.participants r.stage).length
  | none => 0

/-! ### Dispatch (R88, R219, R411) -/

/-- An unfinished request's block comes before this request's on one of its sites (R219). A re-execution goes first
(R411). -/
def Module.queuedBehind (m : Module) (id : Nat) (sites : List Nat) : Bool :=
  let mine := (m.adm.blocks.find? (fun b => b.req = id)).map Block.start
  m.adm.blocks.any (fun b => decide (b.req ≠ id) && b.sites.any (fun s => sites.elem s) &&
    (match mine with
      | some k => decide (b.start < k)
      | none => false) &&
    (match m.req? b.req with
      | some r => decide (r.phase = 1)
      | none => false))

/-- Site s can take a stage of a context in bank b: it is ACTIVE, holds the slice, no switch runs, its last report was
taken, and it is idle or its bank must switch at the running stage's end. -/
def Module.siteReady (m : Module) (c i s b : Nat) : Bool :=
  let t := m.tine s
  decide (m.siteState s = 2) && m.holds c (m.ctxOf c) i s b && !(m.rdB Reg.tineBankStatus_switching [s]) && t.report.isNone &&
    t.waiting.isNone && (!(m.rdB Reg.tineSeqStatus_stageActive [s]) || decide (m.bankState s b ≠ 3))

/-- One slice's dispatch: the stage starts, or waits for its bank to be switched to, now or at the running stage's end. -/
def Module.dispatchSlice (m : Module) (r : Req) (id i s : Nat) : Module :=
  let c := r.ctx
  let x := m.ctxOf c
  let b := x.bankOf i
  let d : Dispatch := { ctx := c, stage := r.stage, req := id, attempt := r.attempt, slice := i,
                        entry := (x.slice i).entries.getD r.stage 0xFFFF, words := (x.slice i).progWords, seed := r.seed,
                        flat := r.flat, inLen := r.inLen }
  let m1 := m.emit (.dispatched s c r.stage id r.attempt)
  if m.bankState s b = 3 then m1.startStage s d
  else
    let m2 := (m1.modTine s (fun t => { t with waiting := some d })).emit (.switchCmd s b)
    if m.rdB Reg.tineSeqStatus_stageActive [s] then m2.modTine s (fun t => { t with heldSwitch := b }) else m2.startSwitch s b

/-- STAGE_DISPATCH: the next stage of request id on every slice that takes part. -/
def Module.dispatchStage (m : Module) (id : Nat) : Module :=
  match m.req? id with
  | none => m
  | some r =>
    let ss := m.stageSites r
    let x := m.ctxOf r.ctx
    let stopped := m.silent || (match m.pair.handover with
      | some h => m.pairState = 3 && decide (h ≤ m.hub.round % 2 ^ 32)
      | none => false)
    let go := !stopped && decide (r.phase = 1) && !r.running && r.result.isNone && decide (r.hold = 0) && decide (ss ≠ []) &&
      decide (ss.length = m.stageWidth r) && ss.all (fun p => m.siteReady r.ctx p.1 p.2 (x.bankOf p.1)) &&
      (r.lastFault.isSome || !(m.queuedBehind id (ss.map Prod.snd)))
    if go then
      let m1 := ss.foldl (fun m p => m.dispatchSlice r id p.1 p.2) m
      (m1.setCtx r.ctx { m1.ctxOf r.ctx with lastUse := m.hub.round % 2 ^ 32 }).modReq id (fun r => { r with running := true, ends := [] })
    else m

/-! ### Stopping a stage (R409) -/

/-- The stage of request id stopped on every site, and its stream granules discarded wherever they wait. -/
def Module.stopAll (m : Module) (id : Nat) : Module :=
  let m1 := (List.range 72).foldl (fun m s =>
    let t := m.tine s
    let here := decide (t.last.req = id) && (m.rdB Reg.tineSeqStatus_stageActive [s] || t.report.isSome)
    let held := match t.waiting with
      | some d => decide (d.req = id)
      | none => false
    let m1 := if held then m.modTine s (fun t => { t with waiting := none, heldSwitch := 0 }) else m
    if here then m1.stopStage s else m1) m
  { m1 with
    mesh := m1.mesh.filter (fun f => f.req ≠ id)
    tines := m1.tines.map (fun (p : Nat × Tine) =>
      let t : Tine := { p.2 with inbound := p.2.inbound.filter (fun f => f.req ≠ id) }
      (p.1, t)) }

/-- The stage is to run again under a new attempt number: the OUTPUT granules it wrote after the last release point are
discarded (R409). DEDUCED: those of the stages that ended before it stand, for they are not written again. -/
def Module.restart (m : Module) (id : Nat) : Module :=
  (m.stopAll id).modReq id (fun r => { r with running := false, ends := [], attempt := r.attempt + 1, held := [] })

/-- A request ends with a status: its stage stops, nothing more is released (R117, R118). -/
def Module.failReq (m : Module) (id status detail value2 : Nat) : Module :=
  match m.req? id with
  | none => m
  | some r => (m.stopAll id).complete id (Compl.of status detail r.released value2)

/-- A request ends because a package cannot be reached (R263). -/
def Module.failUnreachable (m : Module) (id pkg : Nat) : Module := (m.stopAll id).complete id (Compl.of 0x09 0 pkg 0)

/-! ### Faults charged (R240, R413) -/

/-- A migration under class NONE is a fault the class does not cover (R240). -/
def Module.uncover (m : Module) (s : Nat) : Module :=
  { m with host := { m.host with reqs := m.host.reqs.map (fun (p : Nat × Req) =>
      let uses := p.2.counted && decide (p.2.cls = 2) && m.adm.blocks.any (fun b => b.req = p.1 && b.sites.elem s)
      if uses then (p.1, { p.2 with uncovered := true }) else p) } }

/-! ### Reports of faults (R409, R411, R412) -/

/-- The record a fault writes (R420): class, severity, SUB, DETAIL. -/
def faultClass (code : Nat) : Nat := if code = 0x200 then 0x01 else if code = 0x201 then 0x02 else if code < 0x100 then 0x08 else 0x03

/-- Region number of an SRAM address in an SRAM_UNCORR record (R420). -/
def sramRegion (a : Nat) : Nat :=
  match regionOf a with
  | .weightA | .tableA => 0
  | .weightB | .tableB => 1
  | .progA => 3
  | .progB => 4
  | _ => 2

/-- The record of a fault that site s reported. -/
def Module.faultRec (m : Module) (s : Nat) (d : Dispatch) (f : StageFault) : LogRec :=
  let r := m.req? d.req
  let base := LogRec.of (faultClass f.code) 0 (if f.code < 0x100 then sevInfo else sevRecovered) s
    (if f.code < 0x100 then d.slice else if f.code < 0x200 then sramRegion f.addr else f.sub)
  { base with
    reqValid := r.isSome, ctxId := d.ctx, addr := f.addr
    cid := match r with
      | some r => r.cid
      | none => 0
    queue := match r with
      | some r => r.queue
      | none => 0
    fabric := match r with
      | some r => decide (r.origin = 1)
      | none => false
    detail := if f.code < 0x100 then [f.code, f.pc, f.stageId] ++ f.detail else f.detail }

/-- The bank of a faulted slice is asked for again from the image, once (R171, R411). -/
def Module.refill (m : Module) (c i s b : Nat) : Module :=
  let f : Fill := { site := s, bank := b, ctx := c, slice := i, started := false, pos := 0, src := 0, addr := 0, rate := 0,
                    migration := false, retry := true, bad := false }
  if m.ctx.fills.any (fun g => g.site = s && g.bank = b) then m else { m with ctx := { m.ctx with fills := m.ctx.fills ++ [f] } }

/-- What follows a fault of code `code` on site s, the first time or again (R411). -/
def Module.recover (m : Module) (id s fid : Nat) (d : Dispatch) (f : StageFault) (again : Bool) : Module :=
  let x := m.ctxOf d.ctx
  let src := leNat f.detail
  let reexec := fun (m : Module) => (m.restart id).count Reg.safReexec_count
  let sender := m.siteOf x src
  let remote := (x.remote.getD ((src - 0x10000) / 256) (0, 0)).1
  if f.code = 0x09 then
    if src < 0x10000 then
      match sender with
      | some p => let m1 := (reexec m).chargeSite p fid
                  if again then m1.retire p 6 fid else m1
      | none => reexec m
    else if again then m.failUnreachable id remote
    else (reexec m).charge fid (fun k _ => k = id)
  else if f.code < 0x100 then m.failReq id 0x07 0x19 f.code
  else if f.code < 0x102 then
    if again then (reexec m).retire s (if f.code = 0x100 then 3 else 5) fid
    else
      let b := (regionOf f.addr).bank
      let b := if regionOf f.addr = .progA then 1 else if regionOf f.addr = .progB then 2 else if b = 0 then x.bankOf d.slice else b
      if b = x.bankOf d.slice then (reexec m).refill d.ctx d.slice s b
      else if m.bankState s b = 4 then (reexec m).refill ((m.tine s).bank b).ctx ((m.tine s).bank b).slice s b
      else reexec m
  else if f.code = 0x102 then (reexec m).remap s (fun a => uncorrBit a = 4)
  else if f.code = 0x200 ∨ f.code = 0x201 ∨ f.code = 0x300 then
    if again then
      let m1 := (m.restart id).modReq id (fun r => { r with hold := 4 })
      { m1 with ctx := { m1.ctx with recheck := some (id, s, d.slice, f.org) } }
    else reexec m
  else if f.code = 0x301 then
    if again then m.failUnreachable id src else (reexec m).modReq id (fun r => { r with hold := 3 })
  else reexec m

/-- STAGE_FAULT_REPORT: the Cirque takes the fault that site s reported. -/
def Module.faultReport (m : Module) (s : Nat) : Module :=
  let t := m.tine s
  match t.report with
  | some (.fault f) =>
    let d := t.last
    let m0 := m.modTine s (fun t => { t with report := none })
    match m.req? d.req with
    | none => m0.report (m.faultRec s d f)
    | some r =>
      if r.attempt ≠ d.attempt ∨ r.stage ≠ d.stage ∨ !r.running then m0.report (m.faultRec s d f)
      else
        let again := decide (r.lastFault = some (f.code, s))
        let (fid, m1) := if again then (r.faultId, m0) else if f.code = 0x300 then (f.sub, m0) else m0.newFault
        let m2 := m1.logRec { m.faultRec s d f with faultId := fid }
        let m3 := (if f.code < 0x100 then m2 else m2.chargeSite s fid).modReq d.req (fun r => { r with lastFault := some (f.code, s), faultId := fid })
        m3.recover d.req s fid d f again
  | _ => m

/-! ### Rechecking a tile (R62) -/

/-- The format a selector names in slice i of a context, by its image and the device's tables (R35). -/
def Module.imageFmt (m : Module) (x : Ctx) (i sel : Nat) : Option Fmt :=
  let tab := fun (t : List Nat) => if t ≠ [] && fmtTableOk t then some (Fmt.ofTable sel t) else none
  if sel < 0x40 then Fmt.builtin sel
  else if sel < 0x80 then tab (deviceFmt m.str.force (sel - 0x40))
  else if sel < 0x80 + (x.slice i).fmtCount ∧ sel < 0x90 then
    tab (m.dev.bytes (x.dmaAddr + (x.slice i).fmtOff + 32 * (sel - 0x80)) 32)
  else none

/-- A tile record's checksum row agrees with its weights (R59, R62). -/
def Module.tileSound (m : Module) (x : Ctx) (i : Nat) (b : List Nat) : Bool :=
  match m.imageFmt x i (b.getD 0 0) with
  | some f =>
    let t : Tile := { fmt := f, bytes := b.take (f.tileBytes (tileShared b)), addr := 0, org := none }
    t.sound
  | none => false

/-- TILE_CHECKSUM_RECHECK (R62, R411): an unsound record is a fault of the image, otherwise the Tine enters RETIRING and
the stage runs again after migration. -/
def Module.recheckTile (m : Module) : Module :=
  match m.ctx.recheck with
  | none => m
  | some (id, s, i, org) =>
    let m0 : Module := { m with ctx := { m.ctx with recheck := none } }
    match m.req? id with
    | none => m0
    | some r =>
      let x := m.ctxOf r.ctx
      let (sound, m0) : Bool × Module := match org with
        | none => (true, m0)
        | some o =>
          let (t, bad, m1) := m0.devBytes 0 (x.dmaAddr + o / 16 * 16) (min 16384 (16 * x.imageGranules - o / 16 * 16))
          (!bad && m.tileSound x i t, m1)
      let fid := r.faultId
      let bit := match r.lastFault with
        | some (c, _) => if c = 0x200 then 1 else if c = 0x201 then 2 else 9
        | none => 1
      let gone := fun (r : Req) => { r with hold := 0, lastFault := r.lastFault.map (fun p => (p.1, 72)) }
      if sound then ((m0.modReq id gone).count Reg.safReexec_count).retire s bit fid
      else ((m0.setCtx r.ctx { m0.ctxOf r.ctx with latch := 1 }).failReq id 0x07 0x17 0)

/-! ### Stage ends (R162, R254, R412) -/

/-- A transient failure of site s passed its re-execution: the fourth within 65,536 rounds retires the Tine (R412), for the
TINE_FAULT bit of that failure. -/
def Module.transient (m : Module) (s fid bit : Nat) : Module :=
  let rnd := m.hub.round
  let l := (rnd :: SMap.get [] m.saf.transients s).filter (fun k => decide (rnd < k + 65536))
  let m1 := ({ m with saf := { m.saf with transients := SMap.ins s l m.saf.transients } } : Module).count Reg.safTransient_count
  if 4 ≤ l.length then m1.retire s bit fid else m1

/-- The bytes a request has written as output. -/
def Req.outBytes (r : Req) : List Nat := ((List.range (ceilDiv r.maxEnd 16)).map (fun i => toLe 16 (SMap.get 0 r.outGrans i))).flatten.take r.maxEnd

/-- Outcome 1: the running context of a chain hands its output on (R254), or every stage has ended. -/
def Module.endContext (m : Module) (id : Nat) : Module :=
  m.modReq id (fun r =>
    if r.chain.length > 1 then
      let out := r.outBytes
      { r with chain := r.chain.drop 1, input := out, inLen := out.length, stage := 0, held := [], kept := [], maxEnd := 0, iters := [] }
    else { r with phase := 2, final := true })

/-- Every slice that takes part has reported (R162). -/
def Module.stageDone (m : Module) (id : Nat) : Module :=
  match m.req? id with
  | none => m
  | some r =>
    let (_, o, tg) := r.ends.headD (0, 0, 0)
    let agree := r.ends.all (fun e => decide (e.2.1 = o) && (decide (o ≠ 2) || decide (e.2.2 = tg)))
    let tooLong := decide (r.chain.length > 1) && decide (m.outCap r < r.maxEnd)
    let m0 := match r.lastFault with
      | some (c, s) => if (c = 0x200 ∨ c = 0x201) ∧ s < 72 then m.transient s r.faultId (if c = 0x200 then 1 else 2) else m
      | none => m
    let m1 := m0.modReq id (fun r => { r with running := false, ends := [], lastFault := none, kept := r.outGrans, held := [] })
    if !agree then m1.failReq id 0x07 0x19 0
    else match r.result with
    | some c => (m1.stopAll id).complete id c
    | none =>
      if tooLong ∧ o = 1 then (m1.stopAll id).complete id (lengthExceeds 0x11 r.maxEnd)
      else if o = 1 then m1.endContext id
      else if o = 2 then m1.modReq id (fun r => { r with stage := tg, iters := SMap.ins tg (SMap.get 0 r.iters tg + 1) r.iters })
      else
        let count := match (m.ctxOf r.ctx).img with
          | some g => g.stageCount
          | none => 0
        if r.stage + 1 < count then m1.modReq id (fun r => { r with stage := r.stage + 1 }) else m1.failReq id 0x07 0x19 0

/-- STAGE_END_REPORT: the Cirque takes the end of stage that site s reported. -/
def Module.endReport (m : Module) (s : Nat) : Module :=
  let t := m.tine s
  match t.report with
  | some (.ended outcome target flags) =>
    let d := t.last
    let m0 := m.modTine s (fun t => { t with report := none })
    match m.req? d.req with
    | none => m0
    | some r =>
      if r.attempt ≠ d.attempt ∨ r.stage ≠ d.stage ∨ !r.running then m0
      else
        let m1 := m0.modReq d.req (fun r => { r with rflags := r.rflags ||| flags, ends := r.ends ++ [(d.slice, outcome, target)] })
        if r.ends.length + 1 = m.stageWidth r then m1.stageDone d.req else m1
  | _ => m

/-- Site s still owes the Cirque the end of dispatch d. -/
def Module.owes (m : Module) (d : Dispatch) : Bool :=
  match m.req? d.req with
  | some r => r.running && decide (r.ctx = d.ctx ∧ r.attempt = d.attempt ∧ r.stage = d.stage) && !(r.ends.any (fun e => e.1 = d.slice))
  | none => false

/-- Requests whose stage is in flight on site s: executing, waiting for the bank to switch, or cut off when the site left
service (R180). -/
def Module.inFlightOn (m : Module) (s : Nat) : List Nat :=
  let t := m.tine s
  (((if t.report.isNone then [t.last] else []) ++ t.waiting.toList).filter m.owes).map Dispatch.req

/-- MIGRATION_START: the migration, its charge, and the stages in flight on the site, which run again (R180, R413). -/
def Module.migrationStart (m : Module) (s : Nat) : Module :=
  if m.ctx.migs.any (fun g => g.site = s && !g.started) then
    ((m.inFlightOn s).eraseDups).foldl (fun m id => (m.restart id).count Reg.safReexec_count)
      (((m.migrate s).chargeSite s (m.tine s).faultId).uncover s)
  else m

end Sys2Proof.Machine
end

