-- ==== Sys2Proof/Machine/Thermal.lean ====
section
/-! DEFINITION. Temperatures, throttle indices and pairs (R213, R214, R436 to R441), and the power manager's count of the
module (R431 to R433). Temperatures are in 1/64 degree. -/

namespace Sys2Proof.Machine

/-! ### Channels -/

/-- A channel after reset. -/
def ThmCh.reset : ThmCh :=
  { samples := [], idx := 0, failIdx := 0, retest := none, forced := 0, shut := false, warn := false, hot := false }

/-- Channel c. -/
def Module.ch (m : Module) (c : Nat) : ThmCh := SMap.get ThmCh.reset m.thm c

/-- Channel c changed. -/
def Module.modCh (m : Module) (c : Nat) (f : ThmCh → ThmCh) : Module :=
  { m with thm := SMap.put ThmCh.reset c (f (m.ch c)) m.thm }

/-- State of a channel: 0 NORMAL, 1 WARNING, 2 THROTTLE, 3 SHUTDOWN, 4 FAILED, 5 FORCED, 6 DISABLED. -/
def Module.chState (m : Module) (c : Nat) : Nat := m.rd Reg.thmChStatus_state [c]

/-- A field of the threshold register of channel c's class: 0 SHUTDOWN, 1 THROTTLE, 2 THROTTLE_HYST, 3 WARN_HYST,
4 WARNING (R437, R442). -/
def Module.thr (m : Module) (c k : Nat) : Nat :=
  let pick := fun (a b d e f : Fld) => match k with
    | 0 => min 115 (m.rd a)
    | 1 => m.rd b
    | 2 => m.rd d
    | 3 => m.rd e
    | _ => m.rd f
  if c < 72 then pick Reg.thmThreshTine_shutdown Reg.thmThreshTine_throttle Reg.thmThreshTine_throttleHyst
    Reg.thmThreshTine_warnHyst Reg.thmThreshTine_warning
  else if c < 88 then pick Reg.thmThreshFirn_shutdown Reg.thmThreshFirn_throttle Reg.thmThreshFirn_throttleHyst
    Reg.thmThreshFirn_warnHyst Reg.thmThreshFirn_warning
  else if c < 92 then pick Reg.thmThreshLaser_shutdown Reg.thmThreshLaser_throttle Reg.thmThreshLaser_throttleHyst
    Reg.thmThreshLaser_warnHyst Reg.thmThreshLaser_warning
  else if c < 94 then pick Reg.thmThreshCirque_shutdown Reg.thmThreshCirque_throttle Reg.thmThreshCirque_throttleHyst
    Reg.thmThreshCirque_warnHyst Reg.thmThreshCirque_warning
  else if c < 96 then pick Reg.thmThreshGuest_shutdown Reg.thmThreshGuest_throttle Reg.thmThreshGuest_throttleHyst
    Reg.thmThreshGuest_warnHyst Reg.thmThreshGuest_warning
  else pick Reg.thmThreshBoard_shutdown Reg.thmThreshBoard_throttle Reg.thmThreshBoard_throttleHyst
    Reg.thmThreshBoard_warnHyst Reg.thmThreshBoard_warning

/-- A threshold in 1/64 degree. -/
def Module.thr64 (m : Module) (c k : Nat) : Int := 64 * (m.thr c k : Int)

/-- The site in each cell of the module's grid of nine rows and columns (R14); 255: the Cirque. -/
def siteGrid : List Nat :=
  [64, 0, 1, 2, 65, 3, 4, 5, 66] ++ [6, 7, 8, 9, 10, 11, 12, 13, 14] ++ [15, 16, 17, 18, 19, 20, 21, 22, 23] ++
  [24, 25, 26, 255, 255, 255, 27, 28, 29] ++ [67, 30, 31, 255, 255, 255, 32, 33, 68] ++
  [34, 35, 36, 255, 255, 255, 37, 38, 39] ++ [40, 41, 42, 43, 44, 45, 46, 47, 48] ++
  [49, 50, 51, 52, 53, 54, 55, 56, 57] ++ [69, 58, 59, 60, 70, 61, 62, 63, 71]

/-- The Tine site in a row and column of the grid, if the cell holds one. -/
def gridSite (r c : Nat) : List Nat :=
  if r < 9 ∧ c < 9 then let s := siteGrid.getD (9 * r + c) 255; if s < 72 then [s] else [] else []

/-- Position of a site in the grid. -/
def gridPos (s : Nat) : Nat := siteGrid.findIdx (fun x => x = s)

/-- Tine sites whose cell shares an edge with site s's cell. -/
def edgeSites (s : Nat) : List Nat :=
  let r := gridPos s / 9
  let c := gridPos s % 9
  (if r = 0 then [] else gridSite (r - 1) c) ++ (if c = 0 then [] else gridSite r (c - 1)) ++ gridSite r (c + 1) ++
    gridSite (r + 1) c

/-- The channels of the neighbours of channel c's die (R440). -/
def neighboursOf (c : Nat) : List Nat :=
  if c < 72 then edgeSites c
  else if c < 80 then gridSite 0 (c - 72) ++ gridSite 0 (c - 71)
  else if c < 88 then gridSite 8 (c - 80) ++ gridSite 8 (c - 79)
  else if c < 92 then [[64, 66, 69, 71].getD (c - 88) 64]
  else if c = 92 then 93 :: [18, 19, 20, 26, 27, 31, 32, 36, 37, 43, 44, 45]
  else if c = 93 then 92 :: [18, 19, 20, 26, 27, 31, 32, 36, 37, 43, 44, 45]
  else if c = 94 then [24, 67, 34]
  else if c = 95 then [29, 68, 39]
  else []

/-- T_lo and T_hi of a list of samples (R436). -/
def ThmCh.lo (x : ThmCh) : Int := minI 0 x.samples
/-- T_hi. -/
def ThmCh.hi (x : ThmCh) : Int := maxI 0 x.samples

/-- A channel works for its neighbours' use: it has samples and is not FAILED, FORCED or DISABLED. -/
def Module.chWorks (m : Module) (c : Nat) : Bool :=
  decide ((m.ch c).samples ≠ []) && !(m.chState c == 4 || m.chState c == 5 || m.chState c == 6)

/-- The temperature of channel c's die taken from its neighbours when its channel has FAILED (R441). -/
def Module.borrowed (m : Module) (c : Nat) : Int :=
  match ((neighboursOf c).filter (fun n => m.chWorks n)).map (fun n => (m.ch n).hi) with
  | [] => m.thr64 c 1 + 640
  | l => maxI 0 l + 512

/-- T_lo and T_hi of channel c as every use takes them (R436, R441). -/
def Module.temps (m : Module) (c : Nat) : Int × Int :=
  match m.chState c with
  | 4 => if c < 96 then (m.borrowed c, m.borrowed c) else ((m.ch c).lo, (m.ch c).hi)
  | 5 => ((m.ch c).forced, (m.ch c).forced)
  | _ => ((m.ch c).lo, (m.ch c).hi)

/-- floor(x / 0.5 degree) limited to 0 to 20. -/
def halfSteps (x : Int) : Nat := (max 0 (min 20 (x / 32))).toNat

/-- Counting index of site s from its own temperature (R438). -/
def Module.countIdx (m : Module) (s : Nat) : Nat :=
  halfSteps ((m.temps s).2 + 64 * (m.rd Reg.admCtl_headroomC : Int) - m.thr64 s 1)

/-- Cap index of site s (R432). -/
def Module.capIdx (m : Module) (s : Nat) : Nat := m.rd Reg.thmChStatus_capIndex [s]

/-- Thermal index of site s: its own, raised to that of each throttled neighbour that has no throttle of its own (R438,
R439). -/
def Module.thermIdx (m : Module) (s : Nat) : Nat :=
  max (m.ch s).idx (maxN (((List.range 24).map (fun k => 72 + k)).map (fun c =>
    if (m.ch c).hot && (neighboursOf c).elem s then (m.ch c).idx else 0)))

/-- Effective curve index of site s (R432). -/
def Module.effIdx (m : Module) (s : Nat) : Nat := max (m.thermIdx s) (m.capIdx s)

/-- The pair (N, G) of the throttle curve at an index. -/
def Module.curvePair (m : Module) (e : Nat) : Nat × Nat := (m.rd Reg.thmCurve_n [e], m.rd Reg.thmCurve_g [e])

/-- The effective index as THM_CH_STATUS shows it. -/
def Module.showIdx (m : Module) (s : Nat) : Module := m.wr Reg.thmChStatus_index (m.effIdx s) [s]

/-! ### Calibrated values (R444 to R446) -/

/-- The temperature channel of the die a calibrated item sits on: quantity 0 a laser unit (bank * 34 + ...), 1 and 2 a ring
or slot (port * 64 + ...), 3 a bundle direction (connection * 32 + ...), 4 a channel. -/
def calChannel (q item : Nat) : Nat :=
  if q = 0 then 88 + item / 34 else if q = 1 ∨ q = 2 then 72 + item / 64 / 4
  else if q = 3 then (if item / 32 < 88 then item / 32 else 94 + (item / 32 - 88)) else item

/-- The calibration point nearest a temperature, which is also its band (R444, R448). -/
def calPoint (t : Int) : Nat := (max 0 (min 7 ((t - 20 * 64) / 640))).toNat

/-- Key of a calibrated value: quantity, item, point. -/
def calKey (q item point : Nat) : Nat := (q * 2 ^ 20 + item) * 8 + point

/-- A value of a set, or the nominal one where there is no set or the set lacks it (R446, R452); offsets are signed. -/
def calVal (set : Option CalSet) (q item p : Nat) : Int :=
  let v := match set.bind (fun s => SMap.find? s.vals (calKey q item p)) with
    | some v => v
    | none => Config.calNominal q item p
  if q = 3 ∨ q = 4 then sext 16 v else v

/-- The set that is applied: one whose store is deferred, or the current one (R451). -/
def Module.calSet (m : Module) : Option CalSet :=
  if m.rd Reg.calStatus_state = 3 then m.cal.storing else m.cal.cur

/-- The value of a quantity that follows the temperature, in 640ths: interpolated between the two calibration points about the die's
temperature at the last boundary, and held at the end values outside 25 to 95 degrees (R445). -/
def Module.setPoint (m : Module) (q item : Nat) : Int :=
  let t := max 1600 (min 6080 (SMap.get 0 m.cal.temps (calChannel q item)))
  let i := min 6 ((t - 1600) / 640).toNat
  let f := t - 1600 - 640 * (i : Int)
  calVal m.cal.used q item i * (640 - f) + calVal m.cal.used q item (i + 1) * f

/-- The band of a link after T_lo and T_hi of its hotter die (R444): it rises over the boundary at 30 + 10 b degrees, and falls once
below it by more than 2 degrees (R436). -/
def tapBand (lo hi : Int) : Nat → Nat → Nat
  | 0, b => b
  | n + 1, b =>
    if b < 7 ∧ 64 * (30 + 10 * (b : Int)) ≤ lo then tapBand lo hi n (b + 1)
    else if 0 < b ∧ hi < 64 * (28 + 10 * ((b : Int) - 1)) then tapBand lo hi n (b - 1)
    else b

/-- T_lo and T_hi of the hotter die of a connection: its own, or the Cirque (R376). -/
def Module.linkTemps (m : Module) (c : Nat) : Int × Int :=
  let x := m.temps (calChannel 3 (32 * c))
  let y := m.temps 92
  let z := m.temps 93
  (max x.1 (max y.1 z.1), max x.2 (max y.2 z.2))

/-- Offsets one step nearer their targets (R376). -/
def stepTo : List Int → List Int → List Int
  | _, [] => []
  | [], t :: ts => (if 0 < t then 1 else if t < 0 then -1 else 0) :: stepTo [] ts
  | x :: xs, t :: ts => (if x < t then x + 1 else if t < x then x - 1 else x) :: stepTo xs ts

/-! ### Power (R431, R432) -/

/-- Denominator of power numbers. -/
def pwrDen : Nat := 720720 * 64 * 16384

/-- What the power manager counts a Tine at, in mW over `pwrDen` (R432): 2.8 W + 14 W * 8 / N * G / 64 *
((128 - 3 (N - 8)) / 128)^2. -/
def tinePower (n g : Nat) : Nat :=
  2800 * pwrDen + 14000 * 8 * g * (128 - 3 * (n - 8)) * (128 - 3 * (n - 8)) * (720720 / n)

/-- Whether site s's die draws power: its compute domain is on. -/
def Module.powered (m : Module) (s : Nat) : Bool := decide (m.rd Reg.pwrDomain_state [s] = 2)

/-- The total counted for a set of pairs in force, over `pwrDen` (R432): Tines at their pair, or at 16.8 W when their
REQUEST is missing; Firn engines at their REQUEST or their line of R32; every other consumer at its line; 6.4 % more for
regulator loss. -/
def Module.totalPower (m : Module) (pair : Nat → Nat × Nat) : Nat :=
  let t := sumN ((List.range 72).map (fun s =>
    if !m.powered s then 0
    else match SMap.find? m.pwr.requests s with
      | none => 16800 * pwrDen
      | some _ => let (n, g) := pair s; tinePower n g))
  let f := sumN ((List.range 16).map (fun f =>
    if m.rd Reg.pwrDomain_state [144 + f] ≠ 2 then 0
    else match SMap.find? m.pwr.requests (72 + f) with
      | none => 3187500 * pwrDen / 1000
      | some p => p * pwrDen))
  (t + f + 266000 * pwrDen) * 1064 / 1000

end Sys2Proof.Machine
end

