-- ==== Sys2Proof/Machine/Quinhorn.lean ====
section
/-! DEFINITION. Quinhorn bundles (R346 to R375): lane maps, the sideband frame, acceptance and retry, sending, training and
retraining, and what a bundle's width does to the die it serves. -/

namespace Sys2Proof.Machine

/-! ### Connections -/

/-- Bundles of a connection: 10 of a Tine, 16 of a Firn engine, 4 of a guest site. -/
def connBundles (c : Nat) : Nat := if c < 72 then 10 else if c < 88 then 16 else 4

/-- Attachment code of a connection's die (R136). -/
def connCode (c : Nat) : Nat := if c < 88 then c else 0x69 + (c - 88)

/-- A bundle after reset. -/
def QBundle.reset : QBundle :=
  { expected := 0, retry := false, desc := none, cur := [], prev := [], part := [], nextSeq := 0, acked := 4095, replay := [],
    queue := [], used := [], ret := [], adv := [], taken := [], crNew := [], crLast := 0, timeouts := 0, lastReplay := none, retriesRound := 0,
    corrRound := [], cap := 0, mapAcked := false, farReady := false, testRx := none, testTx := none }

/-- Bundle b of connection c. -/
def Module.qb (m : Module) (c b : Nat) : QBundle := SMap.get QBundle.reset m.qlk.bundles (16 * c + b)

/-- A bundle changed. -/
def Module.modQb (m : Module) (c b : Nat) (f : QBundle → QBundle) : Module :=
  { m with qlk := { m.qlk with bundles := SMap.put QBundle.reset (16 * c + b) (f (m.qb c b)) m.qlk.bundles } }

/-- STATE of a bundle: 0 DOWN, 1 TRAINING, 2 UP, 3 RETRAINING, 4 RETIRED. -/
def Module.qbState (m : Module) (c b : Nat) : Nat := m.rd Reg.qlkBundleState_state [c, b]

/-- A guest site after reset. -/
def Guest.reset : Guest := { inbox := [], due := [], lines := [], viol := false }

/-- Guest site g. -/
def Module.guest (m : Module) (g : Nat) : Guest := SMap.get Guest.reset m.qlk.guests g

/-- A guest site changed. -/
def Module.modGuest (m : Module) (g : Nat) (f : Guest → Guest) : Module :=
  { m with qlk := { m.qlk with guests := SMap.put Guest.reset g (f (m.guest g)) m.qlk.guests } }

/-- A Quinhorn record (class 0x0A); a fault of a bundle is charged to the requests that use its Tine or its ports (R413). -/
def Module.qlkRec (m : Module) (c b sev : Nat) : Module :=
  let m1 := m.report ((LogRec.of 0x0A 0 sev (connCode c) (16 * c + b)).at 0
    [m.rd Reg.qlkMapTx_failedMask [c, b], m.rd Reg.qlkMapRx_failedMask [c, b]])
  if sev = 0 ∨ 88 ≤ c then m1 else if c < 72 then m1.chargeSite c m1.sameFault else m1.chargePorts [4 * (c - 72) + b / 4] m1.sameFault

/-! ### Lanes (R347) and lane maps (R349, R370) -/

/-- The logical lane that carries data bit k (R347). -/
def laneOfData (k : Nat) : Nat :=
  let n := k / 4
  let u := n % 8
  let a := n / 8
  let p := if u < 7 then (a + 28 - u) % 4 else (a + 3) % 4
  4 * p + k % 4

/-- The logical lane that carries check bit k (R347). -/
def laneOfCheck (k : Nat) : Nat := if k % 8 < 4 then 16 else 17

/-- The lane a single-bit error implicates (R372). -/
def laneOfError (synd : Nat) : Nat :=
  match codeDecode synd with
  | .data b => laneOfData b
  | _ => laneOfCheck (lowBit 16 0 synd)

/-- A direction's lane map (R349): half width, clock on W21, sideband wire, REPL0, REPL1. -/
structure LaneMap where
  half : Bool
  clk : Bool
  side : Nat
  repl0 : Nat
  repl1 : Nat
deriving DecidableEq, Repr

/-- The map of a direction from its baseline (REPL0, REPL1, CLK_SWAP) and its failed wires, at half width when `force`
(R349, R370); `none` when the direction cannot run. -/
def chooseMap (b0 b1 : Nat) (swap force : Bool) (failed : Nat) : Option LaneMap :=
  let bad := fun (w : Nat) => bitB failed w
  let k0 := if b0 ≠ 0x1F ∧ !bad 18 then b0 else 0x1F
  let k1 := if b1 ≠ 0x1F ∧ !bad 19 then b1 else 0x1F
  let need := (List.range 18).filter (fun w => (bad w || decide (w = b0) || decide (w = b1)) && decide (w ≠ k0) && decide (w ≠ k1))
  let spares := (if k0 = 0x1F ∧ !bad 18 then [18] else []) ++ (if k1 = 0x1F ∧ !bad 19 then [19] else [])
  let r0 := if spares.elem 18 then need.headD 0x1F else k0
  let r1 := if spares.elem 19 then (if spares.elem 18 then (need.drop 1).headD 0x1F else need.headD 0x1F) else k1
  let full := decide (need.length ≤ spares.length)
  let clk21 := swap || bad 20
  let clkOk := if clk21 then !bad 21 else true
  let free21 := !clk21 && !bad 21
  let spareSide := (if r0 = 0x1F ∧ !bad 18 then [18] else []) ++ (if r1 = 0x1F ∧ !bad 19 then [19] else [])
  let work := (List.range 20).filter (fun w => !bad w)
  if !clkOk then none
  else if full ∧ !force ∧ (free21 ∨ spareSide ≠ []) then
    some { half := false, clk := clk21, side := if free21 then 21 else spareSide.headD 21, repl0 := r0, repl1 := r1 }
  else
    let side := if free21 then 21 else spareSide.headD (work.getD 9 21)
    if 9 ≤ (work.filter (fun w => w ≠ side)).length ∧ (free21 ∨ side ≠ 21) then
      some { half := true, clk := clk21, side := side, repl0 := 0x1F, repl1 := 0x1F }
    else none

/-- The fuse record of connection c as a number (R367). -/
def Module.fuseRec (m : Module) (c : Nat) : Nat :=
  leNat ((List.range 32).map (fun i => toLe 4 (m.rd Reg.qlkFuse_word [c, i]))).flatten

/-- A record passes its CRC (R367). -/
def fuseOk (r : Nat) : Bool := decide (crc16 ((toLe 126 r).reverse) = bitsOf r 1023 1008)

/-- The baseline of a direction of bundle b: 0 the Cirque's receive side (the die's transmit), 1 its transmit side; none
where the record fails its CRC (R368). -/
def Module.baseline (m : Module) (c b dir : Nat) : Nat × Nat × Bool :=
  let r := m.fuseRec c
  if fuseOk r then
    let o := 112 + 23 * b + 11 * dir
    (bitsOf r (o + 4) o, bitsOf r (o + 9) (o + 5), bitB r (o + 10))
  else (0x1F, 0x1F, false)

/-- A lane map written to the registers of a direction: 0 receive, 1 transmit. -/
def Module.setLanes (m : Module) (c b dir : Nat) (x : LaneMap) (failed : Nat) : Module :=
  if dir = 1 then
    (((((m.wr Reg.qlkMapTx_half (ofB x.half) [c, b]).wr Reg.qlkMapTx_clkWire (ofB x.clk) [c, b]).wr Reg.qlkMapTx_sidebandWire
      x.side [c, b]).wr Reg.qlkMapTx_failedMask failed [c, b]).wr Reg.qlkReplTx_repl0 x.repl0 [c, b]).wr Reg.qlkReplTx_repl1
      x.repl1 [c, b]
  else
    (((((m.wr Reg.qlkMapRx_half (ofB x.half) [c, b]).wr Reg.qlkMapRx_clkWire (ofB x.clk) [c, b]).wr Reg.qlkMapRx_sidebandWire
      x.side [c, b]).wr Reg.qlkMapRx_failedMask failed [c, b]).wr Reg.qlkReplRx_repl0 x.repl0 [c, b]).wr Reg.qlkReplRx_repl1
      x.repl1 [c, b]

/-- A lane map as the fields of a MAP message (R361). -/
def LaneMap.fields (x : LaneMap) (failed : Nat) : List Nat :=
  [ofB x.half, ofB x.clk, x.side, x.repl0, x.repl1, failed]

/-- The fields of a direction's map as the Cirque holds it: 0 receive, 1 transmit. -/
def Module.mapFields (m : Module) (c b dir : Nat) : List Nat :=
  if dir = 1 then
    [m.rd Reg.qlkMapTx_half [c, b], m.rd Reg.qlkMapTx_clkWire [c, b], m.rd Reg.qlkMapTx_sidebandWire [c, b],
     m.rd Reg.qlkReplTx_repl0 [c, b], m.rd Reg.qlkReplTx_repl1 [c, b], m.rd Reg.qlkMapTx_failedMask [c, b]]
  else
    [m.rd Reg.qlkMapRx_half [c, b], m.rd Reg.qlkMapRx_clkWire [c, b], m.rd Reg.qlkMapRx_sidebandWire [c, b],
     m.rd Reg.qlkReplRx_repl0 [c, b], m.rd Reg.qlkReplRx_repl1 [c, b], m.rd Reg.qlkMapRx_failedMask [c, b]]

/-- Wires the moraine record marks failed in service, for a direction (R422). -/
def Module.serviceFailed (m : Module) (c b dir : Nat) : Nat := SMap.get 0 m.saf.mor.wires ((16 * c + b) * 2 + dir)

/-- Both directions' maps chosen from what is known failed (R370): both at the narrower width (R349). The wires that failed
join the moraine record. `none`: no map is possible. -/
def Module.chooseMaps (m : Module) (c b rx tx : Nat) (halfOnly : Bool := false) : Option Module :=
  let frx := rx ||| m.serviceFailed c b 0
  let ftx := tx ||| m.serviceFailed c b 1
  let (r0, r1, rs) := m.baseline c b 0
  let (t0, t1, ts) := m.baseline c b 1
  let pick := fun (force : Bool) =>
    match chooseMap r0 r1 rs force frx, chooseMap t0 t1 ts force ftx with
    | some x, some y => some (x, y)
    | _, _ => none
  let both := match pick halfOnly with
    | some (x, y) => if x.half = y.half then some (x, y) else pick true
    | none => none
  both.map (fun p =>
    let m1 := (m.setLanes c b 0 p.1 frx).setLanes c b 1 p.2 ftx
    let m2 := m1.wr Reg.qlkBundleState_half (ofB p.1.half) [c, b]
    let diff := decide (p.1.repl0 ≠ r0 ∨ p.1.repl1 ≠ r1 ∨ p.2.repl0 ≠ t0 ∨ p.2.repl1 ≠ t1 ∨ p.1.clk ≠ rs ∨ p.2.clk ≠ ts)
    let m3 := if diff ∧ !m2.rdB Reg.qlkLinkStatus_baselineDiff [c] then
        (m2.set1 Reg.qlkLinkStatus_baselineDiff [c]).qlkRec c b sevInfo else m2
    { m3 with saf := { m3.saf with mor := { m3.saf.mor with
        wires := SMap.put 0 ((16 * c + b) * 2 + 1) ftx (SMap.put 0 ((16 * c + b) * 2) frx m3.saf.mor.wires)
        bundles := SMap.put 0 (16 * c + b) (ofB p.1.half) m3.saf.mor.bundles } } })

/-! ### Width of a connection (R94, R373) -/

/-- Bundles of a connection counted in the registers; a Tine's in TINE_STATE too. -/
def Module.showConn (m : Module) (c : Nat) : Module :=
  let bs := List.range (connBundles c)
  let up := bs.filter (fun b => m.qbState c b = 2 || m.qbState c b = 3)
  let half := (up.filter (fun b => m.rdB Reg.qlkBundleState_half [c, b])).length
  let retired := (bs.filter (fun b => m.qbState c b = 4)).length
  let anyUp := bs.any (fun b => m.qbState c b = 2)
  let m1 := (((m.wr Reg.qlkLinkStatus_up (ofB anyUp) [c]).wr Reg.qlkLinkStatus_bundlesHalf half [c]).wr
    Reg.qlkLinkStatus_bundlesFull (up.length - half) [c]).wr Reg.qlkLinkStatus_bundlesRetired retired [c]
  if c < 72 then (m1.wr Reg.tineState_bundlesHalf half [c]).wr Reg.tineState_bundlesFull (up.length - half) [c] else m1

/-- Data wavelengths the working bundles of a Firn port carry (R373): floor(9 B / 51.2 GB/s), at most 16. -/
def Module.portWaves (m : Module) (p : Nat) : Nat :=
  let h := sumN ((List.range 4).map (fun i =>
    let c := 72 + p / 4
    let b := 4 * (p % 4) + i
    if m.qbState c b = 2 ∨ m.qbState c b = 3 then (if m.rdB Reg.qlkBundleState_half [c, b] then 1 else 2) else 0))
  min 16 (9 * h / 4)

/-- The lowest n slots of a map. -/
def lowestSlots : Nat → Nat → Nat → Nat → Nat
  | 0, _, _, _ => 0
  | k + 1, i, n, map =>
    if n = 0 then 0 else if bitB map i then 2 ^ i + lowestSlots k (i + 1) (n - 1) map else lowestSlots k (i + 1) n map

/-! ### Sending (R350, R352, R353) -/

/-- Granules of the queue that have credits and a place in the replay buffer are sent: at most n. -/
def Module.qpumpN (m : Module) (c b : Nat) : Nat → Module
  | 0 => m
  | n + 1 =>
    let q := m.qb c b
    match q.queue with
    | [] => m
    | (s, d, e) :: t =>
      if m.qbState c b ≠ 2 ∨ q.replay.length ≥ 256 ∨
          SMap.get 0 q.adv s.chan ≤ (SMap.get 0 q.used s.chan + 65536 - SMap.get 0 q.ret s.chan) % 65536 then m
      else
        ((m.modQb c b (fun q => { q with
          queue := t, nextSeq := (q.nextSeq + 1) % 4096
          used := SMap.ins s.chan ((SMap.get 0 q.used s.chan + 1) % 65536) q.used
          replay := q.replay ++ [{ seq := q.nextSeq, slot := s, data := d, synd := e }] })).emit
          (.qlkGranule c b q.nextSeq s.start s.chan d e)).qpumpN c b n

/-- What a bundle can send is sent. -/
def Module.qpump (m : Module) (c b : Nat) : Module := m.qpumpN c b 512

/-- Everything unacknowledged of a bundle sent again (R352). -/
def Module.qreplay (m : Module) (c b : Nat) : Module :=
  let q := m.qb c b
  let m1 := q.replay.foldl (fun m x => m.emit (.qlkGranule c b x.seq x.slot.start x.slot.chan x.data x.synd)) m
  (m1.count Reg.qlkRetries_count 1 [c]).modQb c b (fun q =>
    { q with lastReplay := (q.replay.head?).map QTx.seq, retriesRound := q.retriesRound + 1 })

/-- The header granule of a message (R356). -/
def QMsg.header (x : QMsg) (src dst : Nat) : Nat :=
  (x.op % 32 + 32 * (x.cls % 8)) + 2 ^ 8 * src + 2 ^ 16 * dst + 2 ^ 24 * (x.status % 256) + 2 ^ 32 * (x.tag % 2 ^ 16) +
    2 ^ 48 * (x.payload.length % 2 ^ 24) + 2 ^ 72 * (x.aux % 256) + 2 ^ 80 * (x.addr % 2 ^ 48)

/-- The lowest-numbered working bundle, which carries a message (R354). -/
def Module.qbundleFor (m : Module) (c : Nat) : Nat :=
  ((List.range (connBundles c)).find? (fun b => m.qbState c b = 2)).getD 0

/-- A message sent to a connection's die: its granules queued on one bundle and sent as credits allow. -/
def Module.qsend (m : Module) (c chan : Nat) (x : QMsg) : Module :=
  let b := m.qbundleFor c
  let gs := ({ start := true, chan := chan }, x.header 0x74 (connCode c), 0) ::
    x.payload.map (fun (g : Nat × Nat) => (({ start := false, chan := chan } : QSlot), g.1, g.2))
  (m.modQb c b (fun q => { q with queue := q.queue ++ gs })).qpump c b

/-! ### Training and retraining (R361, R362, R371 to R375) -/

/-- The CAP message the Cirque sends (R362): its bits from 116 up. -/
def capFields (c : Nat) : List Nat :=
  [1, 2, connCode c, 18, if c < 88 then 31 else 15, if c < 88 then 16777215 else 256]

/-- A bundle starts training: CAP and MAP are sent (R371). -/
def Module.trainBundle (m : Module) (c b : Nat) : Module :=
  if m.qbState c b = 4 then m
  else
    let m1 := m.modQb c b (fun _ => QBundle.reset)
    ((((m1.wr Reg.qlkBundleState_state 1 [c, b]).emit (.qlkTrain c b 1 (capFields c))).emit
      (.qlkTrain c b 2 (m.mapFields c b 0 ++ m.mapFields c b 1)))).showConn c

/-- Training of a die's bundles starts (R371, R454 QLK_START). -/
def Module.trainConn (m : Module) (c : Nat) : Module :=
  (List.range (connBundles c)).foldl (fun m b => if m.qbState c b = 0 then m.trainBundle c b else m) m

/-- The die leaves service: its bundles go DOWN (R371). -/
def Module.connDown (m : Module) (c : Nat) : Module :=
  ((List.range (connBundles c)).foldl (fun m b =>
    if m.qbState c b = 4 then m else (m.modQb c b (fun _ => QBundle.reset)).wr Reg.qlkBundleState_state 0 [c, b]) m).showConn c

/-- A retrain trigger (R372): traffic stops, the wire test starts; a trigger during a retrain is absorbed into it. A bundle in
training retrains only when the two ends' maps differ (R375). -/
def Module.retrain (m : Module) (c b : Nat) (differ : Bool := false) : Module :=
  if m.qbState c b ≠ 2 ∧ !(differ && m.qbState c b == 1) then m
  else
    let m1 := (m.wr Reg.qlkBundleState_state 3 [c, b]).count Reg.qlkRetrains_count 1 [c]
    let m2 := m1.modQb c b (fun q => { q with
      testRx := none, testTx := none, mapAcked := false, farReady := false, desc := none, cur := [], prev := [] })
    (((m2.emit (.qlkTrain c b 4 [1024])).qlkRec c b sevRecovered)).showConn c

/-- Both results of a retrain's wire test are known: maps are chosen and sent; with no map possible the results stand and the
bundle is to be retired (R371, R372). -/
def Module.testDone (m : Module) (c b : Nat) : Module :=
  let q := m.qb c b
  match q.testRx, q.testTx with
  | some rx, some tx =>
    match m.chooseMaps c b rx tx with
    | some m1 => (m1.modQb c b (fun q => { q with testRx := none, testTx := none })).emit
        (.qlkTrain c b 2 (m1.mapFields c b 0 ++ m1.mapFields c b 1))
    | none => m
  | _, _ => m

/-! ### Receiving (R350, R351) -/

/-- The channel's message, if the granule completes it: header read, message handed to the die's inbox (guest sites), credits
counted. -/
def Module.qdeliver (m : Module) (c b : Nat) (s : QSlot) (d e : Nat) : Module :=
  let old := if s.start then [] else SMap.get [] (m.qb c b).part s.chan
  let now := old ++ [(d, e)]
  let h := (now.headD (0, 0)).1
  let len := bitsOf h 71 48
  let m1 := m.modQb c b (fun q => { q with
    taken := SMap.ins s.chan ((SMap.get 0 q.taken s.chan + 1) % 65536) q.taken
    crNew := if q.crNew.elem s.chan then q.crNew else q.crNew ++ [s.chan] })
  if now.length < 1 + len then m1.modQb c b (fun q => { q with part := SMap.ins s.chan now q.part })
  else
    let m2 := m1.modQb c b (fun q => { q with part := SMap.del s.chan q.part })
    let x : QMsg := { cls := bitsOf h 7 5, op := bitsOf h 4 0, status := bitsOf h 31 24, tag := bitsOf h 47 32, aux := bitsOf h 79 72,
                      addr := bitsOf h 127 80, payload := now.drop 1 }
    if c < 88 then m2 else m2.modGuest (c - 88) (fun g => { g with inbox := g.inbox ++ [x] })

/-- The receiver asks for a retry (R351): it enters the retry condition, or what it asked for has come wrong again. Each counts as one
retry of the round (R372). -/
def Module.askRetry (m : Module) (c b : Nat) (again : Bool) : Module :=
  m.modQb c b (fun q => { q with retry := true, retriesRound := if q.retry && !again then q.retriesRound else q.retriesRound + 1 })

/-- A granule judged by its number (R351): accepted when it is the expected one and correct, corrected or poisoned. -/
def Module.qaccept (m : Module) (c b : Nat) (x : Option Nat × QSlot × Nat × Nat) : Module :=
  let q := m.qb c b
  match x.1 with
  | none => m.askRetry c b false
  | some n =>
    let synd := x.2.2.2 ^^^ codeCheck x.2.2.1
    let r := codeDecode synd
    let behind := (q.expected + 4096 - n) % 4096
    if n = q.expected then
      if r = .uncorr then m.askRetry c b true
      else
        let lane := if m.rdB Reg.qlkBundleState_half [c, b] then laneOfError synd / 2 else laneOfError synd
        let m1 := match r with
          | .data _ => (m.count Reg.qlkCorr_count 1 [c]).modQb c b (fun q => { q with corrRound := SMap.ins lane (SMap.get 0 q.corrRound lane + 1) q.corrRound })
          | .check => (m.count Reg.qlkCheckfield_count 1 [c]).modQb c b (fun q => { q with corrRound := SMap.ins lane (SMap.get 0 q.corrRound lane + 1) q.corrRound })
          | .poison => m.count Reg.qlkPoisonRx_count 1 [c]
          | _ => m
        let m2 := m1.modQb c b (fun q => { q with expected := (q.expected + 1) % 4096, retry := false })
        m2.qdeliver c b x.2.1 (codeData x.2.2.1 r) (if r = .poison then poisonSynd else 0)
    else if 1 ≤ behind ∧ behind ≤ 2047 then m
    else m.askRetry c b false

/-- A lane found in 16 corrected errors within the round, or 4 retries, retrains the bundle (R372). -/
def Module.qwatch (m : Module) (c b : Nat) : Module :=
  let q := m.qb c b
  if q.corrRound.any (fun p => 16 ≤ p.2) ∨ 4 ≤ q.retriesRound then
    (m.modQb c b (fun q => { q with corrRound := [], retriesRound := 0 })).retrain c b
  else m

/-- QLK_GRANULE: a non-idle granule of the running window. At half width it is held for the window check. -/
def Module.qgranule (m : Module) (c b d chk : Nat) : Module :=
  if m.qbState c b ≠ 2 then m
  else
    let q := m.qb c b
    let i := q.cur.length
    let x := match q.desc with
      | some (first, slots) => (if i < slots.length then some ((first + i) % 4096) else none, slots.getD i { start := false, chan := 7 })
      | none => (none, { start := false, chan := 7 })
    let y := (x.1, x.2, d % 2 ^ 128, chk % 2 ^ 16)
    let m1 := m.modQb c b (fun q => { q with cur := q.cur ++ [y] })
    if m.rdB Reg.qlkBundleState_half [c, b] then m1 else (m1.qaccept c b y).qwatch c b

/-- The non-idle slots a LINK frame lists (R350); at half width only the first 16 count. -/
def frameSlots (f : Nat) (half : Bool) : List QSlot :=
  (List.range (if half then 16 else 32)).filterMap (fun j =>
    let s := bitsOf f (19 + 4 * j) (16 + 4 * j)
    if s % 8 = 7 then none else some { start := bitB s 3, chan := s % 8 })

/-- The bytes of code words in slot order, as a frame's WIN_CRC covers them. -/
def winBytes (l : List (Option Nat × QSlot × Nat × Nat)) : List Nat :=
  (l.map (fun x => toLe 16 x.2.2.1 ++ toLe 2 x.2.2.2)).flatten

/-- The CRC of a frame is right (R350). -/
def frameOk (f : Nat) : Bool := decide (crc16 ((toLe 30 (f / 65536)).reverse) = f % 65536)

/-- The frame that the Cirque sends in the window that begins (R350, R352, R353): ACK, RETRY, and the credits of one channel in turn,
those whose counts have changed first. -/
def Module.qanswer (m : Module) (c b : Nat) : Module :=
  let q := m.qb c b
  let order := (List.range 6).map (fun i => (q.crLast + 1 + i) % 6)
  let ch := (order.find? (fun k => q.crNew.elem k)).getD ((q.crLast + 1) % 6)
  (m.emit (.qlkFrame c b ((q.expected + 4095) % 4096) q.retry ch (SMap.get 0 q.taken ch))).modQb c b (fun q =>
    { q with crLast := ch, crNew := q.crNew.filter (fun k => k ≠ ch) })

/-- QLK_LINK_FRAME: a frame received at the end of a window. `late`: at least 96 fabric cycles have passed since the last
replay from the same point started. A frame of a reserved type is discarded. -/
def Module.qframe (m : Module) (c b f : Nat) (late : Bool) : Module :=
  if m.qbState c b ≠ 2 then m
  else
    let half := m.rdB Reg.qlkBundleState_half [c, b]
    let q := m.qb c b
    let roll := fun (d : Option (Nat × List QSlot)) (m : Module) =>
      m.modQb c b (fun q => { q with prev := q.cur, cur := [], desc := d })
    if !frameOk f then (((roll none ((m.count Reg.qlkFrameErr_count 1 [c]).askRetry c b false)).qwatch c b).qpump c b).qanswer c b
    else if bitsOf f 255 252 ≠ 1 then
      ((roll none (if half ∧ q.prev ≠ [] then m.askRetry c b false else m)).qwatch c b).qanswer c b
    else
      let want := if q.prev = [] then 0 else crc32c (winBytes q.prev)
      let okWin := decide (bitsOf f 179 148 = want)
      let m1 := if half then
          (if okWin then q.prev.foldl (fun m x => m.qaccept c b x) m
           else (m.count Reg.qlkFrameErr_count 1 [c]).askRetry c b false)
        else if okWin then m else m.count Reg.qlkFrameErr_count 1 [c]
      let m2 := roll (some (bitsOf f 251 240, frameSlots f half)) m1
      let ack := bitsOf f 239 228
      let adv := (ack + 4096 - q.acked) % 4096
      let m3 := if adv ≤ q.replay.length ∧ adv ≠ 0 then
          m2.modQb c b (fun q => { q with acked := ack, replay := q.replay.drop adv, timeouts := 0 }) else m2
      let ch := bitsOf f 226 224
      let cr := bitsOf f 223 208
      let m4 := m3.modQb c b (fun q => { q with ret := SMap.ins ch cr q.ret })
      let q4 := m4.qb c b
      let m5 := if bitB f 227 ∧ q4.replay ≠ [] ∧ (late ∨ q4.lastReplay ≠ (q4.replay.head?).map QTx.seq) then m4.qreplay c b else m4
      let m6 := ((m5.qwatch c b).qpump c b).qanswer c b
      if !half ∧ !okWin then m6.retrain c b else m6

end Sys2Proof.Machine
end

