-- ==== Sys2Proof/Machine/Optics.lean ====
section
/-! DEFINITION. Optical ports and laser banks (R272 to R297), the moraine pool's counts and alerts (R421, R423), clock trees
(R27 to R29), and the end of a request that meets a link fault (R324, R411). -/

namespace Sys2Proof.Machine

/-! ### Banks and rings -/

/-- A bank after reset. -/
def LaserBank.reset : LaserBank := { swap := none, asked := [], unplanned := [], pendPorts := [], power := [] }

/-- Bank b. -/
def Module.bank (m : Module) (b : Nat) : LaserBank := SMap.get LaserBank.reset m.lasers b

/-- Bank b changed. -/
def Module.modBank (m : Module) (b : Nat) (f : LaserBank → LaserBank) : Module :=
  { m with lasers := SMap.put LaserBank.reset b (f (m.bank b)) m.lasers }

/-- Key of a calibrated item: quantity and item (R446). -/
def calItem (q item : Nat) : Nat := q * 2 ^ 20 + item

/-- The heater code of a ring's set point, rounded as the module does; none where no set is in use, and the search then scans from its
full range (R279, R445, R452). Rings of a port: its modulators by slot, its drop rings at 32 and up. -/
def Module.ringCode (m : Module) (p slot : Nat) (rx : Bool) : Option Nat :=
  let item := 64 * p + slot + 32 * ofB rx
  let v := m.setPoint 1 item
  m.cal.used.map (fun _ => min 4095 ((v / 640).toNat + ofB (decide (v % 640 ≠ 0) && Config.pointUp (calItem 1 item))))

/-- A calibrated ring's heater set to its set point. -/
def Module.presetRing (m : Module) (p slot : Nat) : Module :=
  let m1 := match m.ringCode p slot false with
    | some v => m.wr Reg.firnWaveTx_txHeater v (fp p ++ [slot])
    | none => m
  match m1.ringCode p slot true with
  | some v => m1.wr Reg.firnWaveRx_rxHeater v (fp p ++ [slot])
  | none => m1

/-! ### Sequence instances started (R144, R279, R284, R292, R428) -/

/-- What an instance finds preset (R298, R299, R454): its port and slot, its laser slot, or its domain. -/
def seqPreset (kind target slots : Nat) : SMap Nat :=
  if kind ≤ 4 then [(1, target % 4), (2, lowBit 17 0 slots)]
  else if kind = 5 then [(0x101, lowBit 17 0 slots)]
  else if kind = 6 ∨ kind = 7 then [(0x201, target)] else []

/-- An instance begun on an engine under the table in force; a ring's search starts from its calibrated set point (R279). -/
def Module.seqBegin (m : Module) (e : Nat) (j : SeqJob) : Module :=
  match m.seqTable j.kind with
  | none => m
  | some t =>
    let i : SeqInst := { table := t, job := j.kind, pc := t.entry, scr := [], steps := 0, time := 0, target := j.target,
                         slots := j.slots, fields := seqPreset j.kind j.target j.slots }
    let m1 : Module := { m with seqs := SMap.ins e i m.seqs }
    if j.kind = 4 then ((List.range 17).filter (bitB j.slots)).foldl (fun m s => m.presetRing j.target s) m1 else m1

/-- A switch of a bank's domain waits for a running swap of the bank (R292). -/
def Module.jobHeld (m : Module) (j : SeqJob) : Bool :=
  decide (j.kind = 6 ∨ j.kind = 7) && decide (160 ≤ j.target) && decide (j.target < 164) && (m.bank (j.target - 160)).swap.isSome

/-- The longest waiting instance of an idle engine that nothing holds begins. -/
def Module.seqTake (m : Module) (e : Nat) : Module :=
  match SMap.find? m.seqs e with
  | some _ => m
  | none =>
    match (SMap.get [] m.seqWait e).find? (fun j => !m.jobHeld j) with
    | none => m
    | some j => ({ m with seqWait := SMap.put [] e ((SMap.get [] m.seqWait e).erase j) m.seqWait } : Module).seqBegin e j

/-- An instance asked for: it begins, or waits while its engine runs another or a swap holds it. -/
def Module.seqStart (m : Module) (e kind target slots : Nat) : Module :=
  let j : SeqJob := { kind := kind, target := target, slots := slots }
  ({ m with seqWait := SMap.ins e (SMap.get [] m.seqWait e ++ [j]) m.seqWait } : Module).seqTake e

/-- The engine is free: the next instance begins. -/
def Module.seqNextJob (m : Module) (e : Nat) : Module := ({ m with seqs := SMap.del e m.seqs } : Module).seqTake e

/-- Every slot of a port: 0 to 16. -/
def allSlots : Nat := 2 ^ 17 - 1

/-! ### Moraine counts (R421, R423) -/

/-- Sites that are SPARE and passed their test. -/
def Module.sparesLeft (m : Module) : Nat :=
  ((List.range 72).filter (fun s => decide (m.siteState s = 0) && (m.tine s).tested)).length

/-- Unused spare data lanes over both directions of every bundle. -/
def Module.dataLanesLeft (m : Module) : Nat :=
  let used := sumN ((m.saf.mor.wires).map (fun (p : Nat × Nat) => min 2 (popcount 20 p.2)))
  3936 - used

/-- Unused spare clock lanes. -/
def Module.clockLanesLeft (m : Module) : Nat :=
  1968 - sumN ((m.saf.mor.wires).map (fun (p : Nat × Nat) => min 1 (popcount 2 (p.2 / 2 ^ 20))))

/-- State of a laser unit (R287): 0 COLD, 1 WARMING, 2 READY, 3 LIT, 4 RETIRED; unit 0 primary, 1 spare. -/
def Module.unitState (m : Module) (b s u : Nat) : Nat :=
  if u = 0 then m.rd Reg.lasSlotStatus_pState [b, s] else m.rd Reg.lasSlotStatus_sState [b, s]

/-- Spares of a bank in COLD or READY. -/
def Module.lasersLeftIn (m : Module) (b : Nat) : Nat :=
  ((List.range 17).filter (fun s => m.unitState b s 1 = 0 || m.unitState b s 1 = 2)).length

/-- Cold spares in COLD or READY. -/
def Module.lasersLeft (m : Module) : Nat := sumN ((List.range 4).map m.lasersLeftIn)

/-- Spare fibre pairs neither in use nor FAILED. -/
def Module.fibresLeft (m : Module) : Nat := 16 - m.saf.mor.fibres.length

/-- One MORAINE_LOW record for a kind of spare whose count has fallen below its threshold, and again when it falls. -/
def Module.alertKind (m : Module) (kind left threshold : Nat) : Module :=
  match SMap.find? m.saf.alerted kind with
  | none =>
    if left < threshold then
      ({ m with saf := { m.saf with alerted := SMap.ins kind left m.saf.alerted } } : Module).report
        ((LogRec.of 0x17 0 sevInfo 0xFF kind).at 0 [left])
    else m
  | some old =>
    if left < old then
      ({ m with saf := { m.saf with alerted := SMap.ins kind left m.saf.alerted } } : Module).report
        ((LogRec.of 0x17 0 sevInfo 0xFF kind).at 0 [left])
    else m

/-- MORAINE_LOW for every kind that is due (R423). -/
def Module.alerts (m : Module) : Module :=
  let m1 := m.alertKind 0 m.sparesLeft (m.rd Reg.morAlertTine_minTines)
  let m2 := m1.alertKind 1 m1.dataLanesLeft (m1.rd Reg.morAlert_minDataLanes)
  let m3 := m2.alertKind 2 m2.lasersLeft (m2.rd Reg.morAlert_minLasers)
  m3.alertKind 3 m3.fibresLeft (m3.rd Reg.morAlert_minFibres)

/-! ### Link faults of requests (R324, R411) -/

/-- The routes may have changed: stages that waited for one may be dispatched again (R411). -/
def Module.routesChanged (m : Module) : Module :=
  { m with host := { m.host with reqs := m.host.reqs.map (fun (p : Nat × Req) =>
      let r : Req := if p.2.hold = 3 then { p.2 with hold := 0 } else p.2
      (p.1, r)) } }

/-- A request meets a link fault: charged; the stage it runs is executed again once a route serves, and a second such fault
of the stage ends it as unreachable. -/
def Module.linkFault (m : Module) (fid id : Nat) : Module :=
  match m.req? id with
  | none => m
  | some r =>
    let m1 := m.modReq id (fun r => { r with charged := if r.charged.elem fid then r.charged else fid :: r.charged })
    if !r.running then m1
    else if r.lastFault = some (0x301, 72) then
      m1.failUnreachable id (((m.ctxOf r.ctx).remote.headD (0, 0)).1)
    else (((m1.restart id).count Reg.safReexec_count).modReq id (fun r => { r with lastFault := some (0x301, 72), hold := 3 })).routesChanged

/-- A fault of link p met by several requests: one FAULT_ID for all (R406). -/
def Module.linkFaults (m : Module) (p : Nat) (ids : List Nat) : Module :=
  if ids = [] then m
  else let (f, m1) := m.portFault p
       ids.eraseDups.foldl (fun m id => m.linkFault f id) m1

/-! ### Lasers (R287 to R292) -/

/-- The bank's counts follow its units. -/
def Module.showBank (m : Module) (b : Nat) : Module :=
  let lit := sumN ((List.range 17).map (fun s => (if m.unitState b s 0 = 3 then 1 else 0) + (if m.unitState b s 1 = 3 then 1 else 0)))
  (m.wr Reg.lasStatus_lit lit [b]).wr Reg.lasStatus_sparesLeft (m.lasersLeftIn b) [b]

/-- The slot-16 light of bank 0 or 3 runs (R27, R29): its tree is up, unless the tree's modulator has failed. -/
def Module.carrierUp (m : Module) (b : Nat) : Module :=
  if b = 0 ∧ !m.hub.modFailed.elem 0 then m.set1 Reg.hubClkStatus_treeAUp
  else if b = 3 ∧ !m.hub.modFailed.elem 1 then m.set1 Reg.hubClkStatus_treeBUp else m

/-- A unit's state set; the one that lights is the active unit; one that retires joins the moraine record. -/
def Module.setUnit (m : Module) (b s u st : Nat) : Module :=
  let m1 := if u = 0 then m.wr Reg.lasSlotStatus_pState st [b, s] else m.wr Reg.lasSlotStatus_sState st [b, s]
  let m2 := if st = 3 then m1.wr Reg.lasSlotStatus_activeUnit u [b, s] else m1
  let m3 : Module := if st = 4 then { m2 with saf := { m2.saf with mor := { m2.saf.mor with
      units := SMap.ins ((17 * b + s) * 2 + u) 1 m2.saf.mor.units } } } else m2
  (if st = 3 ∧ s = 16 then m3.carrierUp b else m3).showBank b

/-- A laser record (class 0x0F). -/
def Module.laserRec (m : Module) (b s u ev sev : Nat) : Module :=
  m.report ((LogRec.of 0x0F ev sev (0x70 + b) (2 * s + u)).at 0 [m.rd Reg.lasSlotMon_biasRatio [b, s]])

/-- A slot with no unit left (R290): REMOVED, out of the maps for good. -/
def Module.exhaust (m : Module) (b s : Nat) : Module :=
  let m1 : Module := { m with saf := { m.saf with mor := { m.saf.mor with
    slots := if m.saf.mor.slots.elem (17 * b + s) then m.saf.mor.slots else m.saf.mor.slots ++ [17 * b + s] } } }
  (((m1.set1 Reg.lasSlotStatus_removed [b, s]).set1 Reg.lasEvents_slotExhausted [b]).laserRec b s 1 4 sevDegraded).modBank b
    (fun k => { k with unplanned := k.unplanned.filter (fun x => x ≠ s) })

/-- The ports a bank feeds. -/
def bankPorts (b : Nat) : List Nat := (List.range 16).map (fun i => 16 * b + i)

/-- Tree a receiver runs from: 0 A, 1 B. -/
def Module.treeOf (m : Module) (r : Nat) : Nat :=
  if r < 32 then bit (m.rd Reg.hubClkTreeSel0_treeBUse) r
  else if r < 64 then bit (m.rd Reg.hubClkTreeSel1_treeBUse) (r - 32)
  else bit (m.rd Reg.hubClkTreeSel2_treeBUse) (r - 64)

/-- A receiver's tree set. -/
def Module.setTree (m : Module) (r t : Nat) : Module :=
  if r < 32 then m.wrBit Reg.hubClkTreeSel0_treeBUse r (t = 1)
  else if r < 64 then m.wrBit Reg.hubClkTreeSel1_treeBUse (r - 32) (t = 1)
  else m.wrBit Reg.hubClkTreeSel2_treeBUse (r - 64) (t = 1)

/-- A clock record (class 0x10), of fault f. -/
def Module.clockRec (m : Module) (f ev sev sub detail : Nat) : Module :=
  m.logRec { ((LogRec.of 0x10 ev sev 0x76 sub).at 0 [detail]) with faultId := f }

/-- A receiver switches trees (R27, R28): it applies the phase difference stored at it, or lifts it on the way back to tree
A, the event is set and a record written, of fault f. -/
def Module.switchTree (m : Module) (r f : Nat) : Module :=
  let t := 1 - m.treeOf r
  let d := SMap.get 0 m.hub.phase r
  let m1 : Module := { m with hub := { m.hub with applied := SMap.put 0 r (if t = 1 then d else 0) m.hub.applied } }
  ((m1.setTree r t).set1 Reg.hubClkEvents_dieTreeSwitch).clockRec f 5 sevRecovered r d

/-- Every receiver moved to a tree (R27, R291): 0 A, 1 B. Each one not on it yet switches. -/
def Module.useTree (m : Module) (t : Nat) : Module :=
  let rs := (List.range 88).filter (fun r => decide (m.treeOf r ≠ t))
  if rs = [] then m
  else let (f, m1) := m.newFault
       rs.foldl (fun m r => m.switchTree r f) m1

/-- A tree fails at its source (R29), by fault f: its status clears, the event is set, every request in flight is charged, and every
receiver on it switches. -/
def Module.treeFail (m : Module) (t f : Nat) : Module :=
  let up := if t = 0 then m.rdB Reg.hubClkStatus_treeAUp else m.rdB Reg.hubClkStatus_treeBUp
  if !up then m
  else
    let m1 := if t = 0 then (m.clr Reg.hubClkStatus_treeAUp).set1 Reg.hubClkEvents_treeAFail
      else (m.clr Reg.hubClkStatus_treeBUp).set1 Reg.hubClkEvents_treeBFail
    let m2 := (m1.clockRec f (if t = 0 then 1 else 2) sevDegraded 0 0).chargeAll f
    let other := if t = 0 then m2.rdB Reg.hubClkStatus_treeBUp else m2.rdB Reg.hubClkStatus_treeAUp
    if !other then m2 else (List.range 88).foldl (fun m r => if m.treeOf r = t then m.switchTree r f else m) m2

/-- The clock-source slot of a map (R283): slot 0, or the lowest slot in it. -/
def clockSlot (map : Nat) : Nat := lowBit 16 0 map

/-- The lit light of an unplanned swap (R290): the shutter of a READY spare opens and the slot is retrained on the bank's
ports that are UP. -/
def Module.lightSpare (m : Module) (b s : Nat) : Module :=
  if (m.bank b).unplanned.elem s ∧ m.unitState b s 1 = 2 ∧ m.unitState b s 0 ≠ 3 then
    let m1 := (m.setUnit b s 1 3).modBank b (fun k => { k with unplanned := k.unplanned.filter (fun x => x ≠ s) })
    (bankPorts b).foldl (fun m p =>
      if m.rd Reg.firnPortStatus_state (fp p) = 3 then m.seqStart (p / 4) 3 p (2 ^ s) else m) m1
  else m

/-- A slot waits for its spare (R290). -/
def Module.addUnplanned (m : Module) (b s : Nat) : Module :=
  m.modBank b (fun k => { k with unplanned := if k.unplanned.elem s then k.unplanned else k.unplanned ++ [s] })

/-- The light of a slot is gone at its source (R290, R291): a data slot is lost at the far ends, which remove it by
agreement; slot 16 of bank 0 or 3 takes its clock tree with it. A cold spare is warmed; one that is READY lights at once. -/
def Module.slotDark (m : Module) (b s f : Nat) : Module :=
  let m1 := if s = 16 ∧ b = 0 then m.treeFail 0 f else if s = 16 ∧ b = 3 then m.treeFail 1 f else m
  let st := m1.unitState b s 1
  if st = 0 then (m1.setUnit b s 1 1).addUnplanned b s
  else if st = 1 then m1.addUnplanned b s
  else if st = 2 then (m1.addUnplanned b s).lightSpare b s
  else m1.exhaust b s

/-! ### Booked loads (R223, R224, R289) -/

/-- Capacity of a port's VC in bytes per round at width w (R224). -/
def Module.portCap (m : Module) (p v w : Nat) : Nat :=
  match m.pclass p v with
  | some c => c.share * 6824 * w / 16
  | none => 0

/-- Slots of a round that a block covers, from slot lo to hi of the absolute count. -/
def Block.overlap (b : Block) (lo hi : Nat) : Nat := min hi (b.start + b.len) - max lo b.start

/-- Bytes that a block places on a port's VC in a round: its routes through it, for the slots it covers (R224). -/
def Block.portBytes (b : Block) (p v r : Nat) : Nat :=
  b.overlap (64 * r) (64 * r + 64) * sumN (b.ports.map (fun x => if x.1 = p ∧ x.2.1 = v then x.2.2 else 0))

/-- Bytes that the bookings in force place on a port's VC in a round (R224). -/
def Module.portLoad (m : Module) (p v r : Nat) : Nat := sumN (m.adm.blocks.map (fun b => b.portBytes p v r))

/-- Pairing copy load of quarter q (0 to 3) of round r, in bytes, rounded up (R223). -/
def Module.copyLoad (m : Module) (r q : Nat) : Nat :=
  sumN (m.adm.blocks.map (fun b =>
    if b.copy = 0 ∨ b.len = 0 then 0
    else
      let lo := 64 * r + 16 * q
      ceilDiv (b.copy * b.overlap lo (lo + 16)) b.len))

/-- Capacity of a quarter of the pairing copy at two widths (R223). -/
def copyCap (w62 w63 : Nat) : Nat := 218316 * (w62 + w63) / 32 - 5324

/-- Every booked load on a bank's ports in rounds r to r + 10 fits the ports at the width counted, which lacks the swapped slot (R289
steps 2 and 3). -/
def Module.swapFits (m : Module) (b r : Nat) : Bool :=
  let rounds := (List.range 11).map (fun i => r + i)
  let w := fun p => (m.opt p).countW
  (bankPorts b).all (fun p => [2, 3, 4, 5].all (fun v => rounds.all (fun k =>
    let l := m.portLoad p v k
    decide (l = 0) || decide (l ≤ m.portCap p v (w p))))) &&
  (decide (b ≠ 3) || rounds.all (fun k => (List.range 4).all (fun q =>
    let l := m.copyLoad k q
    decide (l = 0) || decide (l ≤ copyCap (w 62) (w 63)))))

/-! ### Planned swaps (R288, R289, R291, R292) -/

/-- A swap is over: the bank may be switched, and the next swap may start. -/
def Module.endSwap (m : Module) (b : Nat) : Module :=
  ((m.modBank b (fun k => { k with swap := none, pendPorts := [] })).clr Reg.lasStatus_swapBusy [b]).seqTake 20

/-- One port gives slot s up by agreement (R289 step 4); slot 16 puts it into clock fallback instead (R291). A port that is not UP or
already lacks the slot is skipped. -/
def Module.removeFrom (m : Module) (b s p : Nat) : Module :=
  let (map, clk) := m.nextMap p 0
  if m.rd Reg.firnPortStatus_state (fp p) ≠ 3 ∨ m.linkState p ≠ 2 ∨ bitB (m.opt p).swapOut s then m
  else if s = 16 ∧ clk ≠ 16 ∨ s < 16 ∧ !bitB map s then m
  else
    let m1 := if s = 16 then m.startMap p 0 (map - 2 ^ clockSlot map) (clockSlot map) else m.startMap p 0 (map - 2 ^ s) clk
    (m1.modOpt p (fun o => { o with swapOut := o.swapOut ||| 2 ^ s })).modBank b (fun k => { k with pendPorts := k.pendPorts ++ [p] })

/-- One port takes slot s back by agreement (R289 step 6), or leaves its clock fallback: the clock-source slot returns (R291). -/
def Module.returnTo (m : Module) (b s p : Nat) : Module :=
  if !bitB (m.opt p).swapOut s then m
  else
    let m0 := m.modOpt p (fun o => { o with swapOut := maskOff o.swapOut (2 ^ s) })
    let (map, clk) := m0.nextMap p 0
    if m0.rd Reg.firnPortStatus_state (fp p) ≠ 3 ∨ m0.linkState p ≠ 2 then m0
    else
      (if s = 16 then m0.startMap p 0 (map ||| (if clk < 16 then 2 ^ clk else 0)) 16 else m0.startMap p 0 (map ||| 2 ^ s) clk).modBank b
        (fun k => { k with pendPorts := k.pendPorts ++ [p] })

/-- The agreements of a step are complete (R289): after the removals the primary retires and the spare lights; after the returns the swap
is done, and the clock receivers move back (R291). -/
def Module.swapStep (m : Module) (b : Nat) : Module :=
  match (m.bank b).swap with
  | none => m
  | some w =>
    let s := w.slot
    if (m.bank b).pendPorts ≠ [] then m
    else if w.phase = 3 then
      let m1 := if m.unitState b s 0 = 3 then m.setUnit b s 0 4 else m
      ((m1.setUnit b s 1 3).modBank b (fun k => { k with swap := some { w with phase := 4 } })).alerts
    else if w.phase = 5 then
      let m1 := ((m.endSwap b).set1 Reg.lasEvents_swapDone [b]).laserRec b s 1 2 sevRecovered
      if s = 16 ∧ b = 0 then m1.useTree 0 else if s = 16 ∧ b = 3 then m1.useTree 1 else m1
    else m

/-- Steps 4 and 5: slot 16 of bank 0 or 3 first moves the receivers off its tree (R291); the slot leaves the ports. -/
def Module.swapRemove (m : Module) (b : Nat) : Module :=
  match (m.bank b).swap with
  | none => m
  | some w =>
    if w.phase ≠ 2 ∨ m.unitState b w.slot 1 ≠ 2 then m
    else
      let m0 := if w.slot = 16 ∧ b = 0 then m.useTree 1 else if w.slot = 16 ∧ b = 3 then m.useTree 0 else m
      (((bankPorts b).foldl (fun m p => m.removeFrom b w.slot p) m0).modBank b (fun k => { k with swap := some { w with phase := 3 } })).swapStep b

/-- Step 6: the far ends report the new light and the slot returns. -/
def Module.swapReturn (m : Module) (b : Nat) : Module :=
  match (m.bank b).swap with
  | none => m
  | some w =>
    if w.phase ≠ 4 then m
    else (((bankPorts b).foldl (fun m p => m.returnTo b w.slot p) m).modBank b (fun k => { k with swap := some { w with phase := 5 } })).swapStep b

/-- A bank swap's agreement with one port is complete, or the port has left service. -/
def Module.swapAgreed (m : Module) (p : Nat) : Module :=
  let b := p / 16
  if (m.bank b).pendPorts.elem p then (m.modBank b (fun k => { k with pendPorts := k.pendPorts.filter (fun x => x ≠ p) })).swapStep b else m

/-- A swap whose laser failed is over (R287, R288): the ports that gave the slot up take it back if its primary still shines. -/
def Module.dropSwap (m : Module) (b s : Nat) : Module :=
  match (m.bank b).swap with
  | none => m
  | some w =>
    if w.slot ≠ s then m
    else if m.unitState b s 0 = 3 then ((bankPorts b).foldl (fun m p => m.returnTo b s p) m).endSwap b
    else ((bankPorts b).foldl (fun m p => m.modOpt p (fun o => { o with swapOut := maskOff o.swapOut (2 ^ s) })) m).endSwap b

/-- A unit is retired by the failure just recorded (R287): its drive is cut, a swap of its slot is over, and a lit one starts the unplanned swap. -/
def Module.retireUnit (m : Module) (b s u : Nat) : Module :=
  let st := m.unitState b s u
  let f := m.sameFault
  let m0 := if st = 3 then m.chargePorts (bankPorts b) f else m
  let m1 := ((m0.setUnit b s u 4).alerts).dropSwap b s
  if st = 3 then m1.slotDark b s f
  else if (m1.bank b).unplanned.elem s ∧ u = 1 then m1.exhaust b s
  else m1

/-- SLOT_EXHAUSTED: a request for a slot whose spare cannot serve is ignored (R288). -/
def Module.noSpare (m : Module) (b s : Nat) : Module := (m.set1 Reg.lasEvents_slotExhausted [b]).laserRec b s 1 4 sevDegraded

/-- The bank's domain is being switched (R292). -/
def Module.switching (m : Module) (b : Nat) : Bool :=
  match SMap.find? m.seqs 20 with
  | some i => decide (i.job = 6 ∨ i.job = 7) && decide (i.target = 160 + b)
  | none => false

/-- The next planned swap asked for starts (R288, R289, R292): the spare warms behind its shutter; one that is READY already has the
bank's ports counted without the slot from the next boundary. A waiting slot whose spare has gone is passed over. -/
def Module.nextSwap (m : Module) (b : Nat) : Nat → Module
  | 0 => m
  | n + 1 =>
    let k := m.bank b
    if k.swap.isSome ∨ !m.rdB Reg.lasStatus_domainOn [b] ∨ m.switching b then m
    else match k.asked with
      | [] => m
      | s :: t =>
        let m0 := m.modBank b (fun k => { k with asked := t })
        let st := m.unitState b s 1
        if st = 3 ∨ st = 4 then (m0.noSpare b s).nextSwap b n
        else
          let w : Swap := { slot := s, phase := if st = 2 then 2 else 1, round := if st = 2 then m.hub.round + 1 else 0 }
          let m1 := m0.modBank b (fun k => { k with swap := some w })
          let m2 := (m1.set1 Reg.lasStatus_swapBusy [b]).wr Reg.lasStatus_swapSlot s [b]
          let m3 := if st = 0 then m2.setUnit b s 1 1 else m2
          m3.seqStart (16 + b) 5 b (2 ^ s)

/-- A planned swap of a slot is asked for (R288): requests wait in slot order; a slot whose spare is RETIRED or lit sets
SLOT_EXHAUSTED and the request is ignored. -/
def Module.askSwap (m : Module) (b s : Nat) : Module :=
  if s > 16 then m
  else if m.unitState b s 1 = 4 ∨ m.unitState b s 1 = 3 then m.noSpare b s
  else
    let running : Bool := match (m.bank b).swap with
      | some w => decide (w.slot = s)
      | none => false
    if running ∨ (m.bank b).asked.elem s then m
    else
      let lo := (m.bank b).asked.filter (fun x => x < s)
      let hi := (m.bank b).asked.filter (fun x => s < x)
      m.modBank b (fun k => { k with asked := lo ++ [s] ++ hi })

/-- A laser bank whose domain is off or cut (R287, R430): every LIT unit's slot goes dark; every unit not RETIRED is COLD.
`fail`: the FAULT_ID of the failure it follows from. -/
def Module.bankDown (m : Module) (b : Nat) (fail : Option Nat) : Module :=
  let m1 := m.clr Reg.lasStatus_domainOn [b]
  let m2 := (List.range 17).foldl (fun m s =>
    let lit := m.unitState b s 0 = 3 || m.unitState b s 1 = 3
    let m' := (List.range 2).foldl (fun m u => if m.unitState b s u = 4 then m else m.setUnit b s u 0) m
    if lit && s = 16 && (b = 0 || b = 3) then (match fail with
      | some f => m'.treeFail (if b = 0 then 0 else 1) f
      | none => let (f, m2) := m'.newFault
                m2.treeFail (if b = 0 then 0 else 1) f) else m') m1
  let m3 := match fail with
    | some f => ((m2.set1 Reg.lasEvents_laserFail [b]).logRec { ((LogRec.of 0x0F 0 sevDegraded (0x70 + b) 0).at 0
        [m.rd Reg.lasSlotMon_biasRatio [b, 0]]) with faultId := f }).chargePorts (bankPorts b) f
    | none => m2
  let m4 := (bankPorts b).foldl (fun m p => m.modOpt p (fun o => { o with swapOut := 0 })) m3
  (m4.modBank b (fun k => { LaserBank.reset with power := k.power })).clr Reg.lasStatus_swapBusy [b]

/-! ### Ports (R278, R284, R286, R293 to R297, R319, R323) -/

/-- A link goes DOWN with a flush, and the requests whose packets it held meet a link fault. -/
def Module.dropLink (m : Module) (p reason : Nat) : Module :=
  let (ids, _, m1) := (m.portFault p).2.linkDown p reason
  let (g, t) := m1.behind p
  ((if m.usable p then m1.sendNotice g t true else m1).linkFaults p ids).swapAgreed p

/-- A port leaves UP (R323): its link enters GRACE and the group is told. -/
def Module.leaveUp (m : Module) (p : Nat) (narrow : Bool) : Module :=
  if m.usable p then
    let (g, t) := m.behind p
    ((m.toGrace p narrow).sendNotice g t true).swapAgreed p
  else m

/-- A port leaves UP by a fault, which the requests booked on it meet (R323, R413). -/
def Module.portLost (m : Module) (p : Nat) (narrow : Bool) : Module :=
  if m.usable p then
    let (f, m1) := m.portFault p
    (m1.chargePorts [p] f).leaveUp p narrow
  else m

/-- A port's training starts (R284): FIRN_TRAIN or, `re`, FIRN_RETRAIN, on its engine; a port in SAFETY_CUT stays there (R293). -/
def Module.trainPort (m : Module) (p : Nat) (re : Bool) : Module :=
  if m.rd Reg.firnPortStatus_state (fp p) = 5 then m
  else
    let m0 : Module := { m with cal := { m.cal with deskew := m.cal.deskew.filter (fun x => x.1 / 64 ≠ p) } }
    let m1 := (m0.modOpt p (fun o => { o with trained := false, timed := false })).setFirn p 2
    m1.seqStart (p / 4) (if re then 2 else 1) p allSlots

/-- A full retrain (R319): the port leaves UP, FIRN_RETRAIN runs, and GIVEN_UP slots get another chance (R322). -/
def Module.fullRetrain (m : Module) (p : Nat) : Module :=
  if m.rd Reg.firnPortStatus_state (fp p) = 3 then ((((m.retrainDelay p).leaveUp p false).clr Reg.fabWaveRetry_givenUp [p]).modLink p (fun l => { l with retries := [] })).trainPort p true else m

/-- A full retrain that this end starts: the far end is asked for it by RETRAIN_REQ kind 1 (R318, R319). -/
def Module.retrainAsk (m : Module) (p : Nat) : Module :=
  if m.rd Reg.firnPortStatus_state (fp p) = 3 then (m.sendCtl p 2 [1]).fullRetrain p else m

/-- FIRN_PORT_CTL.RETRAIN: a full retrain of a port in UP; a port that is DOWN trains by FIRN_RETRAIN. -/
def Module.firnRetrain (m : Module) (p : Nat) : Module :=
  if m.rd Reg.firnPortStatus_state (fp p) = 0 ∧ m.role p ≠ 0 ∧ m.rdB Reg.firnStatus_domainOn [p / 4] then m.trainPort p true else m.retrainAsk p

/-- After a flush a port that is not disabled trains again from DOWN (R324). -/
def Module.trainAgain (m : Module) (p : Nat) : Module :=
  let st := m.rd Reg.firnPortStatus_state (fp p)
  if (st = 0 ∨ st = 3) ∧ m.role p ≠ 0 ∧ m.rdB Reg.firnStatus_domainOn [p / 4] then m.trainPort p false else m

/-- FAB_LINK_CTL.FLUSH_NOW (R323, R324). -/
def Module.flushNow (m : Module) (p : Nat) : Module := if m.linkState p = 0 then m else (m.dropLink p 6).trainAgain p

/-- Training fails (R284, R296): the port is DOWN with TRAIN_FAIL; a failed spare pair leaves the moraine pool, and after three
FIRN_TRAIN failures in a row, each with one dark fibre, the spare pair takes over. `one`: FIBRE_DARK on one fibre only, at both ends;
`job`: the kind that failed. A port that has left TRAINING meanwhile stays where it is. -/
def Module.trainFail (m : Module) (p job : Nat) (one : Bool) : Module :=
  if m.rd Reg.firnPortStatus_state (fp p) ≠ 2 then m
  else
    let d := if job = 1 then (if one then (m.opt p).darkFails + 1 else 0) else (m.opt p).darkFails
    let m1 := ((m.modOpt p (fun o => { o with fails := o.fails + 1, darkFails := d, trained := false })).setFirn p 0).set1
      Reg.firnPortEvents_trainFail (fp p)
    let m2 := m1.optRec p 0 5 sevDegraded
    let e := p / 4
    if m.rdB Reg.firnPortStatus_onSpare (fp p) then
      ({ m2 with saf := { m2.saf with mor := { m2.saf.mor with fibres := SMap.ins e 2 m2.saf.mor.fibres } } } : Module).set1
        Reg.firnSpareCfg_failed [e] |>.alerts
    else if 3 ≤ d ∧ m.rd Reg.firnSpareCfg_sparePort [e] = p % 4 ∧ (SMap.find? m2.saf.mor.fibres e).isNone then
      (((({ m2 with saf := { m2.saf with mor := { m2.saf.mor with fibres := SMap.ins e (16 + p % 4) m2.saf.mor.fibres } } } : Module).set1
        Reg.firnSpareCfg_inUse [e]).set1 Reg.firnPortStatus_onSpare (fp p)).modOpt p (fun o => { o with fails := 0, darkFails := 0 })).alerts.trainPort p false
    else m2

/-- The receive clock moves to the next clock-source slot, which leaves the map (R283, R292); with fewer than 8 slots left the port
leaves UP. -/
def Module.askFallback (m : Module) (p : Nat) : Module :=
  let map := (m.nextMap p 1).1
  let s := clockSlot map
  let new := map - 2 ^ s
  if popcount 16 new < 8 then ((m.setMap p 1 new).setFirn p 0).portLost p true else m.startMap p 1 new s

/-- A slot leaves the receive map by MAP_REQUEST, beside those that are leaving it already, and joins the background retrains (R280,
R321, R322); with fewer than 8 left the port leaves UP. The clock source of a fallback moves on (R292). -/
def Module.dropSlot (m : Module) (p slot : Nat) : Module :=
  let (map, clk) := m.nextMap p 1
  if slot < 16 ∧ clk = slot then m.askFallback p
  else if !bitB map slot ∨ 16 ≤ slot then m
  else
    let new := map - 2 ^ slot
    if popcount 16 new < 8 then ((m.setMap p 1 new).setFirn p 0).portLost p true
    else
      let m1 := m.modLink p (fun l => { l with retries := SMap.ins slot 0 l.retries })
      ((m1.wr Reg.fabWaveRetry_retrySlot slot [p]).wr Reg.fabWaveRetry_attempts 0 [p]).startMap p 1 new clk

/-- A port whose domain or clock is gone (R29, R430, R437): DOWN, and its link in GRACE. -/
def Module.portDown (m : Module) (p : Nat) : Module :=
  ((m.modOpt p (fun o => { o with switch := 0, trained := false, probeSeen := false, clkLock := false, txClk := 16 })).setFirn p 0).portLost p false

/-- A port's output switch may leave DUMP: its Firn domain has been on for 2 ms (R278), which are 391 rounds. -/
def Module.switchFree (m : Module) (p : Nat) : Bool :=
  m.rdB Reg.firnStatus_domainOn [p / 4] && decide (SMap.get 0 m.pwr.onRound (144 + p / 4) + 391 ≤ m.hub.round)

/-- A port that is not disabled starts in SAFE, and its rings are acquired (R279, R295, R297). -/
def Module.wakePort (m : Module) (p : Nat) : Module :=
  if m.role p = 0 ∨ m.rd Reg.firnPortStatus_state (fp p) = 5 then m else (m.setFirn p 1).seqStart (p / 4) 4 p allSlots

/-- What befalls the ports of a Firn engine is fault f (R406). -/
def Module.asFault (m : Module) (e f : Nat) : Module :=
  (List.range 4).foldl (fun m i => if m.usable (4 * e + i) then m.modLink (4 * e + i) (fun l => { l with fault := some (l.fault.getD f) }) else m) m

/-- Every port of a Firn engine goes down with its die. -/
def Module.engineDown (m : Module) (f : Nat) : Module :=
  ((List.range 4).foldl (fun m i => m.portDown (4 * f + i)) (m.clr Reg.firnStatus_domainOn [f])).connDown (72 + f)

end Sys2Proof.Machine
end

