-- ==== Sys2Proof/Machine/Engines.lean ====
section
/-! DEFINITION. Power domains cut and lost (R426 to R430, R437), and the sequence engines: fields, steps, measurements and
how an instance ends (R144 to R147, R298 to R300, R454, R455). -/

namespace Sys2Proof.Machine

/-! ### Domains -/

/-- State of a domain: 0 OFF, 1 RAMPING, 2 ON, 3 FAULT_OFF, 4 SHUTDOWN. -/
def Module.domain (m : Module) (d : Nat) : Nat := m.rd Reg.pwrDomain_state [d]

/-- A Tine lost at once (R29, R91, R430, R437): its stage is to run again on the substitute, the site enters RETIRED and its
bundles go DOWN. `cause`: the TINE_FAULT bit; `f`: the FAULT_ID of what it follows from. -/
def Module.tineLost (m : Module) (s cause f : Nat) : Module :=
  let d := (m.tine s).last
  let m1 := m.chargeSite s f
  let m2 := match m1.req? d.req with
    | some r => if r.running && m1.rdB Reg.tineSeqStatus_stageActive [s] then (m1.restart d.req).count Reg.safReexec_count else m1
    | none => m1
  let m3 := if cause = 7 then m2.set1 Reg.tineFault_thermalShutdown [s] else m2.set1 Reg.tineFault_clkLost [s]
  ((m3.retireNow s cause f).connDown s).alerts

/-- A GUEST_FIREWALL record (class 0x0B). -/
def Module.guestRec (m : Module) (g sev cause cls op : Nat) : Module :=
  m.report ((LogRec.of 0x0B 0 sev (0x69 + g) g).at 0 [cause, cls, op])

/-- A guest site fenced (R366). -/
def Module.fence (m : Module) (g : Nat) : Module :=
  if m.rdB Reg.qlkFwCtl_fenced [g] then m else (m.set1 Reg.qlkFwCtl_fenced [g]).guestRec g sevDegraded 1 0 0

/-- The home forgets the lines and messages of a guest whose domain is off. -/
def Module.guestDown (m : Module) (g : Nat) : Module :=
  let m1 := (m.modGuest g (fun x => { x with inbox := [], due := [], lines := [] })).connDown (88 + g)
  { m1 with qlk := { m1.qlk with snoops := m1.qlk.snoops.filter (fun x => x.guest ≠ g),
                                 waits := m1.qlk.waits.filter (fun x => x.who ≠ g) } }

/-- A domain off, in a state: 0, 3 or 4; a Firn engine's switches rest in DUMP and its ports are down (R278), a bank's lasers are COLD
(R287), and the home forgets its guest. -/
def Module.domainOff (m : Module) (d st : Nat) : Module :=
  let m1 := ((m.wr Reg.pwrDomain_state st [d]).clr Reg.pwrDomain_pgood [d]).wr Reg.pwrDomain_vmeasMv 0 [d]
  if 144 ≤ d ∧ d < 160 then m1.engineDown (d - 144)
  else if 160 ≤ d ∧ d < 164 then m1.bankDown (d - 160) none
  else if 168 ≤ d ∧ d < 170 then m1.guestDown (d - 168) else m1

/-- What follows the loss of a die whose domain was cut, beside what its going off does (R430, R437): Tine, laser bank, guest site; a
Cirque domain fails fast and takes every other domain with it, but for domain 165. `f`: the FAULT_ID of the loss. -/
def Module.dieCut (m : Module) (d f : Nat) : Module :=
  if d < 144 then m.tineLost (d % 72) 7 f
  else if d < 160 then m
  else if d < 164 then m.bankDown (d - 160) (some f)
  else if d < 168 then
    (List.range 170).foldl (fun m k => if k = 165 ∨ k = d then m else m.domainOff k 0) m.failFast
  else m.fence (d - 168)

/-! ### Fields of the catalogues (R298, R299, R454) -/

/-- The port an instance addresses: a Firn engine's local port, or for OPTICS_POWER_UP the bank's. -/
def SeqInst.port (i : SeqInst) (e : Nat) : Nat :=
  let l := SMap.get 0 i.fields 1 % 4
  if e < 16 then 4 * e + l else 16 * (e - 16) + l

/-- The slot an instance addresses. -/
def SeqInst.slot (i : SeqInst) : Nat := SMap.get 0 i.fields 2 % 32

/-- Index of a wavelength register. -/
def SeqInst.wave (i : SeqInst) (e : Nat) : List Nat := fp (i.port e) ++ [i.slot]

/-- Key of a domain's field: DOM_VSET, DOM_ISOLATE, DOM_RESET, CLKRX_EN. -/
def domField (d f : Nat) : Nat := 4 * d + (if f = 0x210 then 0 else f - 0x213)

/-- A domain's field kept. -/
def Module.setDom (m : Module) (d f v : Nat) : Module :=
  { m with pwr := { m.pwr with fields := SMap.put 0 (domField d f) v m.pwr.fields } }

/-- A field read (GETF, POLL, SETFS): from the registers where they hold it; otherwise `sensed`, what the circuit shows. -/
def Module.seqRead (m : Module) (e : Nat) (i : SeqInst) (f sensed : Nat) : Nat :=
  let p := i.port e
  let o := m.opt p
  let b := e - 16
  let ls := SMap.get 0 i.fields 0x101
  let lu := SMap.get 0 i.fields 0x102
  let d := SMap.get 0 i.fields 0x201
  if f = 0x10 then o.switch
  else if f = 0x11 then o.pattern
  else if f = 0x12 then m.rd Reg.firnWaveTx_pre (i.wave e)
  else if f = 0x13 then m.rd Reg.firnWaveTx_main (i.wave e)
  else if f = 0x14 then m.rd Reg.firnWaveTx_post (i.wave e)
  else if f = 0x15 then m.rd Reg.firnWaveTx_txHeater (i.wave e)
  else if f = 0x20 then m.rd Reg.firnWaveRx_rxHeater (i.wave e)
  else if f = 0x22 then m.rd Reg.firnWaveRx_coarse (i.wave e)
  else if f = 0x23 then m.rd Reg.firnWaveRx_fine (i.wave e)
  else if f = 0x27 then m.rd Reg.firnPortStatus_clkSource (fp p)
  else if f = 0x28 then bit o.track i.slot
  else if f = 0x30 then o.txProp
  else if f = 0x31 then o.rxProp
  else if f = 0x32 then o.msgOut
  else if f = 0x34 then ofB o.farLoop
  else if f = 0x40 then (toBits 32 ((m.temps (72 + p / 4)).2 / 64))
  else if f = 0x41 then m.rd Reg.firnPortStatus_onSpare (fp p)
  else if f = 0x112 then SMap.get (Config.laserPower (34 * b + 2 * ls + lu)) (m.bank b).power (2 * ls + lu)
  else if f = 0x113 then m.unitState b ls lu
  else if f = 0x122 then (m.bank b).pendPorts.length
  else if f = 0x210 ∨ f = 0x214 ∨ f = 0x215 ∨ f = 0x216 then SMap.get 0 m.pwr.fields (domField d f)
  else if f = 0x211 then (if m.domain d = 1 ∨ m.domain d = 2 then 1 else 0)
  else if f = 0x219 then
    (if d < 144 then m.rd Reg.qlkLinkStatus_up [d % 72] else if d < 160 then m.rd Reg.qlkLinkStatus_up [72 + (d - 144)]
     else if 168 ≤ d ∧ d < 170 then m.rd Reg.qlkLinkStatus_up [88 + (d - 168)] else 0)
  else if f = 0x124 then ofB (m.swapFits b m.hub.round)
  else if f = 0x16 ∨ f = 0x21 ∨ (0x24 ≤ f ∧ f ≤ 0x26) ∨ f = 0x33 ∨ f = 0x114 ∨ f = 0x212 ∨ f = 0x213 ∨ f = 0x217 then
    sensed % 2 ^ 32
  else SMap.get 0 i.fields f

/-- PRBS errors found on a slot of a port in loopback (R286). -/
def Module.loopErrs (m : Module) (p slot n : Nat) : Module :=
  if m.rd Reg.firnPortStatus_state (fp p) = 4 then m.count Reg.firnWaveErr_errors n (fp p ++ [slot]) else m

/-- What the circuit shows through a read-only field is what its register shows from then on. -/
def Module.seqSense (m : Module) (e : Nat) (i : SeqInst) (f v : Nat) : Module :=
  let p := i.port e
  let d := SMap.get 0 i.fields 0x201
  if f = 0x16 then m.wr Reg.firnWaveTx_txLock v (i.wave e)
  else if f = 0x21 then m.wr Reg.firnWaveRx_rxLock v (i.wave e)
  else if f = 0x24 then m.wr Reg.firnWavePower_rxPower v (i.wave e)
  else if f = 0x25 then m.loopErrs p i.slot v
  else if f = 0x26 then m.modOpt p (fun o => { o with clkLock := decide (v % 2 = 1) })
  else if f = 0x33 then m.modOpt p (fun o => { o with msgIn := v })
  else if f = 0x114 then m.wr Reg.lasSlotWave_waveErr v [e - 16, SMap.get 0 i.fields 0x101]
  else if f = 0x212 then
    let m1 := m.wr Reg.pwrDomain_pgood v [d]
    if v % 2 = 1 ∧ m.domain d = 1 then m1.wr Reg.pwrDomain_state 2 [d] else m1
  else if f = 0x213 then m.wr Reg.pwrDomain_vmeasMv v [d]
  else m

/-- A Tine compute domain's set points (R427): V(N) in mV for N = 8 to 16, in units of 1/4 mV rounded down. -/
def vsetOk (mv : Nat) : Bool := (List.range 9).any (fun k => (3200 - 75 * k) / 4 = mv)

/-- May a domain be switched on or off now (R428)? -/
def Module.mayEnable (m : Module) (d : Nat) (on : Bool) : Bool :=
  let up := fun k => decide (m.domain k = 1 ∨ m.domain k = 2)
  if 164 ≤ d ∧ d < 168 ∨ 170 ≤ d then false
  else if on then
    (if d < 72 then up (72 + d) else true) && ((decide (160 ≤ d) && decide (d < 164)) || (up 164 && up 165))
  else (if 72 ≤ d ∧ d < 144 then !up (d - 72) else if 160 ≤ d ∧ d < 164 then (m.bank (d - 160)).swap.isNone else true)

/-- A field written (SETF, SETFS): the module, the instance, and whether the write was taken; a refused one fails the
step. -/
def Module.seqWrite (m : Module) (e : Nat) (i : SeqInst) (f v : Nat) : Module × SeqInst × Bool :=
  let p := i.port e
  let o := m.opt p
  let b := e - 16
  let ls := SMap.get 0 i.fields 0x101
  let lu := SMap.get 0 i.fields 0x102
  let d := SMap.get 0 i.fields 0x201
  let keep : SeqInst := { i with fields := SMap.put 0 f v i.fields }
  let taps := fun (pre main post : Nat) => decide (pre + main + post ≤ 63) && decide (24 ≤ main)
  let pre := m.rd Reg.firnWaveTx_pre (i.wave e)
  let main := m.rd Reg.firnWaveTx_main (i.wave e)
  let post := m.rd Reg.firnWaveTx_post (i.wave e)
  let safe := m.rd Reg.firnPortStatus_state (fp p) = 1 ∨ m.rd Reg.firnPortStatus_state (fp p) = 5
  if f = 1 then (m, keep, decide (v < 4))
  else if f = 2 then (m, keep, decide (v < 17))
  else if f = 0x10 then
    (if (v = 1 ∧ (safe ∨ m.role p = 0)) ∨ (v ≠ 0 ∧ !m.switchFree p) then m
     else if v < 3 then m.modOpt p (fun o => { o with switch := v }) else m, i, decide (v < 3))
  else if f = 0x11 then (m.modOpt p (fun o => { o with pattern := v }), i, decide (v < 5))
  else if f = 0x12 then
    if i.slot = 16 then (m, i, true)
    else if taps v main post then (m.wr Reg.firnWaveTx_pre v (i.wave e), i, true) else (m, i, false)
  else if f = 0x13 then
    if i.slot = 16 then (m, i, true)
    else if taps pre v post then (m.wr Reg.firnWaveTx_main v (i.wave e), i, true) else (m, i, false)
  else if f = 0x14 then
    if i.slot = 16 then (m, i, true)
    else if taps pre main v then (m.wr Reg.firnWaveTx_post v (i.wave e), i, true) else (m, i, false)
  else if f = 0x15 then (m.wr Reg.firnWaveTx_txHeater v (i.wave e), i, decide (v < 4096))
  else if f = 0x20 then (m.wr Reg.firnWaveRx_rxHeater v (i.wave e), i, decide (v < 4096))
  else if f = 0x22 then (m.wr Reg.firnWaveRx_coarse v (i.wave e), i, decide (v < 16))
  else if f = 0x23 then (m.wr Reg.firnWaveRx_fine v (i.wave e), i, decide (v < 32))
  else if f = 0x27 then (m.wr Reg.firnPortStatus_clkSource v (fp p), i, decide (v < 17))
  else if f = 0x28 then
    (m.modOpt p (fun o => { o with track := if v % 2 = 1 then o.track ||| 2 ^ i.slot else o.track - (if bitB o.track i.slot then 2 ^ i.slot else 0) }), i, true)
  else if f = 0x30 then (m.modOpt p (fun o => { o with txProp := v % 65536 }), i, true)
  else if f = 0x31 then (m.modOpt p (fun o => { o with rxProp := v % 65536 }), i, true)
  else if f = 0x32 then (m.modOpt p (fun o => { o with msgOut := v }), i, true)
  else if f = 0x34 then (m.modOpt p (fun o => { o with farLoop := decide (v % 2 = 1) }), i, true)
  else if f = 0x101 then (m, keep, decide (v < 17))
  else if f = 0x102 then (m, keep, decide (v < 2))
  else if f = 0x110 then
    if v % 2 = 1 ∧ m.unitState b ls lu = 0 then (m.setUnit b ls lu 1, i, true) else (m, i, decide (m.unitState b ls lu ≠ 4))
  else if f = 0x111 then
    let st := m.unitState b ls lu
    if st ≠ 2 ∧ st ≠ 3 then (m, i, decide (st = 4 ∧ v % 2 = 0))
    else if v % 2 = 1 then
      if m.unitState b ls (1 - lu) = 3 then (m, i, false) else (m.setUnit b ls lu 3, i, true)
    else
      let swapping : Bool := match (m.bank b).swap with
        | some w => decide (w.slot = ls) && decide (w.phase = 3) && decide (lu = 0) && decide ((m.bank b).pendPorts = [])
        | none => false
      if st = 3 ∧ swapping then ((m.setUnit b ls lu 4).alerts, i, true) else (m, i, decide (st = 2))
  else if f = 0x112 then
    (if v ≤ Config.laserPower (34 * b + 2 * ls + lu) then
      (m.modBank b (fun k => { k with power := SMap.ins (2 * ls + lu) v k.power }), i, true) else (m, i, false))
  else if f = 0x120 ∨ f = 0x121 then
    let mine : Bool := match (m.bank b).swap with
      | some w => decide (w.slot = ls)
      | none => false
    (if v % 2 = 1 ∧ mine then (if f = 0x120 then m.swapRemove b else m.swapReturn b) else m, i, true)
  else if f = 0x123 then
    if v % 2 = 1 ∧ b = 0 then (m.useTree 1, i, true)
    else if v % 2 = 1 ∧ b = 3 then (m.useTree 0, i, true) else (m, i, decide (v % 2 = 0))
  else if f = 0x130 then
    (if v % 2 = 1 then (bankPorts b).foldl (fun m q => if m.role q = 0 then m else m.trainPort q false) m else m, i, true)
  else if f = 0x201 then if 164 ≤ v ∧ v < 168 ∨ 170 ≤ v then (m, i, false) else (m, keep, true)
  else if f = 0x210 then if d < 72 ∧ !vsetOk v then (m, i, false) else (m.setDom d f v, i, true)
  else if f = 0x211 then
    if !m.mayEnable d (v % 2 = 1) then (m, i, false)
    else if v % 2 = 1 then (if m.domain d = 2 then m else m.wr Reg.pwrDomain_state 1 [d], i, true)
    else (m.domainOff d 0, i, true)
  else if f = 0x214 ∨ f = 0x215 then (m.setDom d f (v % 2), i, true)
  else if f = 0x216 then if 72 ≤ d ∧ d < 160 then (m.setDom d f (v % 2), i, true) else (m, i, false)
  else if f = 0x218 then
    (if v % 2 = 0 then m
     else if d < 144 then m.trainConn (d % 72)
     else if d < 160 then m.trainConn (72 + (d - 144))
     else if 168 ≤ d ∧ d < 170 then m.trainConn (88 + (d - 168)) else m, i, true)
  else (m, keep, decide (o.switch < 3))

/-! ### How an instance ends (R145, R284, R289, R290, R455) -/

/-- The optics of a powered bank start under its OPTICS_POWER_UP table, where the structure in force has one (R297). -/
def Module.opticsUp (m : Module) (b : Nat) : Module := if (m.seqTable 8).isSome then m.seqStart (16 + b) 8 b 0 else m

/-- A domain that came up: its die's status shows it, a Firn engine's ports wake and a bank's optics start (R278, R297). -/
def Module.domainUp (m : Module) (d : Nat) : Module :=
  let m0 := (m.wr Reg.pwrDomain_state 2 [d]).set1 Reg.pwrDomain_pgood [d]
  let m1 : Module := { m0 with pwr := { m0.pwr with onRound := SMap.ins d m.hub.round m0.pwr.onRound } }
  if 144 ≤ d ∧ d < 160 then
    (List.range 4).foldl (fun m i => m.wakePort (4 * (d - 144) + i)) (m1.set1 Reg.firnStatus_domainOn [d - 144])
  else if 160 ≤ d ∧ d < 164 then (m1.set1 Reg.lasStatus_domainOn [d - 160]).opticsUp (d - 160)
  else m1

/-- The rings an acquisition served (R279): locked and tracked from then on, and a port in SAFE has its switch moved (R297); or
unlocked. -/
def Module.ringsTuned (m : Module) (p slots : Nat) (ok : Bool) : Module :=
  let m1 := ((List.range 17).filter (bitB slots)).foldl (fun m s =>
    (m.wr Reg.firnWaveTx_txLock (ofB ok) (fp p ++ [s])).wr Reg.firnWaveRx_rxLock (ofB ok) (fp p ++ [s])) m
  let m2 := m1.modOpt p (fun o => { o with track := if ok then o.track ||| slots % 2 ^ 17 else maskOff o.track slots })
  if ok ∧ m2.rd Reg.firnPortStatus_state (fp p) = 1 ∧ m2.role p ≠ 0 ∧ m2.switchFree p then m2.modOpt p (fun o => { o with switch := 1 }) else m2

/-- A background retrain of one slot ended (R322): on success its rings are locked and the slot returns, to the own transmit map by
MAP_PROPOSE and to the receive map by MAP_REQUEST; the 64th failure gives it up. -/
def Module.waveDone (m : Module) (p slot : Nat) (ok : Bool) : Module :=
  let n := SMap.get 0 (m.link p).retries slot + 1
  let shown := decide (m.rd Reg.fabWaveRetry_retrySlot [p] = slot)
  if 16 ≤ slot then m
  else if ok then
    let m0 := ((m.modLink p (fun l => { l with retries := SMap.del slot l.retries })).set1 Reg.firnWaveTx_txLock (fp p ++ [slot])).set1
      Reg.firnWaveRx_rxLock (fp p ++ [slot])
    let m1 := if shown then m0.wr Reg.fabWaveRetry_attempts 0 [p] else m0
    let put := fun (fibre : Nat) (m : Module) =>
      let (map, clk) := m.nextMap p fibre
      if bitB map slot ∨ clk = slot then m else m.startMap p fibre (map ||| 2 ^ slot) clk
    put 1 (if bitB (m1.opt p).swapOut slot then m1 else put 0 m1)
  else
    let m0 := m.modLink p (fun l => { l with retries := if n ≥ 64 then SMap.del slot l.retries else SMap.ins slot n l.retries })
    let m1 := if shown then m0.wr Reg.fabWaveRetry_attempts (min 64 n) [p] else m0
    if n ≥ 64 then
      ((m1.wrBit Reg.fabWaveRetry_givenUp slot true [p]).set1 Reg.fabEvents_waveGivenUp [p]).linkRec p 5 sevRecovered [0, 0]
    else m1

/-- The action an instance served, at its end; `one`: a failed training saw FIBRE_DARK on one fibre only, at both ends. -/
def Module.seqServe (m : Module) (i : SeqInst) (ok one : Bool) : Module :=
  let p := i.target
  let slot := lowBit 17 0 i.slots
  if i.job = 1 ∨ i.job = 2 then
    (if ok then m.modOpt p (fun o => { o with trained := true }) else m.trainFail p i.job one)
  else if i.job = 3 then m.waveDone p slot ok
  else if i.job = 4 then m.ringsTuned p i.slots ok
  else if i.job = 6 then
    if ok then m.domainUp p
    else
      let (f, m1) := m.newFault
      (m1.domainOff p 0).dieCut p f
  else if i.job = 7 then m.domainOff p 0
  else m

/-- An instance ends with an outcome or a failure reason, a limit exceeded with 0xFFFF_FFFF: it is kept, the action the instance served
follows, and the next one begins. A failure of a planned swap's sequence is a failure of the swap (R145, R146). -/
def Module.seqEnd (m : Module) (e : Nat) (ok : Bool) (one : Bool := false) (value : Nat := 0xFFFFFFFF) : Module :=
  match SMap.find? m.seqs e with
  | none => m
  | some i =>
    let m0 : Module := { m with str := { m.str with ends := SMap.ins e (ok, value) m.str.ends } }
    let m1 := m0.seqNextJob e
    let m2 := m1.seqServe i ok one
    if i.job = 5 ∧ !ok then m2.dropSwap i.target (lowBit 17 0 i.slots) else m2

/-! ### Steps (R145, R146) -/

/-- The step an engine's instance stands at. -/
def Module.seqAt (m : Module) (e : Nat) : Option (SeqInst × SeqStep) :=
  match SMap.find? m.seqs e with
  | none => none
  | some i => (i.table.steps[i.pc]?).map (fun s => (i, s))

/-- One step of operation `op` on engine e, taking t management cycles: its meaning gives the module, the instance and
whether it goes to NEXT; a limit exceeded ends the instance instead (R146). -/
def Module.seqStep (m : Module) (e op t : Nat) (k : SeqInst → SeqStep → Module × SeqInst × Bool) : Module :=
  match m.seqAt e with
  | none => m
  | some (i, s) =>
    if s.op ≠ op then m
    else if i.steps ≥ i.table.stepLimit ∨ i.time + t > i.table.timeLimit then m.seqEnd e false
    else
      let (m1, i1, ok) := k i s
      let i2 : SeqInst := { i1 with
        pc := if ok then seqNext i.pc s.next else s.alt, steps := i.steps + 1, time := i.time + t }
      match SMap.find? m1.seqs e with
      | none => m1
      | some _ => { m1 with seqs := SMap.ins e i2 m1.seqs }

/-- SETF. -/
def Module.seqSetf (m : Module) (e t : Nat) : Module := m.seqStep e 1 t (fun i s => m.seqWrite e i s.field s.value)

/-- SETFS. -/
def Module.seqSetfs (m : Module) (e t : Nat) : Module :=
  m.seqStep e 2 t (fun i s => m.seqWrite e i s.field (SMap.get 0 i.scr s.scr))

/-- An instance with a scratch register set. -/
def SeqInst.setScr (i : SeqInst) (r v : Nat) : SeqInst := { i with scr := SMap.put 0 r (v % 2 ^ 32) i.scr }

/-- GETF; `sensed`: what the circuit shows where no register holds the field. -/
def Module.seqGetf (m : Module) (e t sensed : Nat) : Module :=
  m.seqStep e 3 t (fun i s =>
    (m.seqSense e i s.field sensed, i.setScr s.scr (m.seqRead e i s.field sensed), true))

/-- LOADS. -/
def Module.seqLoads (m : Module) (e t : Nat) : Module := m.seqStep e 4 t (fun i s => (m, i.setScr s.scr s.value, true))

/-- ADDS. -/
def Module.seqAdds (m : Module) (e t : Nat) : Module :=
  m.seqStep e 5 t (fun i s => (m, i.setScr s.scr (SMap.get 0 i.scr s.scr + s.value), true))

/-- WAIT: the step's own time passes. -/
def Module.seqWaitStep (m : Module) (e : Nat) : Module :=
  match m.seqAt e with
  | some (_, s) => m.seqStep e 6 s.time (fun i _ => (m, i, true))
  | none => m

/-- POLL: after t cycles the field shows `sensed`; it goes on when it matches, or to ALT once TIME is over. -/
def Module.seqPoll (m : Module) (e t sensed : Nat) : Module :=
  match m.seqAt e with
  | some (i, s) =>
    if s.op = 7 ∧ m.seqRead e i s.field sensed ≠ s.value ∧ t < s.time then m.seqSense e i s.field sensed
    else m.seqStep e 7 (min t s.time) (fun i s =>
      (m.seqSense e i s.field sensed, i, decide (m.seqRead e i s.field sensed = s.value)))
  | none => m

/-- The comparison of BRS, signed (R145). -/
def seqCond (c : Nat) (a b : Nat) : Bool :=
  let x := sext 32 a
  let y := sext 32 b
  if c = 0 then decide (x = y) else if c = 1 then decide (x ≠ y) else if c = 2 then decide (x < y) else decide (y ≤ x)

/-- BRS. -/
def Module.seqBrs (m : Module) (e t : Nat) : Module :=
  m.seqStep e 8 t (fun i s => (m, i, seqCond s.cond (SMap.get 0 i.scr s.scr) s.value))

/-- What a measurement leaves behind beside its result (R285, R300, R455). -/
def Module.seqMeasured (m : Module) (e : Nat) (i : SeqInst) (prim v : Nat) : Module :=
  let p := i.port e
  let d := SMap.get 0 i.fields 0x201
  if i.table.kind = 6 ∨ i.table.kind = 7 then
    (if prim = 1 then (m.wr Reg.pwrDomain_state 2 [d]).set1 Reg.pwrDomain_pgood [d] else m)
  else if prim = 1 then m
  else if prim = 3 then m.loopErrs p i.slot v
  else if prim = 5 then
    (m.wr Reg.firnPortLatency_oneWayPs (v + (if (m.opt p).countFb then 120000 else 0)) (fp p)).modOpt p (fun o => { o with timed := true })
  else if prim = 6 then m.modOpt p (fun o => { o with probeSeen := decide (v = 1) })
  else if prim = 7 then m.modOpt p (fun o => { o with clkLock := true })
  else if prim = 8 then
    let b := e - 16
    let s := SMap.get 0 i.fields 0x101
    let u := SMap.get 0 i.fields 0x102
    if m.unitState b s u = 1 then m.setUnit b s u 2 else m
  else m

/-- One-way latency in ps of a marker that came back after n root cycles of 156.25 ps: half of what is over the far end's turnaround of
48 (R285). -/
def oneWayPs (n : Nat) : Nat := (n - 48) * 625 / 8

/-- What a primitive leaves in SCR: of LATENCY the circuit counts root cycles, of OPEN_FIBRE it shows 0 or 1 (R285, R300). -/
def measured (kind prim v : Nat) : Nat :=
  if kind = 6 ∨ kind = 7 then v else if prim = 5 then oneWayPs v else if prim = 6 then v % 2 else v

/-- MEASURE: what the circuit counted, or none where the primitive fails. -/
def Module.seqMeasure (m : Module) (e t : Nat) (res : Option Nat) : Module :=
  m.seqStep e 9 t (fun i s => match res with
    | some n => let v := measured i.table.kind s.value n; (m.seqMeasured e i s.value v, i.setScr s.scr v, true)
    | none => (m, i, false))

/-- DONE and FAIL: the instance ends; a limit exceeded ends it as FAIL. -/
def Module.seqFinish (m : Module) (e : Nat) (ok one : Bool) : Module :=
  match m.seqAt e with
  | none => m
  | some (i, s) =>
    if s.op ≠ (if ok then 0x0A else 0x0B) then m
    else if i.steps ≥ i.table.stepLimit then m.seqEnd e false
    else m.seqEnd e ok one s.value

/-- SEQ_LIMIT_EXCEEDED: the instance has run t cycles more and is over TIME_LIMIT, or has no step left to execute. -/
def Module.seqLimit (m : Module) (e t : Nat) : Module :=
  match SMap.find? m.seqs e with
  | none => m
  | some i =>
    if i.time + t > i.table.timeLimit ∨ i.steps ≥ i.table.stepLimit then m.seqEnd e false
    else { m with seqs := SMap.ins e { i with time := i.time + t } m.seqs }

end Sys2Proof.Machine
end

