-- ==== Sys2Proof/Machine/FabricOps.lean ====
section
/-! DEFINITION. What happens on an optical port, a laser bank or a fabric link when an event or a message reaches it (R280 to
R297, R304 to R324). -/

namespace Sys2Proof.Machine

/-! ### Rings, clocks and maps (R280 to R283, R320 to R322) -/

/-- RING_LOCK_LOSS: a ring of a port's slot loses lock; `tx`: the modulator ring, whose slot the far receiver then loses and asks to
remove, and which is retrained here; a drop ring's slot leaves the receive map (R280). -/
def Module.ringLost (m : Module) (p slot : Nat) (tx : Bool) : Module :=
  if m.rd Reg.firnPortStatus_state (fp p) ≠ 3 ∨ slot > 16 then m
  else
    let m1 := (m.set1 Reg.firnPortEvents_waveLost (fp p)).optRec p slot 0 sevRecovered
    if tx then
      let m2 := m1.clr Reg.firnWaveTx_txLock (fp p ++ [slot])
      if slot < 16 then m2.seqStart (p / 4) 3 p (2 ^ slot) else m2
    else (m1.clr Reg.firnWaveRx_rxLock (fp p ++ [slot])).dropSlot p slot

/-- SLOT_LOST: the receiver declares a data slot lost (R321). -/
def Module.slotLost (m : Module) (p slot : Nat) : Module :=
  if m.rd Reg.firnPortStatus_state (fp p) ≠ 3 ∨ slot > 15 ∨ !bitB (m.laneMap p 1) slot then m
  else ((m.set1 Reg.firnPortEvents_waveLost (fp p)).optRec p slot 0 sevRecovered).dropSlot p slot

/-- CLK_LOST: no edge on slot 16: clock fallback is asked of the far end (R282, R283); losing the clock-source slot in
fallback moves it to the next lowest (R292). -/
def Module.clkLost (m : Module) (p : Nat) : Module :=
  if m.rd Reg.firnPortStatus_state (fp p) ≠ 3 then m
  else
    let m1 := (((m.set1 Reg.firnPortEvents_clkLost (fp p)).optRec p 16 1 sevRecovered).clr Reg.firnWaveRx_rxLock (fp p ++ [16])).emit (.optical p 1)
    (m1.modOpt p (fun o => { o with clkLock := false })).askFallback p

/-- CLOCK_FALLBACK_LOCK: the receiver has locked to the fallback slot (R283). -/
def Module.fallbackLock (m : Module) (p : Nat) : Module :=
  if m.rd Reg.firnPortStatus_state (fp p) ≠ 3 ∨ m.rd Reg.firnPortStatus_clkSource (fp p) = 16 then m
  else (((m.set1 Reg.firnPortStatus_clkFallback (fp p)).set1 Reg.firnPortEvents_fallback (fp p)).optRec p
    (m.rd Reg.firnPortStatus_clkSource (fp p)) 2 sevRecovered).modOpt p (fun o => { o with clkLock := true })

/-- FALLBACK_EXIT: slot 16 has been locked for 1 ms: the clock-source slot returns to the map by agreement (R283). DEDUCED: the receiver,
which alone sees the lock, asks by MAP_REQUEST; R320 lets either end start an agreement. -/
def Module.fallbackExit (m : Module) (p : Nat) : Module :=
  if !m.rdB Reg.firnPortStatus_clkFallback (fp p) then m
  else
    let (map, clk) := m.nextMap p 1
    (m.set1 Reg.firnWaveRx_rxLock (fp p ++ [16])).startMap p 1 (map ||| (if clk < 16 then 2 ^ clk else 0)) 16

/-- A map change as a message names it is acceptable (R320): 0, or the reason of a MAP_REJECT. `passed`: the framing of the answering end
is already past X. -/
def mapReason (map : Nat) (passed : Bool) : Nat := if popcount 16 map < 8 then 3 else if passed then 1 else 0

/-- The far end asks for a change of a fibre (R318, R320). Where both ends asked, the master's request proceeds: the master lets the
other's pass; the other end abandons its own, answers with MAP_REJECT reason 2 and may repeat it once the master's is complete. A change that leaves
fewer than 8 slots is refused and the port leaves UP (R321). -/
def Module.mapAsked (m : Module) (p fibre map x clk : Nat) (passed : Bool) : Module :=
  let mine : Option MapChange := (if fibre = 0 then (m.link p).pendTx else (m.link p).pendRx).filter MapChange.own
  let r := mapReason map passed
  let take := fun (m : Module) =>
    m.modLink p (fun l =>
      let c : MapChange := { x := x, map := map, clk := clk, own := false }
      if fibre = 0 then { l with pendTx := some c } else { l with pendRx := some c })
  if r = 3 then ((m.sendCtl p 6 [x, r]).setFirn p 0).portLost p true
  else if r ≠ 0 then m.sendCtl p 6 [x, r]
  else match mine with
    | none => take m
    | some c =>
      if m.rdB Reg.fabLinkStatus_master [p] then m
      else
        let old := m.laneMap p fibre
        take ((m.wishMap p fibre (some (maskOff old c.map, maskOff c.map old, c.clk))).sendCtl p 6 [c.x, 2])

/-- MAP_PROPOSE received: the far end's transmit fibre, our receive fibre (R320). -/
def Module.mapPropose (m : Module) (p map x clk : Nat) (passed : Bool) : Module := m.mapAsked p 1 map x clk passed

/-- MAP_REQUEST received: our transmit fibre (R320). -/
def Module.mapRequest (m : Module) (p map x clk : Nat) (passed : Bool) : Module := m.mapAsked p 0 map x clk passed

/-- MAP_ACK received: the change this end started is confirmed, or, with X 0, the far-end loopback asked for is agreed. -/
def Module.mapAck (m : Module) (p x map : Nat) : Module :=
  if x = 0 ∧ (m.opt p).loopAsked then
    let pat := if m.rd Reg.firnPortCtl_pattern (fp p) = 1 then 1 else 2
    let m1 := (m.modOpt p (fun o => { o with loopAsked := false, loop := 3, pattern := pat })).dropLink p 6
    m1.setFirn p 4
  else
    let l := m.link p
    match l.pendRx with
    | some c => if c.own && decide (c.x = x) && decide (c.map = map) && decide (m.laneMap p 1 = map) then
        m.modLink p (fun l => { l with pendRx := none, mapFails := 0 }) else m
    | none => m

/-- MAP_REJECT received (R318, R320, R321): too late is asked again with a new X; a refusal below 8 slots takes the port out of UP; after a collision the change may be asked for again later. A reject of what this end did not ask is
the far end's own, abandoned. -/
def Module.mapReject (m : Module) (p x reason : Nat) : Module :=
  let l := m.link p
  let own := fun (c : Option MapChange) => c.filter (fun c => c.own && decide (c.x = x))
  match own l.pendRx, own l.pendTx with
  | some c, _ =>
    if reason = 1 then m.startMap p 1 c.map c.clk
    else
      let m1 := m.modLink p (fun l => { l with pendRx := none })
      if reason = 3 then (m1.setFirn p 0).portLost p true
      else m1.wishMap p 1 (some (maskOff (m.laneMap p 1) c.map, maskOff c.map (m.laneMap p 1), c.clk))
  | none, some c =>
    if reason = 1 then m.startMap p 0 c.map c.clk
    else
      let m1 := m.modLink p (fun l => { l with pendTx := none })
      if reason = 3 then (m1.setFirn p 0).portLost p true
      else m1.wishMap p 0 (some (maskOff (m.laneMap p 0) c.map, maskOff c.map (m.laneMap p 0), c.clk))
  | none, none => m

/-- MAP_SWITCH: framing reaches X on a fibre (R320). The receiver of a proposal, and the transmitter of a request, answer
with MAP_ACK, and what waited for the far end's change starts; the own request waits for its MAP_ACK and a flit. -/
def Module.mapSwitch (m : Module) (p fibre : Nat) : Module :=
  let l := m.link p
  match if fibre = 0 then l.pendTx else l.pendRx with
  | none => m
  | some c =>
    let m1 := (m.applyMap p fibre c).modLink p (fun l =>
      if fibre = 0 then { l with pendTx := none } else if c.own then l else { l with pendRx := none })
    if c.own then (if fibre = 0 then m1.swapAgreed p else m1) else (m1.sendCtl p 5 [c.x, c.map]).startWish p fibre

/-- MAP_REQUEST_TIMEOUT: no flit has passed its CRC within 10 us of X (R320): the request is repeated; after 3 failures a
full retrain starts. -/
def Module.mapTimeout (m : Module) (p : Nat) : Module :=
  match (m.link p).pendRx with
  | none => m
  | some c =>
    if !c.own then m
    else
      let n := (m.link p).mapFails + 1
      if n ≥ 3 then (m.modLink p (fun l => { l with pendRx := none, mapFails := 0 })).retrainAsk p
      else (m.modLink p (fun l => { l with mapFails := n })).startMap p 1 c.map c.clk

/-- The slot that WAVE_RETRY attempts next: of those under background retrain that the receive map lacks, the one with the fewest
attempts; none for an exhausted slot (R290), one given up or one with 64 attempts (R322). -/
def Module.retrySlot (m : Module) (p : Nat) : Option (Nat × Nat) :=
  let l := (m.link p).retries.filter (fun (x : Nat × Nat) => decide (x.1 < 16) && !bitB (m.laneMap p 1) x.1 &&
    !bitB (m.rd Reg.fabWaveRetry_givenUp [p]) x.1 && decide (x.2 < 64) && !m.rdB Reg.lasSlotStatus_removed [p / 16, x.1])
  l.foldl (fun (a : Option (Nat × Nat)) x => match a with
    | none => some x
    | some y => if x.2 < y.2 then some x else a) none

/-- WAVE_RETRY: the next background retrain of a removed slot (R322). -/
def Module.waveRetry (m : Module) (p : Nat) : Module :=
  if m.rd Reg.firnPortStatus_state (fp p) ≠ 3 then m
  else match m.retrySlot p with
    | none => m
    | some (s, n) => ((m.wr Reg.fabWaveRetry_retrySlot s [p]).wr Reg.fabWaveRetry_attempts n [p]).seqStart (p / 4) 3 p (2 ^ s)

/-! ### Link events (R308, R310, R314, R319, R321, R323) -/

/-- DATA_FLIT: header granule and granules 1 to 15, data and check field as received. `late` as in `takeReturns`. A header of another type
gives what every flit of that type gives (R305, R308); a message that no command of its own names is accepted and ignored (R317). -/
def Module.dataFlit (m : Module) (p hdr : Nat) (gs : List (Nat × Nat)) (late : Bool) : Module :=
  if m.linkState p ≠ 2 then m
  else
    let body := slice (0, 0) (gs.map (fun (g : Nat × Nat) => (g.1 % 2 ^ 128, g.2 % 2 ^ 16))) 0 15
    if bitsOf hdr 127 96 ≠ crc32c (crcBytes (hdr % 2 ^ 96) body) ∨ 3 < bitsOf hdr 39 36 then m.badFlit p
    else
      let m1 := m.takeReturns p (bitsOf hdr 31 16) (bit hdr 35) (bitsOf hdr 42 40) (bitsOf hdr 63 48) (bitsOf hdr 79 64) late
      let m2 := if bitsOf hdr 39 36 = 0 then (if bitsOf hdr 15 0 = m1.rd Reg.fabSeqRx_expected [p] then m1 else m1.nak p)
        else if bitsOf hdr 39 36 = 2 then m1.takeSeq p (bitsOf hdr 15 0) id
        else if bitsOf hdr 39 36 = 3 then m1
        else m1.takeSeq p (bitsOf hdr 15 0) (fun m => m.rxData p (bitsOf hdr 34 32) (bitsOf hdr 94 80)
          ((body.take (bitsOf hdr 47 44)).map (fun (g : Nat × Nat) => (g.1, g.2 ^^^ codeCheck g.1))))
      let m3 := m2.modLink p (fun l => { l with mapFails := 0 })
      m3.answer p

/-- IDLE_FLIT: ACK, NAK and credits act; SEQ other than EXPECTED shows a missing flit (R308). -/
def Module.idleFlit (m : Module) (p hdr : Nat) (late : Bool) : Module :=
  if m.linkState p ≠ 2 then m
  else
    let body := padGrans []
    if bitsOf hdr 127 96 ≠ crc32c (crcBytes (hdr % 2 ^ 96) body) then m.badFlit p
    else
      let m1 := m.takeReturns p (bitsOf hdr 31 16) (bit hdr 35) (bitsOf hdr 42 40) (bitsOf hdr 63 48) (bitsOf hdr 79 64) late
      let m2 := if bitsOf hdr 15 0 = m1.rd Reg.fabSeqRx_expected [p] then m1 else m1.nak p
      m2.pump p

/-- A CTL flit that passed its CRC (R305, R317): `hdr` its header, `k` what its message does once it is accepted. One that was under way
when a reinitialisation began is accepted too, which NEXT_EXPECTED then tells. -/
def Module.ctlFlit (m : Module) (p hdr : Nat) (late : Bool) (k : Module → Module) : Module :=
  if m.linkState p = 3 then m.takeSeq p (bitsOf hdr 15 0) k
  else if m.linkState p ≠ 2 then m
  else
    let m1 := m.takeReturns p (bitsOf hdr 31 16) (bit hdr 35) (bitsOf hdr 42 40) (bitsOf hdr 63 48) (bitsOf hdr 79 64) late
    (m1.takeSeq p (bitsOf hdr 15 0) k).answer p

/-- ACK_TIMEOUT (R310): a replay, and after 4 in a row with no advance a full retrain. -/
def Module.ackTimeout (m : Module) (p : Nat) : Module :=
  if m.linkState p ≠ 2 ∨ (m.link p).replay = [] then m
  else
    let n := (m.link p).timeouts + 1
    let m0 := if n ≥ 4 then (m.portFault p).2 else m
    let m1 := ((m0.count Reg.fabAckTimeouts_count 1 [p]).set1 Reg.fabEvents_replayTimeout [p]).linkRec p 1 sevRecovered [0, 0]
    if n ≥ 4 then (m1.modLink p (fun l => { l with timeouts := 0, exhausted := true })).retrainAsk p
    else (m1.modLink p (fun l => { l with timeouts := n })).replayAll p

/-- INIT received during initialisation (R315); a link that comes up may change routes; one that goes DOWN from REINIT is flushed. What firmware then tells the group is
NOTICE_SEND's (R338). -/
def Module.initFlit (m : Module) (p pkg port serial role next : Nat) (seen : Bool) (advH advD : List Nat) : Module :=
  if m.linkState p ≠ 1 ∧ m.linkState p ≠ 3 then m
  else
    let m1 := m.takeInit p pkg port serial role next seen advH advD
    if m1.linkState p = 2 then m1.routesChanged
    else if m1.linkState p = 0 ∧ m.linkState p = 3 then
      let (ids, _, m2) := m1.flushPort p
      m2.linkFaults p ids
    else m1

/-- RETRAIN_REQ received (R318, R319): kind 1 starts a full retrain, kind 0 a reinitialisation. -/
def Module.retrainReq (m : Module) (p kind : Nat) : Module := if kind = 1 then m.fullRetrain p else m.reinit p

/-- CREDIT_AUDIT received (R314): per VC the far receiver's consumed, returned and occupied header and data counts. A leak
found reinitialises the port. -/
def Module.creditAudit (m : Module) (p : Nat) (a : List (Nat × Nat × Nat × Nat × Nat × Nat)) : Module :=
  let l := m.link p
  let inFlight := fun (v : Nat) (h : Bool) =>
    sumN ((l.replay.filter (fun f => f.ctl.isNone && decide (f.vc = v))).map (fun f => if h then popcount 15 f.start else f.grans.length))
  let bad := (List.range 8).any (fun v =>
    let (rxH, rxD, rtH, rtD, ocH, ocD) := a.getD v (0, 0, 0, 0, 0, 0)
    decide ((rxH + 65536 - rtH) % 65536 ≠ ocH) || decide ((rxD + 65536 - rtD) % 65536 ≠ ocD) ||
    decide (rxH ≠ (SMap.get 0 l.usedH v + 65536 - inFlight v true % 65536) % 65536) ||
    decide (rxD ≠ (SMap.get 0 l.usedD v + 65536 - inFlight v false % 65536) % 65536))
  let starved := (List.range 8).map (fun v =>
    let (_, _, _, _, _, ocD) := a.getD v (0, 0, 0, 0, 0, 0)
    let waits := (SMap.get [] l.queue v ≠ [] ∨ SMap.get [] l.cur v ≠ []) ∧ m.vcReady p v = false
    (v, if waits ∧ ocD = 0 then SMap.get 0 l.starved v + 1 else 0))
  let m1 := m.modLink p (fun l => { l with starved := starved.filter (fun (x : Nat × Nat) => decide (x.2 ≠ 0)) })
  if bad ∨ starved.any (fun (x : Nat × Nat) => decide (x.2 ≥ 2)) then m1.creditLeak p else m1

/-- The audit this end sends at its round mark (R314): consumed, returned and occupied counts of every VC. -/
def Module.sendAudit (m : Module) (p : Nat) : Module :=
  let l := m.link p
  m.sendCtl p 7 ((List.range 8).map (fun v =>
    let rh := SMap.get 0 l.rxH v
    let rd := SMap.get 0 l.rxD v
    let th := SMap.get 0 l.rtnH v
    let td := SMap.get 0 l.rtnD v
    [rh, rd, th, td, (rh + 65536 - th) % 65536, (rd + 65536 - td) % 65536])).flatten

/-- LOOP_REQ received (R286, R317): the far end's loopback is agreed with MAP_ACK and X 0, and the port leaves service. -/
def Module.loopReq (m : Module) (p : Nat) : Module :=
  let m1 := (m.sendCtl p 5 [0, m.laneMap p 0]).dropLink p 6
  (m1.modOpt p (fun o => { o with loop := 3 })).setFirn p 4

/-- LINK_GRACE (R323): the physical port has left UP. -/
def Module.linkGrace (m : Module) (p : Nat) : Module :=
  if !m.usable p then m else if m.rd Reg.firnPortStatus_state (fp p) = 3 then m.portDown p else m.portLost p false

/-- GRACE_EXPIRY (R323, R324): 2 ms of GRACE: the port goes DOWN, is flushed, and trains again. -/
def Module.graceExpiry (m : Module) (p : Nat) : Module :=
  let l := m.link p
  if m.linkState p ≠ 4 then m else ((m.dropLink p (if l.narrow then 5 else if l.exhausted then 2 else 1)).alerts).trainAgain p

/-- INIT_RETRY (R323): initialisation is retried 100 ms after SELF_LOOP or ROLE_MISMATCH. -/
def Module.initRetry (m : Module) (p : Nat) : Module :=
  let r := m.rd Reg.fabLinkStatus_downReason [p]
  if m.linkState p = 0 ∧ (r = 3 ∨ r = 4) ∧ m.rd Reg.firnPortStatus_state (fp p) = 3 then m.startFresh p else m

/-- Slots below 16 whose ring on a fibre is locked. -/
def Module.lockedSlots (m : Module) (p fibre : Nat) : Nat :=
  (List.range 16).foldl (fun a s =>
    if (if fibre = 0 then m.rdB Reg.firnWaveTx_txLock (fp p ++ [s]) else m.rdB Reg.firnWaveRx_rxLock (fp p ++ [s])) then a + 2 ^ s else a) 0

/-- The conditions of R284 for UP that this end sees: the far end found present on both fibres, slot 16 (or the slot of a fallback) and
the clock PLL locked, pre-emphasis set from the far end's eye measurements (`eyes`), the instance that checks the rest ended with
DONE, the latency measured, and 8 slots in each map. -/
def Module.phyReady (m : Module) (p txMap rxMap : Nat) (eyes : Bool) : Bool :=
  let o := m.opt p
  eyes && o.probeSeen && o.clkLock && o.trained && o.timed &&
  (m.rdB Reg.firnWaveRx_rxLock (fp p ++ [16]) || decide (m.rd Reg.firnPortStatus_clkSource (fp p) ≠ 16)) &&
  decide (8 ≤ popcount 16 txMap) && decide (8 ≤ popcount 16 rxMap)

/-- PHY_PORT_UP (R284, R323): training has ended with DONE and the port comes up with the slots that passed their error check and whose
rings are locked; otherwise training has failed. The link starts a fresh initialisation from DOWN and a resumed one from GRACE. A
slot exhausted or out for a swap is in no map (R290, R292). -/
def Module.phyUp (m : Module) (p txMap rxMap : Nat) (eyes : Bool) : Module :=
  if m.rd Reg.firnPortStatus_state (fp p) ≠ 2 ∨ !(m.opt p).trained then m
  else
    let gone := (List.range 16).foldl (fun a s => if m.rdB Reg.lasSlotStatus_removed [p / 16, s] then a + 2 ^ s else a) 0
    let tx := maskOff (txMap &&& m.lockedSlots p 0) (gone ||| (m.opt p).swapOut)
    let rx := rxMap &&& m.lockedSlots p 1
    if !m.phyReady p tx rx eyes then m.trainFail p 0 false
    else
      let m1 := (m.setMap p 0 tx).setMap p 1 rx
      let m2 := (m1.modOpt p (fun o => { o with trained := false, fails := 0, darkFails := 0, switch := 1, pattern := 0 })).setFirn p 3
      let m3 := (m2.modLink p (fun l => { l with
        timeouts := 0, mapFails := 0, pendTx := none, pendRx := none, wantTx := none, wantRx := none, retries := [] }))
      if m.linkState p = 4 then (m3.set1 Reg.fabEvents_graceRecovered [p]).linkRec p 7 sevRecovered [0, 0] |>.startResumed p
      else if m.linkState p = 0 then m3.startFresh p
      else m3

/-! ### Open fibre, safety, loopback (R286, R293, R295, R296) -/

/-- FIBRE_OVERPOWER (R293, R408): the switch moves to DUMP, the port is latched, and FAULT_N is driven. -/
def Module.overpower (m : Module) (p reading : Nat) : Module :=
  let m1 := (m.portDown p).setFirn p 5
  (m1.set1 Reg.firnPortEvents_fibreOverpower (fp p)).report { ((LogRec.of 0x0E 4 sevDegraded (0x48 + p / 4) p).at 0 [reading]) with pin := true }

/-- CLEAR_SAFETY (R293). -/
def Module.clearSafety (m : Module) (p : Nat) : Module :=
  if m.rd Reg.firnPortStatus_state (fp p) = 5 then (m.wr Reg.firnPortStatus_state 0 (fp p)).trainPort p false else m

/-- FIBRE_DARK (R295): the port enters SAFE and its switch moves to DUMP. -/
def Module.fibreDark (m : Module) (p : Nat) : Module :=
  let st := m.rd Reg.firnPortStatus_state (fp p)
  if st = 5 ∨ st = 1 ∨ m.role p = 0 then m
  else
    let m1 := (m.portDown p).setFirn p 1
    (m1.set1 Reg.firnPortEvents_fibreDark (fp p)).optRec p 0 3 sevRecovered

/-- SAFE_PROBE (R295): a port in SAFE that is not disabled sends its probe. -/
def Module.safeProbe (m : Module) (p : Nat) : Module :=
  if m.rd Reg.firnPortStatus_state (fp p) = 1 ∧ m.role p ≠ 0 then m.emit (.optical p 0) else m

/-- PROBE_RECEIVED (R295): the far probe is answered; each end has then seen the other's, and FIRN_TRAIN starts. -/
def Module.probeSeen (m : Module) (p : Nat) : Module :=
  if m.rd Reg.firnPortStatus_state (fp p) = 1 ∧ m.role p ≠ 0 then
    ((m.emit (.optical p 0)).modOpt p (fun o => { o with probeSeen := true })).trainPort p false
  else m

/-- USE_SPARE (R296): only while the port is DOWN or SAFE, declared, and the pair is free. -/
def Module.useSpare (m : Module) (p : Nat) : Module :=
  let st := m.rd Reg.firnPortStatus_state (fp p)
  let e := p / 4
  if (st = 0 ∨ st = 1) ∧ m.rd Reg.firnSpareCfg_sparePort [e] = p % 4 ∧ (SMap.find? m.saf.mor.fibres e).isNone then
    let m1 : Module := { m with saf := { m.saf with mor := { m.saf.mor with fibres := SMap.ins e (16 + p % 4) m.saf.mor.fibres } } }
    ((m1.set1 Reg.firnSpareCfg_inUse [e]).set1 Reg.firnPortStatus_onSpare (fp p)).alerts.trainPort p false
  else m

/-- LOOP_MODE_WRITE (R286): only while the port is DOWN or UP or in loopback; an UP port is first taken down; the far-end
mode is asked of the far end; leaving loopback starts FIRN_TRAIN. -/
def Module.loopMode (m : Module) (p mode pattern : Nat) : Module :=
  let md := if mode = 1 ∨ mode = 2 ∨ mode = 3 then mode else 0
  let m0 := (m.wr Reg.firnPortCtl_loopMode mode (fp p)).wr Reg.firnPortCtl_pattern pattern (fp p)
  let st := m.rd Reg.firnPortStatus_state (fp p)
  let pat := if pattern = 1 then 1 else 2
  if st = 4 then
    (if md = 0 then (m0.modOpt p (fun o => { o with loop := 0, pattern := 0 })).trainPort p false else m0.modOpt p (fun o => { o with pattern := pat }))
  else if md = 0 ∨ (st ≠ 0 ∧ st ≠ 3) then m0
  else if md = 3 then (if m.linkState p = 2 then (m0.modOpt p (fun o => { o with loopAsked := true })).sendCtl p 8 [] else m0)
  else
    let m1 := m0.dropLink p 6
    (m1.modOpt p (fun o => { o with loop := md, pattern := pat, switch := if md = 1 then 2 else 0 })).setFirn p 4

/-! ### Laser events (R287 to R291) -/

/-- LASER_LOCKED: a warming unit is READY; an unplanned swap's spare lights at once; a planned swap's ports are counted without the slot
from the next boundary, r0 (R289). -/
def Module.laserLocked (m : Module) (b s u : Nat) : Module :=
  if m.unitState b s u ≠ 1 then m
  else
    let m1 := m.setUnit b s u 2
    let m2 := match (m1.bank b).swap with
      | some w => if w.slot = s ∧ w.phase = 1 ∧ u = 1 then
          m1.modBank b (fun k => { k with swap := some { w with phase := 2, round := m.hub.round + 1 } }) else m1
      | none => m1
    if u = 1 then m2.lightSpare b s else m2

/-- LASER_WARM_TIMEOUT: not locked at 2 ms. -/
def Module.laserTimeout (m : Module) (b s u : Nat) : Module :=
  if m.unitState b s u ≠ 1 then m
  else ((m.set1 Reg.lasEvents_laserFail [b]).laserRec b s u 0 sevDegraded).retireUnit b s u

/-- LASER_FAIL: a lit unit's power or lock is lost. -/
def Module.laserFail (m : Module) (b s u : Nat) : Module :=
  if m.unitState b s u ≠ 3 then m
  else ((m.set1 Reg.lasEvents_laserFail [b]).laserRec b s u 0 sevDegraded).retireUnit b s u

/-- LASER_OVERPOWER: any unit but a RETIRED one above 1.25 times its set power is cut, and FAULT_N is driven (R408). -/
def Module.laserOver (m : Module) (b s u reading : Nat) : Module :=
  if m.unitState b s u = 4 then m
  else ((m.set1 Reg.lasEvents_overpowerCut [b]).report { ((LogRec.of 0x0E 1 sevDegraded (0x70 + b) (32 * b + s)).at 0 [reading]) with pin := true }).retireUnit b s u

/-- EOL_WARN: a lit unit's bias exceeds the ratio; with AUTO_SWAP a planned swap is asked for. -/
def Module.eolWarn (m : Module) (b s ratio : Nat) : Module :=
  let u := m.rd Reg.lasSlotStatus_activeUnit [b, s]
  if m.unitState b s u ≠ 3 ∨ ratio ≤ m.rd Reg.lasEol_eolRatio [b] then m
  else
    let m1 := ((m.wr Reg.lasSlotMon_biasRatio ratio [b, s]).set1 Reg.lasEvents_eolWarn [b]).laserRec b s u 5 sevInfo
    if m1.rdB Reg.lasCtl_autoSwap [b] then m1.askSwap b s else m1

/-- PLANNED_SWAP: the bank's next asked swap starts (R289 step 1). -/
def Module.plannedSwap (m : Module) (b : Nat) : Module := m.nextSwap b 17

/-- SWAP_REMOVAL: at the first round boundary that fits, with the spare READY: the removals begin, and once every agreement is complete
the primary retires and the spare lights (R289 steps 3 to 5, R291). -/
def Module.swapRemoval (m : Module) (b : Nat) : Module :=
  match (m.bank b).swap with
  | none => m
  | some w => if m.hub.round < w.round ∨ !m.swapFits b m.hub.round then m else m.swapRemove b

/-- SWAP_DEFERRAL: 4,096 rounds have passed without a fit; the spare stays READY and the swap is tried again 4,096 rounds
later (R289 step 3). -/
def Module.swapDeferral (m : Module) (b : Nat) : Module :=
  match (m.bank b).swap with
  | none => m
  | some w =>
    if w.phase ≠ 2 ∨ m.hub.round < w.round + 4096 then m
    else ((m.modBank b (fun k => { k with swap := some { w with round := m.hub.round + 4096 } })).set1
      Reg.lasEvents_swapDeferred [b]).laserRec b w.slot 1 3 sevInfo

/-- SWAP_DONE: the far ends report the new light and the returns begin; with the last port back the swap is done (R289 steps 6, 7). -/
def Module.swapDone (m : Module) (b : Nat) : Module := m.swapReturn b

end Sys2Proof.Machine
end

