-- ==== Sys2Proof/Machine/QuinhornOps.lean ====
section
/-! DEFINITION. What the Quinhorn commands do (R350 to R375): training messages, retraining and retirement, a partial reset,
messages of guest sites with the firewall, and coherence. -/

namespace Sys2Proof.Machine

/-! ### Timeouts and triggers (R352, R372) -/

/-- QLK_ACK_TIMEOUT: ACK has not advanced for 512 fabric cycles; the oldest granule and all after it are sent again, and a
fourth timeout in a row retrains the bundle. -/
def Module.qackTimeout (m : Module) (c b : Nat) : Module :=
  if m.qbState c b ≠ 2 ∨ (m.qb c b).replay = [] then m
  else
    let n := (m.qb c b).timeouts + 1
    let m1 := (m.count Reg.qlkAckTimeouts_count 1 [c]).modQb c b (fun q => { q with timeouts := n })
    if 4 ≤ n then (m1.modQb c b (fun q => { q with timeouts := 0 })).retrain c b else m1.qreplay c b

/-- QLK_CNT_CLR.CLR_ALL: the eight counters of a connection. -/
def Module.qclear (m : Module) (c : Nat) : Module :=
  [Reg.qlkCorr_count, Reg.qlkCheckfield_count, Reg.qlkRetries_count, Reg.qlkFrameErr_count, Reg.qlkAckTimeouts_count,
    Reg.qlkRetrains_count, Reg.qlkWidthMismatch_count, Reg.qlkPoisonRx_count].foldl (fun m f => m.clr f [c]) m

/-! ### Width and retirement (R94, R371, R373, R374) -/

/-- The die acts on its width (R94, R373): when a bundle retires or goes on at half width (`less`), a Tine in service below 4 working
bundles enters RETIRING with BUNDLE_LOSS; a Firn port's maps are narrowed by agreement to their lowest slots, or the port leaves UP
when fewer than 8 wavelengths are left. -/
def Module.widthEffect (m : Module) (c b : Nat) (less : Bool) : Module :=
  if c < 72 then
    if less ∧ m.halfBundles c < 8 ∧ (m.siteState c = 2 ∨ m.siteState c = 3) then
      (m.set1 Reg.tineFault_bundleLoss [c]).retire c 9 m.sameFault
    else m
  else if c < 88 then
    let p := 4 * (c - 72) + b / 4
    let n := m.portWaves p
    if m.rd Reg.firnPortStatus_state (fp p) ≠ 3 then m
    else if n < 8 then (m.setFirn p 0).portLost p true
    else
      let put := fun (fibre : Nat) (m : Module) =>
        let (map, clk) := m.nextMap p fibre
        if popcount 16 map ≤ n then m else m.startMap p fibre (lowestSlots 16 0 n map) clk
      put 1 (put 0 m)
  else m

/-- A bundle is retired (R371, R373, R374): partial messages are discarded and the die acts on its width. -/
def Module.retireBundle (m : Module) (c b : Nat) : Module :=
  let m1 := (m.modQb c b (fun _ => QBundle.reset)).wr Reg.qlkBundleState_state 4 [c, b]
  let m2 : Module := { m1 with saf := { m1.saf with mor := { m1.saf.mor with
    bundles := SMap.put 0 (16 * c + b) 2 m1.saf.mor.bundles } } }
  ((m2.showConn c).qlkRec c b sevDegraded).widthEffect c b true

/-- Both ends are ready and the map is agreed: the bundle is UP (R371); after a retrain it replays from ACK + 1. -/
def Module.bundleUp (m : Module) (c b : Nat) : Module :=
  let q := m.qb c b
  if !(q.mapAcked && q.farReady) then m
  else
    let was := m.qbState c b
    if was ≠ 1 ∧ was ≠ 3 then m
    else
      let m1 := ((m.wr Reg.qlkBundleState_state 2 [c, b]).wr Reg.qlkBundleState_failedRetrains 0 [c, b]).showConn c
      let less := m1.rdB Reg.qlkBundleState_half [c, b] && decide (was = 3)
      let m2 := if less then m1.qlkRec c b sevDegraded else m1
      let m3 := m2.widthEffect c b less
      if was = 3 ∧ q.replay ≠ [] then (m3.qreplay c b).qpump c b else m3.qpump c b

/-! ### Training (R361, R362, R371, R375) -/

/-- A CAP message received (R362): the agreement, or CAP_MISMATCH. -/
def Module.qcap (m : Module) (c b major minor lanes mask maxLen retimers : Nat) (credits : List Nat) : Module :=
  if m.qbState c b ≠ 1 then m
  else
    let offer := if c < 88 then 31 else 15
    let agreed := mask % 32 &&& offer
    let len := min maxLen (if c < 88 then 16777215 else 256)
    let code := 1 + leNat [major % 256, minor % 256, lanes % 256, mask % 32, retimers % 256] + 2 ^ 40 * (maxLen % 2 ^ 24) +
      2 ^ 64 * leNat (((List.range 6).map (fun i => toLe 2 (credits.getD i 0 % 4096))).flatten)
    let same := (List.range (connBundles c)).all (fun k => k = b || (m.qb c k).cap = 0 || (m.qb c k).cap = code)
    let bad := decide (major ≠ 1) || decide (16 < retimers) || !same || (decide (88 ≤ c) && !(bitB agreed 0 && bitB agreed 3))
    if bad then
      (((m.modQb c b (fun _ => QBundle.reset)).wr Reg.qlkBundleState_state 0 [c, b]).set1 Reg.qlkLinkStatus_capMismatch
        [c]).qlkRec c b sevDegraded
    else
      let m1 := m.modQb c b (fun q => { q with cap := code, adv := (List.range 6).foldl (fun l i => SMap.ins i (credits.getD i 0 % 4096) l) q.adv })
      let m2 := ((((m1.wr Reg.qlkCap_verMajor 1 [c]).wr Reg.qlkCap_verMinor (min 2 minor) [c]).wr Reg.qlkCap_classMask agreed
        [c]).wr Reg.qlkCap_retimers retimers [c]).wr Reg.qlkMaxPayload_maxPayload len [c]
      if lanes < 18 ∧ !m2.rdB Reg.qlkBundleState_half [c, b] then
        match m2.chooseMaps c b 0 0 true with
        | some m3 => m3.emit (.qlkTrain c b 2 (m3.mapFields c b 0 ++ m3.mapFields c b 1))
        | none => m2
      else m2

/-- A MAP message received (R361, R375): the die's receive side is the Cirque's transmit side. Equal views are confirmed; a
view that differs counts and retrains, and the die then takes the Cirque's map. -/
def Module.qmap (m : Module) (c b : Nat) (rx tx : List Nat) : Module :=
  let st := m.qbState c b
  if st ≠ 1 ∧ st ≠ 2 ∧ st ≠ 3 then m
  else if m.mapFields c b 1 = rx ∧ m.mapFields c b 0 = tx then
    m.emit (.qlkTrain c b 3 (m.mapFields c b 0 ++ m.mapFields c b 1))
  else if st = 3 then m.emit (.qlkTrain c b 2 (m.mapFields c b 0 ++ m.mapFields c b 1))
  else (m.count Reg.qlkWidthMismatch_count 1 [c]).retrain c b true

/-- A MAP_ACK message received: the fields as the die applied them. -/
def Module.qmapAck (m : Module) (c b : Nat) (rx tx : List Nat) : Module :=
  let st := m.qbState c b
  if (st = 1 ∧ (m.qb c b).cap ≠ 0 ∨ st = 3) ∧ m.mapFields c b 1 = rx ∧ m.mapFields c b 0 = tx then
    (((m.modQb c b (fun q => { q with mapAcked := true })).emit (.qlkTrain c b 7 [])).bundleUp c b)
  else m

/-- A READY message received. -/
def Module.qready (m : Module) (c b : Nat) : Module :=
  let st := m.qbState c b
  if st = 1 ∨ st = 3 then (m.modQb c b (fun q => { q with farReady := true })).bundleUp c b else m

/-- TEST_START: the PRBS15 test of a retrain runs; the wires of `failed` showed an error on the Cirque's receive side. -/
def Module.qtestStart (m : Module) (c b failed : Nat) : Module :=
  if m.qbState c b ≠ 3 then m
  else ((m.modQb c b (fun q => { q with testRx := some (failed % 2 ^ 22) })).emit (.qlkTrain c b 5 [failed % 2 ^ 22])).testDone c b

/-- TEST_RESULT: the failed wires of the die's receive side. -/
def Module.qtestResult (m : Module) (c b failed : Nat) : Module :=
  if m.qbState c b ≠ 3 then m else (m.modQb c b (fun q => { q with testTx := some (failed % 2 ^ 22) })).testDone c b

/-- BUNDLE_RETRAIN: a trigger, or with `failed` the end of a retrain that failed, which is counted and tried again until the
third in a row (R371, R372). -/
def Module.bundleRetrain (m : Module) (c b : Nat) (failed : Bool) : Module :=
  if !failed then m.retrain c b
  else if m.qbState c b ≠ 3 then m
  else
    let n := m.rd Reg.qlkBundleState_failedRetrains [c, b] + 1
    let m1 := m.wr Reg.qlkBundleState_failedRetrains (min 3 n) [c, b]
    if n < 3 then
      ((m1.count Reg.qlkRetrains_count 1 [c]).modQb c b (fun q => { q with testRx := none, testTx := none, mapAcked := false, farReady := false })).emit
        (.qlkTrain c b 4 [1024])
    else m1

/-- A bundle may be retired: three retrains failed in a row, or no map is possible (R371). -/
def Module.mayRetire (m : Module) (c b : Nat) : Bool :=
  let st := m.qbState c b
  let q := m.qb c b
  (st = 3 && (decide (3 ≤ m.rd Reg.qlkBundleState_failedRetrains [c, b]) || (q.testRx.isSome && q.testTx.isSome))) ||
    (st = 0 && (m.chooseMaps c b 0 0).isNone)

/-- The fill that runs at site s ends FAULTED and is asked for again, or retires the Tine (R86, R171, R374). -/
def Module.fillLost (m : Module) (s : Nat) : Module :=
  match m.ctx.fills.find? (fun f => f.site = s && f.started) with
  | none => m
  | some f => m.fillFaulted f

/-- BUNDLE_RETIRE (R373, R374): `fill`: the running fill was carried on the bundle; `stage`: so were the messages of the
running stage, which ends as a Tine fault. -/
def Module.bundleRetire (m : Module) (c b : Nat) (fill stage : Bool) : Module :=
  if !m.mayRetire c b then m
  else
    let m1 := m.retireBundle c b
    let m2 := if fill ∧ c < 72 then m1.fillLost c else m1
    let m3 := if stage ∧ c < 72 ∧ m2.rdB Reg.tineSeqStatus_stageActive [c] then m2.stageFault c { m2.flt c 0x300 with sub := m1.sameFault } else m2
    m3.alerts

/-- PARTIAL_RESET: a die is reset while the Cirque keeps its state; its bundles train again and the maps are compared (R371,
R375). A Tine reset in service ends its stage as a Tine fault; the ports of a Firn engine start again from SAFE. -/
def Module.partialReset (m : Module) (c : Nat) : Module :=
  let m1 := if c < 72 ∧ m.rdB Reg.tineSeqStatus_stageActive [c] then m.stageFault c (m.flt c 0x302) else m
  let m2 := if 88 ≤ c then m1.guestDown (c - 88) else m1.connDown c
  let m3 := if 72 ≤ c ∧ c < 88 then (List.range 4).foldl (fun m i => (m.portDown (4 * (c - 72) + i)).wakePort (4 * (c - 72) + i)) m2 else m2
  m3.trainConn c

/-! ### Device memory by granules -/

/-- Granules read from an address, as data and syndrome of the reply: a granule without valid data is poisoned (R190). -/
def Module.readGrans (m : Module) : Nat → Nat → List (Nat × Nat) × Module
  | 0, _ => ([], m)
  | n + 1, a =>
    let (d, bad, m1) := m.devRead a 0 sevDegraded
    let (l, m2) := Module.readGrans m1 n (a + 16)
    ((d, if bad then poisonSynd else 0) :: l, m2)

/-- Granules written from an address on; a poisoned one is written poisoned. -/
def Module.writeGrans (m : Module) : Nat → List (Nat × Nat) → Module
  | _, [] => m
  | a, g :: t => Module.writeGrans (m.devWrite a g.1 (decide (g.2 ≠ 0))) (a + 16) t

/-- Some granule is poisoned. -/
def anyPoison (l : List (Nat × Nat)) : Bool := l.any (fun g => decide (g.2 ≠ 0))

/-! ### Coherence (R359) -/

/-- A guest's state of a line as the home knows it: 0 I, 1 S, 2 E, 3 M. -/
def Module.lineState (m : Module) (g line : Nat) : Nat := SMap.get 0 (m.guest g).lines line

/-- A guest's line set to a state. -/
def Module.setLine (m : Module) (g line st : Nat) : Module :=
  m.modGuest g (fun x => { x with lines := SMap.put 0 line st x.lines })

/-- Snoops the home owes to the guests that hold a line, but for one: to invalid from any state, to shared from E or M. -/
def Module.snoopLine (m : Module) (line : Nat) (inv : Bool) (skip : Nat) : Module :=
  let want := ([0, 1].filter (fun g => g ≠ skip && (if inv then m.lineState g line ≠ 0 else 2 ≤ m.lineState g line))).filter
    (fun g => !m.qlk.snoops.any (fun s => s.guest = g && s.line = line && (s.inv || !inv)))
  { m with qlk := { m.qlk with snoops := m.qlk.snoops ++ want.map (fun g => { guest := g, line := line, inv := inv, sent := false }) } }

/-- Snoops for every line of a range of n bytes. -/
def Module.snoopRange (m : Module) (a n : Nat) (inv : Bool) : Module :=
  let held := ([0, 1].map (fun g => (m.guest g).lines.map Prod.fst)).flatten
  (held.filter (fun l => decide (a / 128 ≤ l) && decide (128 * l < a + n))).foldl (fun m l => m.snoopLine l inv 2) m

/-- A snoop of a line of the range is still unanswered. -/
def Module.snooping (m : Module) (a n : Nat) : Bool :=
  m.qlk.snoops.any (fun s => decide (a / 128 ≤ s.line) && decide (128 * s.line < a + n))

/-- A message due to a guest. -/
def Module.due (m : Module) (g : Nat) (x : QMsg) : Module := m.modGuest g (fun y => { y with due := y.due ++ [x] })

/-- RD_S, RD_M and UPG answered once nothing is left to snoop: GRANT S or E, or M with data unless the guest still holds the
line shared. -/
def Module.cohServe (m : Module) (g : Nat) (x : QMsg) : Module :=
  let line := x.addr / 128
  let keep := decide (x.op = 2) && decide (m.lineState g line ≠ 0)
  let (data, m1) := if keep then ([], m) else m.readGrans 8 (128 * line)
  let other := decide (m.lineState (1 - g) line ≠ 0)
  let aux := if x.op ≠ 0 then 2 else if other then 0 else 1
  (m1.setLine g line (aux + 1)).due g
    { cls := 1, op := 5, status := if anyPoison data then 3 else 0, tag := x.tag, aux := aux, addr := 128 * line, payload := data }

/-- A host read through BAR4 answered: its bytes, or a completion with EP set (R208). -/
def Module.hostReadNow (m : Module) (a n : Nat) : Module :=
  let (b, bad, m1) := m.devBytes 0 a n
  m1.emit (if bad then .readPoison (leNat b) else .readData (leNat b))

/-- A host write through BAR4 done. -/
def Module.hostWriteNow (m : Module) (a : Nat) (b : List Nat) : Module := m.devWriteBytes (b.length + 2) a b

/-- Accesses that waited for snoops and need wait no longer. -/
def Module.cohWake (m : Module) : Module :=
  let span := fun (w : CohWait) => if w.who < 2 then (w.msg.addr / 128 * 128, 128) else (w.msg.addr, w.msg.tag)
  let ready := m.qlk.waits.filter (fun w => !m.snooping (span w).1 (span w).2)
  let m0 : Module := { m with qlk := { m.qlk with waits := m.qlk.waits.filter (fun w => m.snooping (span w).1 (span w).2) } }
  ready.foldl (fun m w =>
    if w.who < 2 then m.cohServe w.who w.msg
    else if w.who = 2 then m.hostReadNow w.msg.addr w.msg.tag
    else m.hostWriteNow w.msg.addr (w.msg.payload.map Prod.fst)) m0

/-- An access that waits until the line or range it asks for is snooped, or goes ahead. -/
def Module.cohWait (m : Module) (who : Nat) (x : QMsg) : Module :=
  ({ m with qlk := { m.qlk with waits := m.qlk.waits ++ [{ who := who, line := x.addr / 128, msg := x }] } } : Module).cohWake

/-- A host access of n bytes through BAR4 within the host region; `b` the bytes of a write. -/
def Module.hostAccess (m : Module) (a n : Nat) (b : Option (List Nat)) : Module :=
  let x : QMsg := { cls := 0, op := 0, status := 0, tag := n, aux := 0, addr := a,
                    payload := match b with
                      | some l => l.map (fun v => (v, 0))
                      | none => [] }
  (m.snoopRange a n b.isSome).cohWait (if b.isSome then 3 else 2) x

/-! ### The firewall (R364 to R366) -/

/-- The firmware area's start (R206). -/
def fwArea : Nat := gddrEnd - 2 ^ 29

/-- The range of window w of guest g: base and bytes. -/
def Module.fwWindow (m : Module) (g w : Nat) : Nat × Nat :=
  (m.rd Reg.qlkFwWinBaseLo_addr [g, w] * 2 ^ 20 + m.rd Reg.qlkFwWinBaseHi_addr [g, w] * 2 ^ 32,
   m.rd Reg.qlkFwWinSize_sizeMib [g, w] * 2 ^ 20)

/-- The cause for which a range is refused: 0 none. `right`: 0 R, 1 W, 2 X, 3 none beside COHERENT; `coh`: a class 1 access. -/
def Module.fwRange (m : Module) (g a n right : Nat) (coh : Bool) : Nat :=
  let ws := (List.range 16).filter (fun w => let (b, k) := m.fwWindow g w; decide (k ≠ 0) && decide (b ≤ a) && decide (a + n ≤ b + k))
  let has := fun w => (match right with
    | 0 => m.rdB Reg.qlkFwWinRights_r [g, w]
    | 1 => m.rdB Reg.qlkFwWinRights_w [g, w]
    | 2 => m.rdB Reg.qlkFwWinRights_x [g, w]
    | _ => true) && (!coh || m.rdB Reg.qlkFwWinRights_coherent [g, w])
  if ws = [] then 3
  else if !ws.any has then 4
  else if a < gddrEnd ∧ fwArea < a + n then 5
  else if coh ∧ m.rd Reg.memHostRegion_size256m * 2 ^ 28 < a + n then 5
  else 0

/-- Payload granules an operation of R357 carries, within the agreed MAX_PAYLOAD; `none`: an OP not listed. -/
def guestLen (cls op len maxLen : Nat) : Option Bool :=
  match cls with
  | 0 => if op = 2 then some (1 ≤ len && len ≤ maxLen) else if op = 3 then some (len = 2) else if 5 ≤ op ∧ op ≤ 9 ∧ op ≠ 8 then some (len = 1)
         else if op = 0 then some (len = 0) else if op = 1 ∨ op = 4 ∨ op = 8 then some true else none
  | 1 => if op = 3 then some (len = 8) else if op = 8 then some (len = 0 || len = 8) else if op < 8 then some (op = 5 || len = 0) else none
  | 2 => if op = 0 then some (len = 0) else none
  | 3 => if op < 4 then some true else none
  | _ => none

/-- The ranges a message accesses, each with the right it needs (R364). -/
def QMsg.ranges (x : QMsg) : List (Nat × Nat × Nat) :=
  let d := (x.payload.headD (0, 0)).1
  if x.cls = 0 then
    match x.op with
    | 0 => [(x.addr, 16 * (x.aux + 1), 0)]
    | 2 => [(x.addr, 16 * x.payload.length, 1)]
    | 3 => [(x.addr, 16, 1)]
    | 5 | 6 | 7 => [(x.addr / 8 * 8, 8, 1)]
    | 9 => [(x.addr, 16 * bitsOf d 95 64, 2), (bitsOf d 63 0, 16 * bitsOf d 95 64, 2)]
    | _ => []
  else if x.cls = 1 then
    if x.op = 5 ∨ x.op = 6 ∨ x.op = 7 then []
    else [(x.addr / 128 * 128, 128, if x.op = 0 then 0 else if x.op < 4 then 1 else 3)]
  else []

/-- The checks of R364, in order: the cause of a refusal, 0 when the message passes. -/
def Module.fwCheck (m : Module) (g : Nat) (x : QMsg) : Nat :=
  if !m.rdB Reg.qlkFwCtl_en [g] || m.rdB Reg.qlkFwCtl_fenced [g] then 1
  else if !bitB (m.rd Reg.qlkFwClass_permit [g]) x.cls || !bitB (m.rd Reg.qlkCap_classMask [88 + g]) x.cls then 2
  else match guestLen x.cls x.op x.payload.length (m.rd Reg.qlkMaxPayload_maxPayload [88 + g]) with
    | none => 2
    | some ok =>
      let bad := (x.ranges.map (fun r => m.fwRange g r.1 r.2.1 r.2.2 (decide (x.cls = 1)))).filter (fun c => c ≠ 0)
      if bad ≠ [] then bad.headD 0
      else if !ok then 5
      else if x.cls = 2 then (if x.addr % 2 ^ 11 < m.rd Reg.qlkFwVec_vecCount [g] then 0 else 6)
      else if x.cls = 3 then
        (match m.qlk.dbg with
         | some d => if d.conn = 88 + g ∧ (x.op = 1 ∧ !d.write ∨ x.op = 3 ∧ d.write) then 0 else 7
         | none => 7)
      else 0

/-- A violation (R359, R366): counted, the first recorded, and the site fenced by it when FENCE_ON_VIOL is 1. -/
def Module.violation (m : Module) (g cause cls op addr : Nat) : Module :=
  let m1 := m.count Reg.qlkFwViolCount_count 1 [g]
  if (m.guest g).viol then m1
  else
    let m2 := ((((m1.modGuest g (fun y => { y with viol := true })).wr Reg.qlkFwViolInfo_class cls [g]).wr Reg.qlkFwViolInfo_op op
      [g]).wr Reg.qlkFwViolInfo_cause cause [g])
    let m3 := (m2.wr Reg.qlkFwViolAddrLo_addr addr [g]).wr Reg.qlkFwViolAddrHi_addr (addr / 2 ^ 32) [g]
    let f := m3.rdB Reg.qlkFwCtl_fenceOnViol [g]
    (if f then m3.set1 Reg.qlkFwCtl_fenced [g] else m3).guestRec g (if f then sevDegraded else sevInfo) cause cls op

/-- The OP of a request's response; `none`: a posted message (R357, R366). -/
def QMsg.answerOp (x : QMsg) : Option Nat :=
  match x.cls, x.op with
  | 0, 0 => some 1
  | 0, 2 => if bitB x.aux 0 then some 4 else none
  | 0, 5 | 0, 6 | 0, 7 => some 8
  | 0, 9 => some 4
  | 1, 0 | 1, 1 | 1, 2 => some 5
  | 3, 0 => some 1
  | 3, 2 => some 3
  | _, _ => none

/-- The response of a message with a status and a payload, if it expects one. -/
def Module.respond (m : Module) (g : Nat) (x : QMsg) (status : Nat) (payload : List (Nat × Nat)) : Module :=
  match x.answerOp with
  | some op => m.due g { cls := x.cls, op := op, status := status, tag := x.tag, aux := 0, addr := x.addr, payload := payload }
  | none => m

/-- A message refused (R366). -/
def Module.fwRefuse (m : Module) (g cause : Nat) (x : QMsg) : Module := (m.violation g cause x.cls x.op x.addr).respond g x 1 []

/-- A message of guest g, taken from the head of what it has sent: judged by the firewall, then acted on. -/
def Module.guestMsg (m : Module) (g cls op : Nat) (k : Module → QMsg → Module) : Module :=
  match (m.guest g).inbox with
  | [] => m
  | x :: t =>
    if x.cls ≠ cls ∨ x.op ≠ op then m
    else
      let m1 := m.modGuest g (fun y => { y with inbox := t })
      let c := m1.fwCheck g x
      if c ≠ 0 then m1.fwRefuse g c x else k m1 x

/-- Messages at the head of a guest's queue that no command takes: an OP that R357 does not list is refused; a response or a
snoop that only the Cirque sends is judged and dropped. -/
def Module.guestSweep (m : Module) (g : Nat) : Nat → Module
  | 0 => m
  | n + 1 =>
    match (m.guest g).inbox with
    | [] => m
    | x :: t =>
      let own := (x.cls = 0 && (x.op = 1 || x.op = 4 || x.op = 8)) || (x.cls = 1 && (x.op = 5 || x.op = 6 || x.op = 7))
      if (guestLen x.cls x.op x.payload.length 256).isSome && !own then m
      else
        let m1 := m.modGuest g (fun y => { y with inbox := t })
        let c := m1.fwCheck g x
        (if c ≠ 0 then m1.fwRefuse g c x else m1).guestSweep g n

/-- What a bundle of a guest site has delivered is looked at. -/
def Module.guestSweepConn (m : Module) (c : Nat) : Module :=
  if 88 ≤ c then m.guestSweep (c - 88) (m.guest (c - 88)).inbox.length else m

/-! ### Guest memory operations (R357, R358) -/

/-- An access to an address that does not exist is answered with ADDR_INVALID and recorded (R185). -/
def Module.guestAccess (m : Module) (g : Nat) (x : QMsg) (k : Module → Module) : Module :=
  match x.ranges.find? (fun r => !m.rangeOk r.1 r.2.1) with
  | some r => (m.addrInvalid (0x69 + g) r.1 r.2.1).respond g x 2 []
  | none => k m

/-- RD. -/
def Module.guestRd (m : Module) (g : Nat) : Module :=
  m.guestMsg g 0 0 (fun m x => m.guestAccess g x (fun m =>
    let (l, m1) := m.readGrans (x.aux + 1) x.addr
    m1.respond g x (if anyPoison l then 3 else 0) l))

/-- WR. -/
def Module.guestWr (m : Module) (g : Nat) : Module :=
  m.guestMsg g 0 2 (fun m x => m.guestAccess g x (fun m => (m.writeGrans x.addr x.payload).respond g x 0 []))

/-- WR_MASKED. -/
def Module.guestWrMasked (m : Module) (g : Nat) : Module :=
  m.guestMsg g 0 3 (fun m x => m.guestAccess g x (fun m =>
    m.devWriteMasked x.addr (x.payload.headD (0, 0)).1 ((x.payload.getD 1 (0, 0)).1 % 2 ^ 16) (anyPoison x.payload)))

/-- An atomic on the aligned 8 bytes at ADDR: `f` takes the old value, the operand and the compare value. -/
def Module.guestAtomic (m : Module) (g op : Nat) (f : Nat → Nat → Nat → Nat) : Module :=
  m.guestMsg g 0 op (fun m x => m.guestAccess g x (fun m =>
    let a := x.addr / 8 * 8
    let o := a % 16
    let (d, bad, m1) := m.devRead (a - o) 3 sevDegraded
    let p := (x.payload.headD (0, 0)).1
    let old := bitsOf (d / 256 ^ o) 63 0
    let new := f old (bitsOf p 63 0) (bitsOf p 127 64) % 2 ^ 64
    (m1.devWriteMasked (a - o) (new * 256 ^ o) (255 * 2 ^ o) (anyPoison x.payload)).respond g x (if bad then 3 else 0) [(old, if bad then poisonSynd else 0)]))

/-- AT_ADD. -/
def Module.guestAtAdd (m : Module) (g : Nat) : Module := m.guestAtomic g 5 (fun old v _ => old + v)

/-- AT_SWAP. -/
def Module.guestAtSwap (m : Module) (g : Nat) : Module := m.guestAtomic g 6 (fun _ v _ => v)

/-- AT_CAS. -/
def Module.guestAtCas (m : Module) (g : Nat) : Module := m.guestAtomic g 7 (fun old v cmp => if old = cmp then v else old)

/-- COPY. -/
def Module.guestCopy (m : Module) (g : Nat) : Module :=
  m.guestMsg g 0 9 (fun m x => m.guestAccess g x (fun m =>
    let d := (x.payload.headD (0, 0)).1
    let (l, m1) := m.readGrans (bitsOf d 95 64) x.addr
    (m1.writeGrans (bitsOf d 63 0) l).respond g x (if anyPoison l then 3 else 0) []))

/-- A response of one class and OP, the oldest due to guest g, sent on a bundle. -/
def Module.sendDue (m : Module) (g cls op chan : Nat) : Module :=
  match (m.guest g).due.find? (fun x => x.cls = cls && x.op = op) with
  | some x => (m.modGuest g (fun y => { y with due := y.due.erase x })).qsend (88 + g) chan x
  | none => m

/-! ### Guest coherence operations -/

/-- RD_S, RD_M or UPG. -/
def Module.cohRequest (m : Module) (g op : Nat) : Module :=
  m.guestMsg g 1 op (fun m x => (m.snoopLine (x.addr / 128) (decide (op ≠ 0)) g).cohWait g x)

/-- WB_M: the line written back. -/
def Module.cohWriteBack (m : Module) (g : Nat) : Module :=
  m.guestMsg g 1 3 (fun m x => (m.writeGrans (x.addr / 128 * 128) (x.payload.take 8)).setLine g (x.addr / 128) 0)

/-- EVICT: the guest drops an S or E line. -/
def Module.cohEvict (m : Module) (g : Nat) : Module := m.guestMsg g 1 4 (fun m x => m.setLine g (x.addr / 128) 0)

/-- The oldest snoop of a kind owed to guest g is sent. -/
def Module.sendSnoop (m : Module) (g : Nat) (inv : Bool) : Module :=
  match m.qlk.snoops.find? (fun s => s.guest = g && s.inv = inv && !s.sent) with
  | some s =>
    let done : Snoop := { s with sent := true }
    ({ m with qlk := { m.qlk with snoops := m.qlk.snoops.map (fun y => if y = s then done else y) } } : Module).qsend (88 + g) 1
      { cls := 1, op := if inv then 6 else 7, status := 0, tag := 0, aux := 0, addr := 128 * s.line, payload := [] }
  | none => m

/-- A snoop is over: the guest's line falls to I or S, and what waited for it goes on. -/
def Module.snoopOver (m : Module) (s : Snoop) : Module :=
  let m1 := m.setLine s.guest s.line (if s.inv then 0 else min 1 (m.lineState s.guest s.line))
  ({ m1 with qlk := { m1.qlk with snoops := m1.qlk.snoops.erase s } } : Module).cohWake

/-- SNP_ACK: data from M is written to memory first. -/
def Module.snoopAck (m : Module) (g : Nat) : Module :=
  m.guestMsg g 1 8 (fun m x =>
    match m.qlk.snoops.find? (fun s => s.guest = g && s.line = x.addr / 128 && s.sent) with
    | some s => (if x.payload.length = 8 then m.writeGrans (128 * s.line) x.payload else m).snoopOver s
    | none => m)

/-- SNOOP_TIMEOUT: the line is poisoned in memory and a violation of cause SNOOP counted. -/
def Module.snoopTimeout (m : Module) (g line : Nat) : Module :=
  match m.qlk.snoops.find? (fun s => s.guest = g && s.line = line && s.sent) with
  | some s =>
    let m1 := m.writeGrans (128 * line) ((List.range 8).map (fun i => (m.dev.granule (8 * line + i), poisonSynd)))
    let dead : Snoop := { s with inv := true }
    let m2 : Module := { m1 with qlk := { m1.qlk with snoops := m1.qlk.snoops.map (fun y => if y = s then dead else y) } }
    (m2.violation g 8 1 (if s.inv then 6 else 7) (128 * line)).snoopOver dead
  | none => m

/-- EVENT: MSI-X vector VEC_BASE + e, without coalescing. -/
def Module.guestEvent (m : Module) (g : Nat) : Module :=
  m.guestMsg g 2 0 (fun m x => m.msix (m.rd Reg.qlkFwVec_vecBase [g] + x.addr % 2 ^ 11))

/-! ### Firewall registers and guest power (R365, R366, R434) -/

/-- QLK_FW_CTL.CLR_VIOL: the count and the record. -/
def Module.clrViol (m : Module) (g : Nat) : Module :=
  [Reg.qlkFwViolCount_count, Reg.qlkFwViolInfo_class, Reg.qlkFwViolInfo_op, Reg.qlkFwViolInfo_cause, Reg.qlkFwViolAddrLo_addr,
    Reg.qlkFwViolAddrHi_addr].foldl (fun m f => m.clr f [g]) (m.modGuest g (fun y => { y with viol := false }))

/-- A write of a window's rights (R365), refused where the window may not lie; ignored while SEC_LOCK is set. -/
def Module.winRights (m : Module) (g w v : Nat) : Module :=
  if m.rdB Reg.secStatus_secLock then m
  else
    let (b, n) := m.fwWindow g w
    let bad := !m.rangeOk b n || (decide (b < gddrEnd) && decide (fwArea < b + n))
    let set := fun (m : Module) (v : Nat) => (((m.wr Reg.qlkFwWinRights_r (bit v 0) [g, w]).wr Reg.qlkFwWinRights_w (bit v 1)
      [g, w]).wr Reg.qlkFwWinRights_x (bit v 2) [g, w]).wr Reg.qlkFwWinRights_coherent (bit v 3) [g, w]
    if bad then (set m 0).set1 Reg.qlkFwWinRights_rejected [g, w] else (set m v).clr Reg.qlkFwWinRights_rejected [g, w]

/-- A guest site above 11.0 W: the site is fenced and an instance of DOMAIN_OFF switches its domain off (R428, R434). -/
def Module.guestOverpower (m : Module) (g : Nat) : Module := (m.fence g).seqStart 20 7 (168 + g) 0

/-! ### Debug (R360) -/

/-- A debug access ends: STATUS, and the data of a read. -/
def Module.dbgEnd (m : Module) (status data : Nat) : Module :=
  match m.qlk.dbg with
  | none => m
  | some d =>
    let m1 := ((({ m with qlk := { m.qlk with dbg := none } } : Module).clr Reg.qlkDbgCtl_busy).wr Reg.qlkDbgCtl_status status)
    if !d.write ∧ status = 0 then m1.wr Reg.qlkDbgData_data data else m1

/-- QLK_DBG_CTL.GO: the access of the written WRITE and CONN is sent to its connection. -/
def Module.dbgGo (m : Module) (write : Bool) (conn : Nat) : Module :=
  let m0 := (m.wr Reg.qlkDbgCtl_write (ofB write)).wr Reg.qlkDbgCtl_conn conn
  if m.qlk.dbg.isSome ∨ 90 ≤ conn then m0
  else
    let a := m0.rd Reg.qlkDbgAddr_addr
    let d := m0.rd Reg.qlkDbgData_data
    let m1 : Module := { m0 with qlk := { m0.qlk with dbg := some { conn := conn, write := write, addr := a, data := d, answer := none } } }
    (m1.set1 Reg.qlkDbgCtl_busy).qsend conn 3
      { cls := 3, op := if write then 2 else 0, status := 0, tag := 0, aux := 0, addr := a, payload := if write then [(d, 0)] else [] }

/-- DRD_RESP or DWR_ACK: the answer of an Aliowell die that has acted, or of a guest; a refusal due to a guest is sent. -/
def Module.dbgAnswer (m : Module) (c op : Nat) : Module :=
  if c < 88 then
    match m.qlk.dbg with
    | some d =>
      (match d.answer with
       | some (st, v) => if d.conn = c ∧ d.write = decide (op = 3) then m.dbgEnd st v else m
       | none => m)
    | none => m
  else if (m.guest (c - 88)).due.any (fun x => x.cls = 3 && x.op = op) then m.sendDue (c - 88) 3 op 3
  else m.guestMsg (c - 88) 3 op (fun m x => m.dbgEnd (if anyPoison x.payload then 3 else x.status) ((x.payload.headD (0, 0)).1 % 2 ^ 32))

/-- DEBUG_TIMEOUT: no response for 2,048 fabric cycles. -/
def Module.dbgTimeout (m : Module) : Module := m.dbgEnd 4 0

end Sys2Proof.Machine
end

