-- ==== Sys2Proof/Machine/HostOps.lean ====
section
/-! DEFINITION. Host queues at work: doorbells, creation and deletion, what an entry asks for, its checks, staging, the
arbitration that takes entries, and the opcodes of queues 1 to 16,383 (R246 to R271). -/

namespace Sys2Proof.Machine

/-! ### Doorbells (R266) -/

/-- SQ_TAIL written. -/
def Module.sqTail (m : Module) (q v : Nat) : Module :=
  if m.qState q ≠ 1 then m
  else if m.sqDepth q ≤ v then m.qError q 2
  else m.modQueue q (fun x => { x with sqTail := v })

/-- CQ_HEAD written: it must lie within the span of posted, unconsumed entries. While the ring is full, the head it had says
that every entry is consumed: a write reports consumed entries (R261). -/
def Module.cqHead (m : Module) (q v : Nat) : Module :=
  if m.qState q ≠ 1 then m
  else
    let x := m.queue q
    let used := if v = x.cqHead ∧ x.posted = m.cqDepth q then x.posted else (v + m.cqDepth q - x.cqHead) % m.cqDepth q
    if m.cqDepth q ≤ v ∨ x.posted < used then m.qError q 3
    else m.modQueue q (fun x => { x with cqHead := v, posted := x.posted - used })

/-- An SQ read that completes with an error. -/
def Module.sqFetchError (m : Module) (q : Nat) : Module := if m.qState q = 1 then m.qError q 1 else m

/-! ### Queue registers -/

/-- Every QUE_ field of queue q at its reset value. -/
def Module.queueReset (m : Module) (q : Nat) : Module :=
  let fs := [Reg.queSqBaseLo_addr, Reg.queSqBaseHi_addr, Reg.queCqBaseLo_addr, Reg.queCqBaseHi_addr, Reg.queCfg_sqDepthLog2,
    Reg.queCfg_cqDepthLog2, Reg.queCfg_intEn, Reg.queCfg_weight, Reg.queCfg_vector, Reg.queIntr_coalRounds, Reg.queIntr_coalCount,
    Reg.queOwnerLo_ownerKey, Reg.queOwnerHi_ownerKey, Reg.queStatus_state, Reg.queStatus_err, Reg.queStatus_inFlight,
    Reg.quePtrs_cqTail, Reg.quePtrs_sqHead, Reg.queCounts_progressDropped]
  (fs.foldl (fun m f => m.wr f (f.resetAt [q]) [q]) m).setQueue q Queue.blank

/-- Queues that exist: not DISABLED. -/
def Module.queueIds (m : Module) : List Nat :=
  let n := Reg.queStatus_state.base
  ((m.regs.filter (fun p => decide (Reg.queStatus_state.key [0] ≤ p.1) && decide (p.1 ≤ Reg.queStatus_state.key [16383]) &&
    decide ((p.1 / 32 - n) % 0x40 = 0) && decide (p.1 % 32 = Reg.queStatus_state.lo) && decide (p.2 ≠ 0))).map (fun p => (p.1 / 32 - n) / 0x40))

/-- QUE_CTL.ENABLE of queue 0 (R247). -/
def Module.queEnable (m : Module) : Module :=
  if m.qState 0 = 0 then m.modQueue 0 (fun x => { x with enabling := true }) else m

/-- Queue 0 reaches ENABLED, once READY is set (R247, R459). -/
def Module.queue0Enabled (m : Module) : Module :=
  if m.qState 0 = 0 ∧ (m.queue 0).enabling ∧ m.rdB Reg.hubBootStatus_ready then
    (((((m.setQueue 0 Queue.blank).wr Reg.queStatus_state 1 [0]).clr Reg.queStatus_err [0]).clr Reg.quePtrs_sqHead [0]).clr
      Reg.quePtrs_cqTail [0]).clr Reg.queStatus_inFlight [0]
  else m

/-- QUE_CTL.DISABLE of queue 0: DRAINING until every management command taken has completed (R247). -/
def Module.queDisable (m : Module) : Module :=
  if m.qState 0 = 1 ∨ m.qState 0 = 3 then (m.wr Reg.queStatus_state 2 [0]).modQueue 0 (fun x => { x with fetched := [] }) else m

/-- A draining queue's last entry has completed (R247, R249). -/
def Module.queueDrained (m : Module) (q : Nat) : Module :=
  if m.qState q ≠ 2 ∨ m.qInFlight q ≠ 0 then m
  else if q = 0 then m.clr Reg.queStatus_state [0]
  else
    let d := (m.queue q).deleting
    let m1 := m.queueReset q
    match d with
    | some cid => m1.finish 0 cid Compl.done
    | none => m1

/-! ### Management entries on queue 0 (R249) -/

/-- Entry field: n bytes from byte i. -/
def ent (e : List Nat) (i n : Nat) : Nat := leAt e i n

/-- The Cirque may fetch another entry of queue q: a doorbell covers one that is not yet fetched, and no FATAL event has stopped
it (R255, R414). -/
def Module.mayFetch (m : Module) (q : Nat) : Bool :=
  let x := m.queue q
  let waiting := (x.fetched.filter (fun f => !f.taken)).length
  let left := (x.sqTail + m.sqDepth q - m.rd Reg.quePtrs_sqHead [q]) % m.sqDepth q
  decide (m.qState q = 1) && decide (waiting < left) && !m.rdB Reg.safStatus_fatalLatched

/-- A CQ slot is free for one more entry taken (R261). -/
def Module.slotFree (m : Module) (q : Nat) : Bool := decide (m.qInFlight q + (m.queue q).posted < m.cqDepth q)

/-- An entry is taken: SQ_HEAD advances, it counts in flight, and an active member records the TAKE (R255, R260, R385). -/
def Module.takeEntry (m : Module) (q cid : Nat) : Module :=
  let h := m.rd Reg.quePtrs_sqHead [q]
  let m1 := (m.wr Reg.quePtrs_sqHead ((h + 1) % m.sqDepth q) [q]).wr Reg.queStatus_inFlight (m.qInFlight q + 1) [q]
  ({ m1 with pair := { m1.pair with idx := SMap.ins (q * 65536 + cid) h m1.pair.idx } } : Module).modEntry 0 q h

/-- A management entry of queue 0, taken and acted on at once when it carries the opcode. -/
def Module.mgmt (m : Module) (op : Nat) (e : List Nat) (k : Module → Nat → Module) : Module :=
  if m.mayFetch 0 && m.slotFree 0 && decide (e.getD 0 0 = op) then k (m.takeEntry 0 (ent e 2 2)) (ent e 2 2) else m

/-- A management status without values. -/
def mgmtStatus (s : Nat) : Compl := Compl.of s 0 0 0

/-- CREATE_QUEUE. -/
def Module.createQueue (m : Module) (e : List Nat) : Module :=
  m.mgmt 0x80 e (fun m cid =>
    let q := ent e 4 2
    let sd := e.getD 24 0 % 32
    let cd := e.getD 25 0 % 32
    let v := ent e 26 2 % 2 ^ 11
    let w := e.getD 28 0 % 32
    let inR := fun (x lo hi : Nat) => decide (lo ≤ x) && decide (x ≤ hi)
    let ok := inR sd 1 16 && inR cd 1 16 && inR v 1 2047 && inR w 1 16 && inR q 1 16383 && decide (ent e 8 8 % 4096 = 0) &&
      decide (ent e 16 8 % 4096 = 0)
    if !ok then m.finish 0 cid (mgmtStatus 0x80)
    else if m.qState q ≠ 0 then m.finish 0 cid (mgmtStatus 0x81)
    else
      let put := [(Reg.queSqBaseLo_addr, ent e 8 8 / 4096), (Reg.queSqBaseHi_addr, ent e 12 4), (Reg.queCqBaseLo_addr, ent e 16 8 / 4096),
        (Reg.queCqBaseHi_addr, ent e 20 4), (Reg.queCfg_sqDepthLog2, sd), (Reg.queCfg_cqDepthLog2, cd), (Reg.queCfg_intEn, bit (e.getD 31 0) 0),
        (Reg.queCfg_weight, w), (Reg.queCfg_vector, v), (Reg.queIntr_coalRounds, e.getD 30 0), (Reg.queIntr_coalCount, e.getD 29 0),
        (Reg.queOwnerLo_ownerKey, ent e 32 4), (Reg.queOwnerHi_ownerKey, ent e 36 4), (Reg.queStatus_state, 1)]
      (put.foldl (fun m (p : Fld × Nat) => m.wr p.1 p.2 [q]) (m.queueReset q)).finish 0 cid Compl.done)

/-- A host request to be cancelled at the next round boundary (R257). -/
def Module.cancelReq (m : Module) (id : Nat) : Module :=
  m.modReq id (fun r => { r with cancelRound := r.cancelRound.orElse (fun _ => some m.hub.round) })

/-- DELETE_QUEUE: the queue drains and takes no more entries; FORCE cancels its requests in flight. -/
def Module.deleteQueue (m : Module) (e : List Nat) : Module :=
  m.mgmt 0x81 e (fun m cid =>
    let q := ent e 4 2
    if q = 0 ∨ 16383 < q ∨ m.qState q = 0 ∨ (m.queue q).deleting.isSome then m.finish 0 cid (mgmtStatus 0x82)
    else
      let m1 := (m.wr Reg.queStatus_state 2 [q]).modQueue q (fun x => { x with fetched := x.fetched.filter (fun f => f.taken), deleting := some cid })
      if bitB (e.getD 31 0) 1 then
        m1.host.reqs.foldl (fun m (p : Nat × Req) => if p.2.origin = 0 ∧ p.2.queue = q then m.cancelReq p.1 else m) m1
      else m1)

/-- Why a bind set and context cannot be bound or unbound: the management status. -/
def Module.bindBad (m : Module) (q c : Nat) : Option Nat :=
  if q ≠ 0xFFFF ∧ (q = 0 ∨ 16383 < q ∨ m.qState q = 0) then some 0x82
  else if c = 0xFFFF ∨ (m.ctxOf c).state = 0 then some 0x85
  else none

/-- BIND (R267). -/
def Module.bindCtx (m : Module) (e : List Nat) : Module :=
  m.mgmt 0x82 e (fun m cid =>
    let q := ent e 4 2
    let c := ent e 6 2
    match m.bindBad q c with
    | some s => m.finish 0 cid (mgmtStatus s)
    | none =>
      if q ≠ 0xFFFF ∧ m.ownerKey q ≠ (m.ctxOf c).owner then m.finish 0 cid (mgmtStatus 0x83)
      else if (m.bindSet q).elem c then m.finish 0 cid Compl.done
      else if 1024 ≤ (m.bindSet q).length ∨ 1048576 ≤ m.bindUsed then m.finish 0 cid (mgmtStatus 0x84)
      else (m.setBinds q (c :: m.bindSet q)).finish 0 cid Compl.done)

/-- UNBIND. -/
def Module.unbindCtx (m : Module) (e : List Nat) : Module :=
  m.mgmt 0x83 e (fun m cid =>
    let q := ent e 4 2
    let c := ent e 6 2
    match m.bindBad q c with
    | some s => m.finish 0 cid (mgmtStatus s)
    | none => (m.setBinds q ((m.bindSet q).filter (fun b => b ≠ c))).finish 0 cid Compl.done)

/-! ### Requests as entries name them (R252 to R255) -/

/-- A request with nothing in it. -/
def Req.blank : Req :=
  { origin := 0, queue := 0, cid := 0, chain := [], ctxs := [], counted := false, tag := 0, vc := 2, flags := 0, budgetUs := 0, seed := 0, flat := 0,
    outCap := 0, outSegs := [], input := [], inLen := 0, staged := 0, accRound := 0, accCycle := 0, phase := 0, result := none,
    cancelRound := none, stage := 0, attempt := 0, running := false, ends := [], iters := [], rflags := 0, held := [], kept := [], outAll := [], maxEnd := 0,
    points := [], released := 0, final := false, lastFault := none, faultId := 0, charged := [], uncovered := false, cls := 0, quotes := [],
    peerPkg := 0, bound := 0, hold := 0 }

/-- The contexts an entry's chain names: the first, then bytes 44 on for INVOKE_CHAIN. -/
def entChain (e : List Nat) : List Nat :=
  ent e 4 2 :: (if e.getD 0 0 = 2 then (List.range (e.getD 43 0 % 16 - 1)).map (fun i => ent e (44 + 2 * i) 2) else [])

/-- The request of an INVOKE or INVOKE_CHAIN entry, before any check. -/
def reqOf (q : Nat) (e : List Nat) : Req :=
  { Req.blank with
    queue := q, cid := ent e 2 2, chain := entChain e, ctxs := entChain e, flags := e.getD 1 0, budgetUs := ent e 8 3, seed := ent e 12 4,
    flat := ent e 16 4, inLen := ent e 28 3, outCap := ent e 40 3 }

/-- The segments of a buffer list given as address and length pairs: up to the first length 0, at most 256 (R253). -/
def listSegs (l : List (Nat × Nat)) : List (Nat × Nat) := (l.take 256).takeWhile (fun p => decide (p.2 ≠ 0))

/-- A buffer list in device memory. -/
def Module.devList (m : Module) (a : Nat) : List (Nat × Nat) :=
  let b := (m.devBytes 0 a 4096).1
  listSegs ((List.range 256).map (fun i => (leAt b (16 * i) 8, leAt b (16 * i + 8) 4)))

/-- Bytes of a buffer. -/
def segBytes (l : List (Nat × Nat)) : Nat := sumN (l.map Prod.snd)

/-- The input buffer's and the output buffer's segments (R253); lists in host memory come with the fetch. -/
def Module.segsOf (m : Module) (e : List Nat) (inList outList : List (Nat × Nat)) : List (Nat × Nat) × List (Nat × Nat) :=
  let f := e.getD 1 0
  let pick := fun (isList dev : Bool) (a n : Nat) (l : List (Nat × Nat)) =>
    if isList then (if dev then m.devList a else listSegs l) else [(a, n)]
  (pick (bitB f 4) (bitB f 2) (ent e 20 8) (ent e 28 3) inList, pick (bitB f 5) (bitB f 3) (ent e 32 8) (ent e 40 3) outList)

/-- Context checks of a request (R167, R254, R264, R267): what it completes with, if anything; an ABSENT context is bound nowhere. -/
def Module.ctxBad (m : Module) (binds : List Nat) (cs : List Nat) : Option Compl :=
  if cs.elem 0xFFFF then some (denied 0x1C 0xFFFF)
  else match cs.find? (fun c => !binds.elem c || (m.ctxOf c).state = 0) with
    | some c => some (denied 0x14 c)
    | none =>
      match cs.find? (fun c => (m.ctxOf c).state = 1 || (m.ctxOf c).state = 5) with
      | some c => some (rejectCtx 0x16 (m.ctxOf c).state)
      | none =>
        match cs.find? (fun c => (m.ctxOf c).latch ≠ 0) with
        | some c => some (if (m.ctxOf c).latch = 1 then Compl.of 0x07 0x17 0 0 else fmtMismatch 0x17 0 0)
        | none => none

/-- The first context of a chain whose output does not fit the next one's input: its index from 1 (R254). -/
def Module.chainBad (m : Module) : List Nat → Nat → Option Nat
  | a :: b :: t, i => if (m.ctxOf b).maxIn < (m.ctxOf a).maxOut then some i else Module.chainBad m (b :: t) (i + 1)
  | _, _ => none

/-- Every check of R255 on a request entry, in its order. -/
def Module.reqBad (m : Module) (binds : List Nat) (e : List Nat) (ins outs : List (Nat × Nat)) : Option Compl :=
  let cs := entChain e
  let n := ent e 28 3
  let cap := ent e 40 3
  let maxIn := (m.ctxOf (ent e 4 2)).maxIn
  if e.getD 0 0 = 2 ∧ (e.getD 43 0 % 16 < 2 ∨ 11 < e.getD 43 0 % 16) then some (denied 0x15 (ent e 4 2))
  else (m.ctxBad binds cs).orElse (fun _ =>
    if segBytes ins < n ∨ maxIn < n then some (lengthExceeds 0x10 n)
    else if segBytes outs < cap then some (lengthExceeds 0x11 cap)
    else if ent e 20 8 % 16 ≠ 0 ∨ ent e 32 8 % 16 ≠ 0 then some (fmtMismatch 0x0E 0 0)
    else (m.chainBad cs 1).map (fun i => lengthExceeds 0x13 i))

/-- Staging space of a request (R255). -/
def Module.stageSpace (m : Module) (e : List Nat) : Nat :=
  let cs := entChain e
  let mo := fun c => (m.ctxOf c).maxOut
  ceilDiv (ent e 28 3) 16 * 16 + min (ent e 40 3) (mo (cs.getLastD 0)) + sumN ((cs.dropLast).map mo)

/-- Staging space reserved now. -/
def Module.staged (m : Module) : Nat :=
  sumN (m.host.reqs.map (fun p => p.2.staged)) + sumN (m.host.ingress.map (fun f => f.req.staged)) +
    sumN (m.host.queues.map (fun p => sumN (p.2.fetched.map (fun f => f.req.staged))))

/-- Bytes of the staging pool (R255). -/
def stagePool : Nat := 384 * 2 ^ 20

/-! ### QUERY and CANCEL (R257, R258) -/

/-- A QUERY's completion, which bears a copy of its NO_FAILOVER flag (R260). -/
def Module.finishQuery (m : Module) (q cid : Nat) (noFailover : Bool) (c : Compl) : Module := m.post q cid (4 * ofB noFailover) c true

/-- QUERY, taken from queue q. -/
def Module.query (m : Module) (q cid c kind flags resultAddr : Nat) : Module :=
  let x := m.ctxOf c
  let nf := bitB flags 0
  if 1 < kind then m.finishQuery q cid nf (denied 0x15 c)
  else if c = 0xFFFF then m.finishQuery q cid nf (denied 0x1C c)
  else if !((m.queue q).binds.elem c) then m.finishQuery q cid nf (denied 0x14 c)
  else if kind = 0 then
    (m.emit (.hostWrite resultAddr (m.descBytes c true))).finishQuery q cid nf (Compl.of 0 0 (x.state + 256 * x.latch) x.inFlight)
  else
    let y : Query1 := { queue := q, cid := cid, ctx := c, noFailover := nf }
    { m with host := { m.host with queries := m.host.queries ++ [y] } }

/-- CANCEL, taken from queue q: the earliest-taken request of the queue with the CID, if any. -/
def Module.cancel (m : Module) (q cid target : Nat) : Module :=
  match m.host.reqs.find? (fun (p : Nat × Req) => p.2.origin = 0 ∧ p.2.queue = q ∧ p.2.cid = target) with
  | none => m.finish q cid (Compl.of 0 0x1A 0 0)
  | some (id, _) =>
    let y : Cancel := { queue := q, cid := cid, target := some id, hit := false }
    ({ m with host := { m.host with cancels := m.host.cancels ++ [y] } } : Module).cancelReq id

/-! ### Taking entries (R210, R211, R255, R256) -/

/-- An entry that is no request acts when it is taken; a reserved opcode is denied (R249, R251). -/
def Module.actEntry (m : Module) (q : Nat) (f : Fetched) : Module :=
  let e := f.entry
  let cid := ent e 2 2
  let c := ent e 4 2
  match e.getD 0 0 with
  | 3 =>
    let src := leAt f.extra 8 8
    let m1 := if bitB (f.extra.getD 16 0) 0 then m.snoopRange src (leAt f.extra 24 8) false else m
    match f.req.result with
    | some x => m.finish q cid x
    | none => m1.loadImage q cid f.extra
  | 4 => m.evict q cid c (e.getD 8 0)
  | 5 => m.pin q cid c (e.getD 8 0)
  | 6 => m.query q cid c (e.getD 8 0) (e.getD 1 0) (ent e 16 8)
  | 7 => m.cancel q cid (ent e 8 2)
  | _ => m.finish q cid (denied 0x15 c)

/-- Is this a request's opcode? -/
def isReq (e : List Nat) : Bool := e.getD 0 0 = 1 || e.getD 0 0 = 2

/-- What a resumed request's block bears in place of its number until the request is in flight again (R395). -/
def Req.resumeKey (r : Req) : Nat :=
  2 ^ 43 + (if r.origin = 0 then r.queue * 65536 + r.cid else 2 ^ 40 + (r.peerPkg * 64 * 65536 + r.tag))

/-- A request is accepted in a cycle of the current round (R209): it is in flight under a new number. -/
def Module.acceptReq (m : Module) (r : Req) (cycle : Nat) : Module :=
  let r' : Req := if r.counted then r else { r with accRound := m.hub.round, accCycle := cycle }
  let m1 := if r.counted then m else { m with host := { m.host with
    takenHost := m.host.takenHost + (if r.origin = 0 then 1 else 0), takenFabric := m.host.takenFabric + (if r.origin = 0 then 0 else 1) } }
  let id := m1.host.nextReq
  { m1 with
    host := { m1.host with reqs := SMap.ins id r' m1.host.reqs, nextReq := id + 1 }
    adm := { m1.adm with blocks := m1.adm.blocks.map (fun (b : Block) => if b.req = r.resumeKey then { b with req := id } else b) } }

/-- The head of queue q's fetched entries is taken. A request that a switch-over carried over was taken before. -/
def Module.takeHead (m : Module) (q cycle : Nat) : Module :=
  match (m.queue q).fetched with
  | [] => m
  | f :: t =>
    let m1 := m.modQueue q (fun x => { x with fetched := t })
    let m2 := if f.taken then m1 else m1.takeEntry q (ent f.entry 2 2)
    if isReq f.entry then m2.acceptReq f.req cycle else m2.actEntry q f

/-- Queue q's head entry may be taken now: it is ready, a CQ slot is free for it (R261), under the default structure only queue 0 is served (R151), and for a request the round's share has room (R210); an active
member's MOD entries must fit their reserve (R387). -/
def Module.headReady (m : Module) (q : Nat) : Bool :=
  match (m.queue q).fetched with
  | [] => false
  | f :: _ =>
    f.ready && (decide (q = 0) || !m.rdB Reg.hubStructStatus_defaultStruct) && decide (m.qState q = 1 ∨ f.taken) && (f.taken || m.slotFree q) &&
      (!isReq f.entry || f.taken ||
        (m.rdB Reg.admStatus_running && decide (m.host.takenHost + m.host.takenFabric < m.maxAdmit))) &&
      (m.pairState ≠ 3 || decide ((m.pair.mods.filter (fun x => x / 2 ^ 30 = 0)).length < 2432))

/-- The next queue of the rotation with an entry ready, and the turns it has left (R256). -/
def Module.nextQueue (m : Module) : Option (Nat × Nat) :=
  let qs := (m.host.queues.map Prod.fst).filter (fun q => decide (q ≠ 0) && m.headReady q)
  let last := m.host.lastQueue
  if m.host.turnsLeft ≠ 0 ∧ qs.elem last then some (last, m.host.turnsLeft - 1)
  else match (qs.filter (fun q => decide (last < q)) ++ qs.filter (fun q => decide (q ≤ last))).head? with
    | none => none
    | some q => some (q, max 1 (m.rd Reg.queCfg_weight [q]) - 1)

/-- The head of the fabric ingress queue may be taken. -/
def Module.ingressReady (m : Module) : Bool :=
  !m.host.ingress.isEmpty && m.rdB Reg.admStatus_running && decide (m.host.takenHost + m.host.takenFabric < m.maxAdmit)

/-- The head of the fabric ingress queue taken. -/
def Module.takeIngress (m : Module) (cycle : Nat) : Module :=
  match m.host.ingress with
  | [] => m
  | f :: t => ({ m with host := { m.host with ingress := t } } : Module).acceptReq f.req cycle

/-- Entries are taken while any may be, at most n: fabric ingress up to its half, then host queues, then what one side
leaves to the other (R256). -/
def Module.arbiter (m : Module) (cycle : Nat) : Nat → Module
  | 0 => m
  | n + 1 =>
    if m.silent || m.rdB Reg.safStatus_fatalLatched then m
    else if m.ingressReady && decide (m.host.takenFabric < ceilDiv m.maxAdmit 2) then (m.takeIngress cycle).arbiter cycle n
    else match m.nextQueue with
      | some (q, left) => (({ m with host := { m.host with lastQueue := q, turnsLeft := left } } : Module).takeHead q cycle).arbiter cycle n
      | none => if m.ingressReady then (m.takeIngress cycle).arbiter cycle n else m

/-- What may be taken is taken. -/
def Module.arbitrate (m : Module) (cycle : Nat) : Module :=
  m.arbiter cycle (m.host.ingress.length + sumN (m.host.queues.map (fun p => p.2.fetched.length)))

/-! ### Fetching (R255) -/

/-- A member that does not serve reads an entry that a TAKE record named (R382): LOAD_IMAGE, EVICT and PIN of hot and sealed
contexts are executed, every other entry is only kept. -/
def Module.mirrorFetch (m : Module) (q : Nat) (e param : List Nat) : Module :=
  let h := m.rd Reg.quePtrs_sqHead [q]
  if m.pair.named.elem (q, h) then
    let m1 := (m.wr Reg.quePtrs_sqHead ((h + 1) % m.sqDepth q) [q]).wr Reg.queStatus_inFlight (m.qInFlight q + 1) [q]
    let y : Mirrored := { queue := q, idx := h, entry := e }
    let m2 : Module := { m1 with pair := { m1.pair with
      named := m1.pair.named.filter (fun x => x ≠ (q, h)), mirrored := m1.pair.mirrored ++ [y] } }
    let c := ent e 4 2
    let mine := fun p => p = 1 || p = 2
    match e.getD 0 0 with
    | 3 => if mine (param.getD 2 0 % 4) then m2.loadImage q (ent e 2 2) param else m2
    | 4 => if mine (m.ctxOf c).pairing then m2.evict q (ent e 2 2) c (e.getD 8 0) else m2
    | 5 => if mine (m.ctxOf c).pairing then m2.pin q (ent e 2 2) c (e.getD 8 0) else m2
    | _ => m2
  else m

/-- The read of the host list at a flag bit is still open: the fetch came with no entry of it. -/
def openList (e : List Nat) (listBit devBit : Nat) (l : List (Nat × Nat)) : Bool :=
  bitB (e.getD 1 0) listBit && !bitB (e.getD 1 0) devBit && l.isEmpty

/-- A buffer that any length fits in, in place of a list not yet read. -/
def anyBuffer : List (Nat × Nat) := [(0, 2 ^ 24)]

/-- A fetched entry whose list or load parameter block has not been read: it waits for the read, which HOST_READ_FAIL ends. -/
def Module.waitRead (m : Module) (q : Nat) (e : List Nat) (r : Req) : Module :=
  let f : Fetched := { entry := e, req := { r with result := some (Compl.of 0x07 0x18 0 0), staged := 0 }, inSegs := [], extra := [], ready := false, taken := false }
  m.modQueue q (fun x => { x with fetched := x.fetched ++ [f] })

/-- An entry of queue q (1 or above) fetched in a cycle of the round, with the buffer lists and the load parameter block it
points to. A list or block that comes with no entry or byte has not been read (R253, R255). -/
def Module.fetch (m : Module) (q : Nat) (e : List Nat) (inList outList : List (Nat × Nat)) (param : List Nat) (cycle : Nat) : Module :=
  if q = 0 ∨ !m.mayFetch q then m
  else if m.silent then m.mirrorFetch q e param
  else if isReq e then
    let openIn := openList e 4 2 inList
    let openOut := openList e 5 3 outList
    let (ins0, outs0) := m.segsOf e inList outList
    let ins := if openIn then anyBuffer else ins0
    let outs := if openOut then anyBuffer else outs0
    let r := { reqOf q e with outSegs := outs }
    match m.reqBad (m.queue q).binds e ins outs with
    | some c =>
      let f : Fetched := { entry := e, req := { r with result := some c }, inSegs := [], extra := [], ready := true, taken := false }
      (m.modQueue q (fun x => { x with fetched := x.fetched ++ [f] })).arbitrate cycle
    | none =>
      if openIn || openOut then m.waitRead q e (reqOf q e)
      else
        let space := m.stageSpace e
        if stagePool < m.staged + space then m
        else
          let f : Fetched := { entry := e, req := { r with staged := space }, inSegs := ins, extra := [], ready := decide (r.inLen = 0), taken := false }
          (m.modQueue q (fun x => { x with fetched := x.fetched ++ [f] })).arbitrate cycle
  else if e.getD 0 0 = 3 ∧ param.isEmpty = true then m.waitRead q e Req.blank
  else
    let f : Fetched := { entry := e, req := Req.blank, inSegs := [], extra := param, ready := true, taken := false }
    (m.modQueue q (fun x => { x with fetched := x.fetched ++ [f] })).arbitrate cycle

/-- A fetch of an entry that carries a given opcode (the rows of R251). -/
def Module.fetchOp (m : Module) (op q : Nat) (e : List Nat) (inList outList : List (Nat × Nat)) (param : List Nat) (cycle : Nat) : Module :=
  if e.getD 0 0 = op then m.fetch q e inList outList param cycle else m

/-- A fetched entry of queue q with a CID changed. -/
def Module.modFetched (m : Module) (q cid : Nat) (k : Fetched → Fetched) : Module :=
  m.modQueue q (fun x => { x with fetched := x.fetched.map (fun f => if ent f.entry 2 2 = cid ∧ !f.ready then k f else f) })

/-- The input a device range holds, or `none` where it lies outside the host region or has no valid data (R252). -/
def Module.devInput (m : Module) (segs : List (Nat × Nat)) : Option (List Nat) × Module :=
  segs.foldl (fun (a : Option (List Nat) × Module) (p : Nat × Nat) =>
    match a.1 with
    | none => a
    | some l =>
      if p.1 + p.2 ≤ a.2.rd Reg.memHostRegion_size256m * 2 ^ 28 then
        let (b, bad, m1) := a.2.devBytes 0 p.1 p.2
        (if bad then none else some (l ++ b), m1)
      else (none, a.2)) (some [], m)

/-- A host read of an entry's input or list failed: it completes at the next boundary and nothing is reserved (R255). -/
def Module.hostReadFail (m : Module) (q cid cycle : Nat) : Module :=
  (m.modFetched q cid (fun f => { f with ready := true, req := { f.req with result := some (Compl.of 0x07 0x18 0 0), staged := 0 } })).arbitrate cycle

/-- ENTRY_TAKEN: the input copy of an entry is complete; `data` is what host memory held. -/
def Module.inputCopied (m : Module) (q cid : Nat) (data : List Nat) (cycle : Nat) : Module :=
  match (m.queue q).fetched.find? (fun f => ent f.entry 2 2 = cid && !f.ready) with
  | none => m
  | some f =>
    if f.req.result.isSome then m
    else
    let done := fun (m : Module) (b : List Nat) =>
      (m.modFetched q cid (fun f => { f with ready := true, req := { f.req with input := slice 0 b 0 f.req.inLen } })).arbitrate cycle
    if bitB (f.entry.getD 1 0) 2 then
      match m.devInput f.inSegs with
      | (some b, m1) => done m1 b
      | (none, m1) => m1.hostReadFail q cid cycle
    else done m data

/-! ### PCIe resets (R271) -/

/-- Whatever was asked through a host queue and is not completed yet loses its queue (R271). -/
def Module.orphanAll (m : Module) : Module :=
  { m with
    host := { m.host with
      reqs := m.host.reqs.map (fun (p : Nat × Req) =>
        let r : Req := { p.2 with queue := orphan p.2.queue }
        (p.1, if p.2.origin = 0 then r else p.2))
      cancels := [], queries := [] }
    ctx := { m.ctx with
      waiters := m.ctx.waiters.map (fun (w : Waiter) => { w with queue := orphan w.queue })
      loads := m.ctx.loads.map (fun (p : Nat × Load) =>
        let l : Load := { p.2 with queue := orphan p.2.queue }
        (p.1, l)) }
    rte := { m.rte with leaving := m.rte.leaving.map (fun x => (orphan x.1, x.2)) }
    pair := { m.pair with cmd := m.pair.cmd.map (fun x => (x.1, orphan x.2.1, x.2.2)), named := [], mirrored := [] } }

/-- PCIE_RESET: every queue deleted, host requests cancelled, the configuration and the QUE_, MSI-X and HUB_APERTURE_BASE registers
reset; nothing of what was asked before writes to host memory any more. -/
def Module.pcieReset (m : Module) : Module :=
  let ids := (0 :: m.queueIds ++ m.host.queues.map Prod.fst).eraseDups
  let m1 := ids.foldl (fun m q => m.queueReset q) (m.modPcie (fun _ => Pcie.reset))
  let m2 := m1.clr Reg.hubApertureBase_base256m
  let m3 : Module := { m2 with
    regs := m2.regs.filter (fun p => !(decide (Reg.hubMsixTable_word.key [0] ≤ p.1) && decide (p.1 ≤ Reg.hubMsixTable_word.key [8191])) &&
      !(decide (Reg.hubMsixPba_bits.key [0] ≤ p.1) && decide (p.1 ≤ Reg.hubMsixPba_bits.key [63]))) }
  m3.host.reqs.foldl (fun m (p : Nat × Req) => if p.2.origin = 0 then m.cancelReq p.1 else m) m3.orphanAll

/-! ### Configuration writes (R242, R243) -/

/-- MSI-X control written: vectors that lose the Function Mask send what they hold. -/
def Module.msixCtl (m : Module) (v : Nat) : Module :=
  iter 2048 (fun k m => m.msixFlush k) (m.modPcie (fun x => { x with msixEnable := bitB v 15, msixMask := bitB v 14 }))

/-- Power state written: D0 and D3hot alone exist, and D3hot to D0 resets the PCIe personality (R242, R271). -/
def Module.powerState (m : Module) (v : Nat) : Module :=
  if v % 4 = 3 then m.modPcie (fun x => { x with d3hot := true })
  else if v % 4 = 0 ∧ m.host.pcie.d3hot then m.pcieReset else m

/-- A word of the configuration space written: sizes outside R242 are ignored, status bits are cleared by a 1, and word 29 starts
an FLR. -/
def Module.configWrite (m : Module) (k v : Nat) : Module :=
  match k with
  | 16 => m.msixCtl v
  | 17 => m.powerState v
  | 18 => m.modPcie (fun x => x.setBar 0 false v)
  | 19 => m.modPcie (fun x => x.setBar 0 true v)
  | 20 => m.modPcie (fun x => x.setBar 1 false v)
  | 21 => m.modPcie (fun x => x.setBar 1 true v)
  | 22 => m.modPcie (fun x => x.setBar 2 false v)
  | 23 => m.modPcie (fun x => x.setBar 2 true v)
  | 24 => if [128, 256, 512].elem v then m.modPcie (fun x => { x with maxPayload := v }) else m
  | 25 => if [128, 256, 512, 1024, 2048, 4096].elem v then m.modPcie (fun x => { x with maxRead := v }) else m
  | 26 => m.modPcie (fun x => { x with relaxed := bitB v 0, tags10 := bitB v 1 })
  | 27 => m.modPcie (fun x => { x with aerUncorr := x.aerUncorr - (x.aerUncorr &&& v) })
  | 28 => m.modPcie (fun x => { x with aerCorr := x.aerCorr - (x.aerCorr &&& v) })
  | 29 => if bitB v 0 then m.pcieReset else m
  | _ => m

/-- COALESCE_TIMEOUT: COAL_ROUNDS round boundaries have passed since a queue's first pending completion (R268). -/
def Module.coalesceTimeout (m : Module) (q : Nat) : Module :=
  let x := m.queue q
  if m.rdB Reg.queCfg_intEn [q] && decide (x.pendCount ≠ 0) && decide (x.pendRound + m.rd Reg.queIntr_coalRounds [q] ≤ m.hub.round) then
    (m.modQueue q (fun x => { x with pendCount := 0 })).msix (m.vectorOf q)
  else m

end Sys2Proof.Machine
end

