-- ==== Sys2Proof/Machine/Admission.lean ====
section
/-! DEFINITION. Admission (R209 to R228): counting pairs, the counted path, the calendars, the fault reserve, the worst case
and the answer. Times are counted in 1/8000 ns: a fabric cycle is 5000, a root cycle 625, a slot of 80 ns 640,000. -/

namespace Sys2Proof.Machine

/-- One nanosecond. -/
def tNs : Nat := 8000
/-- One fabric cycle (0.625 ns). -/
def tFab : Nat := 5000
/-- One cycle of 12.8 GHz. -/
def tRoot : Nat := 625
/-- One calendar slot: 128 fabric cycles. -/
def tSlot : Nat := 640000
/-- One round: 8,192 fabric cycles. -/
def tRound : Nat := 40960000

/-! ### Pairs (R213, R214) -/

/-- Requests in flight counted on a site: the pairs they were decided under. A window held for a partner is no request yet. -/
def Module.decidedPairs (m : Module) (s : Nat) : List (Nat × Nat) :=
  ((m.adm.blocks.filter (fun b => (m.req? b.req).isSome)).map (fun b => (b.pairs.filter (fun p => p.1 = s)).map Prod.snd)).flatten

/-- The committed pair of a site (R214); (8, 64) when nothing is in flight. -/
def Module.committed (m : Module) (s : Nat) : Nat × Nat :=
  (m.decidedPairs s).foldl (fun a p => (max a.1 p.1, min a.2 p.2)) (8, 64)

/-- The counting pair of a site as it stands (ADM_TINE_PAIR). -/
def Module.counting (m : Module) (s : Nat) : Nat × Nat := (m.rd Reg.admTinePair_countN [s], m.rd Reg.admTinePair_countG [s])

/-- The counting pair computed at a round boundary (R213, R432): the pair in force, the pair pending, and the curve's at the
temperature with headroom or at the cap index. -/
def Module.countPair (m : Module) (s : Nat) : Module :=
  let (cn, cg) := m.curvePair (max (m.countIdx s) (m.capIdx s))
  let n := max (max (m.rd Reg.tineClk_n [s]) (m.rd Reg.tineClk_nPending [s])) cn
  let g := min (min (m.rd Reg.tineClk_gate [s]) (m.rd Reg.tineClk_gatePending [s])) cg
  (m.wr Reg.admTinePair_countN n [s]).wr Reg.admTinePair_countG g [s]

/-! ### Counted stage time (R215 to R218) -/

/-- A counted time and its parts along the chain that sets it: the whole, its Tine-cycle terms at (8, 64), its fabric-cycle
terms (R228). -/
structure Counted where
  all : Nat
  compute : Nat
  move : Nat
deriving DecidableEq, Repr

/-- Sum of two counted times. -/
def Counted.add (a b : Counted) : Counted := { all := a.all + b.all, compute := a.compute + b.compute, move := a.move + b.move }

/-- The later of two counted times. -/
def Counted.later (a b : Counted) : Counted := if a.all < b.all then b else a

/-- A counted time of fabric-cycle terms only. -/
def Counted.fabric (t : Nat) : Counted := { all := t, compute := 0, move := t }

/-- No time. -/
def Counted.zero : Counted := Counted.fabric 0

/-- The tier surcharge of F fabric cycles (R216), in fabric cycles. -/
def Module.surcharge (m : Module) (x : Ctx) (f : Nat) : Nat :=
  match m.readsCxl x with
  | none => 0
  | some p =>
    let b := if m.rd Reg.cxlPortStatus_rate [p] = 2 then m.admitField 10 2 else m.admitField 12 2
    f / (m.bound4 + 9) * (b - m.bound4)

/-- C(k, i) of R215 at a pair. -/
def Module.countC (m : Module) (x : Ctx) (pair : Nat × Nat) (t f : Nat) : Counted :=
  let tine := fun (c n g : Nat) => 64 * ceilDiv c (max 1 g) * n * tRoot
  let cy := fun (n g : Nat) => tine t n g + tine 256 n g
  let mv := f * tFab + m.surcharge x f * tFab + 40 * tNs
  { all := cy pair.1 pair.2 + mv, compute := cy 8 64, move := mv }

/-- H of one hop at a port for a class, in ns (R236). -/
def Module.hopBound (m : Module) (p v : Nat) : Nat := m.latencyNs p + m.qbound p v + 80

/-- The counted path bound to a package for a class, in ns; `none` where the tables give no route (R236). What the hops beyond
the first package add is known to the packages there: a free value of the route and the class. -/
def Module.pathBound (m : Module) (pkg v : Nat) : Option Nat :=
  (m.tableRoute pkg v false false).map (fun p =>
    m.hopBound p v + (if m.rd Reg.fabLinkStatus_peerPkg [p] = pkg then 0 else Config.farBound m.own pkg v p))

/-- A(k, i) of R217 for every participating slice, following the records of the stage: `n` rounds of relaxation. -/
def stageTimes (recs : List DepRec) (k : Nat) (c : Nat → Counted) : Nat → SMap Counted → SMap Counted
  | 0, a => a
  | n + 1, a =>
    stageTimes recs k c n (a.map (fun p =>
      let ins := (recs.filter (fun r => r.toStage = k && r.toSlice = p.1)).map (fun r =>
        (Counted.fabric (r.lagF * tFab)).add (if r.fromStage = k then SMap.get Counted.zero a r.fromSlice else Counted.zero))
      (p.1, (ins.foldl Counted.later Counted.zero).add (c p.1))))

/-- D(k) of a context's stage k (R217) with the pair of each slice; `extra`: the least a partner's slices and path bounds make
it (R238). -/
def Module.countD (m : Module) (x : Ctx) (pair : Nat → Nat × Nat) (extra : Nat → Nat) (k : Nat) : Counted :=
  match x.img with
  | none => Counted.zero
  | some g =>
    let c := fun i => match g.stages.find? (fun r => r.stage = k && r.slice = i) with
      | some r => m.countC x (pair i) r.t r.f
      | none => Counted.zero
    let parts := g.participants k
    let start : SMap Counted := parts.map (fun i => (i, c i))
    let a := stageTimes g.deps k c parts.length start
    ((a.map Prod.snd).foldl Counted.later Counted.zero).later (Counted.fabric (extra k))

/-- E(k) of R218. -/
def Image.times (g : Image) (k : Nat) : Nat := 1 + sumN (g.limits.take (k + 1))

/-- The counting pair of the Tine that holds a slice of a context; (8, 64) where none does (R213, R217). -/
def Module.pairAt (m : Module) (x : Ctx) (i : Nat) : Nat × Nat :=
  match m.siteOf x i with
  | some s => m.counting s
  | none => (8, 64)

/-- P and S_max of a context (R218, R225). -/
def Module.countP (m : Module) (x : Ctx) (pair : Nat → Nat × Nat) (extra : Nat → Nat) : Counted × Nat :=
  match x.img with
  | none => (Counted.zero, 0)
  | some g =>
    (List.range g.stageCount).foldl (fun (a : Counted × Nat) k =>
      let d := m.countD x pair extra k
      let e := g.times k
      (a.1.add { all := e * d.all, compute := e * d.compute, move := e * d.move }, max a.2 d.all)) (Counted.zero, 0)

/-! ### Placement and fills as admission counts them (R220 to R222) -/

/-- The round from which a bank can be taken for slice i (R222); `none` while it is held by a PIN. -/
def Module.bankRound (m : Module) (c : Nat) (x : Ctx) (i s b : Nat) : Option Nat :=
  if m.bankFree c x i s b then some m.hub.round
  else match m.owner s b with
    | none => none
    | some o =>
      if (m.ctxOf o).pin ≥ 2 then none
      else some (maxN (m.adm.blocks.filterMap (fun blk =>
        match m.req? blk.req with
        | some r => if r.ctxs.elem o then some blk.bound else none
        | none => none)))

/-- A window of a set: the round from which it is usable and its bank mask. -/
def Module.windowRound (m : Module) (c : Nat) (x : Ctx) (t : Tset) (r : Nat) : Option (Nat × Nat) :=
  (List.range x.sliceCount).foldl (fun a i =>
    match a, t.members[r + i]? with
    | some (k, mask), some s =>
      if s < 72 ∧ m.siteState s = 2 then
        let b := if m.bankFree c x i s (m.bankFor c x i s) then m.bankFor c x i s else if m.bankState s 1 = 3 then 2 else if m.bankState s 2 = 3 then 1 else m.bankFor c x i s
        (m.bankRound c x i s b).map (fun j => (max k j, mask + (if b = 2 then 2 ^ i else 0)))
      else none
    | _, _ => none) (some (m.hub.round, 0))

/-- Where a context will be placed and from which round: the placement it has, else the window usable first. -/
def Module.placement (m : Module) (c : Nat) (x : Ctx) : Option (Nat × Nat × Nat × Nat) :=
  if m.hot c x then some (m.hub.round, x.tset, x.firstRank, x.bankMask)
  else
    let kept := if x.placed then (match m.tset x.tset with
        | some t => if m.candidate x t then (m.windowRound c x t x.firstRank).map (fun p => [(p.1, t.id, x.firstRank, p.2)]) else none
        | none => none) else none
    let all := match kept with
      | some l => l
      | none => (((m.setOrder x).filter (m.candidate x)).map (fun t =>
          (List.range t.members.length).filterMap (fun r => (m.windowRound c x t r).map (fun p => (p.1, t.id, r, p.2))))).flatten
    match all with
    | [] => none
    | w :: ws => some (ws.foldl (fun (a b : Nat × Nat × Nat × Nat) => if b.1 < a.1 then b else a) w)

/-- The fills a context needs from a round on, booked in slice order (R221): the round from which every bank counts as
available, and the module with the bookings; `none` past the horizon. -/
def Module.bookFills (m : Module) (long : Bool) (c : Nat) (x : Ctx) (r : Nat) : Option (Nat × Module) :=
  (List.range x.sliceCount).foldl (fun (a : Option (Nat × Module)) i =>
    match a with
    | none => none
    | some (k, m) =>
      match m.siteOf x i with
      | none => none
      | some s =>
        let b := x.bankOf i
        if m.resident c x i then some (k, m)
        else match m.adm.fillBooks.find? (fun f => f.site = s && f.bank = b && f.ctx = c) with
          | some f => some (max k (f.start + f.len), m)
          | none =>
            let (src, _) := m.fillSource x
            let rate := m.fillRate x s false
            let len := fillRounds (x.slice i).fillSize rate
            match m.fillSlot long src rate len 4096 r with
            | none => none
            | some st =>
              let f : FillBook := { site := s, bank := b, ctx := c, src := src, rate := rate, start := st, len := len }
              some (max k (st + len), { m with adm := { m.adm with fillBooks := m.adm.fillBooks ++ [f] } })) (some (r, m))

/-! ### Blocks (R219, R220, R223, R224) -/

/-- Slots taken on a site by other blocks and held windows: the end of one that meets [t, t + n), if any. -/
def Module.blockedTo (m : Module) (sites : List Nat) (t n : Nat) : Option Nat :=
  (m.adm.blocks.find? (fun b => decide (b.start < t + n) && decide (t < b.start + b.len) && b.sites.any (fun s => sites.elem s))).map
    (fun b => b.start + b.len)

/-- Copy load of a block of n slots from t with `kv` bytes of KV records: 64 bytes of closing record in each round it touches
(R223); nothing without a copy. -/
def copyBytes (kv : Option Nat) (t n : Nat) : Nat :=
  match kv with
  | some k => k + 64 * ((t + n - 1) / 64 + 1 - t / 64)
  | none => 0

/-- The copy room of every quarter a block would cover (R220 condition 5). -/
def Module.copyRoom (m : Module) (kv : Option Nat) (t n : Nat) : Bool :=
  let cap := copyCap (m.opt 62).countW (m.opt 63).countW
  let copy := copyBytes kv t n
  copy = 0 || (List.range (n / 16 + 2)).all (fun i =>
    let q := t / 16 + i
    let b : Block := { req := 0, sites := [], start := t, len := n, copy := copy, ports := [], bound := 0, pairs := [] }
    let o := b.overlap (16 * q) (16 * q + 16)
    o = 0 || decide (m.copyLoad (q / 4) (q % 4) + ceilDiv (copy * o) (max 1 n) ≤ cap))

/-- The room of every port class a block uses, in the rounds it covers (R224); a path over a VC without a port-class record is
never given (R138). -/
def Module.portRoom (m : Module) (ports : List (Nat × Nat × Nat)) (t n : Nat) : Bool :=
  let b : Block := { req := 0, sites := [], start := t, len := n, copy := 0, ports := ports, bound := 0, pairs := [] }
  ports.all (fun p => (m.pclass p.1 p.2.1).isSome && (List.range (n / 64 + 2)).all (fun i =>
    let r := t / 64 + i
    let l := b.portBytes p.1 p.2.1 r
    l = 0 || decide (m.portLoad p.1 p.2.1 r + l ≤ m.portCap p.1 p.2.1 (m.opt p.1).countW)))

/-- Slots of the calendar: 4,096 rounds of 64 (R219). -/
def calendarSlots : Nat := 4096 * 64

/-- The first start slot from t at which a block of n slots meets the conditions wanted: Tines free, then copy room, then
port room, within the calendar's end. -/
def Module.firstSlot (m : Module) (sites : List Nat) (copy : Option Nat) (ports : List (Nat × Nat × Nat)) (useCopy usePorts : Bool) (n last : Nat) :
    Nat → Nat → Option Nat
  | 0, _ => none
  | fuel + 1, t =>
    if last < t + n then none
    else match m.blockedTo sites t n with
      | some e => Module.firstSlot m sites copy ports useCopy usePorts n last fuel (max e (t + 1))
      | none =>
        if (!useCopy || m.copyRoom copy t n) && (!usePorts || m.portRoom ports t n) then some t
        else Module.firstSlot m sites copy ports useCopy usePorts n last fuel (t + 1)

/-! ### The fault reserve (R225, R226) -/

/-- The pair is formed (PAIR_STATUS.FORMED). -/
def Module.formed (m : Module) : Bool := m.rdB Reg.pairStatus_formed

/-- Protection class of a request: 0 PAIR, 1 LOCAL, 2 NONE (R225). -/
def Module.protection (m : Module) (cs : List Nat) (noFailover : Bool) : Nat :=
  if noFailover ∨ !(cs.all (fun c => (m.ctxOf c).pairing = 1)) then 2 else if m.formed then 0 else 1

/-- M of R226 for a context at its sites, in rounds; `wait`: the placement wait of R222. -/
def Module.migrationBound (m : Module) (x : Ctx) (sites : List Nat) (wait : Nat) : Nat :=
  maxN (sites.map (fun s =>
    let p := m.spareFor s
    if p ≥ 72 then
      1 + maxN ((List.range x.sliceCount).map (fun i => fillRounds (x.slice i).fillSize (m.fillRate x s false))) + wait
    else
      let r := match m.readsCxl x with
        | none => min (128 * m.linkHalves p) 2560
        | some c => m.cxlCap c / 4
      11 + 2 * fillRounds 21037056 r))

/-- The fault reserve of a context (R225). -/
def Module.reserve (m : Module) (cls smax mig : Nat) : Nat :=
  match cls with
  | 0 => smax + max (334080 * tNs) (mig * tRound) + m.reserveExtra * tRound
  | 1 => smax + mig * tRound
  | _ => max smax tRound

/-! ### The worst case (R227, R228) -/

/-- What a decision finds: completed at once with a status, refused with a REASON and the shortest budget, or accepted. -/
inductive Verdict where
  | done (c : Compl)
  | refuse (reason budget : Nat)
  | accept (m : Module) (b : Block) (cls : Nat) (claims : List (Nat × Nat × Nat))
deriving Repr

/-- Rounds a request's remote partners are counted over, and the quotes a decision takes (R238). -/
structure Remote where
  /-- Partner package, its path bound in ns, and the quote taken. -/
  parts : List (Nat × Nat × Quote)
deriving Repr

/-- The remote partners of a chain: their routes and freshest unclaimed quotes, or how the request completes. -/
def Module.remotes (m : Module) (cs : List Nat) : Except (Compl ⊕ Unit) Remote :=
  cs.foldl (fun (a : Except (Compl ⊕ Unit) Remote) c =>
    let x := m.ctxOf c
    (x.remote.take (match x.img with
      | some g => g.remoteCount
      | none => 0)).foldl (fun (a : Except (Compl ⊕ Unit) Remote) r =>
      match a with
      | .error e => .error e
      | .ok l =>
        let pkg := m.redirect r.1
        let gone : Except (Compl ⊕ Unit) Remote := .error (.inl (Compl.of 0x09 0 pkg 0))
        if m.own = 0x3FFF then gone
        else match m.pathBound pkg (2 + x.latClass) with
          | none => gone
          | some h =>
            let qs := m.adm.quotesIn.filter (fun q => q.pkg = pkg && q.ctx = c && decide (m.hub.round ≤ q.sent + 2))
            if qs = [] then gone
            else match (qs.filter (fun q => !q.claimed)).getLast? with
              | none => .error (.inr ())
              | some q => .ok { parts := l.parts ++ [(pkg, h, q)] }) a) (.ok { parts := [] })

/-- The context of a partner package that holds the far slices of context c. -/
def Module.ctxThere (m : Module) (c pkg : Nat) : Nat :=
  (((m.ctxOf c).remote.find? (fun r => decide (m.redirect r.1 = pkg))).map Prod.snd).getD 0

/-- The largest contribution, ties to the lower code (R228). -/
def largest (l : List (Nat × Nat)) : Nat :=
  (l.foldl (fun (a b : Nat × Nat) => if a.2 < b.2 then b else a) (0, 0)).1

/-- Every context of a chain placed, in chain order (R220 condition 2): the round from which all are placed. -/
def Module.placeAll (m : Module) (cs : List Nat) : Option (Nat × Module) :=
  cs.foldl (fun (a : Option (Nat × Module)) c =>
    match a with
    | none => none
    | some (k, m) => (m.placement c (m.ctxOf c)).map (fun (p : Nat × Nat × Nat × Nat) =>
        (max k p.1, m.setCtx c { m.ctxOf c with placed := true, tset := p.2.1, firstRank := p.2.2.1, bankMask := p.2.2.2 })))
    (some (m.hub.round, m))

/-- The fills of every context of a chain booked from one round on (R220 condition 3): the round from which all banks count as
available. -/
def Module.bookAll (m : Module) (long : Bool) (cs : List Nat) (r : Nat) : Option (Nat × Module) :=
  cs.foldl (fun (a : Option (Nat × Module)) c =>
    match a with
    | none => none
    | some (k, m) => (m.bookFills long c (m.ctxOf c) r).map (fun (p : Nat × Module) => (max k p.1, p.2))) (some (r, m))

/-- What the decision weighs besides the placed and booked module: the request, its chain, its flag, when and with what budget it
was accepted, what it needs from partners, and the rounds its placement and its fills wait for. -/
structure Weighed where
  id : Nat
  cs : List Nat
  noFailover : Bool
  accRound : Nat
  accCycle : Nat
  budgetUs : Nat
  rem : Remote
  rPlace : Nat
  rFill : Nat
deriving Repr

/-- P and S_max of one context of a chain. -/
def Module.linkP (m : Module) (w : Weighed) (pair : Ctx → Nat → Nat × Nat) (c : Nat) : Counted × Nat :=
  let extra := fun (k : Nat) => maxN ((w.rem.parts.filter (fun p => p.2.2.ctx = c)).map (fun p => (p.2.2.durations.getD k 0) + 2 * p.2.1 * tNs))
  m.countP (m.ctxOf c) (pair (m.ctxOf c)) extra

/-- P of a chain: the concatenation of its contexts' paths (R212). -/
def Module.chainP (m : Module) (w : Weighed) (pair : Ctx → Nat → Nat × Nat) : Counted :=
  w.cs.foldl (fun (a : Counted) c => a.add (m.linkP w pair c).1) Counted.zero

/-- The reserve of a chain: the largest that any of its contexts would need alone (R212). -/
def Module.chainReserve (m : Module) (w : Weighed) : Nat :=
  maxN (w.cs.map (fun c =>
    let x := m.ctxOf c
    m.reserve (m.protection [c] w.noFailover) (m.linkP w m.pairAt c).2 (m.migrationBound x (m.sitesOf x) (w.rPlace - m.hub.round))))

/-- Slots of the block of a chain (R219). -/
def Module.chainLen (m : Module) (w : Weighed) : Nat := max 1 (ceilDiv (m.chainP w m.pairAt).all tSlot)

/-- Is the chain copied to the other member while it runs (R220 condition 5)? -/
def Module.chainHot (m : Module) (w : Weighed) : Bool :=
  decide (m.protection w.cs w.noFailover = 0) || (m.formed && w.cs.any (fun c => (m.ctxOf c).pairing = 1))

/-- KV bytes of a chain's block, `none` when it is not copied (R223). -/
def Module.chainKv (m : Module) (w : Weighed) : Option Nat :=
  let len := m.chainLen w
  if !m.chainHot w then none else some (sumN (w.cs.map (fun c =>
    let x := m.ctxOf c
    if x.pairing ≠ 1 then 0
    else min (16 * x.kvGranules) (sumN ((m.sitesOf x).map (fun s => match m.tset x.tset with
      | some t => 8 * (m.profile s t.profile).dmaOut * 128 * len
      | none => 0))))))

/-- Port loads of a chain's block, one for each route: 8 bytes times STREAM_OUT for each of a slot's 128 fabric cycles (R224). -/
def Module.chainPorts (m : Module) (w : Weighed) : List (Nat × Nat × Nat) :=
  w.rem.parts.filterMap (fun q =>
    let x := m.ctxOf q.2.2.ctx
    let v := 2 + x.latClass
    (m.tableRoute q.1 v false false).map (fun pt =>
      (pt, v, 128 * 8 * sumN ((m.sitesOf x).map (fun s => match m.tset x.tset with
        | some t => (m.profile s t.profile).streamOut
        | none => 0)))))

/-- Sites of a chain. -/
def Module.chainSites (m : Module) (w : Weighed) : List Nat := ((w.cs.map (fun c => m.sitesOf (m.ctxOf c))).flatten).eraseDups

/-- Slots from which the Tines are placed and filled. -/
def Module.startPlaced (m : Module) (w : Weighed) : Nat := max (64 * m.hub.round) (64 * w.rPlace)
/-- As before, with the fills counted. -/
def Module.startFilled (m : Module) (w : Weighed) : Nat := max (m.startPlaced w) (64 * w.rFill)

/-- The first start slot of the chain's block with copy room and port room looked at or not. -/
def Module.chainSlot (m : Module) (w : Weighed) (useCopy usePorts : Bool) (from_ : Nat) : Option Nat :=
  m.firstSlot (m.chainSites w) (m.chainKv w) (m.chainPorts w) useCopy usePorts (m.chainLen w) (64 * m.hub.round + calendarSlots)
    calendarSlots from_

/-- The first slot that begins 2 rounds and twice h ns after a fabric cycle of a round (R238). -/
def windowStart (round cycle h : Nat) : Nat := ceilDiv ((round + 2) * tRound + cycle * tFab + 2 * h * tNs) tSlot

/-- The first slot after every partner's window may start (R238). -/
def Module.startWindows (m : Module) (w : Weighed) : Nat :=
  w.rem.parts.foldl (fun a q => max a (windowStart q.2.2.sent q.2.2.cycle q.2.1)) (m.startFilled w)

/-- The verdict on a chain whose block may start at slot t4 with Tines free, t5 with copy room too, t6 with port room too
(R225, R226, R228). -/
def Module.weigh (m : Module) (w : Weighed) (t4 t5 t6 : Nat) : Verdict :=
  let p := m.chainP w m.pairAt
  let p8 := m.chainP w (fun _ _ => (8, 64))
  let len := m.chainLen w
  let cls := m.protection w.cs w.noFailover
  let hotPair := m.chainHot w
  let now := 64 * m.hub.round
  let t2 := m.startPlaced w
  let t3 := m.startFilled w
  let rEnd := (t6 + len - 1) / 64
  let acc := w.accRound * tRound + w.accCycle * tFab
  let relRound := if hotPair then rEnd + 2 else rEnd + 1
  let rel := relRound * tRound + (if hotPair then 0 else 40 * tNs)
  let res := m.chainReserve w
  let need := rel - acc + res + m.marginNs * tNs
  let sites := m.chainSites w
  let blk : Block := { req := w.id, sites := sites, start := t6, len := len, copy := copyBytes (m.chainKv w) t6 len,
                       ports := m.chainPorts w, bound := rEnd + 2, pairs := sites.map (fun s => (s, m.counting s)) }
  if need ≤ w.budgetUs * 1000 * tNs then .accept m blk cls (w.rem.parts.map (fun q => (q.1, q.2.2.number, m.ctxThere q.2.2.ctx q.1)))
  else
    .refuse (largest [(1, p.compute), (2, p.move), (3, p.all - p8.all), (4, (t4 - t3) * tSlot), (5, (t3 - t2) * tSlot),
      (6, (t2 - now) * tSlot), (7, (t5 - t4) * tSlot), (8, (t6 - t5) * tSlot), (9, res),
      (10, now * tSlot - acc + (rel - (t6 + len) * tSlot))]) (ceilDiv need (1000 * tNs))

/-- The decision on a request (R211 to R228) accepted at (round, cycle) with a budget, made at this boundary. -/
def Module.decide_ (m : Module) (id : Nat) (cs : List Nat) (noFailover : Bool) (accRound accCycle budgetUs : Nat) : Verdict :=
  match m.ctxBad cs cs with
  | some c => .done c
  | none =>
  match cs.findSome? (fun c => let x := m.ctxOf c
                               if m.hot c x then none else m.tooFew x) with
  | some n => .done (tooLarge 0x05 n)
  | none =>
  match m.remotes cs with
  | .error (.inl c) => .done c
  | .error (.inr ()) => .refuse 0xB 0
  | .ok rem =>
    match m.placeAll cs with
    | none => .refuse 0xC 0
    | some (rPlace, m1) =>
      match m1.bookAll (decide (1000000 < budgetUs)) cs rPlace with
      | none => .refuse 0xC 0
      | some (rFill, m2) =>
        let w : Weighed := { id := id, cs := cs, noFailover := noFailover, accRound := accRound, accCycle := accCycle,
                             budgetUs := budgetUs, rem := rem, rPlace := rPlace, rFill := rFill }
        match m2.chainSlot w false false (m2.startFilled w), m2.chainSlot w true false (m2.startFilled w),
            m2.chainSlot w true true (m2.startWindows w) with
        | some t4, some t5, some t6 => m2.weigh w t4 t5 t6
        | _, _, _ => .refuse 0xC 0

/-! ### Carrying a decision out -/

/-- REJECT_BUDGET counted and completed (R228, R263). -/
def rejectBudget (reason budget : Nat) : Compl := Compl.of 0x01 0 (budget % 2 ^ 24 + 2 ^ 24 * reason) 0

/-- A refusal counted by its REASON. -/
def Module.countReject (m : Module) (reason : Nat) : Module :=
  (m.count Reg.admRejected_count).count Reg.admRejReason_count 1 [reason - 1]

/-- The sub-request of request id to a partner (R238): it carries the quote it claims, the request's fields and its block, under a
tag that is the low half of the request's number, in the class of the context it serves, with the budget that remains (R234). -/
def Module.sendSub (m : Module) (id : Nat) (r : Req) (q : Nat × Nat × Nat) : Module :=
  let b := m.adm.blocks.find? (fun b => b.req = id)
  let (rem, m1) := m.remBudget id
  m1.sendFields q.1 0x05 (2 + (m.ctxOf r.ctx).latClass) q.2.2 (id % 65536) rem
    ([q.2.1, r.cid, r.seed, r.flat, r.outCap, r.inLen, (b.map Block.start).getD 0, (b.map Block.len).getD 0] ++ r.input) (some id)

/-- A request accepted: its block, its contexts' counts and the quotes it claims. A context is placed now where a window is usable now;
one whose bank holds a request in flight is placed once that bank is free (R173, R222). -/
def Module.admitReq (m : Module) (id : Nat) (r : Req) (b : Block) (cls : Nat) (claims : List (Nat × Nat × Nat)) : Module :=
  let m1 := { m with adm := { m.adm with blocks := m.adm.blocks ++ [b], accepted := (m.adm.accepted + 1) % 2 ^ 64
                                         quotesIn := m.adm.quotesIn.map (fun (q : Quote) => if claims.any (fun c => c.1 = q.pkg && c.2.1 = q.number) then { q with claimed := true } else q) } }
  let m2 := r.ctxs.foldl (fun m c =>
    let x := m.ctxOf c
    let m' := m.setCtx c { x with state := 4, inFlight := x.inFlight + 1 }
    (m'.place? c).getD m') m1
  let m3 := m2.modReq id (fun r => { r with phase := 1, counted := true, cls := cls, quotes := claims, bound := b.bound })
  let peak := maxN ((List.range (b.len / 16 + 2)).map (fun i => m3.copyLoad ((b.start / 16 + i) / 4) ((b.start / 16 + i) % 4)))
  claims.foldl (fun m q => m.sendSub id r q) (m3.wr Reg.admCopyPeak_peakBytes (max (m3.rd Reg.admCopyPeak_peakBytes) peak))

/-- Request id decided at this boundary (R211). -/
def Module.decideReq (m : Module) (id : Nat) : Module :=
  match m.req? id with
  | none => m
  | some r =>
    match r.result with
    | some c => m.complete id c
    | none =>
      match m.decide_ id r.chain (bitB r.flags 0) r.accRound r.accCycle r.budgetUs with
      | .done c => m.complete id c
      | .refuse reason b => (m.countReject reason).complete id (rejectBudget reason b)
      | .accept m' b cls claims => ({ m with adm := m'.adm } : Module).admitReq id r b cls claims

/-- Every request whose decision boundary this is, in acceptance order. -/
def Module.decideAll (m : Module) : Module :=
  m.host.reqs.foldl (fun m (p : Nat × Req) =>
    let now : Bool := match p.2.result with
      | some c => c.detail = 0x18
      | none => false
    if p.2.phase = 0 ∧ (p.2.accRound + m.decideRounds ≤ m.hub.round ∨ now) then m.decideReq p.1 else m) m

/-- QUERY KIND 1 at this boundary (R258): the computation of an INVOKE, with nothing reserved. -/
def Module.answerQueries (m : Module) : Module :=
  let m0 : Module := { m with host := { m.host with queries := [] } }
  m.host.queries.foldl (fun m q =>
    match m.decide_ 0 [q.ctx] q.noFailover m.hub.round 0 0 with
    | .done c => m.finishQuery q.queue q.cid q.noFailover c
    | .refuse reason b => m.finishQuery q.queue q.cid q.noFailover (Compl.of 0 0 (b % 2 ^ 24 + 2 ^ 24 * reason) 0)
    | .accept _ _ _ _ => m.finishQuery q.queue q.cid q.noFailover Compl.done) m0

/-- Contexts with requests accepted whose banks are not placed, or whose fills are not asked for, are looked at again, and so
are those that lost their placement to a shrunk set (R173, R182). -/
def Module.placeWaiting (m : Module) : Module :=
  let m1 := m.host.reqs.foldl (fun m (p : Nat × Req) =>
    if p.2.phase = 1 then p.2.chain.foldl (fun m c => (m.place? c).getD m) m else m) m
  m1.ctx.table.foldl (fun m (p : Nat × Ctx) =>
    let x := m.ctxOf p.1
    if x.replace ∧ (x.state = 2 ∨ x.state = 3) ∧ x.latch = 0 then (m.place? p.1).getD m else m) m1

/-- Requests accepted whose outcome is decided before their stages ended (a latched context, a poisoned granule: R171, R200)
complete at the boundary once no stage of theirs runs. -/
def Module.settleReqs (m : Module) : Module :=
  m.host.reqs.foldl (fun m (p : Nat × Req) =>
    match p.2.result with
    | some c => if 1 ≤ p.2.phase ∧ !p.2.running then (m.stopAll p.1).complete p.1 c else m
    | none => m) m

/-! ### Cancelling (R257) -/

/-- The cancellations due at this boundary: a target with its final release point released has completed with its own status; one
with a stage running ends at its end of stage. A CANCEL that took effect on its target completes with CANCELLED after it, any other
with NOT_FOUND. -/
def Module.cancelReqs (m : Module) : Module :=
  let hits := fun (r : Req) => r.cancelRound.isSome && (!r.running || r.result.isNone)
  let m0 : Module := { m with host := { m.host with cancels := m.host.cancels.map (fun (c : Cancel) =>
    { c with hit := c.hit || ((c.target.bind m.req?).map hits).getD false }) } }
  let m1 := m.host.reqs.foldl (fun m (p : Nat × Req) =>
    if !hits p.2 then m
    else if !p.2.running then (m.stopAll p.1).complete p.1 (Compl.of 0x08 0 p.2.released 0)
    else m.modReq p.1 (fun r => { r with result := some (Compl.of 0x08 0 r.released 0), held := [], kept := [], points := [] })) m0
  let overdue := m1.host.cancels.filter (fun c => (c.target.bind m1.req?).isNone)
  let m2 : Module := { m1 with host := { m1.host with cancels := m1.host.cancels.filter (fun c => !overdue.elem c) } }
  overdue.foldl (fun m c => m.finish c.queue c.cid (Compl.of 0 (if c.hit then 0x1B else 0x1A) 0 0)) m2

end Sys2Proof.Machine
end

