-- ==== Sys2Proof/Machine/Release.lean ====
section
/-! DEFINITION. The release gate (R117, R229 to R233), completion of requests (R240, R262, R263, R265) and sealed
checkpoints at a final release point (R399, R465). -/

namespace Sys2Proof.Machine

/-! ### Sealed checkpoints (R399, R465) -/

/-- n free granules, as bytes. -/
def Module.drawGrans (m : Module) : Nat → List Nat × Module
  | 0 => ([], m)
  | n + 1 =>
    let (v, m1) := m.draw 128
    let (l, m2) := Module.drawGrans m1 n
    (toLe 16 v ++ l, m2)

/-- The nonce of the next checkpoint of a context: base and write count, a new base where the context has none or the count
would pass its largest value (R465). -/
def Module.nextNonce (m : Module) (c : Nat) : (Nat × Nat) × Module :=
  match SMap.find? m.sec.ctxNonce c with
  | some (b, k) =>
    if k + 1 < 2 ^ 32 then ((b, k + 1), { m with sec := { m.sec with ctxNonce := SMap.ins c (b, k + 1) m.sec.ctxNonce } })
    else
      let nb := (Config.nonceBase m.sec.nonces).toNat
      ((nb, 0), { m with sec := { m.sec with nonces := m.sec.nonces + 1, ctxNonce := SMap.ins c (nb, 0) m.sec.ctxNonce } })
  | none =>
    let nb := (Config.nonceBase m.sec.nonces).toNat
    ((nb, 0), { m with sec := { m.sec with nonces := m.sec.nonces + 1, ctxNonce := SMap.ins c (nb, 0) m.sec.ctxNonce } })

/-- The key inputs of a context's sealing key (R465): seal secret, OWNER_KEY, CTX_ID. -/
def Module.sealKey (m : Module) (c : Nat) : List Nat :=
  let s := match m.flash.owner with
    | some o => o.sealSecret.getD []
    | none => []
  s ++ toLe 8 (m.ctxOf c).owner ++ toLe 2 c

/-- A sealed context's checkpoint (R399): its bytes, nonce first in clear, go to the half of its area that does not hold the
newest one, and to the standby as one COPY record of TYPE 0x06. -/
def Module.checkpoint (m : Module) (c : Nat) : Module :=
  let x := m.ctxOf c
  let (kv, _, m1) := m.devBytes 0 x.kvAddr (16 * x.kvGranules)
  let (prog, m2) := m1.drawGrans 4096
  let ((b, k), m3) := m2.nextNonce c
  let nonce := toLe 8 b ++ toLe 4 k
  let sealedB := nonce ++ Config.aesGcmSeal (m.sealKey c) (b * 2 ^ 32 + k) (kv ++ prog)
  let half := 1 - SMap.get 1 m3.pair.ckptHalf c
  let room := 8 * x.ckptGranules
  let m4 := m3.devWriteBytes (room + 2) (x.ckptAddr + half * room) (sealedB.take room)
  let m5 : Module := { m4 with pair := { m4.pair with
    ckpts := SMap.put [] (2 * c + half) sealedB m4.pair.ckpts, ckptHalf := SMap.put 1 c half m4.pair.ckptHalf
    ckptNew := m4.pair.ckptNew.filter (· ≠ c) } }
  if m5.formed then
    (m5.copyOut m5.hub.round ([0x06, 0] ++ toLe 2 c ++ toLe 4 0 ++ toLe 4 (ceilDiv sealedB.length 16) ++ toLe 4 sealedB.length ++
      slice 0 sealedB 0 (16 * ceilDiv sealedB.length 16))).count Reg.pairCkptShipped_count
  else m5

/-! ### The gate (R229 to R232) -/

/-- The release gate is not held closed for the module: the root PLL is locked, no fail-fast event has latched, and a member
of a pair holds its lease and is not within its self-fencing interval. -/
def Module.gateOpen (m : Module) : Bool :=
  m.rdB Reg.hubClkStatus_rootLock && !m.rdB Reg.safStatus_gateClosed && !m.silent &&
    (decide (m.pairState = 0) || (m.rdB Reg.pairStatus_leaseHeld && !m.pair.fenced && decide (25600 < m.pair.left)))

/-- A request of a hot context on a member of a formed pair. -/
def Module.hotReq (m : Module) (r : Req) : Bool := m.formed && r.ctxs.any (fun c => decide ((m.ctxOf c).pairing = 1))

/-- Is round k's delta acknowledged (ROUND_ACKED, 32 bits)? -/
def Module.ackedRound (m : Module) (k : Nat) : Bool :=
  decide ((m.rd Reg.pairAcked_roundAcked + 2 ^ 32 - k % 2 ^ 32) % 2 ^ 32 < 2 ^ 31)

/-- May a release point of request r be released in this cycle of the round (R229, R232)? -/
def Module.pointOpen (m : Module) (r : Req) (cycle : Nat) (p : RelPoint) : Bool :=
  decide (p.round < m.hub.round) && (if m.hotReq r then m.ackedRound p.round else decide (p.round + 1 < m.hub.round ∨ 64 ≤ cycle))

/-! ### Output (R252, R253, R265) -/

/-- The segment of a buffer that holds an offset: address, bytes left in it. -/
def segAt : List (Nat × Nat) → Nat → Option (Nat × Nat)
  | [], _ => none
  | (a, n) :: l, o => if o < n then some (a + o, n - o) else segAt l (o - n)

/-- A granule of output at a byte offset goes to the output buffer: to the host, or to device memory of the host region
(R252); an address outside that region is dropped and recorded. -/
def Module.writeGran (m : Module) (r : Req) (off d : Nat) : Module :=
  match segAt r.outSegs off with
  | none => m
  | some (a, room) =>
    let n := min (min 16 room) (r.outCap - off)
    let b := (toLe 16 d).take n
    if bitB r.flags 3 then
      if a + n ≤ m.rd Reg.memHostRegion_size256m * 2 ^ 28 then (m.snoopRange a n true).devWriteBytes (n + 2) a b
      else m.addrInvalid 0x67 a n
    else if liveQueue r.queue then m.emit (.hostWrite a b) else m

/-- One release point released: its granules are written out, and its end offset counts as released. With PROGRESS a point that is not
the last is reported: by a completion where a CQ slot is free beyond those held (R262), or by a reply (R269). -/
def Module.releasePt (m : Module) (id : Nat) (p : RelPoint) (progress : Bool) : Module :=
  match m.req? id with
  | none => m
  | some r =>
    let m1 := if r.origin = 0 then p.grans.foldl (fun m (g : Nat × Nat) => m.writeGran r (16 * g.1) g.2) m else m
    let rel := max r.released (min p.endOff r.outCap)
    let m2 := m1.modReq id (fun r => { r with released := rel, outAll := p.grans.foldl (fun a (g : Nat × Nat) => SMap.ins g.1 g.2 a) r.outAll })
    if !(progress && bitB r.flags 1) then m2
    else if r.origin ≠ 0 then
      match m2.req? id with
      | some r' => m2.replyWith r' (r'.low + 64) (Compl.of 0 0 rel 0)
      | none => m2
    else if !liveQueue r.queue then m2
    else if m2.slotFree r.queue then m2.post r.queue r.cid (r.low + 64) (Compl.of 0 0 rel 0) false
    else m2.count Reg.queCounts_progressDropped 1 [r.queue]

/-! ### Completion (R233, R240, R262, R263) -/

/-- LATE_CAUSE of a late request (R240). -/
def Req.lateCause (r : Req) : Nat := if 2 ≤ r.charged.length then 1 else if r.uncovered then 2 else 3

/-- The record of a LATE request that nothing explains (R240, R420). -/
def Module.lateRec (m : Module) (r : Req) (byNs : Nat) : Module :=
  if r.lateCause = 3 then
    m.report (({ LogRec.of 0x14 0 sevDegraded 0x77 (m.ctxOf r.ctx).latClass with reqValid := true, ctxId := r.ctx, cid := r.cid } : LogRec).at 0
      [byNs, r.charged.length])
  else m

/-- Counters of a LATE completion. -/
def Module.lateCount (m : Module) (cause : Nat) : Module :=
  let m1 := m.count Reg.admLate_count
  if cause = 1 then m1.count Reg.admLateSecond_count
  else if cause = 2 then m1.count Reg.admLateUnprot_count
  else m1.count Reg.admLateUnexplained_count

/-- The final release point of request id has been released in a cycle of the round: DONE, DONE_RANGE, DONE_NO_FAILOVER or
LATE, with OUT_LEN and DELIVERED_US. -/
def Module.delivered (m : Module) (id cycle : Nat) : Module :=
  match m.req? id with
  | none => m
  | some r =>
    let taken := (8192 * m.hub.round + cycle) - (8192 * r.accRound + r.accCycle)
    let us := ceilDiv taken 1600
    let late := decide (8000 * r.budgetUs < 5 * taken)
    let m1 := (r.ctxs.filter (fun c => (m.ctxOf c).sealedCtx)).foldl (fun m c => m.checkpoint c) m
    if late then
      ((m1.lateRec r (ceilDiv (5 * taken - 8000 * r.budgetUs) 8)).lateCount r.lateCause).complete id
        (Compl.of 0x0C 0 (r.released + 2 ^ 24 * r.lateCause) us)
    else
      let st := if bitB r.rflags 1 || bitB r.rflags 2 then 0x06 else if bitB r.flags 0 then 0x0B else 0
      m1.complete id (Compl.of st 0 r.released us)

/-- What request id releases when the gate opens in a cycle of this round: in order, every point whose gate is open. A
request whose output is too long writes none (R112); one with a small buffer holds every point until the final one (R262). -/
def Module.releaseReq (m : Module) (id cycle : Nat) : Module :=
  match m.req? id with
  | none => m
  | some r =>
    if r.lastFault.isSome ∨ r.result.isSome ∨ r.phase = 0 ∨ r.chain.length ≠ 1 then m
    else
      let fin := r.final && r.points.all (m.pointOpen r cycle)
      let small := decide (r.outCap < (m.ctxOf r.ctx).maxOut)
      if r.outCap < r.maxEnd then
        (if fin then (m.stopAll id).complete id (lengthExceeds 0x11 r.maxEnd) else m)
      else
        let open_ := if fin then r.points else if small then [] else (r.points.takeWhile (fun p => m.pointOpen r cycle p && !p.fin))
        let m0 := m.modReq id (fun r => { r with points := r.points.drop open_.length })
        let m1 := open_.foldl (fun m p => m.releasePt id p (!p.fin && !small)) m0
        if fin then m1.delivered id cycle else m1

/-- A round's gate opens late when a hot request's point is released two rounds after its own or more (PAIR_GATE_DELAYS). -/
def Module.gateLate (m : Module) (cycle : Nat) : Bool :=
  m.host.reqs.any (fun (p : Nat × Req) => m.hotReq p.2 && p.2.points.any (fun q => m.pointOpen p.2 cycle q && decide (q.round + 2 ≤ m.hub.round)))

/-- RELEASE_GATE_OPEN: the gate opens in a fabric cycle of the running round. -/
def Module.releaseGate (m : Module) (cycle : Nat) : Module :=
  if !m.gateOpen ∨ 8192 ≤ cycle then m
  else
    let m0 := if m.gateLate cycle then m.count Reg.pairGateDelays_count else m
    m0.host.reqs.foldl (fun m (p : Nat × Req) => m.releaseReq p.1 cycle) m0

end Sys2Proof.Machine
end

