-- ==== Sys2Proof/Machine/Power.lean ====
section
/-! DEFINITION. Sampling and repair of temperature channels (R436 to R442), the power manager's work at a boundary (R213,
R214, R431 to R434), supplies (R429, R430, R457) and calibration (R446 to R453). -/

namespace Sys2Proof.Machine

/-! ### Channels (R436 to R442) -/

/-- A THERMAL record (class 0x12): SUB the channel, DETAIL the temperature. Event 2, a shutdown-temperature removal, drives
FAULT_N (R408); what a Tine's channel reports is charged to the requests that use the Tine (R413). -/
def Module.thermRec (m : Module) (c ev sev : Nat) (t : Int) : Module :=
  let src := if c < 88 then c else if c < 92 then 0x70 + (c - 88) else if c = 94 ∨ c = 95 then 0x69 + (c - 94) else 0x75
  let m1 := m.report { ((LogRec.of 0x12 ev sev src c).at 0 [toBits 32 t]) with pin := decide (ev = 2) }
  if c < 72 ∧ sev ≠ 0 then m1.chargeSite c m1.sameFault else m1

/-- The state THM_CH_STATUS shows for channel c: FAILED, FORCED and DISABLED stand; else SHUTDOWN, THROTTLE, WARNING or
NORMAL. -/
def Module.showCh (m : Module) (c : Nat) : Module :=
  let x := m.ch c
  let st := m.chState c
  let st' := if st = 4 ∨ st = 5 ∨ st = 6 then st else if x.shut then 3 else if x.hot then 2 else if x.warn then 1 else 0
  let m1 := (m.wr Reg.thmChStatus_state st' [c]).wr Reg.thmChStatus_temp (toBits 16 (m.temps c).2) [c]
  if c < 72 then m1.showIdx c else (neighboursOf c).foldl (fun m s => if s < 72 then m.showIdx s else m) m1

/-- A die's domains cut at the shutdown threshold (R437): PWR_DOMAIN shows SHUTDOWN. -/
def Module.shutDown (m : Module) (c : Nat) : Module :=
  let f := m.sameFault
  if c < 72 then ((m.domainOff c 4).domainOff (72 + c) 4).dieCut c f
  else if c < 88 then ((m.asFault (c - 72) f).domainOff (72 + c) 4).dieCut (72 + c) f
  else if c < 92 then (m.domainOff (72 + c) 4).dieCut (72 + c) f
  else if c < 94 then (m.domainOff 164 4).dieCut 164 f
  else (m.domainOff (74 + c) 4).dieCut (74 + c) f

/-- New thermal index of a channel in THROTTLE (R438, R441). -/
def nextIdx (e floor : Nat) (lo hi x h : Int) : Nat :=
  let up := halfSteps (lo - x)
  let down := halfSteps (hi + h - x)
  max floor (if e < up then up else if down < e then down else e)

/-- Channel c's crossings and index from T_lo and T_hi as they stand (R436 to R439, R442). -/
def Module.evalCh (m : Module) (c : Nat) : Module :=
  let x := m.ch c
  let st := m.chState c
  if st = 6 ∨ (st = 4 ∧ 96 ≤ c) ∨ (st ≠ 4 ∧ st ≠ 5 ∧ x.samples.length < 16) then m.showCh c
  else
    let (lo, hi) := m.temps c
    let diode := decide (c < 96)
    let wX := m.thr64 c 4
    let wH := m.thr64 c 3
    let tX := m.thr64 c 1
    let tH := m.thr64 c 2
    let warn' := if x.warn then !decide (hi < wX - wH) else decide (wX ≤ lo)
    let hot' := diode && (if x.hot then decide (st = 4) || !decide (hi < tX - tH) else decide (tX ≤ lo))
    let idx' := if hot' then nextIdx (if x.hot then x.idx else 0) (if st = 4 then x.failIdx else 0) lo hi tX tH else 0
    let shut' := diode && decide (m.thr64 c 0 ≤ lo)
    let m1 := m.modCh c (fun x => { x with warn := warn', hot := hot', idx := idx', shut := x.shut || shut' })
    let m2 := if warn' ∧ !x.warn then (m1.set1 Reg.thmEvents_warning).thermRec c 0 sevInfo hi else m1
    let m3 := if hot' ∧ !x.hot then (m2.set1 Reg.thmEvents_throttle).thermRec c 1 sevInfo hi else m2
    let m4 := if shut' ∧ !x.shut then
        ((m3.set1 Reg.thmEvents_shutdown).thermRec c 2 (if c = 92 ∨ c = 93 then sevFatal else sevDegraded) hi).shutDown c
      else m3
    m4.showCh c

/-- Channels that have FAILED take their temperature anew from their neighbours, channel c among them (R441). -/
def Module.evalBorrowers (m : Module) (c : Nat) : Module :=
  ((List.range 96).filter (fun k => m.chState k = 4 && (neighboursOf k).elem c)).foldl (fun m k => m.evalCh k) m

/-- A diode channel fails (R441). -/
def Module.failCh (m : Module) (c : Nat) : Module :=
  let m1 := (m.modCh c (fun x => { x with failIdx := x.idx, retest := none })).wr Reg.thmChStatus_state 4 [c]
  (((m1.set1 Reg.thmEvents_sensorFailed).thermRec c 3 sevDegraded (m1.temps c).2).evalCh c).evalBorrowers c

/-- TEMP_SAMPLE: channel c read t (1/64 degree, its diode offset applied), or open or short, which for a thermistor only marks it FAILED (R482); `stale`: its offset is being calibrated (R449). -/
def Module.tempSample (m : Module) (c : Nat) (t : Int) (open_ stale : Bool) : Module :=
  if 100 ≤ c then m
  else
    let x := m.ch c
    let st := m.chState c
    let held := stale && decide (m.rd Reg.calStatus_state = 1) && bitB (m.rd Reg.calCtl_quantMask) 4 && decide (c < 96)
    let m0 := m.wr Reg.thmChStatus_stale (ofB held) [c]
    let t' := if held then x.samples.headD t else t
    let bad := !held && (open_ || (match x.samples with
      | [] => false
      | s :: _ => decide (1280 < t' - s) || decide (1280 < s - t')))
    if st = 6 ∨ st = 5 then m0
    else if st = 4 then
      match x.retest with
      | none => m0
      | some k =>
        let push : List Int := (t' :: x.samples).take 16
        if open_ then m0.modCh c (fun x => { x with retest := some 0, samples := [] })
        else if bad then m0.modCh c (fun x => { x with retest := some 1, samples := [t'] })
        else if k + 1 < 16 then m0.modCh c (fun x => { x with retest := some (k + 1), samples := push })
        else (((m0.modCh c (fun x => { x with retest := none, samples := push })).wr Reg.thmChStatus_state 0 [c]).evalCh c).evalBorrowers c
    else if bad ∧ c < 96 then m0.failCh c
    else if open_ then (m0.wr Reg.thmChStatus_state 4 [c]).thermRec c 3 sevInfo (m.temps c).2
    else ((m0.modCh c (fun x => { x with samples := (t' :: x.samples).take 16 })).evalCh c).evalBorrowers c

/-- The CH and VALUE fields of a THM_FORCE write. -/
def Module.forceFields (m : Module) (c v : Nat) : Module := (m.wr Reg.thmForce_ch c).wr Reg.thmForce_value v

/-- THM_FORCE.FORCE: channel c is FORCED to a value in 1/64 degree (R441). A DISABLED channel has no sensor to force. -/
def Module.thmForceTo (m : Module) (c v : Nat) : Module :=
  let m0 := m.forceFields c v
  let c := c % 128
  if 100 ≤ c ∨ m.chState c = 6 then m0
  else (((m0.modCh c (fun x => { x with forced := sext 16 v, retest := none })).wr Reg.thmChStatus_state 5 [c]).evalCh c).evalBorrowers c

/-- THM_FORCE.RELEASE: forcing ends and the channel is retested (R441). -/
def Module.thmReleaseCh (m : Module) (c v : Nat) : Module :=
  let m0 := m.forceFields c v
  let c := c % 128
  if 100 ≤ c ∨ m.chState c ≠ 5 then m0
  else
    let m1 := m0.modCh c (fun x => { x with retest := some 0, samples := [], failIdx := if x.hot then x.idx else 0 })
    ((m1.wr Reg.thmChStatus_state 4 [c]).evalCh c).evalBorrowers c

/-- THM_FORCE.RETEST: a FAILED channel is retested. -/
def Module.thmRetestCh (m : Module) (c v : Nat) : Module :=
  let m0 := m.forceFields c v
  let c := c % 128
  if 100 ≤ c ∨ m.chState c ≠ 4 then m0 else m0.modCh c (fun x => { x with retest := some 0, samples := [] })

/-- THM_FORCE.CLEAR_SHUTDOWN: the latch of channel c clears; the domain of a Firn engine, laser bank or guest site that the
shutdown had switched off is switched on again (R437). -/
def Module.clearShutdown (m : Module) (c v : Nat) : Module :=
  let m0 := m.forceFields c v
  let c := c % 128
  if 100 ≤ c ∨ !(m.ch c).shut then m0
  else
    let m1 := (m0.modCh c (fun x => { x with shut := false })).showCh c
    let d := if c < 92 then 72 + c else 74 + c
    if 72 ≤ c ∧ c ≠ 92 ∧ c ≠ 93 ∧ c < 96 ∧ m1.domain d = 4 then m1.seqStart 20 6 d 0 else m1

/-- THM_CURVE entry e written: ignored under SEC_LOCK, beyond the ranges of N and G, or where it breaks monotonicity
(R438). -/
def Module.curveWrite (m : Module) (e v : Nat) : Module :=
  let n := bitsOf v 12 8
  let g := bitsOf v 6 0
  let fits := decide (8 ≤ n) && decide (n ≤ 16) && decide (1 ≤ g) && decide (g ≤ 64) &&
    (decide (e = 0) || (decide (m.rd Reg.thmCurve_n [e - 1] ≤ n) && decide (g ≤ m.rd Reg.thmCurve_g [e - 1]))) &&
    (decide (e = 20) || (decide (n ≤ m.rd Reg.thmCurve_n [e + 1]) && decide (m.rd Reg.thmCurve_g [e + 1] ≤ g)))
  if 21 ≤ e ∨ m.rdB Reg.secStatus_secLock ∨ !fits then m
  else (m.wr Reg.thmCurve_n n [e]).wr Reg.thmCurve_g g [e]

/-! ### Budgets (R214, R431 to R433) -/

/-- The pair the power manager commands for site s: the curve's at the effective index, held by the commitment while
requests are in flight on the site (R214). -/
def Module.commandPair (m : Module) (s : Nat) : Nat × Nat :=
  let (n, g) := m.curvePair (m.effIdx s)
  if m.decidedPairs s = [] then (n, g) else let (cn, cg) := m.committed s; (min n cn, max g cg)

/-- The hottest powered Tine whose cap index can still rise. -/
def Module.hottest (m : Module) : Option Nat :=
  ((List.range 72).filter (fun s => m.powered s && decide (m.capIdx s < 20))).foldl (fun (a : Option Nat) s =>
    match a with
    | none => some s
    | some b => if (m.temps b).2 < (m.temps s).2 then some s else a) none

/-- Cap index of site s set. -/
def Module.setCap (m : Module) (s v : Nat) : Module := (m.wr Reg.thmChStatus_capIndex v [s]).showIdx s

/-- While the total exceeds the limit, the cap index of the hottest Tine rises by one (R432). -/
def Module.capUp (m : Module) : Nat → Module
  | 0 => m
  | n + 1 =>
    if m.totalPower (fun s => m.curvePair (m.effIdx s)) ≤ m.pwr.limit * 1000 * pwrDen then m
    else match m.hottest with
      | none => m
      | some s => Module.capUp (m.setCap s (m.capIdx s + 1)) n

/-- Cap indices fall by one while the total stays 20 W or more below the limit (R432). -/
def Module.capDown (m : Module) : Module :=
  if m.totalPower (fun s => m.curvePair (m.effIdx s)) + 20000 * pwrDen ≤ m.pwr.limit * 1000 * pwrDen then
    (List.range 72).foldl (fun m s => if 0 < m.capIdx s then m.setCap s (m.capIdx s - 1) else m) m
  else m

/-- Channels of powered dies more than 25 degrees from the Cirque's hotter channel, in either direction (R433). -/
def Module.dtNow (m : Module) : List Nat :=
  let cir := max (m.temps 92).2 (m.temps 93).2
  let live := fun c => decide ((m.ch c).samples ≠ [])
  let on := fun c => if c < 72 then m.powered c else if c < 88 then decide (m.domain (72 + c) = 2) else decide (m.domain (74 + c) = 2)
  (List.range 88 ++ [94, 95]).filter (fun c => live c && live 92 && on c &&
    (decide (cir + 1600 < (m.temps c).2) || decide ((m.temps c).2 + 1600 < cir)))

/-- Temperature differences between the Cirque and the other dies (R433): a channel newly beyond the limit is one DT_LIMIT event
with its record, and a Tine hotter than the Cirque has its cap index raised in each round until it is back within it. -/
def Module.dtCheck (m : Module) : Module :=
  let cir := max (m.temps 92).2 (m.temps 93).2
  let now := m.dtNow
  let m1 := (now.filter (fun c => !m.pwr.dtOver.elem c)).foldl
    (fun m c => (m.set1 Reg.thmEvents_dtLimit).thermRec c 4 sevDegraded (m.temps c).2) m
  let m2 := (now.filter (fun c => decide (c < 72) && decide (cir + 1600 < (m.temps c).2))).foldl
    (fun m s => m.setCap s (min 20 (m.capIdx s + 1))) m1
  { m2 with pwr := { m2.pwr with dtOver := now } }

/-- What the power manager does at a round boundary: the limit taken over, cap indices, pairs held by commitments, GRANTs
(R214, R431, R432). -/
def Module.powerRound (m : Module) : Module :=
  let lim := max 700 (min 1500 (m.rd Reg.pwrCtl_limitW))
  let m0 : Module := { m with pwr := { m.pwr with limit := lim } }
  let tooMuch := decide (lim * 1000 * pwrDen < m0.totalPower (fun s => m0.curvePair (m0.effIdx s)))
  let m1 := if tooMuch then m0.capUp 1440 else m0.capDown
  let m2 := if m1.rdB Reg.hubBootStatus_ready then m1.dtCheck else m1
  let want := fun s => m2.curvePair (m2.effIdx s)
  let heldNow := (List.range 72).filter (fun s => m2.powered s && decide (m2.commandPair s ≠ want s))
  let m3 := m2.count Reg.admThrottleHeld_count heldNow.length
  let m4 := heldNow.foldl (fun m s => if m.pwr.held.elem s then m else m.thermRec s 1 sevDegraded (m.temps s).2) m3
  let grants : SMap (Nat × Nat) :=
    ((List.range 72).filter m4.powered).map (fun s =>
      let (n, g) := m4.commandPair s
      (s, (n * 128 + g, ceilDiv (tinePower n g) pwrDen))) ++
    ((List.range 16).filter (fun f => m4.domain (144 + f) = 2)).map (fun f => (72 + f, (0, SMap.get 3188 m4.pwr.requests (72 + f))))
  let m5 : Module := { m4 with pwr := { m4.pwr with held := heldNow, grants := grants } }
  let tot := m5.totalPower m5.commandPair
  let m6 := m5.wr Reg.pwrStatus_overLimit (ofB (decide (lim * 1000 * pwrDen < tot)))
  let m7 := m6.emits (grants.map (fun (p : Nat × (Nat × Nat)) => Output.grant p.1 (p.2.1 / 128) (p.2.1 % 128) p.2.2))
  { m7 with pwr := { m7.pwr with requests := [] } }

/-- BUDGET_GRANT: a die takes its pair for the next round (R26, R90, R431). -/
def Module.budgetGrant (m : Module) (conn : Nat) : Module :=
  match SMap.find? m.pwr.grants conn with
  | none => m
  | some (p, _) =>
    if conn < 72 then (m.wr Reg.tineClk_nPending (p / 128) [conn]).wr Reg.tineClk_gatePending (p % 128) [conn] else m

/-- BUDGET_REQUEST: a die's estimate in mW. -/
def Module.budgetRequest (m : Module) (conn mw : Nat) : Module :=
  if conn < 88 then { m with pwr := { m.pwr with requests := SMap.ins conn mw m.pwr.requests } } else m

/-- BUDGET_RETURN: a die's measured energy in mJ and the allotment it did not use in mW. -/
def Module.budgetReturn (m : Module) (conn mj mw : Nat) : Module :=
  if conn < 88 then { m with pwr := { m.pwr with returns := SMap.ins conn (mj, mw) m.pwr.returns } } else m

/-- GUEST_OVERPOWER: a guest site averaged mw milliwatts over 1 ms: above 9.0 W a record, above 11.0 W also its domain goes off
and it is fenced (R434). -/
def Module.guestPower (m : Module) (g mw : Nat) : Module :=
  if 2 ≤ g ∨ m.domain (168 + g) ≠ 2 then m
  else
    let m1 := if 9000 < mw then m.thermRec (94 + g) 0 sevInfo (m.temps (94 + g)).2 else m
    if 11000 < mw then m1.guestOverpower g else m1

/-! ### Supplies (R429, R430, R457) -/

/-- SUPPLY_OUT_OF_WINDOW: domain d measured mv millivolts, out of its window for 2 µs. -/
def Module.supplyOut (m : Module) (d mv : Nat) : Module :=
  if 170 ≤ d ∨ (m.domain d ≠ 1 ∧ m.domain d ≠ 2) then m
  else
    let cirque := decide (164 ≤ d) && decide (d < 168)
    let m0 := m.report ((LogRec.of 0x11 0 (if cirque then sevFatal else sevDegraded) 0x75 d).at 0 [mv])
    let f := m0.sameFault
    let m1 := m0.chargeAll f
    let m2 := if 144 ≤ d ∧ d < 160 then m1.asFault (d - 144) f else m1
    ((m2.domainOff d 3).wr Reg.pwrDomain_vmeasMv mv [d]).dieCut d f

/-- INPUT_OUT_OF_WINDOW: the 48 V input left its window at cv hundredths of a volt: fail-fast, every domain but 165 off, and
flash writes in progress are abandoned (R430, R457). -/
def Module.inputOut (m : Module) (cv : Nat) : Module :=
  if !m.hub.inputOk ∨ (3800 ≤ cv ∧ cv ≤ 6200) then m
  else
    let m0 : Module := { m with hub := { m.hub with inputOk := false } }
    let m1 := (m0.wr Reg.pwrStatus_inputCv cv).report ((LogRec.of 0x11 0 sevFatal 0x75 0xFF).at 0 [10 * cv])
    let m2 := (List.range 170).foldl (fun m d => if d = 165 then m else m.domainOff d 0) m1
    let m3 := if m2.rd Reg.calStatus_state = 2 then m2.wr Reg.calStatus_state 0 else m2
    { m3 with cal := { m3.cal with storing := none, rewrite := false }
              flash := { m3.flash with committing := true } }

/-- Unread error records of severity DEGRADED or FATAL, newest first. -/
def Module.worstUnread (m : Module) : List LogRec :=
  let w := m.rd Reg.safLogWr_wr
  let n := m.rd Reg.safStatus_unread
  ((List.range n).filterMap (fun i => SMap.find? m.saf.log ((w + 1023 - i) % 1024))).filter (fun r => decide (2 ≤ r.severity))

/-- POWER_FAIL_COMMIT_DONE: the power-fail record is in the ring (R457). -/
def Module.powerFailDone (m : Module) : Module :=
  if m.flash.committing = false then m
  else { m with flash := { m.flash with
    committing := false
    powerFail := (m.opsec, m.rd Reg.calCount_count, (m.worstUnread.take 56).reverse) :: m.flash.powerFail, copied := false, mor := m.saf.mor } }

/-! ### Calibration (R444 to R453) -/

/-- Deskew targets of a set that is applied anew (R446): the value of each slot it holds, at the point nearest its die's temperature. -/
def Module.deskewTo (m : Module) : Module :=
  match m.calSet with
  | none => m
  | some s =>
    let goals : SMap Nat := (List.range 64).flatMap (fun p => (List.range 16).filterMap (fun k =>
      let item := 64 * p + k
      (SMap.find? s.vals (calKey 2 item (calPoint (m.temps (calChannel 2 item)).2))).map (fun v => (item, v))))
    { m with cal := { m.cal with deskew := goals } }

/-- One fine step of a slot's deskew (R281, R446). -/
def Module.deskewStep (m : Module) (item v : Nat) : Module :=
  let i := fp (item / 64) ++ [item % 64]
  let d := 32 * m.rd Reg.firnWaveRx_coarse i + m.rd Reg.firnWaveRx_fine i
  let d' := if d < v then d + 1 else if v < d then d - 1 else d
  let m1 := (m.wr Reg.firnWaveRx_coarse (d' / 32 % 16) i).wr Reg.firnWaveRx_fine (d' % 32) i
  if d' = v then { m1 with cal := { m1.cal with deskew := SMap.del item m1.cal.deskew } } else m1

/-- What follows the temperature is recomputed at a boundary (R376, R444, R445, R446). -/
def Module.calRound (m : Module) : Module :=
  let set := m.calSet
  let band := fun c => let t := m.linkTemps c; tapBand t.1 t.2 8 (SMap.get 0 m.cal.bands c)
  let bands : SMap Nat := ((List.range 90).map (fun c => (c, band c))).filter (fun x => x.2 ≠ 0)
  let goals := (List.range 90).flatMap (fun c =>
    let b := SMap.get 0 bands c
    (List.range (2 * connBundles c)).map (fun k => calVal set 3 (32 * c + k) b))
  let m1 : Module := { m with cal := { m.cal with
                                           temps := (List.range 96).map (fun c => (c, (m.temps c).2))
                                           used := set, bands := bands, taps := stepTo m.cal.taps goals } }
  m.cal.deskew.foldl (fun m x => m.deskewStep x.1 x.2) m1

/-- CAL_CTL written with RUN: its RW fields, then a run of the quantities of QUANT_MASK unless one is under way (R448). -/
def Module.calRun (m : Module) (mask : Nat) : Module :=
  let m0 := m.wr Reg.calCtl_quantMask mask
  if m.rd Reg.calStatus_state ≠ 0 then m0
  else (m0.wr Reg.calStatus_state 1).wr Reg.calStatus_staleAny (ofB (decide (mask % 32 ≠ 0)))

/-- A store starts (R451): with enough hold-up energy the alternate bank is erased and written, else the set is held. -/
def Module.calStore (m : Module) (set : CalSet) (rewrite : Bool) : Module :=
  let m0 : Module := { m with cal := { m.cal with storing := some set, rewrite := rewrite } }
  if m.rd Reg.pwrHoldup_energyMj < 1200 then
    (if m.rd Reg.calStatus_state = 3 then m0 else (m0.wr Reg.calStatus_state 3).deskewTo)
  else
    let m1 := (m0.wr Reg.calStatus_state 2).clr Reg.calStatus_prevValid
    { m1 with cal := { m1.cal with prev := none } }

/-- CAL_RUN_DONE: the measurements, as quantity, item and value, give a new set, which is stored (R448, R451). -/
def Module.calRunDone (m : Module) (vals : List (Nat × Nat × Nat)) : Module :=
  if m.rd Reg.calStatus_state ≠ 1 then m
  else
    let old := match m.cal.cur with
      | some s => s.vals
      | none => []
    let mask := m.rd Reg.calCtl_quantMask
    let new := (vals.filter (fun (v : Nat × Nat × Nat) => decide (v.1 < 5) && bitB mask v.1)).foldl (fun (l : SMap Nat) (v : Nat × Nat × Nat) =>
      SMap.ins (calKey v.1 v.2.1 (calPoint (m.temps (calChannel v.1 v.2.1)).2)) v.2.2 l) old
    let set : CalSet := { seq := m.cal.maxSeq + 1, vals := new }
    (((List.range 96).foldl (fun m c => m.clr Reg.thmChStatus_stale [c]) m).clr Reg.calStatus_staleAny).calStore set false

/-- A set becomes current (R450): CAL_COUNT and CAL_LAST. -/
def Module.calCurrent (m : Module) : Module :=
  let n := m.rd Reg.calCount_count
  let n' := min (2 ^ 32 - 1) (n + 1)
  let m1 := (m.wr Reg.calCount_count n').wr Reg.calLastLo_opsec (m.opsec % 2 ^ 32)
  let m2 := m1.wr Reg.calLastHi_opsec (m.opsec / 2 ^ 32)
  if n' = 2 ^ 32 - 1 then m2.set1 Reg.calStatus_countSat else m2

/-- CAL_STORE_DONE: the store is verified and the set is current; a rewrite for a full counter log leaves CAL_COUNT as it is
(R451, R453). -/
def Module.calStoreDone (m : Module) : Module :=
  match m.cal.storing with
  | none => m
  | some s =>
    if m.rd Reg.calStatus_state ≠ 2 then m
    else
      let m1 := if m.cal.rewrite then m else m.calCurrent
      let m2 : Module := { m1 with cal := { m1.cal with
        prev := m1.cal.cur, cur := some s, storing := none, rewrite := false, maxSeq := s.seq
        log := [(m1.opsec, m1.rd Reg.calCount_count)] } }
      ((((m2.wr Reg.calStatus_state 0).wr Reg.calSeq_seq s.seq).clr Reg.calStatus_noSet).wr Reg.calStatus_prevValid
        (ofB m2.cal.prev.isSome)).deskewTo

/-- CAL_STORE_RETRY: a deferred store is tried again (R451). -/
def Module.calStoreRetry (m : Module) : Module :=
  match m.cal.storing with
  | none => m
  | some s => if m.rd Reg.calStatus_state = 3 then m.calStore s m.cal.rewrite else m

/-- CAL_CTL written with REVERT: the previous set is current again, under a new SEQ (R450). -/
def Module.calRevert (m : Module) (mask : Nat) : Module :=
  let m0 := m.wr Reg.calCtl_quantMask mask
  match m0.cal.prev with
  | none => m0
  | some s =>
    if !m0.rdB Reg.calStatus_prevValid ∨ m0.rd Reg.calStatus_state ≠ 0 then m0
    else
      let n := m0.cal.maxSeq + 1
      let m1 : Module := { m0 with cal := { m0.cal with prev := m0.cal.cur, cur := some { s with seq := n }, maxSeq := n } }
      ((m1.calCurrent.wr Reg.calSeq_seq n).wr Reg.calStatus_prevValid (ofB m1.cal.prev.isSome)).deskewTo

/-- OPSEC_TICK: a second of domain 165 power (R453). -/
def Module.opsecTick (m : Module) : Module :=
  if m.domain 165 = 2 then { m with cal := { m.cal with opsec := (m.cal.opsec + 1) % 2 ^ 48 } } else m

/-- OPSEC_RECORD: a counter record; when the log is full the current set is rewritten to the alternate bank (R453). -/
def Module.opsecRecord (m : Module) : Module :=
  if m.domain 165 ≠ 2 then m
  else if m.cal.log.length < 1920 then
    { m with cal := { m.cal with log := (m.opsec, m.rd Reg.calCount_count) :: m.cal.log } }
  else match m.cal.cur with
    | none => m
    | some s => if m.rd Reg.calStatus_state = 0 then m.calStore { s with seq := m.cal.maxSeq + 1 } true else m

end Sys2Proof.Machine
end

