-- ==== Sys2Proof/Machine/Memory.lean ====
section
/-! DEFINITION. Memory tiers in service: patrol scrubbing, GDDR7 bands, CXL ports, the host region and the BAR4 aperture
(R195, R196, R198 to R208, R244, R245, R474). -/

namespace Sys2Proof.Machine

/-! ### Patrol scrubbing (R199, R200) -/

/-- What holds a granule of the GDDR7 pool: an image copy of a context, with the address of the copy. -/
def Module.imageAt (m : Module) (a : Nat) : Option (Nat × Nat) :=
  m.ctx.table.findSome? (fun (p : Nat × Ctx) =>
    let x := p.2
    let within := fun (b : Nat) => decide (b ≤ a) && decide (a < b + 16 * x.imageGranules)
    if x.state = 0 then none
    else if within x.imageAddr then some (p.1, x.imageAddr)
    else match x.imageAddr2 with
      | some b => if within b then some (p.1, b) else none
      | none => none)

/-- What follows an uncorrectable granule the scrubber found at address a (R200): rewritten from the other copy of an image and
counted,
LATCH without one; the firmware area is rebuilt, with data the spec does not state. -/
def Module.scrubRepair (m : Module) (a : Nat) : Module :=
  if fwArea ≤ a then
    let (v, m1) := m.draw 128
    m1.devWrite a v false
  else match m.imageAt a with
    | none => m
    | some (c, base) =>
      match (m.ctxOf c).otherCopy base with
      | some o =>
        let (d, bad, m1) := m.devRead (o + (a - base)) 0 sevDegraded
        if bad then m1.latch c else { m1.devWrite a d false with repairs := m1.repairs + 1 }
      | none => m.latch c

/-- Severity of an uncorrectable granule the scrubber finds: RECOVERED where another copy repairs it (R420). -/
def Module.scrubSev (m : Module) (a : Nat) : Nat :=
  match m.imageAt a with
  | some (c, base) => if ((m.ctxOf c).otherCopy base).isSome then sevRecovered else sevDegraded
  | none => sevDegraded

/-- SCRUB_READ: the next granule of the pass is read; `e` is the pattern of code-word bits that a fault has flipped in it. -/
def Module.scrubRead (m : Module) (e : Nat) : Module :=
  if !m.rdB Reg.memScrubCtl_scrubEn ∨ !m.rdB Reg.memStatus_ready then m
  else
    let g := m.scrub
    let m0 : Module := { m with dev := if e = 0 then m.dev else m.dev.upset g e }
    let first := decide (codeDecode (m0.dev.syndrome g) = .uncorr)
    let m1 := (m0.devRead (16 * g) 1 (m0.scrubSev (16 * g))).2.2
    let m2 := if first then m1.scrubRepair (16 * g) else m1
    let total := gddrEnd / 16
    let n := g + 1
    if n = total then
      ((({ m2 with scrub := 0 } : Module).wr Reg.memScrubStatus_progress 0).wr Reg.memScrubStatus_passes
        (min 65535 (m2.rd Reg.memScrubStatus_passes + 1)))
    else ({ m2 with scrub := n } : Module).wr Reg.memScrubStatus_progress (n * 100 / total)

/-! ### Temperature bands (R195, R196, R198) -/

/-- The band a reading of t degrees gives a device that is in band b. -/
def bandOf (b : Nat) (t : Int) : Nat :=
  if 95 ≤ t then 2 else if b = 2 ∧ 92 ≤ t then 2 else if 85 ≤ t then 1 else if 1 ≤ b ∧ 82 ≤ t then 1 else 0

/-- GDDR7_TEMP_READ: device d reads t degrees. A change of band takes two readings in a row that agree. -/
def Module.gddrTemp (m : Module) (d : Nat) (t : Int) : Module :=
  if 12 ≤ d then m
  else
    let b := m.rd Reg.memDevTemp_band [d]
    let n := bandOf b t
    let agree := decide (SMap.get 0 m.memBand d = n)
    let m0 : Module := { m with memBand := SMap.put 0 d n m.memBand }
    let m1 := if agree then (m0.wr Reg.memDevTemp_tempC (toBits 8 t) [d]).wr Reg.memDevTemp_band n [d] else m0
    if 105 ≤ t ∧ !m.rdB Reg.memDevTemp_overtemp [d] then
      let m2 := (m1.set1 Reg.memDevTemp_overtemp [d]).report ((LogRec.of 0x06 0 sevDegraded (0x58 + d) d).at 0 [toBits 8 t])
      m2.chargePlace .gddr m2.sameFault
    else m1

/-- The module band taken over at a round boundary: that of the hottest device (R196). -/
def Module.bandRound (m : Module) : Module :=
  m.wr Reg.memStatus_moduleBand (maxN ((List.range 12).map (fun d => m.rd Reg.memDevTemp_band [d])))

/-! ### CXL ports (R201 to R205, R400) -/

/-- A CXL_LINK record (class 0x07). -/
def Module.cxlRec (m : Module) (p sev : Nat) : Module :=
  m.report ((LogRec.of 0x07 0 sev (0x65 + p) p).at 0 [m.rd Reg.cxlPortStatus_reason [p]])

/-- CXL_LINK_DOWN: the window closes and the port retrains. -/
def Module.cxlDown (m : Module) (p : Nat) : Module :=
  if 2 ≤ p ∨ !m.rdB Reg.cxlPortStatus_ready [p] then m
  else
    let m1 := ((m.clr Reg.cxlPortStatus_ready [p]).wr Reg.cxlPortStatus_rate 0 [p]).wr Reg.cxlPortStatus_width 0 [p]
    let m2 := (m1.count Reg.cxlLinkDown_count 1 [p]).cxlRec p sevDegraded
    m2.chargePlace (.cxl p) m2.sameFault

/-- Does a region lie in port p's window? -/
def inWindow (p a : Nat) : Bool := decide (a ≠ 0) && decide (cxlBase p ≤ a) && decide (a < cxlBase p + 0x01C000000000)

/-- Checkpoint areas of port p's window are lost (R400): the active starts each affected context's next checkpoint whole in a
new area; a standby sets CKPT_LOST. -/
def Module.ckptLost (m : Module) (p : Nat) : Module :=
  let cs := (m.ctx.table.filter (fun (q : Nat × Ctx) => q.2.state ≠ 0 && q.2.ckptGranules ≠ 0 && inWindow p q.2.ckptAddr)).map Prod.fst
  if cs = [] then m
  else if m.pairState = 1 ∨ m.pairState = 2 then
    let m1 := (m.set1 Reg.pairEvents_ckptLost).report ((LogRec.of 0x13 7 sevDegraded 0x78 (m.rd Reg.pairIds_peerPkg)).at 0 [m.rd Reg.pairEpoch_epoch])
    { m1 with pair := { m1.pair with ckptIn := m1.pair.ckptIn.filter (fun q => !cs.elem q.1) } }
  else
    cs.foldl (fun m c =>
      let x := m.ctxOf c
      let n := 16 * x.ckptGranules
      let m0 := m.setCtx c { x with ckptAddr := 0, ckptGranules := 0 }
      let m1 : Module := { m0 with pair := { m0.pair with
        ckpts := m0.pair.ckpts.filter (fun q => q.1 / 2 ≠ c), ckptHalf := SMap.del c m0.pair.ckptHalf
        ckptNew := c :: m0.pair.ckptNew.filter (· ≠ c) } }
      match m1.alloc 1 n with
      | .ok a => ({ m1 with dev := m1.dev.zero (a / 16) (n / 16) } : Module).setCtx c { x with ckptAddr := a }
      | .error _ => m1) m

/-- The contents of port p's window are lost (R205): a context keeps its GDDR7 copy as its only one, or latches. -/
def Module.cxlLost (m : Module) (p : Nat) : Module :=
  m.ctx.table.foldl (fun m (q : Nat × Ctx) =>
    let x := m.ctxOf q.1
    if x.state = 0 ∨ !inWindow p x.imageAddr then m
    else match x.imageAddr2 with
      | some b => m.setCtx q.1 { x with tier := 0, imageAddr := b, imageAddr2 := none }
      | none => m.latch q.1) m

/-- Why a port is left disabled: REASON, 0 when it is not (R201, R202). -/
def cxlReason (d : CxlDevice) : Nat :=
  if !d.present then 1
  else if !d.supported ∨ (d.rate ≠ 1 ∧ d.rate ≠ 2) ∨ (d.width ≠ 8 ∧ d.width ≠ 16) then 3
  else if !d.type3 then 2
  else if min (d.capacity / 2 ^ 28) 8192 < 64 then 4 else 0

/-- A port brought up in the steps of R202, or left disabled; RATE and WIDTH show the link once it has trained. -/
def Module.cxlBring (m0 : Module) (p : Nat) (d : CxlDevice) (reason : Nat) : Module :=
  let r := cxlReason d
  let m := if r = 1 ∨ r = 3 then m0 else (m0.wr Reg.cxlPortStatus_rate d.rate [p]).wr Reg.cxlPortStatus_width d.width [p]
  if r ≠ 0 then m.wr Reg.cxlPortStatus_reason r [p]
  else
    let m1 := m.wr Reg.cxlMapped_mapped256m (min (d.capacity / 2 ^ 28) 8192) [p]
    let m2 := (m1.wr Reg.cxlSerialLo_serial d.serial [p]).wr Reg.cxlSerialHi_serial (d.serial / 2 ^ 32) [p]
    (m2.wr Reg.cxlPortStatus_reason reason [p]).set1 Reg.cxlPortStatus_ready [p]

/-- CXL0_PERST_N and CXL1_PERST_N are released at the 200 ms step of the boot, with which domain 166 comes on (R459, R478). -/
def Module.cxlPerstN (m : Module) : Bool := decide (m.domain 166 = 2)

/-- CXL_BRINGUP: once for each port, during the boot sequence and after CXLn_PERST_N is released (R201, R202, R459, R478). -/
def Module.cxlBringup (m : Module) (p : Nat) (d : CxlDevice) : Module :=
  if 2 ≤ p ∨ !m.cxlPerstN ∨ m.rdB Reg.cxlPortStatus_ready [p] ∨ m.rd Reg.cxlPortStatus_reason [p] ≠ 0 ∨ m.rdB Reg.hubBootStatus_ready then m
  else m.cxlBring p d 0

/-- CXL_RETRAIN_END: a port that went down returns with a device, or stays down after 100 ms. -/
def Module.cxlRetrain (m : Module) (p : Nat) (dev : Option CxlDevice) : Module :=
  if 2 ≤ p ∨ m.rdB Reg.cxlPortStatus_ready [p] ∨ m.rd Reg.cxlMapped_mapped256m [p] = 0 ∨ m.rd Reg.cxlPortStatus_reason [p] = 5 then m
  else match dev with
    | none => ((m.wr Reg.cxlPortStatus_reason 5 [p]).ckptLost p)
    | some d =>
      let old := m.rd Reg.cxlSerialLo_serial [p] + 2 ^ 32 * m.rd Reg.cxlSerialHi_serial [p]
      if d.serial % 2 ^ 64 = old then
        let m1 := (m.wr Reg.cxlPortStatus_rate d.rate [p]).wr Reg.cxlPortStatus_width d.width [p]
        ((m1.wr Reg.cxlPortStatus_reason 0 [p]).set1 Reg.cxlPortStatus_ready [p]).cxlRec p sevInfo
      else
        let m1 := (m.cxlLost p).wr Reg.cxlPortStatus_reason 6 [p]
        let m2 : Module := { m1 with dev := m1.dev.zero (cxlBase p / 16) (0x01C000000000 / 16) }
        ((m2.cxlBring p d 6).ckptLost p).cxlRec p sevInfo

/-! ### The host region and the aperture (R206, R245, R474) -/

/-- MEM_HOST_REGION written: ignored above 32 and while any host context is loaded. -/
def Module.hostRegionWrite (m : Module) (v : Nat) : Module :=
  let n := v % 64
  if 32 < n ∨ m.ctx.table.any (fun (p : Nat × Ctx) => p.1 ≠ 0xFFFF && decide (p.2.state ≠ 0)) then m
  else m.wr Reg.memHostRegion_size256m n

/-- HUB_APERTURE_BASE written: ignored above 16. -/
def Module.apertureWrite (m : Module) (v : Nat) : Module := if 16 < v % 32 then m else m.wr Reg.hubApertureBase_base256m v

/-- Device-physical address of a BAR4 offset; `none` when GDDR7 is not open or the access leaves the aperture or the host region. -/
def Module.apertureAddr (m : Module) (o n : Nat) : Option Nat :=
  let a := m.rd Reg.hubApertureBase_base256m * 2 ^ 28 + o
  if m.rdB Reg.memStatus_ready ∧ o + n ≤ 2 ^ 32 ∧ a + n ≤ m.rd Reg.memHostRegion_size256m * 2 ^ 28 then some a else none

/-- BAR4_READ of n bytes at an offset. -/
def Module.bar4Read (m : Module) (o n : Nat) : Module :=
  match m.apertureAddr o n with
  | some a => m.hostAccess a n none
  | none => m.unsup.addrInvalid 0x67 (m.rd Reg.hubApertureBase_base256m * 2 ^ 28 + o) n

/-- BAR4_WRITE of bytes at an offset. -/
def Module.bar4Write (m : Module) (o : Nat) (b : List Nat) : Module :=
  match m.apertureAddr o b.length with
  | some a => m.hostAccess a b.length (some b)
  | none => m.addrInvalid 0x67 (m.rd Reg.hubApertureBase_base256m * 2 ^ 28 + o) b.length

/-- MEM_CNT_CLR.CLR_CIRQUE. -/
def Module.clrCirque (m : Module) : Module :=
  [Reg.memCirqueCorr_count, Reg.memCirqueUncorr_count, Reg.memMeshCorr_count, Reg.memMeshUncorr_count].foldl (fun m f => m.wr f 0) m

/-- MEM_CNT_CLR.CLR_DEV: the counters of every device and of the CXL ports (R208). -/
def Module.clrDev (m : Module) : Module :=
  let m1 := (List.range 12).foldl (fun m d =>
    [Reg.memDevCorr_corrected, Reg.memDevCheckfield_checkFieldCorrected, Reg.memDevUncorr_uncorrectable, Reg.memDevScrubCorr_scrubCorrected,
     Reg.memDevScrubUncorr_scrubUncorrectable, Reg.memDevPoisonRead_poisonReads].foldl (fun m f => m.wr f 0 [d]) m) m
  (List.range 2).foldl (fun m p =>
    [Reg.cxlCorr_count, Reg.cxlCheckfield_count, Reg.cxlUncorr_count, Reg.cxlPoisonRx_count, Reg.cxlLinkDown_count].foldl
      (fun m f => m.wr f 0 [p]) m) m1

end Sys2Proof.Machine
end

