-- ==== Sys2Proof/Machine/StructOps.lean ====
section
/-! DEFINITION. The commands on the structure bitstream: verification, quiescing, apply and persistence (R151 to R157), and
the device format tables a Tine holds (R79). -/

namespace Sys2Proof.Machine

/-- State of the structure block: 0 IDLE, 1 VERIFYING, 2 VERIFIED, 3 QUIESCING, 4 APPLYING, 5 REJECTED, 6 PERSISTING. -/
def Module.structState (m : Module) : Nat := m.rd Reg.hubStructStatus_state

/-- A command comes while the block is busy (R157): it is ignored. -/
def Module.structBusy (m : Module) : Bool := [1, 3, 4, 6].elem m.structState

/-- IGNORED_CMD set. -/
def Module.structIgnored (m : Module) : Module := m.set1 Reg.hubStructStatus_ignoredCmd

/-- A verification or a commit ends in REJECTED: code, section type, offset (R149). -/
def Module.structReject (m : Module) (r : Nat × Nat × Nat) : Module :=
  (((m.wr Reg.hubStructStatus_state 5).wr Reg.hubStructStatus_result r.1).wr Reg.hubStructFailSect_type r.2.1).wr
    Reg.hubStructFailOffset_offset r.2.2

/-- Admission runs again under the structure that stays in force (R154); the default structure serves no requests (R151). -/
def Module.admResume (m : Module) : Module :=
  let m1 := m.clr Reg.admStatus_quiesced
  if m1.rdB Reg.hubStructStatus_defaultStruct then m1 else m1.set1 Reg.admStatus_running

/-- HUB_STRUCT_CTL.VERIFY: the staged bitstream is copied into the staging buffer; a source outside the host region is
refused and leaves the buffer empty, and so is one with a granule that cannot be corrected or is poisoned (R153, R185, R190, R206). -/
def Module.structVerify (m : Module) : Module :=
  if m.structBusy then m.structIgnored
  else
    let a := m.rd Reg.hubStructSrcLo_addr * 128 + m.rd Reg.hubStructSrcHi_addr * 2 ^ 32
    let n := m.rd Reg.hubStructLen_len
    let (b, m1) := if a + n ≤ m.rd Reg.memHostRegion_size256m * 2 ^ 28 then
        let (b, bad, m1) := m.devBytes 0 a (min n 0x100000)
        (if bad then [] else b, m1)
      else ([], m.addrInvalid 0x67 a n)
    ({ m1 with str := { m1.str with staged := b, stagedLen := n } } : Module).wr Reg.hubStructStatus_state 1

/-- STRUCT_VERIFIED: the verification of R149 ends. -/
def Module.structVerified (m : Module) : Module :=
  if m.structState ≠ 1 then m
  else match m.verifyStruct m.str.staged m.str.stagedLen with
    | some r => m.structReject r
    | none =>
      (({ m with str := { m.str with newSets := m.resolveSets m.str.staged } } : Module).wr Reg.hubStructStatus_state 2).wr
        Reg.hubStructStatus_result 0

/-- HUB_STRUCT_CTL.COMMIT (R154). -/
def Module.structCommit (m : Module) : Module :=
  if m.structBusy then m.structIgnored
  else if m.structState ≠ 2 then m
  else if m.pairState ≠ 0 then (m.wr Reg.hubStructStatus_state 5).wr Reg.hubStructStatus_result 0x1A
  else
    ((({ m with str := { m.str with quiesceRound := m.hub.round } } : Module).wr Reg.hubStructStatus_state 3).set1
      Reg.admStatus_quiesced).clr Reg.admStatus_running

/-- HUB_STRUCT_CTL.ABORT (R154). -/
def Module.structAbort (m : Module) : Module :=
  if m.structState = 3 then (m.wr Reg.hubStructStatus_state 2).admResume else m

/-- QUIESCE_COMPLETE: nothing accepted is left and no fill runs; TSET resolution and the spare check are repeated (R154). -/
def Module.quiesceComplete (m : Module) : Module :=
  if m.structState ≠ 3 ∨ m.host.reqs ≠ [] ∨ m.ctx.fills.any Fill.started then m
  else match firstRej [m.tsetRej m.str.staged, m.resvRej m.str.staged] with
    | some r => (m.structReject r).admResume
    | none =>
      ({ m with str := { m.str with newSets := m.resolveSets m.str.staged } } : Module).wr Reg.hubStructStatus_state 4

/-- QUIESCE_TIMEOUT (R154). -/
def Module.quiesceTimeout (m : Module) : Module :=
  if m.structState = 3 then ((m.wr Reg.hubStructStatus_state 5).wr Reg.hubStructStatus_result 0x19).admResume else m

/-! ### Apply (R155, R156) -/

/-- The device format tables in force written on site s (R79). -/
def Module.writeFormats (m : Module) (s : Nat) : Module :=
  let bytes := ((List.range 64).map (fun i => let t := deviceFmt m.str.force i; if t = [] then List.replicate 32 0 else t)).flatten
  iter 128 (fun g m => { m with sram := m.sram.setGranule (sramKey s (0x5020000 + 16 * g) / 16) (leAt bytes (16 * g) 16) 0 }) m

/-- The VCMAP record of a port: its bytes, or nothing (R131). -/
def vcRecord (b : List Nat) (p : Nat) : List Nat := if b = [] then [] else slice 0 (secBytes b 3) (48 * p) 48

/-- The role a VCMAP record gives its port. -/
def vcRole (r : List Nat) : Nat := r.getD 1 0 % 4

/-- A port advertises its new credits (R155, R319): a reinitialisation, the physical port staying UP; an initialisation under way
starts again. A link in GRACE or DOWN advertises them when it comes back. -/
def Module.readvertise (m : Module) (p : Nat) : Module :=
  let l := m.linkState p
  if l = 1 then m.startFresh p else if l = 2 then m.reinitAsk p else if l = 3 then m.startResumed p else m

/-- What a change of VCMAP record does to a port (R151, R155, R297). -/
def Module.applyPort (m : Module) (old new : List Nat) (p : Nat) : Module :=
  let a := vcRecord old p
  let b := vcRecord new p
  if a = b then m
  else if vcRole b = 0 then (if vcRole a = 0 then m else (m.portDown p).dropLink p 6)
  else if vcRole a = 0 then
    (if m.rd Reg.firnPortStatus_state (fp p) = 0 ∧ m.rdB Reg.firnStatus_domainOn [p / 4] then m.wakePort p else m)
  else m.readvertise p

/-- Device tables of a new bitstream that are the same in the old one, and nothing for the others. -/
def keptTable (tab : List Nat → Nat → List Nat) (old new : List Nat) (i : Nat) : List Nat :=
  if tab old i = tab new i then tab new i else []

/-- Does a context's image name a device table that changed or is gone (R156)? The image, which passed its checks when it
was loaded, fails them with those tables taken away. -/
def Module.namesChanged (m : Module) (old new : List Nat) (x : Ctx) : Bool :=
  match x.img with
  | none => false
  | some g =>
    let b := m.dev.bytes x.imageAddr (16 * x.imageGranules)
    (List.range g.slices.length).any (fun i =>
      (sliceTablesBad b (keptTable deviceCurve old new) g i).isSome || (programBad b (keptTable deviceFmt old new) g i).isSome)

/-- What an apply does to a resident context (R156). -/
def Module.applyCtx (m : Module) (old new : List Nat) (oldSets : List Tset) (c : Nat) : Module :=
  let x := m.ctxOf c
  if x.state ≠ 2 ∧ x.state ≠ 3 then m
  else if m.namesChanged old new x then
    let m1 := m.freeBanks c
    m1.setCtx c { m1.ctxOf c with state := 2, latch := if x.latch = 0 then 2 else x.latch }
  else if x.placed then
    let keep : Bool := match m.tset x.tset with
      | none => false
      | some t => decide ((oldSets.find? (fun s => s.id = x.tset)).map Tset.members = some t.members) &&
          (t.members.filter (fun s => decide (s < 72))).all (fun s => (m.profile s t.profile).serves x.uses)
    if keep then m
    else
      let m1 := m.freeBanks c
      m1.setCtx c { m1.ctxOf c with state := 2 }
  else m

/-- The bitstream b in force (R155, R156): its sets, device tables, ports, and the contexts it touches. -/
def Module.applyStruct (m : Module) (b : List Nat) (sets : List Tset) : Module :=
  let old := m.str.force
  let oldSets := m.str.sets
  let m1 : Module := { m with str := { m.str with force := b, sets := sets } }
  let m2 := ((List.range 72).filter (fun s => m1.domain (72 + s) = 2)).foldl (fun m s => m.writeFormats s) m1
  let m3 := (List.range 64).foldl (fun m p => m.applyPort old b p) m2
  let m4 := m3.ctx.table.foldl (fun m (p : Nat × Ctx) => m.applyCtx old b oldSets p.1) m3
  let m5 := (List.range 12).foldl (fun m i => m.wr Reg.hubStructHash_hash (leAt b (28 + 4 * i) 4) [i]) m4
  let m6 := (m5.wr Reg.hubStructSerial_serial (leAt b 20 4)).wr Reg.hubStructSecver_securityVersion (leAt b 24 4)
  (m6.wr Reg.admStatus_decideRounds m6.decideRounds)

/-- STRUCT_APPLY_DONE: the apply completes; admission resumes at the next round boundary (R154). -/
def Module.structApplyDone (m : Module) : Module :=
  if m.structState ≠ 4 then m
  else
    let m1 := ((m.applyStruct m.str.staged m.str.newSets).wr Reg.hubStructStatus_state 0).wr Reg.hubStructStatus_result 0
    let m2 := m1.clr Reg.hubStructStatus_defaultStruct
    { m2 with str := { m2.str with resume := true } }

/-! ### Persistence (R152, R153, R464) -/

/-- SERIAL of a structure slot; 0 where no bitstream can be read. -/
def Module.slotSerial (m : Module) (s : Nat) : Nat := leAt (SMap.get [] m.flash.slots s) 20 4

/-- The slot a PERSIST writes: that with the lower SERIAL. -/
def Module.persistSlot (m : Module) : Nat := if m.slotSerial 1 < m.slotSerial 0 then 1 else 0

/-- HUB_STRUCT_CTL.PERSIST. -/
def Module.structPersist (m : Module) : Module :=
  if m.structBusy then m.structIgnored else m.wr Reg.hubStructStatus_state 6

/-- STRUCT_PERSIST_DONE: the slot write ends, verified or not. Under the default structure there is nothing to write. -/
def Module.structPersistDone (m : Module) (ok : Bool) : Module :=
  if m.structState ≠ 6 then m
  else
    let m0 := m.wr Reg.hubStructStatus_state 0
    let s := m.persistSlot
    if ok ∧ m.str.force ≠ [] then
      let m1 : Module := { m0 with flash := { m0.flash with slots := SMap.ins s m.str.force m0.flash.slots } }
      let v := leAt m.str.force 24 4
      let m2 := m1.clr Reg.hubStructStatus_persistFail
      if m.rd Reg.secStructMin_min < v then m2.wr Reg.secStructMin_min v else m2
    else
      let m1 := m0.set1 Reg.hubStructStatus_persistFail
      if m.str.force = [] then m1 else { m1 with flash := { m1.flash with slots := SMap.put [] s [] m1.flash.slots } }

/-- A slot write that a power loss or a reset interrupts is torn (R152, R457, R458). -/
def Module.tearSlot (m : Module) : Module :=
  if m.structState = 6 ∧ m.str.force ≠ [] then { m with flash := { m.flash with slots := SMap.put [] m.persistSlot [] m.flash.slots } } else m

end Sys2Proof.Machine
end

