-- ==== Sys2Proof/Machine/Sites.lean ====
section
/-! DEFINITION. Tine sites coming into and leaving service: a spare called, its entry test, parking and waking, the end of
a migration (R91, R92, R180, R181), and the clearing of a site's counters (R95). -/

namespace Sys2Proof.Machine

/-- Both domains of a site are to go off, compute first (R428). -/
def Module.siteOff (m : Module) (s : Nat) : Module := (m.seqStart 20 7 s 0).seqStart 20 7 (72 + s) 0

/-- Both domains of a site are to come on, retention first (R428). -/
def Module.siteOn (m : Module) (s : Nat) : Module := (m.seqStart 20 6 (72 + s) 0).seqStart 20 6 s 0

/-- A site passes to TESTING (R91): its domains come on and its entry test runs. -/
def Module.startTest (m : Module) (s : Nat) : Module :=
  ((m.wr Reg.tineState_siteState 1 [s]).modTine s (fun t => { t with tested := false })).siteOn s

/-- SPARE_CALLED (R91). -/
def Module.spareCalled (m : Module) (s : Nat) : Module :=
  if s < 72 ∧ m.siteState s = 0 then (m.startTest s).alerts else m

/-- A site that passed its entry test is wanted in service: one of the 64 that no substitute stands for, a recorded
substitute, or the target of a migration (R92, R130). -/
def Module.wanted (m : Module) (s : Nat) : Bool :=
  (decide (s < 64) && (SMap.find? m.saf.mor.subst s).isNone) || m.isSubst s || m.ctx.migs.any (fun g => g.target = s)

/-- A site that leaves TESTING for ACTIVE (R91): both banks EMPTY, the sequencer reset, the device format tables
received; nothing else of its SRAM has been written. -/
def Module.siteActive (m : Module) (s : Nat) : Module :=
  let m1 := (((m.wr Reg.tineState_siteState 2 [s]).wr Reg.tineBankStatus_bankAState 0 [s]).wr
    Reg.tineBankStatus_bankBState 0 [s]).wr Reg.tineBankStatus_runningBank 0 [s]
  (m1.modTine s (fun t => { Tine.reset with tested := true, rowErrs := t.rowErrs, inbound := t.inbound, cycles := t.cycles,
                                            passes := t.passes, frac := t.frac
                                            lost := [(0, 0x1400000), (0x2000000, 0x1400000), (0x4000000, 0x800000),
                                                     (0x5000000, 0x20000)] })).writeFormats s

/-- A retired site that is again fit for service as a spare (R92, R437): only a thermal shutdown retired it. -/
def Module.siteReturns (m : Module) (s : Nat) : Module :=
  let m1 : Module := { m with saf := { m.saf with mor := { m.saf.mor with sites := SMap.del s m.saf.mor.sites } } }
  m1.report ((LogRec.of 0x09 0 sevInfo s 7).at 0 [0xFF])

/-- The sites that a spare stood for when it failed its entry test get another (R91, R130): the rank it had taken, what moves
to it and the fills asked for there follow; a rank is lost when no spare is left. -/
def Module.retarget (m : Module) (s : Nat) : Module :=
  (m.saf.mor.subst.filter (fun (p : Nat × Nat) => p.2 = s)).foldl (fun (m : Module) (p : Nat × Nat) =>
    let t := m.spareFor p.1
    let hit := (m.ctx.table.filter (fun (q : Nat × Ctx) => q.2.placed && (m.sitesOf q.2).elem s)).map Prod.fst
    let migs : List Migration := m.ctx.migs.map (fun (x : Migration) => if x.site = p.1 ∧ x.target = s then { x with target := t } else x)
    let fills : List Fill := m.ctx.fills.map (fun f => if f.site = s ∧ t < 72 then { f with site := t } else f)
    let m1 : Module := { m with ctx := { m.ctx with migs := migs, fills := fills }
                                saf := { m.saf with mor := { m.saf.mor with subst := SMap.ins p.1 t m.saf.mor.subst } } }
    let m2 := m1.swapMember s t
    if t < 72 then m2.refreshAll else (hit.foldl (fun m c => m.freeBanks c true) m2).refreshAll) m

/-- ENTRY_TEST_DONE (R91, R92). -/
def Module.entryTest (m : Module) (s : Nat) (pass : Bool) : Module :=
  if m.siteState s ≠ 1 then m
  else if pass then
    let back := (SMap.find? m.saf.mor.sites s).isSome
    let m1 := if back then m.siteReturns s else m
    if !back && m.wanted s then m1.siteActive s
    else ((m1.wr Reg.tineState_siteState 0 [s]).modTine s (fun t => { t with tested := true })).siteOff s
  else
    let (f, m1) := (m.set1 Reg.tineFault_entryTestFail [s]).newFault
    (((m1.retireNow s 0 f).siteOff s).retarget s).alerts

/-- PARK_COMMAND (R91): the compute domain goes off; banks, program stores and table areas stay. -/
def Module.park (m : Module) (s : Nat) : Module :=
  if s < 72 ∧ m.siteState s = 2 ∧ m.rdB Reg.tineSeqStatus_stageActive [s] = false then
    (m.wr Reg.tineState_siteState 3 [s]).seqStart 20 7 s 0 else m

/-- Working store of a site cleared (R91). -/
def Module.clearWork (m : Module) (s : Nat) : Module :=
  ({ m with sram := m.sram.zero (sramKey s 0x4000000 / 16) (0x800000 / 16) } : Module).modTine s (fun t =>
    { t with lost := cutRange 0x4000000 0x800000 t.lost, origin := cutOrigin 0x4000000 0x800000 t.origin })

/-- WAKE_COMMAND (R91): working store and accumulators are cleared. -/
def Module.wake (m : Module) (s : Nat) : Module :=
  if s < 72 ∧ m.siteState s = 3 then
    (((m.wr Reg.tineState_siteState 2 [s]).modTine s (fun t => { t with engines := [] })).clearWork s).seqStart 20 6 s 0
  else m

/-- MIGRATION_DONE (R91): RETIRED, and the site's domains go off. -/
def Module.migrationDone (m : Module) (s : Nat) : Module :=
  let m1 := m.migrated s
  if m.siteState s = 4 ∧ m1.siteState s = 5 then (m1.siteOff s).alerts else m1

/-- TINE_CNT_CLR.CLR_ACTIVITY (R95). -/
def Module.clrActivity (m : Module) (s : Nat) : Module := m.modTine s (fun t => { t with cycles := 0, passes := 0 })

/-- TINE_CNT_CLR.CLR_CHECKFIELD (R95). -/
def Module.clrCheckfield (m : Module) (s : Nat) : Module := m.wr Reg.tineEccCheckfield_checkFieldCorrected 0 [s]

/-- TINE_CNT_CLR.CLR_CORR (R95). -/
def Module.clrCorr (m : Module) (s : Nat) : Module := m.wr Reg.tineEccCorr_corrected 0 [s]

end Sys2Proof.Machine
end

