-- ==== Sys2Proof/Machine/Clock.lean ====
section
/-! DEFINITION. Clocks and round marks: REFCLK and the root PLL, the two clock trees and their receivers, the mark a die
acts on, and the reads that latch a high word (R23 to R31, R90, R95, R227, R453). -/

namespace Sys2Proof.Machine

/-- An event of HUB_CLK_EVENTS with its record, charged to every request in flight (R29, R413, R420): the record's EVENT is the
register's bit number. -/
def Module.clockEvent (m : Module) (f : Fld) (sev : Nat) : Module :=
  let (k, m1) := m.newFault
  ((m1.set1 f).clockRec k f.lo sev 0 0).chargeAll k

/-- REFCLK_LOST (R29): holdover; the reference buffer feeds the PHY PLLs root divided by 128. -/
def Module.refclkLost (m : Module) : Module :=
  if m.rdB Reg.hubClkStatus_refPresent && m.rdB Reg.hubClkStatus_rootLock then
    let m1 := ((m.clr Reg.hubClkStatus_refPresent).set1 Reg.hubClkStatus_holdover).set1 Reg.hubClkStatus_refSubstitute
    ({ m1 with hub := { m1.hub with slewing := false } } : Module).clockEvent Reg.hubClkEvents_refLost sevRecovered
  else m

/-- REFCLK_RETURN (R29): the root PLL starts slewing back; HOLDOVER stays until the slew ends. -/
def Module.refclkReturn (m : Module) : Module :=
  if m.rdB Reg.hubClkStatus_holdover && !(m.rdB Reg.hubClkStatus_refPresent) then
    let m1 := m.set1 Reg.hubClkStatus_refPresent
    { m1 with hub := { m1.hub with slewing := true } }
  else m

/-- HOLDOVER_SLEW_END (R29). -/
def Module.slewEnd (m : Module) : Module :=
  if m.hub.slewing then
    let m1 := (m.clr Reg.hubClkStatus_holdover).clr Reg.hubClkStatus_refSubstitute
    { m1 with hub := { m1.hub with slewing := false } }
  else m

/-- ROOT_PLL_UNLOCK (R29): FATAL, and the gate stays closed until the Cirque is reinitialised. -/
def Module.rootUnlock (m : Module) : Module :=
  if m.rdB Reg.hubClkStatus_rootLock then
    let m1 := m.clr Reg.hubClkStatus_rootLock
    ({ m1 with hub := { m1.hub with unlocked := true } } : Module).clockEvent Reg.hubClkEvents_rootUnlock sevFatal
  else m

/-- ROOT_PLL_LOCK (R27, R30, R459): domain 165 is on, the round count starts at 0 and the boot ROM starts. `phases` are the
differences between the trees that the Cirque measures, by receiver. -/
def Module.rootLock (m : Module) (phases : List Nat) : Module :=
  if m.hub.counting ∨ !m.hub.inputOk ∨ !m.hub.resetHigh then m
  else
    let ph : SMap Nat := (List.range 88).filterMap (fun i =>
      let v := phases.getD i 0
      if v = 0 then none else some (i, v))
    let m1 := ((m.set1 Reg.hubClkStatus_rootLock).set1 Reg.hubClkStatus_refPresent).wr Reg.hubBootStatus_stage 1
    let m2 := (m1.wr Reg.pwrDomain_state 2 [165]).set1 Reg.pwrDomain_pgood [165]
    { m2 with hub := { m2.hub with counting := true, round := 0, phase := ph, applied := [], marks := [] } }

/-- BOTH_TREES_LOST (R29): the die stops issue and sends a clock-loss notice over Quinhorn. -/
def Module.bothTreesLost (m : Module) (r : Nat) : Module :=
  if r < 88 ∧ m.hub.lossNotices.elem r = false then { m with hub := { m.hub with lossNotices := m.hub.lossNotices ++ [r] } } else m

/-- TREE_LOST_AT_DIE (R28, R29): the receiver moves to the other tree; where that tree does not run it has lost both. -/
def Module.treeLostAtDie (m : Module) (r : Nat) : Module :=
  let up := if m.treeOf r = 0 then m.rdB Reg.hubClkStatus_treeBUp else m.rdB Reg.hubClkStatus_treeAUp
  if 88 ≤ r then m
  else if up then (let (f, m1) := m.newFault
                   (m1.switchTree r f).chargeAll f)
  else m.bothTreesLost r

/-- CLOCK_LOSS_NOTICE (R29): the Cirque removes the die from service; the record names it. -/
def Module.clockLossNotice (m : Module) (r : Nat) : Module :=
  if m.hub.lossNotices.elem r then
    let m0 : Module := { m with hub := { m.hub with lossNotices := m.hub.lossNotices.filter (fun x => x ≠ r) } }
    let (f, m0) := m0.newFault
    let m1 := (m0.set1 Reg.hubClkEvents_dieClkLost).clockRec f 0 sevDegraded r 0
    if r < 72 then (m1.tineLost r 8 f).siteOff r else (m1.asFault (r - 72) f).engineDown (r - 72)
  else m

/-- TREE_SOURCE_LOST (R29). DEDUCED: while the slot-16 unit that feeds the tree is LIT the loss is the modulator's, and the
tree stays down for good; otherwise it is the carrier's, and the tree is up again when a unit lights. -/
def Module.treeSourceLost (m : Module) (t : Nat) : Module :=
  let t := t % 2
  let b := 3 * t
  let lit := m.unitState b 16 0 = 3 ∨ m.unitState b 16 1 = 3
  let m1 : Module := if lit ∧ !m.hub.modFailed.elem t then { m with hub := { m.hub with modFailed := m.hub.modFailed ++ [t] } } else m
  let (f, m2) := m1.newFault
  m2.treeFail t f

/-- ROUND_MARK (R25, R26, R31, R90, R95): a die takes the mark as authoritative and every mark it missed is counted. A Tine
counts the Tine cycles from its last round boundary to this one, which is its first clock edge at or after the round's first
root cycle, and takes its pending divisor and gate there, so no cycle is short; a site that is SPARE or RETIRED has no clock.
A Firn engine's ports send their credit audits (R314). DESIGN CHOICE: CYCLES counts whole rounds by the state the site is in
at the mark; a site that enters or leaves ACTIVE within a round counts all of it or nothing (R95 gives no finer rule). -/
def Module.roundMark (m : Module) (c : Nat) : Module :=
  if 90 ≤ c then m
  else
    let now := m.hub.round % 65536
    let gap := match SMap.find? m.hub.marks c with
      | some k => (now + 65536 - k % 65536) % 65536
      | none => 1
    if gap = 0 then m
    else
      let m0 : Module := { m with hub := { m.hub with marks := SMap.ins c now m.hub.marks } }
      let m1 := if 1 < gap then m0.count Reg.qlkFrameErr_count (gap - 1) [c] else m0
      if 88 ≤ c then m1
      else if c < 72 ∧ (m1.siteState c = 0 ∨ m1.siteState c = 5) then m1
      else if 72 ≤ c then [0, 1, 2, 3].foldl (fun m l => 
          let p := 4 * (c - 72) + l
          let m := iter gap (fun _ m => m.shareRound p) m
          if m.linkState p = 2 then (m.sendAudit p).pump p else m) m1
      else
        let n := max 1 (m1.rd Reg.tineClk_n [c])
        let k := ceilDiv (65536 * gap - (m1.tine c).frac) n
        let m2 := m1.modTine c (fun t =>
          { t with cycles := if m1.siteState c = 2 then (t.cycles + k) % 2 ^ 64 else t.cycles, frac := t.frac + k * n - 65536 * gap })
        let n' := m2.rd Reg.tineClk_nPending [c]
        let m3 := (m2.wr Reg.tineClk_n n' [c]).wr Reg.tineClk_gate (m2.rd Reg.tineClk_gatePending [c]) [c]
        if n' = n then m3
        else
          let (v, m4) := m3.draw 12
          m4.wr Reg.pwrDomain_vmeasMv v [c]

/-! ### Reads that latch -/

/-- HUB_ROUND_LO_READ (R31). -/
def Module.readRoundLo (m : Module) : Module :=
  (m.wr Reg.hubRoundHi_round (m.hub.round / 2 ^ 32)).emit (.readData (m.hub.round % 2 ^ 32))

/-- TINE_CYCLES_LO_READ (R95). -/
def Module.readCyclesLo (m : Module) (s : Nat) : Module :=
  (m.wr Reg.tineCyclesHi_cycles ((m.tine s).cycles / 2 ^ 32) [s]).emit (.readData ((m.tine s).cycles % 2 ^ 32))

/-- TINE_MAT_PASSES_LO_READ (R95). -/
def Module.readPassesLo (m : Module) (s : Nat) : Module :=
  (m.wr Reg.tineMatPassesHi_passes ((m.tine s).passes / 2 ^ 32) [s]).emit (.readData ((m.tine s).passes % 2 ^ 32))

/-- ADM_ACCEPTED_LO_READ (R227). -/
def Module.readAcceptedLo (m : Module) : Module :=
  (m.wr Reg.admAcceptedHi_accepted (m.adm.accepted / 2 ^ 32)).emit (.readData (m.adm.accepted % 2 ^ 32))

/-- CAL_OPSEC_LO_READ (R453). -/
def Module.readOpsecLo (m : Module) : Module :=
  (m.wr Reg.calOpsecHi_opsec (m.opsec / 2 ^ 32)).emit (.readData (m.opsec % 2 ^ 32))

end Sys2Proof.Machine
end

