-- ==== Sys2Proof/Machine/Boot.lean ====
section
/-! DEFINITION. Resets that reinitialise the Cirque, and the boot sequence up to READY (R151, R297, R367 to R370, R421, R422,
R437, R452, R453, R456 to R461, R477, R478). -/

namespace Sys2Proof.Machine

/-! ### Resets (R458) -/

/-- Register fields that show what flash and fuses hold: a reset keeps them. -/
def storedFields : List Fld :=
  [Reg.calCount_count, Reg.calSeq_seq, Reg.calLastLo_opsec, Reg.calLastHi_opsec, Reg.calStatus_noSet, Reg.calStatus_countSat,
   Reg.secFwMin_min, Reg.secStructMin_min, Reg.secOwnerSeq_ownerSeq, Reg.secStatus_owned, Reg.secStatus_requireSigned,
   Reg.secStatus_sealPresent]

/-- Entries of a sorted list at or above an address. -/
def fromAddr {α : Type} (a : Nat) (l : List (Nat × α)) : List (Nat × α) := l.filter (fun p => decide (a ≤ p.1))

/-- The Cirque reinitialised (R458): everything at its reset value but flash, fuses, the operating-seconds counter, the draws
of the generator, and the contents of the CXL windows; a flash write under way is torn. FAULT_N is released (R408). `cause`:
LAST_RESET. -/
def Module.reinitialise (m0 : Module) (cause : Nat) : Module :=
  let m := if m0.rdB Reg.safStatus_faultPin then m0.tearSlot.emit (.pin 0 true) else m0.tearSlot
  let used := match m.cal.storing with
    | some s => if m.rd Reg.calStatus_state = 2 then max m.cal.maxSeq s.seq else m.cal.maxSeq
    | none => m.cal.maxSeq
  let r : Module :=
    { Module.reset with
      free := m.free, out := m.out
      dev := { cells := fromAddr (cxlBase 0) m.dev.cells, synd := fromAddr (cxlBase 0 / 16) m.dev.synd }
      hub := { Module.reset.hub with inputOk := m.hub.inputOk, resetHigh := m.hub.resetHigh }
      saf := { Module.reset.saf with mor := m.flash.mor }
      cal := { m.cal with storing := none, rewrite := false, maxSeq := used, temps := [], used := none, bands := [], taps := [], deskew := [] }
      flash := { m.flash with committing := false }
      sec := { Module.reset.sec with nonces := m.sec.nonces } }
  (storedFields.foldl (fun (x : Module) f => x.wr f (m.rd f)) r).wr Reg.hubBootStatus_lastReset cause

/-- The newest counter record in flash (R453, R457): OPSEC and CAL_COUNT. -/
def Module.newestCount (m : Module) : Nat × Nat :=
  let a := m.cal.log.headD (0, 0)
  match m.flash.powerFail with
  | p :: _ => if a.1 ≤ p.1 then (p.1, p.2.1) else a
  | [] => a

/-- POWER_ON_RESET (R453, R457, R458, R477): a commit under way completes first; the operating-seconds counter resumes from
its newest record. -/
def Module.powerOn (m : Module) : Module :=
  if m.hub.inputOk then m
  else
    let m1 := m.powerFailDone.reinitialise 0
    let (s, n) := m1.newestCount
    let m2 : Module := { m1 with hub := { m1.hub with inputOk := true }, cal := { m1.cal with opsec := s } }
    m2.wr Reg.calCount_count n

/-- MOD_RESET_N low for 10 us (R458). -/
def Module.modReset (m : Module) : Module :=
  let m1 : Module := { m with hub := { m.hub with resetHigh := false } }
  m1.reinitialise 1

/-- MOD_RESET_N_RELEASE (R459, R478): with the input in its window, power-good. -/
def Module.modRelease (m : Module) : Module := { m with hub := { m.hub with resetHigh := true } }

/-- HUB_RESET_CTL written (R458): MODULE 1 with KEY 0x0972 resets the module. -/
def Module.hubReset (m : Module) (v : Nat) : Module :=
  if bitB v 31 ∧ v % 65536 = 0x0972 then m.reinitialise 2 else m

/-- WATCHDOG_EXPIRY (R458). -/
def Module.watchdog (m : Module) : Module := if m.domain 165 = 2 then m.reinitialise 3 else m

/-! ### Firmware (R459 to R461) -/

/-- STAGE (R459); 15 is RECOVERY. -/
def Module.stage (m : Module) : Nat := m.rd Reg.hubBootStatus_stage

/-- The boot ROM raises the fused minimum for an image that asked for it and reached READY (R460). -/
def Module.raiseMin (m : Module) : Module :=
  match m.flash.fwRaise with
  | some v =>
    let m1 : Module := { m with flash := { m.flash with fwRaise := none } }
    if m.rd Reg.secFwMin_min < v ∧ m.flash.fwRaises < 64 then
      ({ m1 with flash := { m1.flash with fwRaises := m1.flash.fwRaises + 1 } } : Module).wr Reg.secFwMin_min v
    else m1
  | none => m

/-- The slot the boot ROM accepts (R460): 0 A, 1 B. -/
def Module.chooseFw (m : Module) : Option Nat :=
  let order := match SMap.find? m.flash.fw 0, SMap.find? m.flash.fw 1 with
    | some a, some b => if a.secVersion < b.secVersion then [1, 0] else [0, 1]
    | _, _ => [0, 1]
  order.find? (fun s => match SMap.find? m.flash.fw s with
    | some f => f.good && decide (m.rd Reg.secFwMin_min ≤ f.secVersion)
    | none => false)

/-- The newest power-fail record's error records open the log of this start, with SEQ from 0 (R457). -/
def Module.copyPowerFail (m : Module) : Module :=
  match m.flash.powerFail with
  | p :: _ =>
    if m.flash.copied then m
    else
      let m1 : Module := { m with flash := { m.flash with copied := true } }
      p.2.2.foldl (fun (m : Module) r =>
        let w := m.rd Reg.safLogWr_wr
        ((m.storeRec w { r with seq := m.saf.nextSeq }).wr Reg.safLogWr_wr (w + 1)).count Reg.safStatus_unread) m1
  | [] => m

/-- FIRMWARE_VERIFIED (R460): a slot runs, or RECOVERY. -/
def Module.firmwareVerified (m0 : Module) : Module :=
  if m0.stage ≠ 1 then m0
  else
    let m := m0.raiseMin
    match m.chooseFw with
    | none => m.wr Reg.hubBootStatus_stage 15
    | some s =>
      match SMap.find? m.flash.fw s with
      | none => m
      | some f =>
        let m1 := ((m.wr Reg.hubBootStatus_stage 2).wr Reg.secStatus_fwSlot s).wr Reg.secFwVersion_securityVersion f.secVersion
        ({ m1 with sec := { m1.sec with fwHash := f.hash } } : Module).copyPowerFail

/-- The checks of R460 on an image. -/
def Module.fwOk (m : Module) (g : FwImage) : Bool :=
  g.formOk && decide (g.hash = Config.sha384 g.body) && Config.ecdsaVerify Config.firmwareKeyId g.signed g.sig &&
    decide (m.rd Reg.secFwMin_min ≤ g.secVersion)

/-- An image written to a slot; `ok`: the write passes its verification. -/
def Module.writeFw (m : Module) (s : Nat) (g : FwImage) (ok : Bool) : Module :=
  let f : FwSlot := { good := ok, version := g.version, secVersion := g.secVersion, commit := g.commit, hash := g.hash }
  { m with flash := { m.flash with fw := SMap.ins s f m.flash.fw } }

/-- RECOVERY_IMAGE (R460): accepted in RECOVERY only; slot A is written and a module reset follows. -/
def Module.recoveryImage (m : Module) (g : FwImage) : Module :=
  if m.stage = 15 ∧ m.fwOk g = true then (m.writeFw 0 g true).reinitialise 2 else m

/-- FW_UPDATE of queue 0 (R461). `img`: the image as read over PCIe, if it could be read. -/
def Module.fwUpdate (m : Module) (e : List Nat) (img : Option FwImage) (flashOk : Bool) : Module :=
  m.mgmt 0xB3 e (fun m cid =>
    match img with
    | none => m.finish 0 cid (mgmtStatus 0x8E)
    | some g =>
      if !m.fwOk g then m.finish 0 cid (mgmtStatus 0x8E)
      else
        let m1 := m.writeFw (1 - m.rd Reg.secStatus_fwSlot) g flashOk
        m1.finish 0 cid (if flashOk then Compl.done else mgmtStatus 0x90))

/-! ### Devices (R92, R297, R367 to R370, R421, R422, R437) -/

/-- A domain the boot sequence has switched on; what its monitor measures is free. -/
def Module.bootDomain (m : Module) (d : Nat) : Module :=
  let (v, m1) := (m.domainUp d).draw 12
  m1.wr Reg.pwrDomain_vmeasMv v [d]

/-- SITE_TYPE and SITE_INDEX that belong to a connection (R367, R368). -/
def siteIdent (c : Nat) : Nat × Nat := if c < 72 then (1, c) else if c < 88 then (2, c - 72) else (5, c - 88)

/-- A guest site has a die. -/
def Module.fitted (m : Module) (g : Nat) : Bool := if g = 0 then m.rdB Reg.hubId_guest0Fitted else m.rdB Reg.hubId_guest1Fitted

/-- A connection's fuse record read (R368): 0 usable or without CRC, 1 mismatched, 2 retired at assembly. -/
def Module.fuseState (m : Module) (c : Nat) : Nat :=
  let r := m.fuseRec c
  if !fuseOk r then 0
  else if (bitsOf r 3 0, bitsOf r 11 4) ≠ siteIdent c then 1
  else if bitB r 12 then 2 else 0

/-- FUSE_CRC and FUSE_MISMATCH of a connection (R368). -/
def Module.readFuse (m : Module) (c : Nat) : Module :=
  let m1 := if fuseOk (m.fuseRec c) then m else m.set1 Reg.qlkLinkStatus_fuseCrc [c]
  if m.fuseState c = 1 then (m1.set1 Reg.qlkLinkStatus_fuseMismatch [c]).qlkRec c 0 sevDegraded else m1

/-- A cause of retirement that is none of the TINE_FAULT bits: the fuse record's. -/
def causeFuse : Nat := 31

/-- A site the moraine record holds as retired, but not for its temperature alone, or whose fuses retire it, stays RETIRED;
every other site enters TESTING with its domains on (R91, R368, R422, R437). -/
def Module.bootSite (m : Module) (s : Nat) : Module :=
  match SMap.find? m.saf.mor.sites s with
  | some c => if c = 7 then ((m.wr Reg.tineState_siteState 1 [s]).bootDomain (72 + s)).bootDomain s else m.wr Reg.tineState_siteState 5 [s]
  | none =>
    if m.fuseState s ≠ 0 then m.retired s causeFuse
    else ((m.wr Reg.tineState_siteState 1 [s]).bootDomain (72 + s)).bootDomain s

/-- A site without use: powered off (R91). -/
def Module.siteCut (m : Module) (s : Nat) : Module := (m.domainOff s 0).domainOff (72 + s) 0

/-- The entry test of a site in TESTING passes at boot (R92): ACTIVE if it is needed, else SPARE and powered off. -/
def Module.bootPass (m : Module) (s : Nat) : Module :=
  if m.siteState s ≠ 1 then m
  else
    let back := (SMap.find? m.saf.mor.sites s).isSome
    let m1 := if back then m.siteReturns s else m
    if !back && m.wanted s then m1.siteActive s
    else ((m1.wr Reg.tineState_siteState 0 [s]).modTine s (fun t => { t with tested := true })).siteCut s

/-- A site that should serve and does not is replaced by the lowest-numbered spare (R130). -/
def Module.bootReplace (m : Module) (s : Nat) : Module :=
  if m.siteState s = 5 ∧ (SMap.find? m.saf.mor.subst s).isNone ∧ (s < 64 ∨ m.isSubst s) then
    let p := m.spareFor s
    let m1 : Module := { m with saf := { m.saf with mor := { m.saf.mor with subst := SMap.ins s p m.saf.mor.subst } } }
    if p < 72 then ((m1.bootDomain (72 + p)).bootDomain p).siteActive p else m1
  else m

/-- The entry test of a site in TESTING fails at boot (R91). -/
def Module.bootFail (m : Module) (s : Nat) : Module :=
  if m.siteState s ≠ 1 then m
  else
    let needed := decide (s < 64) || m.isSubst s
    let (f, m1) := (m.set1 Reg.tineFault_entryTestFail [s]).newFault
    let m2 := (((m1.modTine s (fun t => { t with cause := 0, faultId := f })).retired s 0).siteCut s).bootReplace s
    let p := if needed then m2.substOf 1 s else 0xFF
    m2.logRec { ((LogRec.of 0x09 0 sevDegraded s 0).at 0 [if p < 72 then p else 0xFF]) with faultId := f }

/-- TINE_SPARE_ROWS and the MOR_SRAM counts from the moraine record (R80, R421). -/
def Module.showRows (m : Module) : Module :=
  let rows := m.saf.mor.rows
  let used := fun (s : Nat) => sumN ((rows.filter (fun (p : Nat × Nat) => decide (p.1 / 2 ^ 24 = s))).map Prod.snd)
  let full := fun (s : Nat) => (rows.filter (fun (p : Nat × Nat) => decide (p.1 / 2 ^ 24 = s) && decide (4 ≤ p.2))).length
  let m1 := (m.wr Reg.morSramRows_rowsUsed (sumN (rows.map Prod.snd))).wr Reg.morSramArrays_arraysExhausted
    (rows.filter (fun (p : Nat × Nat) => decide (4 ≤ p.2))).length
  (List.range 72).foldl (fun m s => (m.wr Reg.tineSpareRows_spareRowsUsed (used s) [s]).wr Reg.tineSpareRows_arraysExhausted
    (min 255 (full s)) [s]) m1

/-- The start-up test's outcome for one bundle (R370, R371, R422): its maps, and training where the die is in service; a bundle
that no map serves, or that the moraine record retires, is RETIRED. -/
def Module.bootBundle (m : Module) (w : List (Nat × Nat)) (on : Bool) (c b : Nat) : Module :=
  let past := SMap.get 0 m.saf.mor.bundles (16 * c + b)
  let mask := fun (d : Nat) => (w.filter (fun (p : Nat × Nat) => decide (p.1 = (16 * c + b) * 2 + d))).foldl (fun a p => a ||| p.2) 0
  if past = 2 then m.wr Reg.qlkBundleState_state 4 [c, b]
  else match m.chooseMaps c b (mask 0) (mask 1) (decide (past = 1)) with
    | some m1 => if on then m1.trainBundle c b else m1
    | none =>
      let m1 := m.wr Reg.qlkBundleState_state 4 [c, b]
      ({ m1 with saf := { m1.saf with mor := { m1.saf.mor with bundles := SMap.put 0 (16 * c + b) 2 m1.saf.mor.bundles } } } : Module).qlkRec
        c b sevDegraded

/-- The die of a connection is in service. -/
def Module.dieOn (m : Module) (c : Nat) : Bool :=
  if c < 72 then decide (m.siteState c = 2) else decide (m.domain (if c < 88 then 72 + c else 80 + c) = 2)

/-- Every bundle of a connection tested (R370); a mismatched die's bundles are RETIRED (R368). -/
def Module.bootConn (m : Module) (w : List (Nat × Nat)) (c : Nat) : Module :=
  if 88 ≤ c ∧ m.fitted (c - 88) = false then m
  else if m.fuseState c = 1 then
    ((List.range (connBundles c)).foldl (fun m b => m.wr Reg.qlkBundleState_state 4 [c, b]) m).showConn c
  else ((List.range (connBundles c)).foldl (fun m b => m.bootBundle w (m.dieOn c) c b) m).showConn c

/-- A laser slot at start (R297, R422): the unit that serves is LIT, its spare stays COLD, retired units stay RETIRED. -/
def Module.bootSlot (m : Module) (b s : Nat) : Module :=
  let gone := fun (u : Nat) => (SMap.find? m.saf.mor.units ((17 * b + s) * 2 + u)).isSome
  let m1 := if gone 0 then m.wr Reg.lasSlotStatus_pState 4 [b, s] else m.wr Reg.lasSlotStatus_pState 3 [b, s]
  let m2 := if gone 1 then m1.wr Reg.lasSlotStatus_sState 4 [b, s] else if gone 0 then m1.wr Reg.lasSlotStatus_sState 3 [b, s] else m1
  let m3 := if gone 0 && !(gone 1) then m2.wr Reg.lasSlotStatus_activeUnit 1 [b, s] else m2
  if m.saf.mor.slots.elem (17 * b + s) then m3.set1 Reg.lasSlotStatus_removed [b, s] else m3

/-- The laser banks and the clock trees tapped from banks 0 and 3 (R27, R297). -/
def Module.bootLasers (m : Module) : Module :=
  let m1 := (List.range 4).foldl (fun m b => ((List.range 17).foldl (fun m s => m.bootSlot b s) (m.bootDomain (160 + b))).showBank b) m
  let lit := fun (b : Nat) => decide (m1.unitState b 16 0 = 3) || decide (m1.unitState b 16 1 = 3)
  let m2 := (m1.wr Reg.hubClkStatus_treeAUp (ofB (lit 0))).wr Reg.hubClkStatus_treeBUp (ofB (lit 3))
  if !(lit 0) && lit 3 then m2.useTree 1 else m2

/-- A spare fibre pair as the moraine record holds it (R422). -/
def Module.bootFibre (m : Module) (e : Nat) : Module :=
  match SMap.find? m.saf.mor.fibres e with
  | none => m
  | some v =>
    if v = 2 then m.set1 Reg.firnSpareCfg_failed [e]
    else (m.set1 Reg.firnSpareCfg_inUse [e]).set1 Reg.firnPortStatus_onSpare [e, v % 4]

/-- BOOT_DEVICES_READY (STAGE 3): the Cirque's domains, GDDR7 trained, lasers and Firn engines, Tine sites through their entry
tests, and the Quinhorn start-up test, each on top of the moraine record (R297, R368 to R371, R422, R459). -/
def Module.bootDevices (m : Module) (t : BootTest) : Module :=
  if m.stage ≠ 2 then m
  else
    let m1 := ([164, 166, 167].foldl (fun m d => m.bootDomain d) m).wr Reg.memStatus_devTrained 0xFFF
    let m2 := (List.range 90).foldl (fun m c => if 88 ≤ c ∧ m.fitted (c - 88) = false then m else m.readFuse c) m1
    let m3 := m2.bootLasers
    let m4 := (List.range 16).foldl (fun m e => if m.fuseState (72 + e) = 1 then m else (m.bootDomain (144 + e)).bootFibre e) m3
    let rows := t.rows.foldl (fun (l : SMap Nat) (p : Nat × Nat) => SMap.ins p.1 (SMap.get 0 l p.1 + p.2) l) m4.saf.mor.rows
    let m5 : Module := { m4 with saf := { m4.saf with mor := { m4.saf.mor with rows := rows, queues := m4.saf.mor.queues + t.queues } } }
    let m6 := ((List.range 72).foldl (fun m s => m.bootSite s) m5).showRows
    let m7 := ((List.range 72).filter (fun s => !(t.failed.elem s))).foldl (fun m s => m.bootPass s) m6
    let m8 := (List.range 72).foldl (fun m s => m.bootFail s) m7
    let m9 := (List.range 72).foldl (fun m s => m.bootReplace s) m8
    let m10 := [0, 1].foldl (fun m g =>
      if m.fitted g then (if m.fuseState (88 + g) = 1 then m else m.bootDomain (168 + g)) else m.wr Reg.thmChStatus_state 6 [94 + g]) m9
    (((List.range 90).foldl (fun m c => m.bootConn t.wires c) m10).alerts).wr Reg.hubBootStatus_stage 3

/-! ### Structure and READY (R151, R452, R459) -/

/-- The structure slots in the order boot tries them (R151). -/
def Module.slotOrder (m : Module) : List Nat :=
  match SMap.find? m.flash.slots 0, SMap.find? m.flash.slots 1 with
  | some _, some _ => if m.slotSerial 0 < m.slotSerial 1 then [1, 0] else [0, 1]
  | none, some _ => [1, 0]
  | _, _ => [0, 1]

/-- BOOT_STRUCTURE_APPLIED (STAGE 4): GDDR7 zeroed, the calibration set read, the first structure slot that verifies applied,
or the default structure (R151, R452, R459). -/
def Module.bootStructure (m : Module) : Module :=
  if m.stage ≠ 3 then m
  else
    let m1 : Module := { m with dev := m.dev.zero 0 (gddrEnd / 16) }
    let m2 := (m1.set1 Reg.memStatus_ready).wr Reg.calStatus_noSet (ofB m1.cal.cur.isNone)
    let m3 := (m2.wr Reg.calStatus_prevValid (ofB m2.cal.prev.isSome)).calRound
    let ok := fun (s : Nat) =>
      let b := SMap.get [] m3.flash.slots s
      decide (b ≠ []) && (m3.verifyStruct b b.length).isNone
    let m4 := match m3.slotOrder.find? ok with
      | some s =>
        let b := SMap.get [] m3.flash.slots s
        ((m3.applyStruct b (m3.resolveSets b)).wr Reg.hubStructStatus_bootSlot s).clr Reg.hubStructStatus_defaultStruct
      | none =>
        ((List.range 72).filter (fun s => m3.siteState s = 2)).foldl (fun m s =>
          (m.wr Reg.tineState_siteState 3 [s]).domainOff s 0) (m3.set1 Reg.hubStructStatus_defaultStruct)
    let m5 := ((List.range 4).filter (fun b => m4.domain (160 + b) = 2)).foldl (fun m b => m.opticsUp b) m4
    m5.wr Reg.hubBootStatus_stage 4

/-- BOOT_READY (STAGE 5): a CXL port that was not brought up is left disabled with REASON NO_DEVICE; READY, and admission runs unless the default structure is in force; an image with COMMIT_VERSION
makes the fused minimum due to be raised at the next start (R459, R460). -/
def Module.bootReady (m : Module) : Module :=
  if m.stage ≠ 4 then m
  else
    let m0 := [0, 1].foldl (fun (m : Module) p =>
      if m.rdB Reg.cxlPortStatus_ready [p] ∨ m.rd Reg.cxlPortStatus_reason [p] ≠ 0 then m else m.wr Reg.cxlPortStatus_reason 1 [p]) m
    let m1 := (m0.wr Reg.hubBootStatus_stage 5).set1 Reg.hubBootStatus_ready
    let m2 := if m1.rdB Reg.hubStructStatus_defaultStruct then m1 else m1.set1 Reg.admStatus_running
    match SMap.find? m2.flash.fw (m2.rd Reg.secStatus_fwSlot) with
    | some f => if f.commit then { m2 with flash := { m2.flash with fwRaise := some f.secVersion } } else m2
    | none => m2

end Sys2Proof.Machine
end

