-- ==== Sys2Proof/Machine/Security.lean ====
section
/-! DEFINITION. Ownership, SEC_LOCK, SPDM answers and measurements, the CRC engines (R462 to R470), and the context view
(R165). -/

namespace Sys2Proof.Machine

/-! ### Ownership (R463, R464) -/

/-- A context is loaded; `sealedOnly`: a sealed one. -/
def Module.anyLoaded (m : Module) (sealedOnly : Bool) : Bool :=
  m.ctx.table.any (fun (p : Nat × Ctx) => decide (p.2.state ≠ 0) && (!sealedOnly || p.2.sealedCtx))

/-- An owner block is genuine: MAGIC, DEVICE_SERIAL, OWNER_SEQ, and the trailer's signature under a key. -/
def Module.ownerOk (m : Module) (b key : List Nat) : Bool :=
  decide (b.take 4 = [0x54, 0x39, 0x4F, 0x57]) && decide (m.rd Reg.secOwnerSeq_ownerSeq < leAt b 4 4) &&
  decide (leAt b 8 8 = Config.dieSerial) && decide (slice 0 b 384 4 = [0x54, 0x39, 0x4F, 0x53]) && decide (b.getD 388 0 = 1) &&
  Config.ecdsaVerify key (b.take 384) (slice 0 b 400 96)

/-- The seal secret a block brings: nothing, or what the unwrapping gives (`none`: it fails). -/
def ownerSeal (b : List Nat) : Option (Option (List Nat)) :=
  if bitB (b.getD 208 0) 1 then (Config.unwrapSeal (slice 0 b 216 96) (slice 0 b 312 40)).map some else some none

/-- The registers that show the key store. -/
def Module.showOwner (m : Module) : Module :=
  match m.flash.owner with
  | some o => (((m.set1 Reg.secStatus_owned).wr Reg.secStatus_requireSigned (ofB o.requireSigned)).wr Reg.secStatus_sealPresent
      (ofB o.sealSecret.isSome)).wr Reg.secOwnerSeq_ownerSeq o.seq
  | none => (((m.clr Reg.secStatus_owned).clr Reg.secStatus_requireSigned).clr Reg.secStatus_sealPresent).clr Reg.secOwnerSeq_ownerSeq

/-- An owner block becomes current. -/
def Module.storeOwner (m : Module) (b : List Nat) (sec : Option (List Nat)) : Module :=
  let o : OwnerBlk := { seq := leAt b 4 4, adminKey := slice 0 b 16 96, structKeyId := slice 0 b 112 48, imageKeyId := slice 0 b 160 48,
                        requireSigned := bitB (b.getD 208 0) 0, sealSecret := sec, block := b.take 512 }
  ({ m with flash := { m.flash with owner := some o } } : Module).showOwner

/-- What every owner opcode has in common (R463): MGMT_BUSY while a commit runs, MGMT_OWNER_STATE outside its permitted state,
MGMT_SIG_INVALID for a block that is not genuine or could not be read, MGMT_FLASH_FAIL when the key store is not verified. -/
def Module.ownerOp (m : Module) (op : Nat) (e : List Nat) (block : Option (List Nat)) (flashOk : Bool)
    (permitted : Module → List Nat → Bool) (key : Module → List Nat → List Nat) (act : Module → List Nat → Option Module) : Module :=
  m.mgmt op e (fun m cid =>
    let b := block.getD []
    if m.structState = 3 ∨ m.structState = 4 then m.finish 0 cid (mgmtStatus 0x91)
    else if !(permitted m b) then m.finish 0 cid (mgmtStatus 0x8F)
    else if block.isNone ∨ m.ownerOk b (key m b) = false then m.finish 0 cid (mgmtStatus 0x8E)
    else match act m b with
      | none => m.finish 0 cid (mgmtStatus 0x8E)
      | some m1 => if flashOk then m1.finish 0 cid Compl.done else m.finish 0 cid (mgmtStatus 0x90))

/-- The current admin key. -/
def Module.adminKey (m : Module) : List Nat := match m.flash.owner with
  | some o => o.adminKey
  | none => []

/-- OWNER_ENROL. -/
def Module.ownerEnrol (m : Module) (e : List Nat) (block : Option (List Nat)) (flashOk : Bool) : Module :=
  m.ownerOp 0xB0 e block flashOk (fun m _ => m.flash.owner.isNone) (fun _ b => slice 0 b 16 96)
    (fun m b => (ownerSeal b).map (fun s => (m.storeOwner b s).wr Reg.secStructMin_min 0))

/-- OWNER_UPDATE. -/
def Module.ownerUpdate (m : Module) (e : List Nat) (block : Option (List Nat)) (flashOk : Bool) : Module :=
  m.ownerOp 0xB1 e block flashOk
    (fun m b => m.flash.owner.isSome && !(bitB (b.getD 208 0) 1 && m.anyLoaded true)) (fun m _ => m.adminKey)
    (fun m b => (ownerSeal b).map (fun s => m.storeOwner b s))

/-- OWNER_RELEASE. -/
def Module.ownerRelease (m : Module) (e : List Nat) (block : Option (List Nat)) (flashOk : Bool) : Module :=
  m.ownerOp 0xB2 e block flashOk (fun m _ => m.flash.owner.isSome && !(m.anyLoaded false) && decide (m.pairState = 0))
    (fun m _ => m.adminKey)
    (fun m _ => some ((({ m with flash := { m.flash with owner := none } } : Module).showOwner).wr Reg.secStructMin_min 0))

/-- SEC_CTL written (R466). -/
def Module.secLock (m : Module) (v : Nat) : Module := if bitB v 0 then m.set1 Reg.secStatus_secLock else m

/-! ### SPDM (R467, R468) -/

/-- An SPDM answer: served from STAGE 2 on, where the alias key exists (R459, R462). -/
def Module.spdmReply (m : Module) (t code : Nat) (body : List Nat) : Module :=
  m.emit (.spdm (t % 2) ((if code = 0x04 then 0x10 else 0x13) :: code :: body))

/-- The negotiation a transport has reached. -/
def Module.spdmState (m : Module) (t : Nat) : Nat := SMap.get 0 m.sec.spdm (t % 2)

/-- A request served when the negotiation has reached `need`, with an ERROR answer otherwise (DSP0274). -/
def Module.spdmServe (m : Module) (t need : Nat) (k : Module → Module) : Module :=
  if m.stage < 2 ∨ 5 < m.stage then m
  else if m.spdmState t < need then m.spdmReply t 0x7F [0x04, 0]
  else k m

/-- The negotiation of a transport set. -/
def Module.spdmSet (m : Module) (t s : Nat) : Module := { m with sec := { m.sec with spdm := SMap.ins (t % 2) s m.sec.spdm } }

/-- GET_VERSION: negotiation starts over. -/
def Module.spdmVersion (m : Module) (t : Nat) : Module :=
  m.spdmServe t 0 (fun m => (m.spdmSet t 1).spdmReply t 0x04 (Config.spdmBody 0x04 []))

/-- GET_CAPABILITIES. -/
def Module.spdmCaps (m : Module) (t : Nat) : Module :=
  m.spdmServe t 1 (fun m => (m.spdmSet t (max 2 (m.spdmState t))).spdmReply t 0x61 (Config.spdmBody 0x61 []))

/-- NEGOTIATE_ALGORITHMS. -/
def Module.spdmAlgs (m : Module) (t : Nat) (req : List Nat) : Module :=
  m.spdmServe t 2 (fun m => (m.spdmSet t 3).spdmReply t 0x63 (Config.spdmBody 0x63 req))

/-- GET_DIGESTS. -/
def Module.spdmDigests (m : Module) (t : Nat) : Module :=
  m.spdmServe t 3 (fun m => m.spdmReply t 0x01 (Config.spdmBody 0x01 m.sec.fwHash))

/-- GET_CERTIFICATE: the chain of slot 0, whose last certificate is the alias of the running firmware. -/
def Module.spdmCert (m : Module) (t slot off len : Nat) : Module :=
  m.spdmServe t 3 (fun m => if slot ≠ 0 then m.spdmReply t 0x7F [0x01, 0]
    else m.spdmReply t 0x02 (slice 0 (Config.spdmBody 0x02 m.sec.fwHash) off len))

/-- The subject of a measurement as bytes, hashed where it is no hash already (R468). -/
def Module.measurement (m : Module) (i : Nat) : List Nat :=
  let zero := List.replicate 48 0
  match i with
  | 1 => Config.sha384 (toLe 4 Config.bootRomVersion ++ toLe 4 (m.rd Reg.secFwMin_min))
  | 2 => m.sec.fwHash
  | 3 => if m.str.force = [] then zero else slice 0 m.str.force 28 48
  | 4 => match m.flash.owner with
    | some o => Config.sha384 o.block
    | none => zero
  | 5 => Config.sha384 [m.rd Reg.secStatus_secLock, m.rd Reg.secStatus_owned, ofB (decide (m.stage = 15))]
  | 6 => Config.sha384 (toLe 128 (m.fuseRec 88) ++ toLe 128 (m.fuseRec 89))
  | 7 => Config.sha384 (toLe 4 (m.rd Reg.secFwVersion_securityVersion) ++ toLe 4 (m.rd Reg.secStructMin_min))
  | 8 => Config.sha384 ((List.range 24).map (fun w => toLe 4 (m.rd Reg.secKaPub_word [w]))).flatten
  | _ => []

/-- A signed answer: a nonce the part draws, and the alias key's signature over request nonce and answer. -/
def Module.spdmSigned (m : Module) (t code : Nat) (nonce body : List Nat) : Module :=
  let (a, m1) := m.draw 128
  let (b, m2) := m1.draw 128
  let full := body ++ toLe 16 a ++ toLe 16 b
  m2.spdmReply t code (full ++ Config.aliasSign (nonce ++ full))

/-- CHALLENGE. -/
def Module.spdmChallenge (m : Module) (t slot : Nat) (nonce : List Nat) : Module :=
  m.spdmServe t 3 (fun m => if slot ≠ 0 then m.spdmReply t 0x7F [0x01, 0]
    else m.spdmSigned t 0x03 nonce (Config.spdmBody 0x03 m.sec.fwHash))

/-- GET_MEASUREMENTS: one index, every index (0xFF), or how many there are (0) (R468). -/
def Module.spdmMeasure (m : Module) (t index : Nat) (nonce : List Nat) : Module :=
  m.spdmServe t 3 (fun m =>
    if index = 0 then m.spdmSigned t 0x60 nonce [8]
    else if index = 0xFF then m.spdmSigned t 0x60 nonce ([1, 2, 3, 4, 5, 6, 7, 8].map (fun i => i :: m.measurement i)).flatten
    else if index ≤ 8 then m.spdmSigned t 0x60 nonce (index :: m.measurement index)
    else m.spdmReply t 0x7F [0x01, 0])

/-! ### CRC engines (R469, R470) -/

/-- CRC_CTL written: its RW fields, and with GO a run; ignored while BUSY. -/
def Module.crcGo (m : Module) (e v : Nat) : Module :=
  let go := bitB v 31
  let busy := m.rdB Reg.crcStatus_busy [e]
  if go && busy then m.set1 Reg.crcStatus_ignored [e]
  else
    let m1 := (((m.wr Reg.crcCtl_srcHost (bit v 30) [e]).wr Reg.crcCtl_refin (bit v 29) [e]).wr Reg.crcCtl_refout (bit v 28) [e]).wr
      Reg.crcCtl_width v [e]
    if !go then m1
    else
      let two := fun (lo hi : Fld) => m1.rd lo [e] + 2 ^ 32 * m1.rd hi [e]
      let host := bitB v 30
      let src := two Reg.crcSrcLo_value Reg.crcSrcHi_value
      let len := two Reg.crcLenLo_value Reg.crcLenHi_value
      let run : CrcRun :=
        { host := host, refin := bitB v 29, refout := bitB v 28, width := v % 128, poly := two Reg.crcPolyLo_value Reg.crcPolyHi_value
          init := two Reg.crcInitLo_value Reg.crcInitHi_value, xorout := two Reg.crcXoroutLo_value Reg.crcXoroutHi_value
          src := if host then src else src % 2 ^ 48, len := len, peek := if host then [] else m1.dev.bytes (src % 2 ^ 48) len }
      ({ m1 with crc := SMap.ins e run m1.crc } : Module).set1 Reg.crcStatus_busy [e]

/-- A run's parameters are within R469. -/
def CrcRun.paramOk (r : CrcRun) : Bool :=
  decide (1 ≤ r.width ∧ r.width ≤ 64) && decide (r.poly < 2 ^ r.width ∧ r.init < 2 ^ r.width ∧ r.xorout < 2 ^ r.width)

/-- The RESULT of a run over its bytes (R469). -/
def CrcRun.result (r : CrcRun) (b : List Nat) : Nat := crc r.width r.poly r.init r.xorout r.refin r.refout b

/-- CRC_RUN_END: RESULT and DONE, or ERR. `host`: the bytes of a host range, if the reads succeeded. What was written to the
range during the run may or may not have been read: RESULT is then free (R470). -/
def Module.crcEnd (m : Module) (e : Nat) (host : Option (List Nat)) : Module :=
  match SMap.find? m.crc e with
  | none => m
  | some r =>
    let m0 := ({ m with crc := SMap.del e m.crc } : Module).clr Reg.crcStatus_busy [e]
    let fail := fun (x : Module) (c : Nat) => x.wr Reg.crcStatus_err c [e]
    let give := fun (x : Module) (v : Nat) =>
      (((x.wr Reg.crcResultLo_value v [e]).wr Reg.crcResultHi_value (v / 2 ^ 32) [e]).set1 Reg.crcStatus_done [e]).wr Reg.crcStatus_err 0 [e]
    if !r.paramOk then fail m0 1
    else if r.host then
      match host with
      | none => fail m0 4
      | some b => give m0 (r.result (slice 0 b 0 r.len))
    else if m.rd Reg.memHostRegion_size256m * 2 ^ 28 < r.src + r.len ∨ m.rangeOk r.src r.len = false then fail m0 2
    else
      let (b, bad, m1) := m0.devBytes 0 r.src r.len
      if bad then fail m1 3
      else if b = r.peek then give m1 (r.result b)
      else
        let (v, m2) := m1.draw r.width
        give m2 v

/-- CTX_SEL written: CTX_ID, and with LATCH_VIEW the descriptor copied (R165). -/
def Module.ctxSel (m : Module) (v : Nat) (errs : List (Nat × Nat)) : Module :=
  let m1 := m.wr Reg.ctxSel_ctxId v
  if bitB v 31 then m1.latchView errs else m1

end Sys2Proof.Machine
end

