-- ==== Sys2Proof/Machine/Views.lean ====
section
/-! DEFINITION. Register words as a read finds them: fields whose home is typed state are views of it; then the error log's
record window, the fault pin, proof tests, the moraine record's store and snapshots (R408, R415 to R425). -/

namespace Sys2Proof.Machine

/-! ### Fields that show typed state -/

/-- Furthest booked slot, in rounds from now (ADM_STATUS.BOOKED_AHEAD). -/
def Module.bookedAhead (m : Module) : Nat :=
  maxN (m.adm.blocks.map (fun b => ceilDiv (b.start + b.len) 64)) - m.hub.round

/-- Site serving Tine index i, 0x7F for none (MOR_SUBST, R129, R130). -/
def Module.serves (m : Module) (i : Nat) : Nat := (m.substOf 72 i) % 128

/-- Bits of the sites that meet a condition, in word w. -/
def siteMap (w : Nat) (p : Nat → Bool) : Nat :=
  (((List.range 32).filter (fun i => decide (32 * w + i < 72) && p (32 * w + i))).map (fun i => 2 ^ i)).foldl (· + ·) 0

/-- How many contexts meet a condition. -/
def Module.ctxCount (m : Module) (p : Nat → Ctx → Bool) : Nat := (m.ctx.table.filter (fun (q : Nat × Ctx) => p q.1 q.2)).length

/-- The fields that read typed state, by base offset and lowest bit, with what they show. -/
def viewTable : List (Nat × Nat × (Module → List Nat → Nat)) :=
  let i0 := fun (l : List Nat) => l.headD 0
  let mor := fun (f : Module → List Nat → Nat) => fun (m : Module) l => if m.stage < 4 ∨ m.stage = 15 then 0 else f m l
  [(0x120, 0, fun m _ => m.hub.round),
   (0x310, 16, fun m _ => m.ctx.fabricBinds.length),
   (0x310, 0, fun m _ => ceilDiv m.staged (2 ^ 20)),
   (0x10002C, 16, fun m l => (m.queue (i0 l)).binds.length),
   (0x200100, 16, fun m _ => m.ctxCount (fun c x => (x.state = 3 || x.state = 4) && m.hot c x)),
   (0x200100, 0, fun m _ => m.ctxCount (fun c x => x.state ≠ 0 && decide (c ≠ 0xFFFF))),
   (0x200104, 16, fun m _ => m.ctxCount (fun _ x => x.state = 4)),
   (0x200104, 0, fun m _ => sumN (m.ctx.table.map (fun (p : Nat × Ctx) => if p.2.pin = 2 then (m.sitesOf p.2).length else 0))),
   (0x200120, 0, fun m _ => m.bindUsed),
   (0x300000, 0, fun m _ => m.bookedAhead),
   (0x300010, 0, fun m _ => m.adm.accepted),
   (0x300084, 0, fun m _ => sumN ((List.range 4).map (fun q => m.copyLoad m.hub.round q))),
   (0x300088, 16, fun m _ => m.fillBooked 1 m.hub.round + m.fillBooked 2 m.hub.round),
   (0x300088, 0, fun m _ => m.fillBooked 0 m.hub.round),
   (0x301000, 24, fun m l => (m.committed (i0 l)).1),
   (0x301000, 16, fun m l => (m.committed (i0 l)).2),
   (0x400050, 0, fun m l => (m.tine (i0 l)).cycles),
   (0x400058, 0, fun m l => (m.tine (i0 l)).passes),
   (0xE00044, 0, fun m _ => m.pair.left / 1600),
   (0xEC0018, 0, fun m _ => m.opsec),
   (0xE00200, 0, fun m _ => m.pair.witness.length),
   (0xF20024, 0, fun m _ => SMap.get 0 m.saf.snapCopy (4 * m.rd Reg.snapSel_offset)),
   (0xF40000, 16, mor (fun m _ => ((List.range 72).filter (fun s => m.siteState s = 0 && (m.tine s).tested)).length)),
   (0xF40000, 8, mor (fun m _ => ((List.range 72).filter (fun s => m.siteState s = 5)).length)),
   (0xF40000, 0, mor (fun m _ => ((List.range 72).filter (fun s => m.siteState s = 2 || m.siteState s = 3)).length)),
   (0xF40010, 0, mor (fun m l => siteMap (i0 l) (fun s => m.siteState s = 0))),
   (0xF40020, 0, mor (fun m l => siteMap (i0 l) (fun s => m.siteState s = 5))),
   (0xF40100, 31, mor (fun m l => ofB (decide (72 ≤ m.serves (i0 l)) || decide (m.siteState (m.serves (i0 l)) = 5)))),
   (0xF40100, 0, fun m l => if m.stage < 4 then i0 l else m.serves (i0 l)),
   (0xF40200, 16, mor (fun m _ => m.dataLanesLeft)),
   (0xF40200, 0, mor (fun m _ => m.clockLanesLeft)),
   (0xF40204, 16, mor (fun m _ => (m.saf.mor.bundles.filter (fun (p : Nat × Nat) => p.2 = 1)).length)),
   (0xF40204, 0, mor (fun m _ => (m.saf.mor.bundles.filter (fun (p : Nat × Nat) => p.2 = 2)).length)),
   (0xF40208, 16, mor (fun m _ => m.fibresLeft)),
   (0xF40208, 8, mor (fun m _ => m.lasersLeft)),
   (0xF40208, 0, mor (fun m _ => m.saf.mor.slots.length)),
   (0xF4020C, 0, mor (fun m _ => m.rd Reg.morSramRows_rowsUsed)),
   (0xF40210, 0, mor (fun m _ => m.rd Reg.morSramArrays_arraysExhausted)),
   (0xF40214, 0, mor (fun m _ => 512 - m.saf.mor.queues))]

/-- A field as a read returns it: WO fields read 0. -/
def Module.readField (m : Module) (f : Fld) (idx : List Nat) : Nat :=
  if f.ty = .wo then 0
  else match viewTable.find? (fun v => v.1 = f.base && v.2.1 = f.lo) with
    | some v => v.2.2 m idx % 2 ^ f.width
    | none => m.rd f idx

/-- The instance numbers under which an offset from a register's base falls, outermost first. -/
def instanceAt : List (Nat × Nat) → Nat → Option (List Nat)
  | [], 0 => some []
  | [], _ => none
  | (s, n) :: t, r => if s = 0 ∨ n ≤ r / s then none else (instanceAt t (r % s)).map (fun l => r / s :: l)

/-- The register at a word offset of BAR0 and its instance (R472). -/
def regAt (off : Nat) : Option (RegRow × List Nat) :=
  Reg.rows.findSome? (fun r => if off < r.base then none else (instanceAt r.strides (off - r.base)).map (fun l => (r, l)))

/-- Fields of a register put together. -/
def Module.packFields (m : Module) (fs : List Fld) (idx : List Nat) : Nat :=
  (fs.map (fun f => m.readField f idx * 2 ^ f.lo)).foldl (· + ·) 0

/-- The word a read of a BAR0 offset returns; 0 where no register lies (R473). -/
def Module.readWord (m : Module) (off : Nat) : Nat :=
  match regAt (off / 4 * 4) with
  | some (r, idx) => m.packFields r.fields idx
  | none => 0

/-! ### The log and the fault pin (R408, R416, R417) -/

/-- The 64 bytes of a record (R417). -/
def LogRec.bytes (r : LogRec) : List Nat :=
  let b := [r.cls, r.event, r.severity * 64 + ofB r.snapTaken * 32 + ofB r.reqValid * 16, r.suppressed] ++ toLe 4 r.seq ++
    toLe 6 r.round ++ [0, 0] ++ toLe 6 r.opsec ++ [0, 0] ++ [r.source, 0] ++ toLe 2 r.sub ++ toLe 2 r.ctxId ++ toLe 2 r.cid ++
    toLe 2 (ofB r.fabric * 2 ^ 15 + r.queue % 2 ^ 14) ++ toLe 6 r.addr ++
    slice 0 ((r.detail.map (fun d => toLe 4 d)).flatten) 0 16 ++ toLe 4 r.faultId
  b ++ toLe 4 (crc32c b)

/-- SAF_LOG_SEL written: INDEX, and with LATCH the slot copied into the record window (R416). -/
def Module.logSel (m : Module) (v : Nat) : Module :=
  let m1 := m.wr Reg.safLogSel_index v
  if bitB v 31 then
    let b := match SMap.find? m.saf.log (v % 1024) with
      | some r => r.bytes
      | none => []
    iter 16 (fun i m => m.wr Reg.safLogData_word (leAt b (4 * i) 4) [i]) m1
  else m1

/-- SAF_LOG_RD written: host software has read up to this slot (R416). -/
def Module.logRead (m : Module) (v : Nat) : Module :=
  if v % 1024 = m.rd Reg.safLogRd_rd then m
  else (m.wr Reg.safLogRd_rd v).wr Reg.safStatus_unread ((m.rd Reg.safLogWr_wr + 1024 - v % 1024) % 1024)

/-- The unread records. -/
def Module.unread (m : Module) : List LogRec :=
  (List.range (m.rd Reg.safStatus_unread)).filterMap (fun i => SMap.find? m.saf.log ((m.rd Reg.safLogRd_rd + i) % 1024))

/-- SAF_CTL written (R408): FAULT_PIN_CLR releases the pin when no unread record holds it. -/
def Module.faultPinClr (m : Module) (v : Nat) : Module :=
  if bitB v 0 && m.rdB Reg.safStatus_faultPin && !(m.unread.any (fun r => r.pin || decide (r.severity = sevFatal))) then
    (m.clr Reg.safStatus_faultPin).emit (.pin 0 true)
  else m

/-! ### Proof tests and the moraine record (R415, R422) -/

/-- The request number under which a proof test of a site stands in the calendar. -/
def proofReq (s : Nat) : Nat := 2 ^ 40 + s

/-- The period in rounds (SAF_PROOF_CTL): values outside 20 to 28 act as 24. -/
def Module.proofPeriod (m : Module) : Nat :=
  let p := m.rd Reg.safProofCtl_periodLog2
  2 ^ (if 20 ≤ p ∧ p ≤ 28 then p else 24)

/-- PROOF_TEST: the block of a Tine comes up; its engine test passes or fails, and so does the forced check of the Cirque that
falls due with it. `bad`: the checker of the Cirque that did not report its forced error. -/
def Module.proofTest (m : Module) (s : Nat) (pass : Bool) (bad : Option Nat) : Module :=
  match m.adm.blocks.find? (fun b => b.req = proofReq s && decide (b.start ≤ 64 * m.hub.round + 63)) with
  | none => m
  | some b =>
    let m1 : Module := { m with adm := { m.adm with blocks := m.adm.blocks.filter (fun x => x ≠ b) } }
    if !m.rdB Reg.safProofCtl_en ∨ m.siteState s ≠ 2 then m1
    else
      let m2 :=
        if pass then m1.count Reg.safProofStatus_passes
        else
          let (f, m2) := (m1.count Reg.safProofStatus_fails).newFault
          ((m2.logRec { LogRec.of 0x15 0 sevDegraded s s with faultId := f }).retire s 0 f).alerts
      match bad with
      | none => m2
      | some k => (m2.count Reg.safProofStatus_fails).report (LogRec.of 0x15 0 sevFatal 0x74 k)

/-- MORAINE_WRITE (R422). -/
def Module.moraineWrite (m : Module) : Module := { m with flash := { m.flash with mor := m.saf.mor } }

/-! ### Snapshots (R424, R425) -/

/-- SNAP_IN: a rising edge held while PIN_EN is 1. -/
def Module.snapIn (m : Module) : Module := if m.rdB Reg.snapCtl_pinEn then m.snapTrigger 1 0 else m

/-- SNAP_CTL's RW fields. -/
def Module.snapFields (m : Module) (v : Nat) : Module :=
  ((m.wr Reg.snapCtl_minSev (bitsOf v 5 4)).wr Reg.snapCtl_outEn (bit v 1)).wr Reg.snapCtl_pinEn (bit v 0)

/-- SNAP_CTL written with TRIGGER. -/
def Module.snapReg (m : Module) (v : Nat) : Module :=
  let m1 := m.snapFields v
  if bitB v 31 then m1.snapTrigger 2 0 else m1

/-- SNAP_CTL written with REARM. -/
def Module.snapRearm (m : Module) (v : Nat) : Module :=
  let m1 := m.snapFields v
  if bitB v 30 then m1.clr Reg.snapStatus_held else m1

/-- Every instance of a register. -/
def instances : List (Nat × Nat) → List (List Nat)
  | [] => [[]]
  | (_, n) :: t => ((List.range n).map (fun i => (instances t).map (fun l => i :: l))).flatten

/-- Registers without a snapshot copy: the MSI-X table and pending bits, the CTX_ view, the RTE_ tables, PAIR_REDIRECT and the
SAF_LOG_ window (R425). -/
def unlatched (base : Nat) : Bool :=
  decide (0x8000 ≤ base ∧ base < 0x11000) || decide (0x200000 ≤ base ∧ base < 0x200100) || decide (0xB41000 ≤ base ∧ base < 0xB50000) ||
  decide (0xE01000 ≤ base ∧ base < 0xE02000) || decide (0xF00040 ≤ base ∧ base < 0xF00080)

/-- What a snapshot holds: by offset, the RO and W1C fields of every latched register; an offset not listed reads 0. -/
def Module.snapWords (m : Module) : SMap Nat :=
  (Reg.rows.filter (fun r => !(unlatched r.base))).foldl (fun (acc : SMap Nat) r =>
    let fs := r.fields.filter (fun f => f.ty = .ro || f.ty = .w1c)
    if fs = [] then acc
    else (instances r.strides).foldl (fun (acc : SMap Nat) idx =>
      SMap.put 0 (r.base + strideOff r.strides idx) (m.packFields fs idx) acc) acc) []

/-- A connection's die is out of service: its registers keep their last values. -/
def Module.dieAbsent (m : Module) (c : Nat) : Bool :=
  decide (m.domain (if c < 72 then 72 + c else if c < 88 then 72 + c else 80 + c) ≠ 2)

/-- SNAP_LATCH: every die latches on one edge, `cycle` fabric cycles into the round. -/
def Module.snapLatch (m : Module) (cycle : Nat) : Module :=
  match m.saf.snapTrig with
  | none => m
  | some (src, seq) =>
    let m1 : Module := { m with saf := { m.saf with snapTrig := none, snapCopy := m.snapWords } }
    let m2 := ((m1.set1 Reg.snapStatus_held).wr Reg.snapStatus_source src).wr Reg.snapSeq_seq seq
    let m3 := ((m2.wr Reg.snapRoundLo_round m.hub.round).wr Reg.snapRoundHi_cycle (cycle % 8192)).wr Reg.snapRoundHi_round (m.hub.round / 2 ^ 32)
    let m4 := iter 3 (fun w m => m.wr Reg.snapAbsent_bits
      (((List.range 32).filter (fun i => decide (32 * w + i < 90) && m1.dieAbsent (32 * w + i))).map (fun i => 2 ^ i)).sum [w]) m3
    if m4.rdB Reg.snapCtl_outEn then (m4.emit (.pin 1 true)).emit (.pin 1 false) else m4

/-- SNAP_CONFIRM_TIMEOUT: a die has not confirmed the latch. -/
def Module.snapAbsent (m : Module) (c : Nat) : Module :=
  if m.rdB Reg.snapStatus_held ∧ c < 90 then m.wrBit Reg.snapAbsent_bits (c % 32) true [c / 32] else m

end Sys2Proof.Machine
end

