-- ==== Sys2Proof/Machine/Routing.lean ====
section
/-! DEFINITION. Packets that arrive: those for this package (R238, R269, R325, R330, R338, R344), those in transit (R328, R337 to
R342), partner quotes and windows (R238), the package's ID (R345) and the routing tables (R336). -/

namespace Sys2Proof.Machine

/-! ### Arrival (R328 to R331, R344) -/

/-- The packet is consumed here (R328). -/
def Module.isMine (m : Module) (k : Pkt) : Bool :=
  decide (k.dst / 64 = 0x3FFF) || (decide (m.own ≠ 0x3FFF) && decide (k.dst / 64 = m.own))

/-- The packet at the head of port p's VC v, when it is for this package and carries the opcode. -/
def Module.forUs (m : Module) (p v op : Nat) : Option Pkt :=
  match m.headPkt p v with
  | some k => if decide (k.op = op) && m.isMine k then some k else none
  | none => none

/-- A packet leaves the receive buffer, passes the epoch filter and joins its message; `f` acts on the whole message: header,
bytes, whether a granule is poisoned. Where `f` cannot take it yet the packet stays. -/
def Module.consume (m : Module) (p v op : Nat) (f : Module → Pkt → List (Nat × Nat) → Option Module) : Module :=
  match m.forUs p v op with
  | none => m
  | some k =>
    let (ok, m0) := (m.popPkt p v).epochOk k
    let m1 : Module := if k.srcPair = 0x3FFF ∨ !ok then m0 else { m0 with rte := { m0.rte with
      peers := SMap.ins (k.src / 64) (k.srcPeer, k.epoch) m0.rte.peers } }
    if !ok then m1
    else match m1.assemble k with
      | (some (h, gs), m2) => (f m2 h gs).getD m
      | (none, m2) => m2

/-- A packet delivered too late for what it serves (R325). -/
def Module.lateCopy (m : Module) (p : Nat) : Module := m.count Reg.fabDuplicates_count 1 [p]

/-! ### Subscribers and resumed requests (R386, R395 to R398) -/

/-- An active member serves a package's packet for a hot context: the package joins the subscriber list, newest last, which
keeps the 4,096 served last within 4,096 rounds (R396). -/
def Module.subscribe (m : Module) (pkg : Nat) (cs : List Nat) : Module :=
  if (m.pairState = 3 ∨ m.pairState = 4) ∧ cs.any (fun c => decide ((m.ctxOf c).pairing = 1)) then
    let l := m.pair.subs.filter (fun x => decide (x.1 ≠ pkg) && decide (m.hub.round ≤ x.2 + 4096)) ++ [(pkg, m.hub.round)]
    { m with pair := { m.pair with subs := l.drop (l.length - 4096) } }
  else m

/-- What tells a REQ record's request: its queue and SQ index, or its source endpoint (R386). -/
def ReqCopy.key (c : ReqCopy) : Nat :=
  if bitsOf (c.bytes.getD 1 0) 5 4 = 1 then 2 ^ 40 + leAt c.bytes 4 4 % 2 ^ 20 else leAt c.bytes 4 4 % 2 ^ 30

/-- The copy a serving member holds of a request, by key and CID or TAG. -/
def Module.copyOf (m : Module) (key tag : Nat) : Option ReqCopy :=
  if m.silent then none else m.pair.reqs.find? (fun c => decide (c.key = key) && decide (leAt c.bytes 8 2 = tag))

/-- The deadline of a copied request, in fabric cycles of this module (R395). -/
def Module.copyDeadline (m : Module) (c : ReqCopy) : Nat :=
  match m.pair.closed with
  | some (_, own, cycle) => 8192 * own + cycle + leAt c.bytes 10 6 * 8 / 5 - 960
  | none => 8192 * m.hub.round

/-- A hot request as it goes on here (R395, R397): from NEXT_STAGE with ITER, its deadline as counted, its held bytes to be
released after the next boundary. A class other than PAIR does not cover the switch-over (R240). -/
def Module.resumedReq (m : Module) (c : ReqCopy) (r : Req) : Req :=
  let b := c.bytes
  let d := m.copyDeadline c
  let us := if d < 1600 * r.budgetUs then d / 1600 else r.budgetUs
  let acc := d - 1600 * us
  let st := b.getD 16 0 % 64
  let fin := bitB (b.getD 1 0) 6
  let rel := leAt b 20 3
  { r with
    counted := true, phase := if fin then 2 else 1, final := fin, stage := st, budgetUs := us, accRound := acc / 8192, accCycle := acc % 8192
    iters := if leAt b 18 2 = 0 then [] else [(st, leAt b 18 2)]
    released := rel, maxEnd := leAt b 24 3, outAll := c.outs, charged := m.pair.switchId.toList, cls := bitsOf (b.getD 1 0) 3 2, uncovered := decide (bitsOf (b.getD 1 0) 3 2 ≠ 0), bound := m.hub.round + 4
    points := [{ round := m.hub.round, fin := fin, grans := c.outs.filter (fun (g : Nat × Nat) => decide (rel < 16 * g.1 + 16)), endOff := leAt b 24 3 }] }

/-- A copied request's block in this module's rounds: its slots, or the first free ones (R395). -/
def Module.resumedBlock (m : Module) (c : ReqCopy) (r : Req) : Block :=
  let b := c.bytes
  let len := max 1 (leAt b 34 2)
  let at' : Int := match m.pair.closed with
    | some (k, own, _) => (own : Int) + (leAt b 28 4 : Int) - (((k + 1) % 2 ^ 32 : Nat) : Int)
    | none => (m.hub.round : Int)
  let want := 64 * at'.toNat + b.getD 32 0 % 64
  let sites := ((r.ctxs.map (fun c => m.sitesOf (m.ctxOf c))).flatten).eraseDups
  let now := 64 * m.hub.round
  let start := (m.firstSlot sites none [] false false len (now + 2 ^ 18) (2 ^ 18) (max want now)).getD now
  { req := r.resumeKey, sites := sites, start := start, len := len, copy := 0, ports := [], bound := m.hub.round + 4,
    pairs := sites.map (fun s => (s, m.counting s)) }

/-- The calendars and the contexts take up a copied request; its copy is used. -/
def Module.resumeReq (m : Module) (c : ReqCopy) (r : Req) : Module :=
  let m1 : Module := { m with adm := { m.adm with blocks := m.adm.blocks ++ [m.resumedBlock c r] }
                              pair := { m.pair with reqs := m.pair.reqs.filter (fun x => x ≠ c) } }
  r.ctxs.foldl (fun m c =>
    let x := m.ctxOf c
    (m.setCtx c { x with state := 4, inFlight := x.inFlight + 1 }).askFills c) m1

/-! ### Requests and replies (R237, R269, R330) -/

/-- The entry of a fabric request as it is read: list and device flags and both addresses are ignored (R269). -/
def fabricEntry (b : List Nat) : List Nat :=
  let e := slice 0 b 0 64
  [e.getD 0 0, e.getD 1 0 % 4 + e.getD 1 0 / 64 * 64] ++ slice 0 e 2 18 ++ List.replicate 8 0 ++ slice 0 e 28 4 ++
    List.replicate 8 0 ++ slice 0 e 40 24

/-- What a fabric request's entry completes with at once, if anything (R255, R269). -/
def Module.fabricBad (m : Module) (e b : List Nat) (poisoned : Bool) : Option Compl :=
  if !isReq e then some (denied 0x15 (ent e 4 2))
  else (m.reqBad m.ctx.fabricBinds e [(0, b.length - 64)] [(0, ent e 40 3)]).orElse (fun _ =>
    if poisoned then some (Compl.of 0x07 0x18 0 0) else none)

/-- FABRIC_REQUEST: a REQUEST message joins the fabric ingress queue and what may be taken is taken. It stays in the receive
buffer while the ingress is stopped or the staging pool is full. -/
def Module.fabricRequest (m : Module) (p v cycle : Nat) : Module :=
  if m.rte.leaving.isSome || m.rdB Reg.safStatus_fatalLatched || m.silent then m
  else m.consume p v 0x01 (fun m h gs =>
    let (b, bad) := msgBytes h.len gs
    if b.length < 64 then some (m.count Reg.rteBadHeader_count)
    else
      let e := fabricEntry b
      let r0 := reqOf 0 e
      let r : Req := { r0 with origin := 1, peerPkg := h.src / 64, tag := h.tag, vc := h.tc, budgetUs := h.rem / 1000,
                               input := slice 0 (b.drop 64) 0 r0.inLen }
      let push := fun (m : Module) (r : Req) =>
        let f : Fetched := { entry := e, req := r, inSegs := [], extra := [], ready := true, taken := false }
        ({ m with host := { m.host with ingress := m.host.ingress ++ [f] } } : Module).arbitrate cycle
      match m.copyOf (2 ^ 40 + h.src) h.tag with
      | some c => some (((m.resumeReq c r).count Reg.pairReqResent_count).acceptReq (m.resumedReq c r) cycle)
      | none =>
        match m.fabricBad e b bad with
        | some c => some (push m { r with result := some c })
        | none =>
          if stagePool < m.staged + m.stageSpace e then none
          else some (push (m.subscribe (h.src / 64) r.ctxs) { r with staged := m.stageSpace e }))

/-- The request of this module that a reply answers: a partner's, found by the low half of its number. -/
def Module.awaiting (m : Module) (pkg tag : Nat) : Option Nat :=
  (m.host.reqs.find? (fun (q : Nat × Req) => decide (q.1 % 65536 = tag) && decide (q.2.phase = 1) &&
    q.2.quotes.any (fun x => x.1 = pkg || m.redirect x.1 = pkg))).map Prod.fst

/-- The sub-requests of request id for a package sent again, to where they are redirected now (R396, R398). -/
def Module.resendSub (m : Module) (id pkg : Nat) : Module :=
  match m.req? id with
  | none => m
  | some r =>
    (r.quotes.filter (fun q => decide (q.1 = pkg))).foldl (fun m q =>
      (m.sendSub id r q).count Reg.pairReqResent_count) m

/-- REPLY: a partner's completion entry. A failure that only says that a pair's member cannot be reached is tried again at its
peer (R396). Any other failure ends the request it serves with the partner's status; a success leaves it
to the request's own stages. A reply that nothing awaits is a duplicate (R325). -/
def Module.replyPacket (m : Module) (p v : Nat) : Module :=
  m.consume p v 0x02 (fun m h gs =>
    let (b, _) := msgBytes h.len gs
    match m.awaiting (h.src / 64) h.tag with
    | none => some (m.lateCopy p)
    | some id =>
      let st := leAt b 4 1
      let far := leAt b 8 4 % 2 ^ 14
      if b.length < 16 ∨ st = 0 ∨ st = 6 ∨ st = 0x0B ∨ st = 0x0C then some m
      else match if st = 0x09 then m.learnRedirect far else none with
      | some m1 => some (m1.resendSub id far)
      | none => some ((m.stopAll id).complete id (Compl.of st (leAt b 6 2) (leAt b 8 4) (leAt b 12 4))))

/-! ### Quotes and sub-requests (R238) -/

/-- QUOTE, received in a cycle of the round: number and counted durations of a partner's slices; quotes older than two rounds are
forgotten. -/
def Module.quotePacket (m : Module) (p number : Nat) (durations : List Nat) (cycle : Nat) : Module :=
  m.consume p 0 0x04 (fun m h _ =>
    let now := m.hub.round
    let q : Quote := { pkg := h.src / 64, ctx := h.ctx, number := number % 65536, durations := durations, window := now + 2,
                       sent := now, cycle := cycle, place := (0, 0, 0), claimed := false }
    let keep := m.adm.quotesIn.filter (fun x => decide (now ≤ x.sent + 2) &&
      !(decide (x.pkg = q.pkg) && decide (x.ctx = q.ctx) && decide (x.number = q.number)))
    some (({ m with adm := { m.adm with quotesIn := keep ++ [q] } } : Module).subscribe q.pkg [h.ctx]))

/-- The mark of a held window in its block's request field. -/
def windowKey (number : Nat) : Nat := 2 ^ 41 + number

/-- A sub-request admitted in the window it claims, without a further decision (R238); a context not yet placed takes the placement
that the window counts, once its banks are free (R173). -/
def Module.admitSub (m : Module) (w : Quote) (r : Req) : Module :=
  let id := m.host.nextReq
  let blk := m.adm.blocks.find? (fun b => b.req = windowKey w.number)
  let m1 : Module := { m with
    adm := { m.adm with
      windows := m.adm.windows.map (fun (x : Quote) => if x.pkg = w.pkg ∧ x.number = w.number then { x with claimed := true } else x)
      blocks := m.adm.blocks.map (fun (b : Block) => if b.req = windowKey w.number then { b with req := id } else b) }
    host := { m.host with nextReq := id + 1, reqs := SMap.ins id { r with
      counted := true, phase := 1, cls := m.protection r.ctxs (bitB r.flags 0)
      bound := match blk with
        | some b => b.bound
        | none => m.hub.round } m.host.reqs } }
  r.ctxs.foldl (fun m c =>
    let x := m.ctxOf c
    let m' := m.setCtx c { x with state := 4, inFlight := x.inFlight + 1 }
    let usable := match m'.tset w.place.1 with
      | some t => decide (m'.window c x t w.place.2.1 = some w.place.2.2)
      | none => false
    if !x.placed && usable then m'.placeAt c w.place.1 w.place.2.1 w.place.2.2 else (m'.place? c).getD m') m1

/-- SUBREQ: a home's sub-request. Its operands are the fields that the spec names but does not lay out: quote number, CID,
seed, flat index, output capacity, input. -/
def Module.subreqPacket (m : Module) (p v number cid seed flat outCap : Nat) (input : List Nat) (cycle : Nat) : Module :=
  if m.rte.leaving.isSome || m.rdB Reg.safStatus_fatalLatched || m.silent || !m.rdB Reg.admStatus_running then m
  else m.consume p v 0x05 (fun m h gs =>
    let src := h.src / 64
    let bad := gs.any (fun g => g.2 ≠ 0)
    let r : Req := { Req.blank with
      origin := 1, cid := cid % 65536, chain := [h.ctx], ctxs := [h.ctx], tag := h.tag, vc := h.tc, budgetUs := h.rem / 1000
      seed := seed % 2 ^ 32, flat := flat % 2 ^ 32, outCap := outCap, input := input, inLen := input.length, peerPkg := src
      accRound := m.hub.round, accCycle := cycle }
    match m.adm.windows.find? (fun w => decide (w.pkg = src) && decide (w.number = number % 65536) && decide (w.ctx = h.ctx) && !w.claimed) with
    | some w => match (m.ctxBad [h.ctx] [h.ctx]).orElse (fun _ => if bad then some (Compl.of 0x07 0x18 0 0) else none) with
      | none => some ((m.subscribe src [h.ctx]).admitSub w r)
      | some c => some (m.sendReply r c)
    | none => some ((m.countReject 0xB).sendReply r (rejectBudget 0xB 0)))

/-- HELD_WINDOW_EXPIRY: a window that nothing claimed within 2 rounds of its quote is released, with the fills booked for it. -/
def Module.windowExpiry (m : Module) (number : Nat) : Module :=
  match m.adm.windows.find? (fun w => w.number = number) with
  | none => m
  | some w =>
    if w.claimed then { m with adm := { m.adm with windows := m.adm.windows.filter (fun x => x ≠ w) } }
    else if m.hub.round < w.sent + 2 then m
    else
      let left := m.adm.windows.filter (fun x => x ≠ w)
      let used := left.any (fun x => x.ctx = w.ctx) || m.ctx.fills.any (fun f => f.ctx = w.ctx) || decide ((m.ctxOf w.ctx).inFlight ≠ 0)
      { m with adm := { m.adm with
          windows := left, blocks := m.adm.blocks.filter (fun b => b.req ≠ windowKey number)
          fillBooks := if used then m.adm.fillBooks else m.adm.fillBooks.filter (fun b => b.ctx ≠ w.ctx) } }

/-! ### Stream packets (R111, R113, R327) -/

/-- STREAM_PACKET: the granules of a partner's slice go to the Tine that the destination endpoint names, under substitution.
With no request of the context left they are discarded as duplicates (R325). -/
def Module.streamPacket (m : Module) (p v fromSlice : Nat) : Module :=
  m.consume p v 0x03 (fun m h gs =>
    let s := m.substOf 72 (h.dst % 64)
    let x := m.ctxOf h.ctx
    let part := (List.range x.remote.length).find? (fun i =>
      let r := x.remote.getD i (0, 0)
      decide (r.1 = h.src / 64) || decide (m.redirect r.1 = h.src / 64))
    let sl := (List.range x.sliceCount).find? (fun i => decide (m.siteOf x i = some s))
    let d := (m.tine s).seq.disp
    let run := if d.ctx = h.ctx ∧ m.rdB Reg.tineSeqStatus_stageActive [s] then some (d.req, d.stage, d.attempt)
      else (m.host.reqs.find? (fun (q : Nat × Req) => decide (q.2.phase = 1) && decide (q.2.ctx = h.ctx))).map
        (fun q => (q.1, q.2.stage, q.2.attempt))
    match part, sl, run with
    | some i, some dst, some (id, st, at') =>
      let m1 := m.subscribe (h.src / 64) [h.ctx]
      some { m1 with mesh := m1.mesh ++ gs.map (fun (g : Nat × Nat) =>
        { ctx := h.ctx, src := 0x10000 + 256 * i + fromSlice, dst := dst, chan := h.tag % 16, req := id, stage := st,
          attempt := at', data := g.1, synd := g.2 }) }
    | _, _, _ => some (m.lateCopy p))

/-! ### Transit (R328, R330, R337, R339, R341, R342) -/

/-- A packet with no route is counted; a request's sender hears of the package it cannot reach (R263, R339). -/
def Module.noRoute (m : Module) (k : Pkt) : Module :=
  let m1 := m.count Reg.rteNoRoute_count
  if (k.op = 0x01 ∨ k.op = 0x05) ∧ k.offset = 0 then
    let cid := if k.op = 0x01 then (k.data.headD (0, 0)).1 / 2 ^ 16 % 2 ^ 16 else 0
    let b := toLe 16 (complEntry cid 0 0 0 (Compl.of 0x09 0 (k.dst / 64) 0))
    match m1.sendMsg (k.src / 64) 0 0 0x02 k.tc k.ctx k.tag k.rem 16 (grans b) none with
    | some m2 => m2
    | none => m1.count Reg.rteNoRoute_count
  else m1

/-- PACKET_FORWARD: a packet for another package leaves on the port that the tables give. An unassigned package discards it; a
packet for this package whose opcode is reserved is discarded here; a standby sends its pair's work on to the active (R396). -/
def Module.packetForward (m : Module) (p v : Nat) : Module :=
  match m.headPkt p v with
  | none => m
  | some k =>
    let m1 := m.popPkt p v
    if m.isMine k then
      if k.op = 0 ∨ 8 < k.op then m1.count Reg.rteBadHeader_count
      else if m.pairState = 2 ∧ (k.op = 0x01 ∨ k.op = 0x03 ∨ k.op = 0x05) then
        (match m1.routePkt { k with dst := m.rd Reg.pairIds_peerPkg * 64 + k.dst % 64 } (m.role p = 1) with
         | some m2 => m2.count Reg.rteTransitPkts_count
         | none => m1.noRoute k)
      else m
    else if m.own = 0x3FFF then m1.count Reg.rteNoRoute_count
    else match m1.routePkt k (m.role p = 1) with
      | some m2 => if k.hops + 1 > 6 then m2 else m2.count Reg.rteTransitPkts_count
      | none => m1.noRoute k

/-- MESSAGE_REASSEMBLY_TIMEOUT: a partial message of a source endpoint, tag and VC is given up; a reply's request meets a
link fault (R331). -/
def Module.reassemblyTimeout (m : Module) (src tag vc : Nat) : Module :=
  match m.rte.parts.find? (fun (x : Partial) => x.src = src && x.tag = tag && x.vc = vc) with
  | none => m
  | some x =>
    let m1 := ({ m with rte := { m.rte with parts := m.rte.parts.filter (fun y => y ≠ x) } } : Module).count Reg.rteNoRoute_count
    if x.hdr.op = 0x02 then
      (match m1.awaiting (src / 64) tag with
       | some id => let (f, m2) := m1.newFault
                    m2.linkFault f id
       | none => m1)
    else m1

/-! ### Notices (R338) -/

/-- NOTICE: a member of the own group reports its path to a member or a group down or up. -/
def Module.noticePacket (m : Module) (p : Nat) (group : Bool) (target : Nat) (down : Bool) : Module :=
  m.consume p 0 0x08 (fun m h _ =>
    let n := (h.src / 64 % 32, group, target)
    let rest := m.rte.notices.filter (fun x => x ≠ n)
    some ({ m with rte := { m.rte with notices := if down then rest ++ [n] else rest } } : Module).routesChanged)

/-- NOTICE_SEND: firmware tells the group what lies behind a port that has left or come back to UP, and resends the standing
down notices when the port is local. -/
def Module.noticeSend (m : Module) (p : Nat) : Module :=
  let (g, t) := m.behind p
  let st := m.linkState p
  if m.role p = 0 ∨ m.role p = 3 ∨ 64 ≤ p ∨ m.rd Reg.fabLinkStatus_peerPkg [p] = 0x3FFF then m
  else if st = 2 then
    let m1 := if m.rte.sent.elem (g, t) then m.sendNotice g t false else m
    if m1.role p = 1 then m1.rte.sent.foldl (fun m x => m.sendNotice x.1 x.2 true) m1 else m1
  else if (st = 0 ∨ st = 4) ∧ !m.rte.sent.elem (g, t) then m.sendNotice g t true
  else m

/-! ### The package's ID (R345) -/

/-- Every port in UP reinitialises. -/
def Module.reinitAll (m : Module) : Module := (List.range 64).foldl (fun m p => m.reinitAsk p) m

/-- FABRIC_JOIN. -/
def Module.fabricJoin (m : Module) (e : List Nat) : Module :=
  m.mgmt 0x90 e (fun m cid =>
    let g := ent e 40 2
    let n := e.getD 42 0
    let id := 32 * g + n
    if 511 < g ∨ 31 < n ∨ id = 0x3FFF then m.finish 0 cid (mgmtStatus 0x0F)
    else if m.rdB Reg.rteId_assigned then m.finish 0 cid (mgmtStatus 0x86)
    else if (List.range 64).any (fun p => decide (m.linkState p = 2) && decide (m.rd Reg.fabLinkStatus_peerPkg [p] = id)) then
      m.finish 0 cid (mgmtStatus 0x87)
    else (((m.wr Reg.rteId_pkgId id).set1 Reg.rteId_assigned).reinitAll).finish 0 cid Compl.done)

/-- FABRIC_LEAVE: fabric ingress stops until every accepted fabric request has completed. A second one waits. -/
def Module.fabricLeave (m : Module) (e : List Nat) : Module :=
  if m.rte.leaving.isSome then m
  else m.mgmt 0x91 e (fun m cid =>
    if !m.rdB Reg.rteId_assigned then m.finish 0 cid (mgmtStatus 0x86)
    else if m.pairState ≠ 0 then m.finish 0 cid (mgmtStatus 0x88)
    else { m with rte := { m.rte with leaving := some (0, cid) } })

/-- FABRIC_LEAVE_DONE. -/
def Module.fabricLeft (m : Module) : Module :=
  match m.rte.leaving with
  | none => m
  | some (q, cid) =>
    if m.host.reqs.any (fun (x : Nat × Req) => x.2.origin = 1) || !m.host.ingress.isEmpty then m
    else (((({ m with rte := { m.rte with leaving := none } } : Module).wr Reg.rteId_pkgId 0x3FFF).clr Reg.rteId_assigned).reinitAll).finish
      q cid Compl.done

/-! ### Tables and counters (R228, R240, R304, R336, R341) -/

/-- RTE_COMMIT: the shadow tables take effect at the next round boundary. -/
def Module.rteCommit (m : Module) : Module := m.set1 Reg.rteStatus_commitPending

/-- SHADOW_TABLE_WRITE: table 0 group, 1 local, 2 and 3 the low and the high word of the exception table. DESIGN CHOICE: the whole word is
one RW field (R11), so the bits that R333 to R335 reserve inside an entry read back as written; R12 alone would read them as 0. -/
def Module.shadowWrite (m : Module) (table i v : Nat) : Module :=
  if m.rdB Reg.rteStatus_commitPending then m.set1 Reg.rteStatus_ignoredWrite
  else match table with
    | 0 => if i < 512 then m.wr Reg.rteGroupSh_word v [i] else m
    | 1 => if i < 32 then m.wr Reg.rteLocalSh_word v [i] else m
    | 2 => if i < 1024 then m.wr Reg.rteExcSh_lo v [i] else m
    | 3 => if i < 1024 then m.wr Reg.rteExcShHi_hi v [i] else m
    | _ => m

/-- A field's instances listed in the register store moved to another field (the shadow tables become those in force). -/
def Module.copyField (m : Module) (src dst : Fld) (n : Nat) : Module :=
  iter n (fun i m => m.wr dst (m.rd src [i]) [i]) m

/-- The ports by which a request's partners are reached. -/
def Module.partnerPorts (m : Module) (r : Req) : List (Option Nat) :=
  r.quotes.map (fun q => m.tableRoute (m.redirect q.1) (2 + (m.ctxOf r.ctx).latClass) false false)

/-- The commit at a round boundary (R336): a request whose routes it changes meets a link fault (R413). -/
def Module.commitTables (m : Module) : Module :=
  if m.rdB Reg.rteStatus_commitPending then
    let m1 := (((((m.copyField Reg.rteGroupSh_word Reg.rteGroup_word 512).copyField Reg.rteLocalSh_word Reg.rteLocal_word 32).copyField
      Reg.rteExcSh_lo Reg.rteExc_lo 1024).copyField Reg.rteExcShHi_hi Reg.rteExcHi_hi 1024).clr Reg.rteStatus_commitPending).routesChanged
    let hit := (m.host.reqs.filter (fun (x : Nat × Req) => x.2.counted && decide (m.partnerPorts x.2 ≠ m1.partnerPorts x.2))).map Prod.fst
    if hit = [] then m1
    else
      let (f, m2) := m1.newFault
      m2.charge f (fun id _ => hit.elem id)
  else m

/-- Several counters cleared. -/
def Module.clrs (m : Module) (fs : List Fld) (i : List Nat) : Module := fs.foldl (fun m f => m.wr f 0 i) m

/-- RTE_CLR_ALL. -/
def Module.rteClr (m : Module) : Module :=
  m.clrs [Reg.rteNoRoute_count, Reg.rteBadHeader_count, Reg.rteHopLimit_count, Reg.rteDetoured_count, Reg.rteEpochDiscards_count,
    Reg.rteTransitPkts_count] []

/-- FAB_CLR_ALL. -/
def Module.fabClr (m : Module) (p : Nat) : Module :=
  if p < 64 then
    m.clrs [Reg.fabCrcErr_count, Reg.fabNakSent_count, Reg.fabReplayedFlits_count, Reg.fabAckTimeouts_count, Reg.fabAckErr_count,
      Reg.fabDuplicates_count, Reg.fabCodeCorr_count, Reg.fabCodeCheckfield_count, Reg.fabBudgetZero_count, Reg.fabFlushedPkts_count,
      Reg.fabMapChanges_count, Reg.fabCreditLeaks_count] [p]
  else m

/-- ADM_CNT_CLR_PEAK. -/
def Module.clrPeak (m : Module) : Module := m.clr Reg.admCopyPeak_peakBytes

/-- ADM_CNT_CLR_REASONS. -/
def Module.clrReasons (m : Module) : Module := iter 12 (fun i m => m.wr Reg.admRejReason_count 0 [i]) m

/-- ADM_CNT_CLR_OUTCOMES. -/
def Module.clrOutcomes (m : Module) : Module :=
  ({ m with adm := { m.adm with accepted := 0 } } : Module).clrs [Reg.admRejected_count, Reg.admLate_count, Reg.admLateSecond_count,
    Reg.admLateUnprot_count, Reg.admLateUnexplained_count, Reg.admThrottleHeld_count] []

end Sys2Proof.Machine
end

