-- ==== Sys2Proof/Machine/Pairing.lean ====
section
/-! DEFINITION. Pairs (R377 to R402): forming and leaving, the lease and its witness, failing fast, claiming, handover, and
switch-over. What a round's delta holds stands in Delta.lean. -/

namespace Sys2Proof.Machine

/-! ### States and records (R381, R420) -/

/-- The peer's package ID. -/
def Module.peer (m : Module) : Nat := m.rd Reg.pairIds_peerPkg

/-- The witness's package ID. -/
def Module.witnessPkg (m : Module) : Nat := m.rd Reg.pairIds_witnessPkg

/-- The pair ID: the lower of the members' package IDs (R379). -/
def Module.pairId (m : Module) : Nat := min m.own m.peer

/-- PAIR_STATUS.STATE set. -/
def Module.setPair (m : Module) (st : Nat) : Module := m.wr Reg.pairStatus_state st

/-- A pairing event: its bit and its record, DEGRADED for SWITCHOVER, STANDBY_LOST and CKPT_LOST (R420). -/
def Module.pairEvent (m : Module) (f : Fld) : Module :=
  (m.set1 f).report ((LogRec.of 0x13 f.lo (if f.lo = 0 ∨ f.lo = 4 ∨ f.lo = 7 then sevDegraded else sevInfo) 0x78 m.peer).at 0
    [m.rd Reg.pairEpoch_epoch])

/-- Both ports of the pairing link are UP (R379). -/
def Module.pairLinkUp (m : Module) : Bool := decide (m.linkState 62 = 2) && decide (m.linkState 63 = 2)

/-- The lease count starts again with t fabric cycles left (R389). -/
def Module.setLease (m : Module) (t : Nat) : Module :=
  ({ m with pair := { m.pair with left := t, fenced := decide (t ≤ 25600) } } : Module).set1 Reg.pairStatus_leaseHeld

/-- The lease is no longer held. -/
def Module.dropLease (m : Module) : Module :=
  ({ m with pair := { m.pair with left := 0, fenced := false } } : Module).clr Reg.pairStatus_leaseHeld

/-- Fabric cycles of the 256 us lease. -/
def leaseCycles : Nat := 256 * 1600

/-! ### Lease messages (R388) -/

/-- The 32 bytes of a lease message. -/
def Lease.bytes (b : Lease) : List Nat :=
  [b.msg % 256, 0] ++ toLe 2 b.pair ++ toLe 2 b.sender ++ [0, 0] ++ toLe 4 b.epoch ++ toLe 4 b.seq ++ toLe 4 b.value ++ toLe 2 b.succ ++
    List.replicate 10 0

/-- A lease message read. -/
def leaseOf (b : List Nat) : Lease :=
  { msg := b.getD 0 0, pair := leAt b 2 2, sender := leAt b 4 2, epoch := leAt b 8 4, seq := leAt b 12 4, value := leAt b 16 4,
    succ := leAt b 20 2 }

/-- A lease message sent on VC7: to the peer on the pairing link, else by the routing tables. -/
def Module.sendLease (m : Module) (dst : Nat) (b : Lease) : Module :=
  let (tag, m1) := m.newTag
  let port := [62, 63].find? (fun p => m.usable p)
  if dst = 0x3FFF then m
  else match (if dst = m.peer then port else none) with
  | some p => m1.sendOn p 0x07 7 tag b.bytes
  | none => match m1.sendMsg dst 0 0 0x07 7 0 tag (2 ^ 32 - 1) 32 (grans b.bytes) none with
    | some m2 => m2
    | none => m1.count Reg.rteNoRoute_count

/-- A lease message of this member, under a new SEQ. -/
def Module.lease (m : Module) (msg value succ : Nat) : Lease × Module :=
  let q := (m.pair.seq + 1) % 2 ^ 32
  ({ msg := msg, pair := m.pairId, sender := m.own, epoch := m.rd Reg.pairEpoch_epoch, seq := q, value := value, succ := succ },
   { m with pair := { m.pair with seq := q } })

/-- A lease message sent to a package and kept for repetition: `left` repeats, or until answered. -/
def Module.leaseRep (m : Module) (dst msg value succ : Nat) (left : Option Nat) : Module :=
  let (b, m1) := m.lease msg value succ
  let m2 := m1.sendLease dst b
  let r : LeaseRep := { dst := dst, body := b, left := left }
  { m2 with pair := { m2.pair with reps := m2.pair.reps ++ [r] } }

/-- Messages of a kind are answered: they are repeated no longer. -/
def Module.answered (m : Module) (msg : Nat) : Module :=
  { m with pair := { m.pair with reps := m.pair.reps.filter (fun r => r.body.msg ≠ msg) } }

/-- A witness's or a standby's answer. -/
def Module.replyLease (m : Module) (dst pair msg epoch seq value succ : Nat) : Module :=
  m.sendLease dst { msg := msg, pair := pair, sender := m.own, epoch := epoch, seq := seq, value := value, succ := succ }

/-- A LEASE packet of a kind at the head of port p's VC7 is consumed and acts. -/
def Module.takeLease (m : Module) (p msg : Nat) (f : Module → Lease → Pkt → Module) : Module :=
  m.consume p 7 0x07 (fun m h gs =>
    let b := leaseOf (msgBytes h.len gs).1
    if b.msg = msg then some (f m b h) else none)

/-! ### Leaving service (R381, R389, R392) -/

/-- Packets of this member that have not begun on a fibre are discarded, on the VCs outside `keep` (R381, R392). -/
def Module.dropQueued (m : Module) (keep : List Nat) : Module :=
  { m with links := m.links.map (fun (x : Nat × Link) =>
      let l : Link := { x.2 with queue := x.2.queue.map (fun (q : Nat × List Pkt) =>
        (q.1, if keep.elem q.1 then q.2 else q.2.filter (fun k => decide (k.src / 64 ≠ m.own)))) }
      (x.1, l)) }

/-- QUERY and ACQUIRE are repeated no longer; what else repeats goes on. -/
def Module.askNoMore (m : Module) : Module :=
  { m with pair := { m.pair with reps := m.pair.reps.filter (fun r => decide (r.body.msg ≠ 0x06 ∧ r.body.msg ≠ 0x01)) } }

/-- Work not released is given up: no completion goes out (R381). -/
def Module.discardWork (m : Module) : Module :=
  let m1 := m.host.reqs.foldl (fun m (x : Nat × Req) => (m.stopAll x.1).complete x.1 (Compl.of 0x0E 0 0 0)) m
  { m1 with host := { m1.host with ingress := [] } }

/-- The member enters FENCED: it no longer holds the lease and asks the witness who does. -/
def Module.toFenced (m : Module) : Module :=
  let m1 := ((((m.dropLease).setPair 6).clr Reg.pairStatus_formed).dropQueued [1, 7]).discardWork
  let m2 : Module := { m1 with pair := { m1.pair with unacked := [], announces := [], handover := none, mods := [] } }
  if m2.rdB Reg.safStatus_fatalLatched then m2 else m2.leaseRep m2.witnessPkg 0x06 0 0x3FFF none

/-- SELF_FENCE: the last 16 us of the lease count: nothing is released (R389). -/
def Module.selfFence (m : Module) : Module :=
  if (m.pairState = 3 ∨ m.pairState = 4) ∧ !m.pair.fenced then
    ({ m with pair := { m.pair with left := min 25600 m.pair.left, fenced := true } } : Module).pairEvent Reg.pairEvents_selfFence
  else m

/-- LEASE_EXPIRY: the lease count has ended. -/
def Module.leaseExpiry (m : Module) : Module := if m.pairState = 3 ∨ m.pairState = 4 then m.toFenced else m

/-- The steps of R392 on a member that holds the lease. -/
def Module.failFastSteps (m : Module) : Module :=
  if (m.pairState = 3 ∨ m.pairState = 4) ∧ m.rdB Reg.pairStatus_leaseHeld then
    let m1 := m.dropQueued []
    let m2 := (m1.leaseRep m1.peer 0x09 0 0x3FFF (some 3)).leaseRep m1.witnessPkg 0x09 0 0x3FFF (some 3)
    let m3 := m2.leaseRep m2.witnessPkg 0x05 0 0x3FFF (some 3)
    (m3.pairEvent Reg.pairEvents_failFastTx).toFenced
  else m

/-- FAIL_FAST_EVENT: a FATAL event. Class 0x16 or 0x15 names a Cirque table or checker and writes its record; with another class
the event is one whose record stands already. -/
def Module.failFastEvent (m : Module) (cls sub : Nat) (detail : List Nat) : Module :=
  if cls = 0x16 ∨ cls = 0x15 then (m.report ((LogRec.of cls 0 sevFatal 0xFF sub).at 0 detail)).failFastSteps
  else if m.rdB Reg.safStatus_fatalLatched then m.failFastSteps else m

/-! ### Losing the standby, claiming (R387, R394) -/

/-- The active declares its standby lost. -/
def Module.standbyLost (m : Module) : Module :=
  if m.pairState ≠ 3 then m
  else
    let m0 := ((m.setPair 4).clr Reg.pairStatus_formed).pairEvent Reg.pairEvents_standbyLost
    let m1 := m0.chargeAll m0.sameFault
    { m1 with pair := { m1.pair with handover := none } }

/-- PAIR_HANDOVER refused (R402). -/
def Module.handoverRefused (m : Module) : Module :=
  let m1 : Module := { m with pair := { m.pair with handover := none, cmd := match m.pair.cmd with
    | some (1, _, _) => none
    | c => c } }
  match m.pair.cmd with
  | some (1, q, cid) => m1.finish q cid (mgmtStatus 0x8D)
  | _ => m1

/-- The standby claims: it acknowledges no more renewals and asks the witness (R394). -/
def Module.claim (m : Module) : Module :=
  if m.pairState ≠ 2 then m
  else
    let m1 := (m.handoverRefused.setPair 5).clr Reg.pairStatus_formed
    let m2 : Module := { m1 with pair := { m1.pair with expired := false, renewed := false } }
    m2.leaseRep m2.witnessPkg 0x06 0 0x3FFF none

/-- A member enters JOINING; what it holds of the delta stream stays. -/
def Module.toJoining (m : Module) : Module :=
  let m1 := (((m.setPair 1).clr Reg.pairStatus_formed).dropLease).askNoMore
  { m1 with pair := { m1.pair with granted := none, expired := false, renewed := false } }

/-- STANDBY_LOSS: 3 rounds have passed beyond the boundary of a round whose delta is not acknowledged. -/
def Module.standbyLoss (m : Module) : Module :=
  if m.pair.unacked.any (fun d => decide (d.round + 4 ≤ m.hub.round)) then m.standbyLost else m

/-- PAIRING_PORT_DOWN: port 62 or 63 is not UP. The active loses its standby; a standby claims when both are down, else it
joins again. -/
def Module.pairingPortDown (m : Module) (p : Nat) : Module :=
  if (p ≠ 62 ∧ p ≠ 63) ∨ m.linkState p = 2 then m
  else if m.pairState = 3 then m.standbyLost
  else if m.pairState = 2 then
    (if m.linkState 62 ≠ 2 ∧ m.linkState 63 ≠ 2 then m.claim else m.toJoining)
  else m.clr Reg.pairStatus_formed

/-- CLOSE_TIMEOUT: no CLOSE for 2 consecutive rounds of the active. -/
def Module.closeTimeout (m : Module) : Module := m.claim

/-- FAIL_FAST received: a standby claims; the witness waits for the RELEASE that follows. -/
def Module.failFastRx (m : Module) (p : Nat) : Module :=
  m.takeLease p 0x09 (fun m b _ =>
    if m.pairState = 2 ∧ b.sender = m.peer then (m.pairEvent Reg.pairEvents_failFastRx).claim else m)

/-- DETACH received: the active's standby leaves. -/
def Module.detach (m : Module) (p : Nat) : Module :=
  m.takeLease p 0x0B (fun m b _ => if b.sender = m.peer then m.standbyLost else m)

/-! ### Serving (R381, R395, R396, R402) -/

/-- A member starts to serve with an epoch: it holds the lease, and every context draws a new nonce base (R465). -/
def Module.serve (m : Module) (st epoch : Nat) : Module :=
  let m1 := (((m.setPair st).wr Reg.pairEpoch_epoch epoch).setLease leaseCycles).askNoMore
  { m1 with sec := { m1.sec with ctxNonce := [] }
            pair := { m1.pair with granted := none, expired := false, renewed := false, bound := false
                                   synced := m1.pair.synced && decide (st = 3) } }

/-- The active's numbering is from now on this module's own: what was acknowledged before counts as the round that ended, since
nothing of this numbering is outstanding (R395, R402). -/
def Module.ownNumbering (m : Module) : Module :=
  { m.wr Reg.pairAcked_roundAcked ((m.hub.round + 2 ^ 32 - 1) % 2 ^ 32) with pair := { m.pair with unacked := [], outSent := [] } }

/-- ANNOUNCE to every subscriber and to the witness, each under its own SEQ (R396). -/
def Module.announceAll (m : Module) : Module :=
  ((m.pair.subs.map Prod.fst) ++ [m.witnessPkg]).foldl (fun m pkg =>
    let (b, m1) := m.lease 0x0A 0 m.own
    let m2 := m1.sendLease pkg b
    { m2 with pair := { m2.pair with announces := m2.pair.announces ++ [(pkg, b.seq, 1)] } }) m

/-- A mirrored SQ entry at a switch-over, when it is no copied hot request (R397): hot and sealed requests are taken again,
unpaired work is lost, and what the standby executed completes. -/
def Module.mirroredAt (m : Module) (y : Mirrored) (lists : List HostLists) : Module :=
  let e := y.entry
  let cid := ent e 2 2
  let pairing := (m.ctxOf (ent e 4 2)).pairing
  let (li, lo) := match lists.find? (fun h => h.queue = y.queue && h.idx = y.idx) with
    | some h => (h.ins, h.outs)
    | none => ([], [])
  let lost := m.finish y.queue cid (Compl.of 0x0E 0 0 0)
  if isReq e then
    let (ins, outs) := m.segsOf e li lo
    let r0 := { reqOf y.queue e with outSegs := outs }
    let push := fun (m : Module) (r : Req) =>
      let f : Fetched := { entry := e, req := r, inSegs := ins, extra := [], ready := decide (r.inLen = 0), taken := true }
      m.modQueue y.queue (fun q => { q with fetched := q.fetched ++ [f] })
    match m.pair.reqs.find? (fun c => decide (c.key = y.queue * 65536 + y.idx)) with
    | some c => push (m.resumeReq c r0) (m.resumedReq c r0)
    | none => if pairing = 0 then lost else push m { r0 with uncovered := decide (pairing = 2) }
  else match e.getD 0 0 with
    | 3 => if m.ctx.loads.any (fun (l : Nat × Load) => l.2.queue = y.queue && l.2.cid = cid) then m
           else m.finish y.queue cid (Compl.of 0 0 (ent e 4 2) 0)
    | 6 => m.query y.queue cid (ent e 4 2) (e.getD 8 0) (e.getD 1 0) (ent e 16 8)
    | 7 => m.cancel y.queue cid (ent e 8 2)
    | _ => if pairing = 0 then lost else m.finish y.queue cid Compl.done

/-- Sealed contexts go on from the newest checkpoint shipped here, or latch where none opens (R399, R400, R465). -/
def Module.openCkpts (m : Module) : Module :=
  m.ctx.table.foldl (fun m (x : Nat × Ctx) =>
    if x.2.pairing ≠ 2 ∨ x.2.state = 0 then m
    else match SMap.find? m.pair.ckptIn x.1 with
      | none => m.latch x.1
      | some b => match Config.aesGcmOpen (m.sealKey x.1) (leAt b 0 8 * 2 ^ 32 + leAt b 8 4) (b.drop 12) with
        | none => m.latch x.1
        | some plain => m.devWriteBytes (x.2.kvGranules + 1) x.2.kvAddr (plain.take (16 * x.2.kvGranules))) m

/-- The standby's copied state taken up: mirrored entries and checkpoints (R395, R397, R399); the device's own context restarts
from the device's own checkpoint (R183). -/
def Module.takeOver (m : Module) (lists : List HostLists) : Module :=
  let ys := m.pair.mirrored
  let m1 : Module := { m with pair := { m.pair with mirrored := [], named := [], delta := [], early := [], copyIn := [] } }
  let m2 := (ys.foldl (fun m y => m.mirroredAt y lists) m1).openCkpts
  { m2 with pair := { m2.pair with reqs := m2.pair.reqs.filter (fun c => 2 ^ 40 ≤ c.key), devStarts := m2.pair.devStarts + 1 } }

/-- SWITCHOVER_START: the first boundary after a claimant's GRANT (R395). -/
def Module.switchover (m : Module) (lists : List HostLists) : Module :=
  match m.pair.granted with
  | none => m
  | some e =>
    if m.pairState ≠ 5 then m
    else
      let m1 := ((m.serve 4 e).count Reg.pairSwitchovers_count).pairEvent Reg.pairEvents_switchover
      ((({ m1 with pair := { m1.pair with switchId := some m1.sameFault } } : Module).announceAll).takeOver lists).ownNumbering

/-- The standby of a clean handover becomes the active (R402). -/
def Module.handoverDone (m : Module) (epoch : Nat) (lists : List HostLists) : Module :=
  let m0 := m.serve 3 epoch
  let m1 := ((({ m0 with pair := { m0.pair with switchId := none } } : Module).announceAll).takeOver lists).ownNumbering
  let m2 := ({ m1 with pair := { m1.pair with handover := none } } : Module).pairEvent Reg.pairEvents_handoverDone
  match m2.pair.cmd with
  | some (1, q, cid) => ({ m2 with pair := { m2.pair with cmd := none } } : Module).finish q cid Compl.done
  | _ => m2

/-- The active's round now, as the standby counts it from its newest CLOSE. -/
def Module.activeRound (m : Module) : Nat :=
  match m.pair.closed with
  | some (k, own, _) => (k + 1 + (m.hub.round - own)) % 2 ^ 32
  | none => m.hub.round % 2 ^ 32

/-- The standby asks for a handover at the active's current round plus 4. -/
def Module.askHandover (m : Module) : Module :=
  let h := (m.activeRound + 4) % 2 ^ 32
  let (b, m1) := m.lease 0x0C h 0x3FFF
  let m2 := m1.sendLease m1.peer b
  { m2 with pair := { m2.pair with handover := some h } }

/-- PAIR_HANDOVER. -/
def Module.pairHandover (m : Module) (e : List Nat) : Module :=
  m.mgmt 0xA2 e (fun m cid =>
    if m.pairState = 0 then m.finish 0 cid (mgmtStatus 0x8C)
    else if m.pairState ≠ 2 ∨ m.pair.handover.isSome then m.finish 0 cid (mgmtStatus 0x8D)
    else ({ m with pair := { m.pair with cmd := some (1, 0, cid) } } : Module).askHandover)

/-- AUTO_HANDOVER: 10 s as STANDBY have passed on the preferred active. -/
def Module.autoHandover (m : Module) : Module :=
  if m.pairState = 2 ∧ m.rdB Reg.pairStatus_preferredActive ∧ m.pair.handover.isNone then m.askHandover else m

/-- HANDOVER_REQ: the active agrees unless it has a fault: a FATAL event latched or FAULT_N held low (R402). -/
def Module.handoverReq (m : Module) (p : Nat) : Module :=
  m.takeLease p 0x0C (fun m b _ =>
    let fault := m.rdB Reg.safStatus_fatalLatched || m.rdB Reg.safStatus_faultPin
    if m.pairState = 3 ∧ b.sender = m.peer ∧ !fault ∧ newerEpoch b.value (m.hub.round % 2 ^ 32) then
      { m with pair := { m.pair with handover := some b.value } }
    else m)

/-! ### PAIR_FORM and PAIR_DISSOLVE (R377, R378) -/

/-- The hash of R158 over the structure in force. -/
def Module.pairHash (m : Module) : List Nat :=
  Config.sha384 (([2, 4, 5, 6, 7].map (secBytes m.str.force)).flatten)

/-- IMAGE_HASH of a loaded context: header bytes 64 to 111 of its copy (R159). -/
def Module.imageHash (m : Module) (c : Nat) : List Nat := m.dev.bytes ((m.ctxOf c).imageAddr + 64) 48

/-- The first check of R378 that fails: its number and the context it names. -/
def Module.formCheck (m : Module) (peer wit role : Nat) (pref : Bool) (i : PeerInfo) : Option (Nat × Nat) :=
  let id := fun (x : Nat) => decide (x < 0x3FFF) && decide (x ≠ m.own)
  let ports := fun (f : Nat → Bool) => f 62 && f 63
  if !(m.rdB Reg.rteId_assigned && id peer && id wit && decide (peer ≠ wit)) then some (1, 0)
  else if !(ports (fun p => decide (m.role p = 3) && decide (m.linkState p = 2) && decide (m.portWidth p = 16))) then some (2, 0)
  else if !(ports (fun p => decide (m.rd Reg.firnPortLatency_oneWayPs (fp p) ≤ 600000))) then some (3, 0)
  else if !(ports (fun p => decide (m.rd Reg.fabLinkStatus_peerPkg [p] = peer))) then some (4, 0)
  else if role = 0 then none
  else if i.structHash ≠ m.pairHash then some (5, 0)
  else match i.images.find? (fun x => decide ((m.ctxOf x.1).state < 2) || decide (m.imageHash x.1 ≠ x.2)) with
    | some x => some (6, x.1)
    | none => if i.witness ≠ wit ∨ i.preferred ≠ pref then some (7, 0) else none

/-- Does a formation as active await the witness? -/
def Module.forming (m : Module) : Bool := match m.pair.cmd with
  | some (0, _, _) => true
  | _ => false

/-- PAIR_FORM. While a formation as active awaits the witness, a second one waits. -/
def Module.pairForm (m : Module) (e : List Nat) (i : PeerInfo) : Module :=
  if m.forming then m
  else m.mgmt 0xA0 e (fun m cid =>
    let peer := ent e 40 2
    let wit := ent e 42 2
    let role := bit (e.getD 44 0) 0
    let pref := bitB (e.getD 44 0) 1
    if m.pairState ≠ 0 then m.finish 0 cid (mgmtStatus 0x88)
    else match m.formCheck peer wit role pref i with
      | some (n, c) => m.finish 0 cid (Compl.of 0x89 0 n c)
      | none =>
        let m1 := ((m.wr Reg.pairIds_peerPkg peer).wr Reg.pairIds_witnessPkg wit).wr Reg.pairStatus_preferredActive (ofB pref)
        let m2 : Module := { m1 with pair := { m1.pair with gap := true, synced := false, closed := none, reqs := [], unacked := [], descs := [], outSent := [] } }
        if role = 0 then
          ({ m2 with pair := { m2.pair with cmd := some (0, 0, cid) } } : Module).leaseRep wit 0x01 0 0x3FFF none
        else
          let (n, m3) := m2.draw 32
          ((m3.setPair 1).wr Reg.pairSync_granulesLeft n).finish 0 cid Compl.done)

/-- A formation as active that failed: the command completes and the module stays UNPAIRED. -/
def Module.formFailed (m : Module) (status : Nat) : Module :=
  match m.pair.cmd with
  | some (0, q, cid) =>
    let m1 := ((m.wr Reg.pairIds_peerPkg 0x3FFF).wr Reg.pairIds_witnessPkg 0x3FFF).clr Reg.pairStatus_preferredActive
    ({ m1.askNoMore with pair := { m1.askNoMore.pair with cmd := none } } : Module).finish q cid (mgmtStatus status)
  | _ => m

/-- The member's own pairing state gone; its service as a witness and what it learned of other pairs stay (R377). -/
def Module.unpair (m0 : Module) : Module :=
  let m := m0.askNoMore
  let m1 := ((((((m.setPair 0).clr Reg.pairStatus_formed).dropLease).clr Reg.pairStatus_preferredActive).wr Reg.pairIds_peerPkg 0x3FFF).wr
    Reg.pairIds_witnessPkg 0x3FFF).clr Reg.pairEpoch_epoch
  { m1.clr Reg.pairSync_granulesLeft with pair := { m1.pair with
      granted := none, bound := false, expired := false, renewed := false, mods := [], descs := [], outSent := [], unacked := [],
      copyIn := [], delta := [], early := [], reqs := [], named := [], mirrored := [], closed := none, gap := false, synced := false,
      subs := [], announces := [], handover := none } }

/-- PAIR_DISSOLVE. -/
def Module.pairDissolve (m : Module) (e : List Nat) : Module :=
  m.mgmt 0xA1 e (fun m cid =>
    if m.pairState = 0 then m.finish 0 cid (mgmtStatus 0x8C)
    else if m.pairState = 3 then m.finish 0 cid (mgmtStatus 0x88)
    else
      let m1 := if m.rdB Reg.pairStatus_leaseHeld then m.leaseRep m.witnessPkg 0x05 0 0x3FFF (some 3)
        else if m.pairState = 1 ∨ m.pairState = 2 then (let (b, m1) := m.lease 0x0B 0 0x3FFF
                                                       m1.sendLease m1.peer b)
        else m
      m1.unpair.finish 0 cid Compl.done)

/-! ### The member's side of the lease (R389, R391, R394) -/

/-- RENEW_PERIOD: the holder renews at the witness, and at its standby. -/
def Module.renewPeriod (m : Module) : Module :=
  if (m.pairState = 3 ∨ m.pairState = 4) ∧ m.rdB Reg.pairStatus_leaseHeld then
    let (b, m1) := m.lease 0x03 0 0x3FFF
    let m2 := m1.sendLease m1.witnessPkg b
    if m2.pairState = 3 then m2.sendLease m2.peer b else m2
  else m

/-- RENEW_ACK: the newest acknowledged renewal starts the count again, `us` microseconds after that renewal was sent; an answer to
an ANNOUNCE ends its repetition. -/
def Module.renewAck (m : Module) (p us : Nat) : Module :=
  m.takeLease p 0x04 (fun m b _ =>
    if m.pair.announces.any (fun a => decide (a.1 = b.sender) && decide (a.2.1 = b.seq)) then
      { m with pair := { m.pair with announces := m.pair.announces.filter (fun a => !(decide (a.1 = b.sender) && decide (a.2.1 = b.seq))) } }
    else if (m.pairState = 3 ∨ m.pairState = 4) ∧ (b.sender = m.peer ∨ b.sender = m.witnessPkg) ∧
        (b.seq = m.pair.ackedSeq ∨ newerEpoch b.seq m.pair.ackedSeq) then
      ({ m with pair := { m.pair with ackedSeq := b.seq } } : Module).setLease (leaseCycles - 1600 * us)
    else m)

/-- A claim: ACQUIRE with VALUE 1, once the witness has reported EXPIRED and the own binding has ended (R391). -/
def Module.claimLease (m : Module) : Module :=
  if m.pair.expired && !m.pair.bound && decide (m.pairState = 5 ∨ m.pairState = 6) then
    (m.answered 0x01).leaseRep m.witnessPkg 0x01 1 0x3FFF none
  else m

/-- STANDBY_BINDING_END. -/
def Module.bindingEnd (m : Module) : Module := ({ m with pair := { m.pair with bound := false } } : Module).claimLease

/-- LEASE_GRANT (R381). -/
def Module.leaseGrant (m : Module) (p : Nat) (lists : List HostLists) : Module :=
  m.takeLease p 0x02 (fun m b _ =>
    let st := m.pairState
    if b.sender ≠ m.witnessPkg then m
    else if st = 0 then
      (match m.pair.cmd with
       | some (0, q, cid) => ({ (m.serve 4 b.epoch) with pair := { (m.serve 4 b.epoch).pair with cmd := none } } : Module).finish q cid Compl.done
       | _ => m)
    else if st = 5 then { m.answered 0x01 with pair := { (m.answered 0x01).pair with granted := some b.epoch } }
    else if st = 6 then m.serve 4 b.epoch
    else if st = 2 ∧ m.pair.handover.isSome then m.handoverDone b.epoch lists
    else m)

/-- LEASE_STATUS: HELD by the peer ends a claim once the peer's renewals have resumed, and a fenced member's waiting; EXPIRED lets a
member claim. -/
def Module.leaseStatus (m0 : Module) (p : Nat) : Module :=
  m0.takeLease p 0x07 (fun m b _ =>
    let m1 := m.answered 0x06
    let st := m1.pairState
    if b.sender ≠ m1.witnessPkg then m
    else if b.value = 0 then
      (if st = 5 ∨ st = 6 then ({ m1 with pair := { m1.pair with expired := true } } : Module).claimLease else m1)
    else if b.succ = m1.peer ∧ (st = 6 ∨ (st = 5 ∧ m1.pair.renewed)) then m1.toJoining
    else m1)

/-- DENY: a formation fails; a claimant that hears that the lease is held asks again; while the witness starts, the ACQUIRE is
repeated. -/
def Module.deny (m : Module) (p : Nat) : Module :=
  m.takeLease p 0x08 (fun m b _ =>
    if b.sender ≠ m.witnessPkg then m
    else if m.pairState = 0 then m.formFailed 0x8B
    else if (m.pairState = 5 ∨ m.pairState = 6) ∧ b.value ≠ 4 then
      let m1 := m.answered 0x01
      ({ m1 with pair := { m1.pair with expired := false } } : Module).leaseRep m1.witnessPkg 0x06 0 0x3FFF none
    else m)

/-- LEASE_MESSAGE_REPEAT: a message that is repeated on its timer goes out again; `overdue`: the witness has not answered a
formation within 1 ms (R378). -/
def Module.leaseRepeat (m : Module) (i : Nat) (overdue : Bool) : Module :=
  match m.pair.reps[i]? with
  | none => m
  | some r =>
    if overdue && r.body.msg = 0x01 && m.forming then m.formFailed 0x8A
    else match r.left with
      | none => m.sendLease r.dst r.body
      | some 0 => { m with pair := { m.pair with reps := m.pair.reps.eraseIdx i } }
      | some (n + 1) =>
        let m1 := m.sendLease r.dst r.body
        { m1 with pair := { m1.pair with reps := if n = 0 then m1.pair.reps.eraseIdx i else m1.pair.reps.set i { r with left := some n } } }

/-- ANNOUNCE_REPEAT: an announcement not acknowledged within 4 us goes out again, up to 8 times. -/
def Module.announceRepeat (m : Module) (pkg : Nat) : Module :=
  match m.pair.announces.find? (fun a => a.1 = pkg) with
  | none => m
  | some a =>
    let rest := m.pair.announces.filter (fun x => x ≠ a)
    if 9 ≤ a.2.2 then { m with pair := { m.pair with announces := rest } }
    else
      let b : Lease := { msg := 0x0A, pair := m.pairId, sender := m.own, epoch := m.rd Reg.pairEpoch_epoch, seq := a.2.1, value := 0, succ := m.own }
      let m1 := m.sendLease pkg b
      { m1 with pair := { m1.pair with announces := rest ++ [(a.1, a.2.1, a.2.2 + 1)] } }

/-- ANNOUNCE (R396, R398): a redirect to the new active, an acknowledgement, and the outstanding requests sent again. -/
def Module.announce (m : Module) (p : Nat) : Module :=
  m.takeLease p 0x0A (fun m b h =>
    let old := if b.succ = h.srcPair then h.srcPeer else h.srcPair
    let old' := if h.srcPeer = b.succ then h.srcPair else old
    let m1 := (m.writeRedirect old' b.succ b.epoch).replyLease b.sender b.pair 0x04 b.epoch b.seq 0 0x3FFF
    m1.host.reqs.foldl (fun m (x : Nat × Req) =>
      if x.2.phase = 1 ∧ x.2.quotes.any (fun q => q.1 = old') then m.resendSub x.1 old' else m) m1)

/-! ### The witness (R390) -/

/-- The epoch after one, without 0. -/
def nextEpoch (e : Nat) : Nat := if (e + 1) % 2 ^ 32 = 0 then 1 else (e + 1) % 2 ^ 32

/-- A pair's record at this witness. -/
def Module.witRec (m : Module) (pair : Nat) : Option Witness := m.pair.witness.find? (fun w => w.pair = pair)

/-- A pair's record set. -/
def Module.setWit (m : Module) (w : Witness) : Module :=
  let had := m.pair.witness.any (fun x => x.pair = w.pair)
  { m with pair := { m.pair with witness :=
      if had then m.pair.witness.map (fun (x : Witness) => if x.pair = w.pair then w else x) else m.pair.witness ++ [w] } }

/-- An epoch that a member reports while the witness starts. -/
def Module.noteEpoch (m : Module) (pair e : Nat) : Module :=
  if m.rdB Reg.pairWitnessStatus_starting then
    { m with pair := { m.pair with startEpochs := SMap.ins pair (max e (SMap.get 0 m.pair.startEpochs pair)) m.pair.startEpochs } }
  else m

/-- A grant to a member: the recorded epoch plus one. -/
def Module.grantLease (m : Module) (w : Witness) (whom : Nat) : Module :=
  let e := nextEpoch w.epoch
  let w' : Witness := { w with holder := whom, epoch := e, live := true, queried := w.queried.filter (fun x => x ≠ whom)
                               members := if w.members.elem whom then w.members else w.members ++ [whom] }
  (m.setWit w').replyLease whom w.pair 0x02 e 0 0 0x3FFF

/-- ACQUIRE. -/
def Module.acquire (m : Module) (p : Nat) : Module :=
  m.takeLease p 0x01 (fun m b _ =>
    let no := fun (m : Module) (v : Nat) => m.replyLease b.sender b.pair 0x08 0 b.seq v 0x3FFF
    if m.rdB Reg.pairWitnessStatus_starting then no (m.noteEpoch b.pair b.epoch) 4
    else match m.witRec b.pair with
      | none =>
        if b.value = 1 then no m 2
        else if 64 ≤ m.pair.witness.length then no m 3
        else m.grantLease { pair := b.pair, holder := 0x3FFF, epoch := b.epoch, live := false, members := [], queried := [] } b.sender
      | some w =>
        if !w.members.elem b.sender && decide (2 ≤ w.members.length) then no m 2
        else if w.live && decide (w.holder ≠ b.sender) then no m 1
        else m.grantLease w b.sender)

/-- The delta stream is current: it has no gap and a CLOSE came within the last two rounds (R391). -/
def Module.current (m : Module) : Bool :=
  !m.pair.gap && (match m.pair.closed with
    | some (_, own, _) => decide (m.hub.round ≤ own + 2)
    | none => false)

/-- RENEW at the witness or at the standby (R390, R391). -/
def Module.renew (m : Module) (p : Nat) : Module :=
  m.takeLease p 0x03 (fun m b _ =>
    let ack := fun (m : Module) => m.replyLease b.sender b.pair 0x04 b.epoch b.seq 0 0x3FFF
    let m1 := m.noteEpoch b.pair b.epoch
    let m2 := match m1.witRec b.pair with
      | some w =>
        if w.epoch = b.epoch ∧ (w.holder = b.sender ∨ (w.holder = 0x3FFF ∧ w.members = [])) then
          ack (m1.setWit { w with holder := b.sender, live := true, members := if w.members.elem b.sender then w.members else w.members ++ [b.sender] })
        else m1
      | none => m1
    if b.sender ≠ m2.peer then m2
    else if m2.pairState = 2 ∧ m2.current then ack { m2 with pair := { m2.pair with bound := true } }
    else if m2.pairState = 5 then
      ({ m2 with pair := { m2.pair with renewed := true } } : Module).leaseRep m2.witnessPkg 0x06 0 0x3FFF none
    else m2)

/-- STATUS EXPIRED to every member that has queried. -/
def Module.tellExpired (m : Module) (w : Witness) : Module :=
  w.queried.foldl (fun m x => m.replyLease x w.pair 0x07 w.epoch 0 0 0x3FFF) (m.setWit { w with live := false, queried := [] })

/-- LEASE_RELEASE: granted at once to a SUCCESSOR that names the peer, else to whichever member asks first. -/
def Module.leaseRelease (m : Module) (p : Nat) : Module :=
  m.takeLease p 0x05 (fun m b _ =>
    match m.witRec b.pair with
    | none => m
    | some w =>
      if w.holder ≠ b.sender ∨ w.epoch ≠ b.epoch ∨ !w.live then m
      else if b.succ ≠ 0x3FFF then m.grantLease w b.succ
      else m.tellExpired { w with holder := 0x3FFF })

/-- LEASE_QUERY, with `us` microseconds until the recorded lease expires. -/
def Module.leaseQuery (m : Module) (p us : Nat) : Module :=
  m.takeLease p 0x06 (fun m b _ =>
    match m.witRec b.pair with
    | some w =>
      if w.live then
        let q := if w.queried.elem b.sender then w.queried else w.queried ++ [b.sender]
        (m.setWit { w with queried := q }).replyLease b.sender b.pair 0x07 w.epoch (us % 2 ^ 24) 1 w.holder
      else m.replyLease b.sender b.pair 0x07 w.epoch 0 0 0x3FFF
    | none => m.replyLease b.sender b.pair 0x07 0 0 0 0x3FFF)

/-- WITNESS_LEASE_EXPIRY: 288 us have passed since the latest RENEW_ACK. -/
def Module.witnessExpiry (m : Module) (pair : Nat) : Module :=
  match m.witRec pair with
  | some w => if w.live then m.tellExpired w else m
  | none => m

/-- WITNESS_START_END: the reported epochs are taken as the pairs' (R390). -/
def Module.witnessStarted (m : Module) : Module :=
  if !m.rdB Reg.pairWitnessStatus_starting then m
  else
    let ws := (m.pair.startEpochs.take 64).map (fun (x : Nat × Nat) =>
      let w : Witness := { pair := x.1, holder := 0x3FFF, epoch := x.2, live := false, members := [], queried := [] }
      w)
    ({ m with pair := { m.pair with witness := ws, startEpochs := [] } } : Module).clr Reg.pairWitnessStatus_starting

/-- PAIR_CLR_ALL. -/
def Module.pairClr (m : Module) : Module :=
  m.clrs [Reg.pairSwitchovers_count, Reg.pairDeltaResends_count, Reg.pairGateDelays_count, Reg.pairReqResent_count, Reg.pairCkptShipped_count] []

end Sys2Proof.Machine
end

