-- ==== Sys2Proof/Machine/Delta.lean ====
section
/-! DEFINITION. A round's state delta on the pairing link (R383, R385 to R387, R399, R401): what the active sends, and what the
standby makes of each record. -/

namespace Sys2Proof.Machine

/-! ### Records sent (R385, R386) -/

/-- Bytes made up to a whole granule. -/
def padGran (b : List Nat) : List Nat := slice 0 b 0 (16 * ceilDiv b.length 16)

/-- ORIGIN_ID of a request: queue and SQ index, or source endpoint. -/
def Module.originId (m : Module) (r : Req) : Nat :=
  if r.origin = 0 then r.queue % 65536 * 65536 + SMap.get 0 m.pair.idx (r.queue % 65536 * 65536 + r.cid) else r.peerPkg * 64

/-- CID of a host request, TAG of a fabric one. -/
def Req.cidTag (r : Req) : Nat := if r.origin = 0 then r.cid else r.tag

/-- Every OUTPUT granule a request has written. -/
def Req.allOut (r : Req) : SMap Nat :=
  (r.points.map RelPoint.grans ++ [r.kept, r.held]).foldl (fun a l => l.foldl (fun (a : SMap Nat) (g : Nat × Nat) => SMap.ins g.1 g.2 a) a) r.outAll

/-- Hot requests in flight. -/
def Module.hotReqs (m : Module) : List (Nat × Req) :=
  m.host.reqs.filter (fun (x : Nat × Req) => x.2.counted && x.2.ctxs.any (fun c => decide ((m.ctxOf c).pairing = 1)))

/-- OUTPUT granules of hot requests that the standby does not have yet: key, granule offset, data, request. -/
def Module.outNew (m : Module) : List (Nat × Nat × Nat × Req) :=
  (m.hotReqs.map (fun (x : Nat × Req) => x.2.allOut.filterMap (fun (g : Nat × Nat) =>
    let k := x.1 * 2 ^ 20 + g.1
    if SMap.find? m.pair.outSent k = some g.2 then none else some (k, g.1, g.2, x.2)))).flatten

/-- An OUT record of one granule. -/
def Module.outRecord (m : Module) (o : Nat × Nat × Nat × Req) : List Nat :=
  let r := o.2.2.2
  [0x03, 0] ++ toLe 2 (r.ctxs.headD 0) ++ toLe 4 (m.originId r) ++ toLe 2 r.cidTag ++ toLe 3 (16 * o.2.1) ++ toLe 3 1 ++ toLe 16 o.2.2.1

/-- A DESC record: context, fill start round, descriptor. -/
def Module.descRecord (m : Module) (c : Nat) : List Nat :=
  let filling := m.ctx.fills.any (fun f => f.ctx = c)
  [0x04, 0] ++ toLe 2 c ++ toLe 4 (if filling then m.hub.round else 0xFFFFFFFF) ++ List.replicate 8 0 ++ m.descBytes c false

/-- The subscriber list in DESC records of CTX_ID 0xFFFF, 64 package IDs each (R396). -/
def Module.subsRecords (m : Module) : List (List Nat) :=
  (chunks 64 64 (m.pair.subs.map Prod.fst)).map (fun l =>
    [0x04, 0, 0xFF, 0xFF] ++ toLe 4 0xFFFFFFFF ++ List.replicate 8 0 ++ ((slice 0x3FFF l 0 64).map (toLe 2)).flatten)

/-- Contexts whose descriptors travel: hot and sealed ones whose descriptor has changed since it was last sent. -/
def Module.descNew (m : Module) : List Nat :=
  (m.ctx.table.filter (fun (x : Nat × Ctx) => decide (x.2.pairing = 1 ∨ x.2.pairing = 2) &&
    decide (SMap.get [] m.pair.descs x.1 ≠ m.descBytes x.1 false))).map Prod.fst

/-- The MOD record of the round, when a queue entry was taken or posted. -/
def Module.modRecord (m : Module) : List (List Nat) :=
  if m.pair.mods = [] then []
  else [padGran ([0x05, 0] ++ toLe 2 m.pair.mods.length ++ List.replicate 12 0 ++ (m.pair.mods.reverse.map (toLe 4)).flatten)]

/-- A REQ record (R386) as of the CLOSE boundary of round k. -/
def Module.reqRecord (m : Module) (k : Nat) (x : Nat × Req) : List Nat :=
  let r := x.2
  let b := m.adm.blocks.find? (fun b => b.req = x.1)
  let start := (b.map Block.start).getD 0
  let first := r.chain.length = r.ctxs.length
  let stage := if first then r.stage else 0
  [0x01, 128 * ofB (decide (r.accRound = k)) + 64 * ofB r.final + 16 * (r.origin % 4) + 4 * (r.cls % 4)] ++ toLe 2 (r.ctxs.headD 0) ++
    toLe 4 (m.originId r) ++ toLe 2 r.cidTag ++ toLe 6 ((r.deadline - 8192 * (k + 1)) * 5 / 8) ++ [stage % 64, 0] ++
    toLe 2 (if first then SMap.get 0 r.iters stage else 0) ++ toLe 3 r.released ++ [0] ++ toLe 3 r.maxEnd ++ [0] ++ toLe 4 (start / 64) ++
    [start % 64, 0] ++ toLe 2 ((b.map Block.len).getD 0) ++ toLe 4 r.seed ++ toLe 4 r.flat ++ toLe 3 r.inLen ++ [0] ++ toLe 3 r.outCap ++
    List.replicate 13 0

/-- The CLOSE record of round k over its records. -/
def Module.closeRecord (m : Module) (k : Nat) (recs : List (List Nat)) : List Nat :=
  let b := recs.flatten
  let hand := match m.pair.handover with
    | some h => decide (m.pairState = 3) && decide (h = (k + 1) % 2 ^ 32)
    | none => false
  [0x0F, ofB hand] ++ List.replicate 6 0 ++ toLe 8 k ++ toLe 4 recs.length ++ toLe 4 b.length ++ toLe 4 (m.rd Reg.pairEpoch_epoch) ++
    toLe 4 (crc32c b) ++ List.replicate 32 0

/-- What is left of the delta of round k sent at its boundary, its KV records having left while it ran (R230), and after its CLOSE
every older delta not yet acknowledged, once again in full (R387). A member that serves alone sends it while the pairing link
carries it, for a peer that catches up. -/
def Module.sendDelta (m : Module) (k : Nat) : Module :=
  if m.pairState ≠ 3 ∧ m.pairState ≠ 4 then m
  else
    let outs := m.outNew
    let descs := m.descNew
    let subs := m.subsRecords
    let recs := (m.ctx.kvWrites.reverse.map kvRecord) ++ outs.map m.outRecord ++ descs.map m.descRecord ++
      (if subs.flatten = SMap.get [] m.pair.descs 0xFFFF then [] else subs) ++ m.modRecord ++ m.hotReqs.map (m.reqRecord k)
    let bytes := recs.flatten ++ m.closeRecord k recs
    let m1 := m.copyOut k ((recs.drop m.ctx.kvSent).flatten ++ m.closeRecord k recs)
    let old := m.pair.unacked.filter (fun d => !d.again)
    let m2 := old.foldl (fun m d => (m.copyOut d.round d.bytes).count Reg.pairDeltaResends_count) m1
    let d : DeltaOut := { round := k, bytes := bytes, again := false }
    let all := m.pair.unacked.map (fun (d : DeltaOut) => { d with again := true }) ++ [d]
    { m2 with
      pair := { m2.pair with
        unacked := all.drop (all.length - 64), synced := m2.pair.synced && decide (all.length ≤ 64)
        outSent := outs.foldl (fun a o => SMap.ins o.1 o.2.2.1 a) (m2.pair.outSent.filter (fun x => m2.hotReqs.any (fun r => decide (r.1 = x.1 / 2 ^ 20))))
        descs := SMap.put [] 0xFFFF subs.flatten (descs.foldl (fun a c => SMap.ins c (m.descBytes c false) a) m2.pair.descs) } }

/-! ### Records received (R385 to R387, R399) -/

/-- Bytes of the record at the head of a COPY stream; 0 where it starts with no record's TYPE. -/
def recSize (b : List Nat) : Nat :=
  match b.headD 0 with
  | 0x01 => 64
  | 0x02 => 16 + 16 * leAt b 8 4
  | 0x03 => 16 + 16 * leAt b 13 3
  | 0x04 => 144
  | 0x05 => 16 + 16 * ceilDiv (leAt b 2 2) 4
  | 0x06 => 16 + 16 * leAt b 8 4
  | 0x0E => 16
  | 0x0F => 64
  | _ => 0

/-- A COPY message whose packets lie whole at the head of a pairing port's VC1: its bytes; a poisoned one gives none. -/
def Module.pullCopy (m : Module) (p : Nat) : Nat → List Nat × Module
  | 0 => ([], m)
  | n + 1 =>
    match m.forUs p 1 0x06 with
    | none => ([], m)
    | some k =>
      let (ok, m1) := (m.popPkt p 1).epochOk k
      if !ok then Module.pullCopy m1 p n
      else match m1.assemble k with
        | (none, m2) => Module.pullCopy m2 p n
        | (some (h, gs), m2) => let (b, bad) := msgBytes h.len gs
                                (if bad then [] else b, m2)

/-- The next record of the COPY stream, when it has the TYPE: its bytes, and the module without it. Packets wait in the receive
buffer of port p until the stream needs them; what starts with no record's TYPE is dropped. -/
def Module.takeRec (m : Module) (p ty : Nat) : Option (List Nat × Module) :=
  if p ≠ 62 ∧ p ≠ 63 then none
  else
    let (b, m1) := if m.pair.copyIn = [] then m.pullCopy p (SMap.get [] (m.link p).rx 1).length else (m.pair.copyIn, m)
    let n := recSize b
    if b.headD 0 = ty ∧ n ≠ 0 ∧ n ≤ b.length then
      let rest := b.drop n
      let rn := recSize rest
      some (b.take n, { m1 with pair := { m1.pair with copyIn := if rn = 0 ∨ rest.length < rn then [] else rest } })
    else none

/-- Does this member take part in the delta stream as the one that follows? -/
def Module.follows (m : Module) : Bool := decide (m.pairState = 1 ∨ m.pairState = 2 ∨ m.pairState = 5)

/-- A record of the running round's delta, kept until its CLOSE; a member that does not follow the stream drops it. -/
def Module.deltaRecord (m : Module) (p ty : Nat) : Module :=
  match m.takeRec p ty with
  | none => m
  | some (b, m1) => if !m.follows then m1 else { m1 with pair := { m1.pair with delta := m1.pair.delta ++ [b] } }

/-- The 16 bytes of an ACK record. -/
def ackRecord (k : Nat) : List Nat := [0x0E, 0, 0, 0, 0, 0, 0, 0] ++ toLe 8 k

/-- A KV record applied to the own copy of the context's KV/state region. -/
def Module.applyKv (m : Module) (b : List Nat) : Module :=
  let x := m.ctxOf (leAt b 2 2)
  let off := leAt b 4 4
  let n := leAt b 8 4
  if x.state = 0 ∨ x.kvGranules < off + n then m else m.devWriteBytes n (x.kvAddr + 16 * off) ((b.drop 16).take (16 * n))

/-- An OUT record applied: the granules join the request's copy, which its REQ record may only bring later. -/
def Module.applyOut (m : Module) (b : List Nat) : Module :=
  let same := fun (c : ReqCopy) => decide (leAt c.bytes 4 4 = leAt b 4 4) && decide (leAt c.bytes 8 2 = leAt b 8 2)
  let old := (m.pair.reqs.find? same).getD { bytes := [0x01, 0] ++ slice 0 b 2 8 ++ List.replicate 54 0, outs := [] }
  let o := leAt b 10 3 / 16
  let c : ReqCopy := { old with outs := (List.range (leAt b 13 3)).foldl (fun (a : SMap Nat) i => SMap.ins (o + i) (leAt b (16 + 16 * i) 16) a) old.outs }
  { m with pair := { m.pair with reqs := m.pair.reqs.filter (fun x => !same x) ++ [c] } }

/-- A DESC record applied: the subscriber list, or the placement and the pin of the own context, with the fills it lacks (R383). -/
def Module.applyDesc (m : Module) (b : List Nat) : Module :=
  let c := leAt b 2 2
  let d := b.drop 16
  if c = 0xFFFF then
    let ids := ((List.range 64).map (fun i => leAt d (2 * i) 2)).filter (fun x => decide (x ≠ 0x3FFF))
    let keep := m.pair.subs.filter (fun x => !ids.elem x.1) ++ ids.map (fun i => (i, m.hub.round))
    { m with pair := { m.pair with subs := keep.drop (keep.length - 4096) } }
  else
    let x := m.ctxOf c
    let f := d.getD 3 0
    if x.state < 2 ∨ x.state = 5 ∨ x.pairing ≠ 1 then m
    else
      let m1 := m.setCtx c { x with placed := bitB f 7, pin := bitsOf f 5 3 % 4, tset := d.getD 44 0, firstRank := d.getD 45 0, bankMask := leAt d 48 8 }
      if leAt b 4 4 = 0xFFFFFFFF then m1 else m1.askFills c

/-- A MOD record applied: a TAKE names an SQ entry to read, a POST ends one. -/
def Module.applyMod (m : Module) (b : List Nat) : Module :=
  ((List.range (leAt b 2 2)).map (fun i => leAt b (16 + 4 * i) 4)).foldl (fun m x =>
    let q := bitsOf x 29 16
    let i := x % 2 ^ 16
    if x / 2 ^ 30 = 0 then { m with pair := { m.pair with named := m.pair.named ++ [(q, i)] } }
    else
      let m1 := m.wr Reg.queStatus_inFlight (m.qInFlight q - 1) [q]
      { m1 with pair := { m1.pair with mirrored := m1.pair.mirrored.filter (fun y => !(decide (y.queue = q) && decide (y.idx = i))) } }) m

/-- A REQ record applied: the request's copy takes its bytes and keeps its output. -/
def Module.applyReq (m : Module) (b : List Nat) : Module :=
  let same := fun (c : ReqCopy) => decide (leAt c.bytes 4 4 = leAt b 4 4) && decide (leAt c.bytes 8 2 = leAt b 8 2)
  let outs := match m.pair.reqs.find? same with
    | some c => c.outs
    | none => []
  let c : ReqCopy := { bytes := b, outs := outs }
  { m with pair := { m.pair with reqs := m.pair.reqs.filter (fun x => !same x) ++ [c] } }

/-- One record applied. -/
def Module.applyRec (m : Module) (b : List Nat) : Module :=
  match b.headD 0 with
  | 0x02 => m.applyKv b
  | 0x03 => m.applyOut b
  | 0x04 => m.applyDesc b
  | 0x05 => m.applyMod b
  | 0x01 => m.applyReq b
  | _ => m

/-- A round's delta applied: a request without a REQ record is in flight no longer. -/
def Module.applyDelta (m : Module) (k : Nat) (recs : List (List Nat)) (cycle : Nat) : Module :=
  let m1 := recs.foldl (fun m b => m.applyRec b) m
  let live := fun (c : ReqCopy) => recs.any (fun b => b.headD 0 = 1 && decide (leAt b 4 4 = leAt c.bytes 4 4) && decide (leAt b 8 2 = leAt c.bytes 8 2))
  ({ m1 with pair := { m1.pair with reqs := m1.pair.reqs.filter live, closed := some (k, m1.hub.round, cycle) } } : Module).wr
    Reg.pairAcked_roundAcked k

/-- Deltas that came early are applied while they continue the newest one, at most n. -/
def Module.applyEarly (m : Module) : Nat → Module
  | 0 => m
  | n + 1 => match m.pair.closed with
    | none => m
    | some (k, _, _) => match m.pair.early.find? (fun d => d.1 = k + 1) with
      | none => { m with pair := { m.pair with early := m.pair.early.filter (fun d => decide (k < d.1)) } }
      | some (j, recs, cycle) => (m.applyDelta j recs cycle).applyEarly n

/-- A CLOSE of round k with an epoch other than the pair's, or the first one heard: the active's numbering starts afresh, and the
stream goes on with this round. -/
def Module.deltaBase (m : Module) (k epoch cycle : Nat) : Module :=
  if m.pairState ≠ 5 ∧ (m.pair.closed.isNone ∨ epoch ≠ m.rd Reg.pairEpoch_epoch) then
    { m with pair := { m.pair with early := [], closed := if k = 0 then none else some (k - 1, m.hub.round - 1, cycle) } }
  else m

/-- The delta stream has a gap: rounds beyond those the active still holds are missing, and only a bulk copy closes it (R387,
R401). -/
def Module.deltaGap (m : Module) : Module :=
  if m.pair.gap then m
  else
    let (n, m1) := m.draw 32
    ({ m1 with pair := { m1.pair with gap := true, synced := false, early := [] } } : Module).wr Reg.pairSync_granulesLeft n

/-- CLOSE_RECORD, received in a cycle of the own round: the delta is checked, applied in order and acknowledged, or discarded
(R387). Across a gap a joining member goes on with what arrives, until the bulk copy ends. -/
def Module.closeRec (m : Module) (p cycle : Nat) : Module :=
  match m.takeRec p 0x0F with
    | none => m
    | some (b, m0) =>
      if !m.follows then m0 else
      let recs := m0.pair.delta
      let all := recs.flatten
      let k := leAt b 8 8
      let m1 : Module := ({ m0 with pair := { m0.pair with delta := [] } } : Module).deltaBase k (leAt b 24 4) cycle
      if leAt b 16 4 ≠ recs.length ∨ leAt b 20 4 ≠ all.length ∨ leAt b 28 4 ≠ crc32c all then m1
      else
        let m2 := if m1.pairState = 5 then m1 else m1.wr Reg.pairEpoch_epoch (leAt b 24 4)
        let m3 := match m2.pair.closed with
          | none => m2.applyDelta k recs cycle
          | some (j, _, _) =>
            if k ≤ j then m2
            else if k = j + 1 ∨ (m2.pairState = 1 ∧ m2.pair.gap) then (m2.applyDelta k recs cycle).applyEarly 64
            else if j + 64 < k ∧ m2.pairState = 1 then m2.deltaGap.applyDelta k recs cycle
            else { m2 with pair := { m2.pair with early := m2.pair.early ++ [(k, recs, cycle)] } }
        let done := match m3.pair.closed with
          | some (j, _, _) => j
          | none => 0
        let m4 := if m3.pairState = 5 then m3 else m3.copyOut m3.hub.round (ackRecord done)
        match m4.pair.handover with
        | some h =>
          if m4.pairState = 2 ∧ ((k % 2 ^ 32 = (h + 2 ^ 32 - 1) % 2 ^ 32 ∧ !bitB (b.getD 1 0) 0) ∨ newerEpoch (k % 2 ^ 32) h) then m4.handoverRefused else m4
        | none => m4

/-- CHECKPOINT_RECORD: a shipped checkpoint becomes the newest one held whole; it is kept in the context's own area too. -/
def Module.ckptRec (m : Module) (p : Nat) : Module :=
  match m.takeRec p 0x06 with
    | none => m
    | some (b, m1) =>
      if !m.follows then m1 else
      let c := leAt b 2 2
      let x := m1.ctxOf c
      let data := (b.drop 16).take (leAt b 12 4)
      let half := 1 - SMap.get 1 m1.pair.ckptHalf c
      let room := 8 * x.ckptGranules
      if x.state = 0 ∨ x.pairing ≠ 2 then m1
      else
        let m2 := if x.ckptAddr = 0 then m1 else m1.devWriteBytes (room + 2) (x.ckptAddr + half * room) (data.take room)
        { m2 with pair := { m2.pair with ckptIn := SMap.ins c data m2.pair.ckptIn, ckptHalf := SMap.put 1 c half m2.pair.ckptHalf } }

/-- DELTA_ACK: the standby's cumulative acknowledgement. -/
def Module.deltaAck (m : Module) (p : Nat) : Module :=
  match m.takeRec p 0x0E with
    | none => m
    | some (b, m1) =>
      if m.pairState ≠ 3 ∧ m.pairState ≠ 4 then m1 else
      let k := leAt b 8 8
      let old := m1.rd Reg.pairAcked_roundAcked
      let m2 := if newerEpoch (k % 2 ^ 32) old ∨ m1.pair.unacked.any (fun d => d.round = k) then m1.wr Reg.pairAcked_roundAcked k else m1
      { m2 with pair := { m2.pair with unacked := m2.pair.unacked.filter (fun d => decide (k < d.round)) } }

/-! ### Resynchronisation (R401) and pair transitions at a boundary (R381, R402) -/

/-- RESYNC_COMPLETE: the bulk copy has ended. On the joining member it brings every hot context's KV/state region, the REQ records
and the subscribers; the active notes that the peer is whole. -/
def Module.resyncComplete (m : Module) (kv : List (Nat × List Nat)) (reqs : List (List Nat)) (subs : List Nat) : Module :=
  if m.pairState = 1 then
    let m1 := kv.foldl (fun m (x : Nat × List Nat) =>
      let c := m.ctxOf x.1
      if c.state = 0 ∨ c.pairing ≠ 1 then m else m.devWriteBytes (c.kvGranules + 1) c.kvAddr (x.2.take (16 * c.kvGranules))) m
    let m2 := reqs.foldl (fun m b => m.applyReq (slice 0 b 0 64)) m1
    ({ m2 with pair := { m2.pair with synced := true, gap := false, subs := subs.map (fun s => (s, m2.hub.round)) } } : Module).wr Reg.pairSync_granulesLeft 0
  else if m.pairState = 4 then ({ m with pair := { m.pair with synced := true } } : Module).wr Reg.pairSync_granulesLeft 0
  else m

/-- The former active of a clean handover becomes the standby at round h + 1 (R402). -/
def Module.handOver (m : Module) (h : Nat) : Module :=
  if m.ackedRound (h + 2 ^ 32 - 1) then
    let m1 := m.leaseRep m.witnessPkg 0x05 0 m.peer (some 3)
    let k := m1.hub.round - 1
    let m2 := (((m1.dropLease).setPair 2).dropQueued [1, 7]).discardWork
    ({ m2 with pair := { m2.pair with handover := none, unacked := [], mods := [], closed := some (k, m2.hub.round, 0), reqs := [], gap := false
                                      synced := true, copyIn := [], delta := [], early := [] } } : Module).pairEvent Reg.pairEvents_handoverDone
  else ({ m with pair := { m.pair with handover := none } } : Module).sendDelta h

/-- FORMED follows the conditions of R379: one round's lag beyond the delta just sent. -/
def Module.showFormed (m : Module) : Module :=
  let ok := m.pairLinkUp && (decide (m.pairState = 2) ||
    (decide (m.pairState = 3) && m.ackedRound ((m.hub.round + 2 ^ 32 - 3) % 2 ^ 32)))
  m.wr Reg.pairStatus_formed (ofB ok)

/-- The pair at the boundary that starts the running round: the delta of the round that ended, the handover that is due, and
members that have caught up. -/
def Module.pairBoundary (m : Module) : Module :=
  let r := m.hub.round
  let due := match m.pair.handover with
    | some h => decide (m.pairState = 3) && decide ((h + 1) % 2 ^ 32 = r % 2 ^ 32)
    | none => false
  let m1 := if due then m.handOver (r - 1) else m.sendDelta (r - 1)
  let m3 : Module := { m1 with ctx := { m1.ctx with kvWrites := [], kvSent := 0 }, pair := { m1.pair with mods := [], left := m1.pair.left - 8192 } }
  let recent : Bool := match m3.pair.closed with
    | some (_, own, _) => decide (r ≤ own + 1)
    | none => false
  let m4 := if m3.pairState = 1 ∧ m3.pair.synced ∧ recent ∧ m3.pairLinkUp then (m3.setPair 2).pairEvent Reg.pairEvents_syncDone
    else if m3.pairState = 4 ∧ m3.pair.synced ∧ m3.pairLinkUp ∧ m3.ackedRound ((r + 2 ^ 32 - 2) % 2 ^ 32) ∧ m3.pair.unacked.length ≤ 2 then m3.setPair 3
    else m3
  m4.showFormed

end Sys2Proof.Machine
end

