-- ==== Sys2Proof/Machine/Rounds.lean ====
section
/-! DEFINITION. The round boundary (R30, R31, R210 to R214, R224, R238, R257, R415, R419, R431, R432): everything that takes
effect when the Cirque's count reaches a new round. -/

namespace Sys2Proof.Machine

/-! ### What a boundary brings, part by part -/

/-- What the power manager has measured over the last round: input voltage in 10 mV, module power in 0.1 W, hold-up energy in mJ. -/
def Module.sensed (m : Module) (cv dw mj : Nat) : Module :=
  (((m.wr Reg.pwrStatus_inputCv cv).wr Reg.pwrStatus_moduleDw dw).wr Reg.pwrHoldup_energyMj mj).wr Reg.pwrHoldup_ready (ofB (decide (1200 ≤ mj % 4096)))

/-- Width of a port in service, without the slot that a planned swap of its bank takes from r0 on (R289 step 2). A port that lacks the
slot anyway loses none for it; slot 16 costs it the clock-source slot (R291). -/
def Module.widthWithout (m : Module) (p : Nat) : Nat :=
  match (m.bank (p / 16)).swap with
  | none => m.portWidth p
  | some w =>
    if w.phase < 2 ∨ w.phase = 2 ∧ m.hub.round < w.round then m.portWidth p
    else
      let tx := m.laneMap p 0
      let without := if w.slot < 16 then maskOff tx (2 ^ w.slot)
        else if (m.opt p).txClk = 16 then maskOff tx (2 ^ clockSlot tx) else tx
      min (popcount 16 without) (popcount 16 (m.laneMap p 1))

/-- Widths that admission counts from this round on (R139, R223, R224, R289, R323). -/
def Module.takeWidths (m : Module) : Module :=
  (List.range 64).foldl (fun m p =>
    let w := if m.usable p then m.widthWithout p else 0
    let fb := m.rdB Reg.firnPortStatus_clkFallback (fp p)
    m.modOpt p (fun o => { o with countW := w, countFb := fb })) m

/-- Retries and corrected errors of a round are forgotten (R372). -/
def Module.clearRound (m : Module) : Module :=
  { m with qlk := { m.qlk with bundles := m.qlk.bundles.map (fun (x : Nat × QBundle) =>
      let q : QBundle := { x.2 with retriesRound := 0, corrRound := [] }
      (x.1, q)) } }

/-- Counting pairs of every Tine (R213). -/
def Module.countPairs (m : Module) : Module := (List.range 72).foldl (fun m s => m.countPair s) m

/-- Admission resumes after a structure commit (R154). -/
def Module.resumeDue (m : Module) : Module :=
  if m.str.resume then ({ m with str := { m.str with resume := false } } : Module).admResume else m

/-- Fills booked for rounds that have passed are forgotten. -/
def Module.pruneBooks (m : Module) : Module :=
  { m with adm := { m.adm with fillBooks := m.adm.fillBooks.filter (fun f => decide (m.hub.round < f.start + f.len)) } }

/-- A quote sent to a partner on VC0, with the window of `len` slots from slot t held for it (R238). -/
def Module.holdQuote (m : Module) (c pkg there t len : Nat) (sites ds : List Nat) (place : Nat × Nat × Nat) : Module :=
  let n := m.adm.nextQuote % 65536
  let q : Quote := { pkg := pkg, ctx := c, number := n, durations := ds, window := t / 64, sent := m.hub.round, cycle := 0, place := place,
                     claimed := false }
  let b : Block := { req := windowKey n, sites := sites, start := t, len := len, copy := 0, ports := [], bound := (t + len - 1) / 64 + 2,
                     pairs := sites.map (fun s => (s, m.counting s)) }
  let (tag, m1) := ({ m with adm := { m.adm with nextQuote := (n + 1) % 65536, windows := m.adm.windows ++ [q],
                                                 blocks := m.adm.blocks ++ [b] } } : Module).newTag
  m1.sendFields pkg 0x04 0 there tag (2 ^ 32 - 1) ([n] ++ ds) none

/-- The quote of context c to one of its partners, whose context is `there`, h ns away (R238): its window begins no earlier than 2
rounds plus twice H from now, and, where its slices are not resident, no earlier than fills that start once the window may have
been claimed. A budget not known yet is counted as a long one (R196). Where no window fits the calendar none is held. -/
def Module.quoteFor (m : Module) (c pkg there h stages : Nat) : Module :=
  match m.placeAll [c] with
  | none => m
  | some (rPlace, m1) =>
    match m1.bookAll true [c] (max rPlace (m.hub.round + 3)) with
    | none => m
    | some (rFill, m2) =>
      let x := m2.ctxOf c
      let len := max 1 (ceilDiv (m2.countP x (m2.pairAt x) (fun _ => 0)).1.all tSlot)
      let from_ := max (windowStart m.hub.round 0 h) (if m.hot c (m.ctxOf c) then 0 else 64 * rFill)
      match m2.firstSlot (m2.sitesOf x) none [] false false len (64 * (m.hub.round + 4096)) calendarSlots from_ with
      | none => m
      | some t => ({ m with adm := { m.adm with fillBooks := m2.adm.fillBooks } } : Module).holdQuote c pkg there t len (m2.sitesOf x)
          ((List.range stages).map (fun k => (m2.countD x (m2.pairAt x) (fun _ => 0) k).all)) (x.tset, x.firstRank, x.bankMask)

/-- A quote is sent where the partner can be reached. -/
def Module.sendQuote (m : Module) (c pkg there : Nat) : Module :=
  match m.pathBound (m.redirect pkg) (2 + (m.ctxOf c).latClass), (m.ctxOf c).img with
  | some h, some g => m.quoteFor c (m.redirect pkg) there h g.stageCount
  | none, some _ => m.count Reg.rteNoRoute_count
  | _, none => m

/-- Quotes of every loaded context to its partners. -/
def Module.sendQuotes (m : Module) : Module :=
  if m.own = 0x3FFF ∨ m.silent ∨ !m.rdB Reg.admStatus_running ∨ m.rdB Reg.safStatus_fatalLatched then m
  else m.ctx.table.foldl (fun m (y : Nat × Ctx) =>
    let x := m.ctxOf y.1
    let n := match x.img with
      | some g => g.remoteCount
      | none => 0
    if (x.state = 2 ∨ x.state = 3 ∨ x.state = 4) ∧ x.latch = 0 then
      (x.remote.take n).foldl (fun m r => m.sendQuote y.1 r.1 r.2) m else m) m

/-- Proof tests falling due in this round are booked: one Tine's turn comes every 72nd part of the period (R415). -/
def Module.bookProofs (m : Module) : Module :=
  if !m.rdB Reg.safProofCtl_en then m
  else (List.range 72).foldl (fun m s =>
    let per := m.proofPeriod
    if (m.hub.round + s * (per / 72)) % per ≠ 0 ∨ m.siteState s ≠ 2 ∨ m.adm.blocks.any (fun b => b.req = proofReq s) then m
    else
      let from_ := 64 * (m.hub.round + 64)
      match m.firstSlot [s] none [] false false 640 (from_ + calendarSlots) calendarSlots from_ with
      | none => m
      | some t =>
        let b : Block := { req := proofReq s, sites := [s], start := t, len := 640, copy := 0, ports := [], bound := t / 64 + 10, pairs := [] }
        { m with adm := { m.adm with blocks := m.adm.blocks ++ [b] } }) m

/-- Vector 0 signals the log at most once a round (R419). -/
def Module.logSignal (m : Module) : Module :=
  if m.saf.intPending then ({ m with saf := { m.saf with intPending := false } } : Module).msix 0 else m

/-- The round marks sent to every die (R31, R355). -/
def Module.sendMarks (m : Module) : Module :=
  m.emits ((List.range 90).map (fun c => .roundMark c (m.hub.round % 65536)))

/-! ### The boundary -/

/-- The next round begins: no request has been taken in it, and the rotation starts after the last queue served (R256). -/
def Module.nextRound (m : Module) : Module :=
  { m with hub := { m.hub with round := (m.hub.round + 1) % 2 ^ 64 }
           host := { m.host with takenHost := 0, takenFabric := 0, turnsLeft := 0 } }

/-- What takes effect before anything is decided. -/
def Module.boundaryStart (m : Module) (cv dw mj : Nat) : Module :=
  ((((((((((m.nextRound).sensed cv dw mj).sendMarks).calRound).pairBoundary).takeWidths).commitTables).clearRound).bandRound).pruneBooks)

/-- Cancellations, counting pairs, decisions and what waits for a boundary, in that order. -/
def Module.boundaryDecide (m : Module) : Module :=
  ((((((((m.powerRound).countPairs).resumeDue).cancelReqs).settleReqs).decideAll).answerQueries).placeWaiting)

/-- ROUND_BOUNDARY. Rounds are counted from the first lock of the root PLL and only while it runs (R30). -/
def Module.roundBoundary (m : Module) (cv dw mj : Nat) : Module :=
  if !m.hub.counting ∨ !m.rdB Reg.hubClkStatus_rootLock then m
  else
    let m1 := (m.boundaryStart cv dw mj).boundaryDecide
    ((m1.sendQuotes.bookProofs).logSignal).arbitrate 0

end Sys2Proof.Machine
end

