-- ==== Sys2Proof/Machine/Registers.lean ====
section
/-! DEFINITION. Register accesses: REGISTER_WRITE over the whole of BAR0 (R11, R12, R244, R247, R248, R471 to R474),
UNSUPPORTED_ACCESS, the debug accesses that reach a die's registers (R360, R466), and the entry of a submission queue by its
opcode (R250, R255). -/

namespace Sys2Proof.Machine

/-! ### Writing fields by their access type (R11) -/

/-- The bits of a written word that fall on a field. -/
def Fld.part (f : Fld) (v : Nat) : Nat := bitsOf v (f.lo + f.width - 1) f.lo

/-- A field written by its type: RW takes the bits, RWL takes them while SEC_LOCK is clear, W1C loses the bits written as 1,
RO and WO hold nothing that a write changes (R11). -/
def Module.writeField (m : Module) (f : Fld) (idx : List Nat) (v : Nat) : Module :=
  match f.ty with
  | .rw => m.wr f (f.part v) idx
  | .rwl => if m.rdB Reg.secStatus_secLock then m else m.wr f (f.part v) idx
  | .w1c => m.wr f (m.rd f idx &&& (2 ^ f.width - 1 - f.part v)) idx
  | .ro => m
  | .wo => m

/-- Every field of a register written. -/
def Module.writeFields (m : Module) (fs : List Fld) (idx : List Nat) (v : Nat) : Module :=
  fs.foldl (fun m f => m.writeField f idx v) m

/-- `f` if bit b of the written word is 1. -/
def Module.onBit (m : Module) (v b : Nat) (f : Module → Module) : Module := if bitB v b then f m else m

/-- A word of the MSI-X table written; a vector that loses its mask sends the message that its pending bit holds (R268, by the
PCIe Base Specification). -/
def Module.msixWrite (m : Module) (i v : Nat) : Module :=
  let m1 := m.wr Reg.hubMsixTable_word v [i]
  if i % 4 = 3 then m1.msixFlush (i / 4) else m1

/-- Queue 0's set-up registers take writes only while it is DISABLED; those of other queues never do (R247, R248). -/
def Module.queueWrite (m : Module) (fs : List Fld) (q v : Nat) : Module :=
  if q = 0 ∧ m.qState 0 = 0 then m.writeFields fs [0] v else m

/-- HUB_STRUCT_CTL. -/
def Module.structCtl (m : Module) (v : Nat) : Module :=
  (((m.onBit v 0 Module.structVerify).onBit v 1 Module.structCommit).onBit v 2 Module.structAbort).onBit v 3 Module.structPersist

/-- FIRN_PORT_CTL of port p: LOOP_MODE and PATTERN, then the actions. -/
def Module.portCtl (m : Module) (p v : Nat) : Module :=
  (((m.loopMode p (v % 8) (bitsOf v 4 3)).onBit v 31 (fun m => m.firnRetrain p)).onBit v 30 (fun m => m.clearSafety p)).onBit v 29
    (fun m => m.useSpare p)

/-- LAS_CTL of bank b. -/
def Module.lasCtl (m : Module) (b v : Nat) : Module :=
  ((m.wr Reg.lasCtl_autoSwap (bit v 31) [b]).wr Reg.lasCtl_swapSlotSel v [b]).onBit v 15 (fun m => m.askSwap b (v % 32))

/-- FAB_LINK_CTL of port p. -/
def Module.linkCtl (m : Module) (p v : Nat) : Module :=
  ((m.onBit v 0 (fun m => m.reinitAsk p)).onBit v 1 (fun m => m.retrainAsk p)).onBit v 2 (fun m => m.flushNow p)

/-- THM_FORCE: CH and VALUE, with the actions on channel CH. -/
def Module.thmCtl (m : Module) (v : Nat) : Module :=
  let c := bitsOf v 22 16
  let x := v % 65536
  ((((m.forceFields c x).onBit v 28 (fun m => m.clearShutdown c x)).onBit v 29 (fun m => m.thmRetestCh c x)).onBit v 30
    (fun m => m.thmReleaseCh c x)).onBit v 31 (fun m => m.thmForceTo c x)

/-- CAL_CTL: REF_SEL and QUANT_MASK, then REVERT and RUN. -/
def Module.calCtl (m : Module) (fs : List Fld) (v : Nat) : Module :=
  ((m.writeFields fs [] v).onBit v 30 (fun m => m.calRevert (v % 32))).onBit v 31 (fun m => m.calRun (v % 32))

/-- QLK_FW_CTL of guest site g. -/
def Module.fwCtl (m : Module) (fs : List Fld) (g v : Nat) : Module :=
  ((m.writeFields fs [g] v).onBit v 3 (fun m => m.clrViol g)).onBit v 30 (fun m => m.clr Reg.qlkFwCtl_fenced [g])

/-- QLK_DBG_CTL. -/
def Module.dbgCtl (m : Module) (fs : List Fld) (v : Nat) : Module :=
  if bitB v 31 then m.dbgGo (bitB v 30) (v % 128) else m.writeFields fs [] v

/-- SNAP_CTL: its fields, then REARM and TRIGGER. -/
def Module.snapCtl (m : Module) (v : Nat) : Module :=
  if bitB v 31 && bitB v 30 then (m.snapRearm v).snapReg v
  else if bitB v 30 then m.snapRearm v else m.snapReg v

/-- The registers whose write does more than set fields, by base offset: the meaning of a write, given the fields, the instance
and the word. -/
def writeTable : List (Nat × (Module → List Fld → List Nat → Nat → Module)) :=
  let i0 := fun (l : List Nat) => l.headD 0
  let i1 := fun (l : List Nat) => l.getD 1 0
  let queue := fun (m : Module) fs l v => m.queueWrite fs (i0 l) v
  [(0x24, fun m _ _ v => m.hubReset v),
   (0x20C, fun m _ _ v => m.structCtl v),
   (0x300, fun m _ _ v => m.apertureWrite v),
   (0x8000, fun m _ l v => m.msixWrite (i0 l) v),
   (0x100000, queue), (0x100004, queue), (0x100008, queue), (0x10000C, queue), (0x100010, queue), (0x100014, queue),
   (0x100020, fun m _ _ v => (m.onBit v 0 Module.queEnable).onBit v 1 Module.queDisable),
   (0x200000, fun m _ _ v => m.ctxSel v []),
   (0x3000A0, fun m _ _ v => ((m.onBit v 0 Module.clrOutcomes).onBit v 1 Module.clrReasons).onBit v 2 Module.clrPeak),
   (0x400070, fun m _ l v => ((m.onBit v 0 (fun m => m.clrCorr (i0 l))).onBit v 1 (fun m => m.clrCheckfield (i0 l))).onBit v 2
     (fun m => m.clrActivity (i0 l))),
   (0x90010C, fun m _ l v => m.portCtl (4 * i0 l + i1 l) v),
   (0xA00008, fun m _ l v => m.lasCtl (i0 l) v),
   (0xA40004, fun m _ l v => m.linkCtl (i0 l) v),
   (0xA40140, fun m _ l v => m.onBit v 0 (fun m => m.fabClr (i0 l))),
   (0xB40004, fun m fs l v => (m.writeFields fs l v).onBit v 31 Module.rteCommit),
   (0xB40140, fun m _ _ v => m.onBit v 0 Module.rteClr),
   (0xB41000, fun m _ l v => m.shadowWrite 0 (i0 l) v),
   (0xB41800, fun m _ l v => m.shadowWrite 1 (i0 l) v),
   (0xB42000, fun m _ l v => m.shadowWrite 2 (i0 l) v),
   (0xB42004, fun m _ l v => m.shadowWrite 3 (i0 l) v),
   (0xC0000C, fun m _ l v => m.onBit v 4 (fun m => m.retrain (i0 l) (v % 16))),
   (0xC00220, fun m _ l v => m.onBit v 0 (fun m => m.qclear (i0 l))),
   (0xC80000, fun m fs l v => m.fwCtl fs (i0 l) v),
   (0xC8010C, fun m _ l v => m.winRights (i0 l) (i1 l) v),
   (0xCC0000, fun m fs _ v => m.dbgCtl fs v),
   (0xD00004, fun m _ _ v => m.hostRegionWrite v),
   (0xD00320, fun m _ _ v => (m.onBit v 0 Module.clrDev).onBit v 1 Module.clrCirque),
   (0xE00140, fun m _ _ v => m.onBit v 0 Module.pairClr),
   (0xE80200, fun m _ _ v => m.thmCtl v),
   (0xE80240, fun m _ l v => m.curveWrite (i0 l) v),
   (0xEA0100, fun m fs l v => if 168 ≤ i0 l then m.writeFields fs l v else m),
   (0xEC0000, fun m fs _ v => m.calCtl fs v),
   (0xF00004, fun m _ _ v => m.faultPinClr v),
   (0xF0000C, fun m _ _ v => m.logRead v),
   (0xF00010, fun m _ _ v => m.logSel v),
   (0xF20000, fun m _ _ v => m.snapCtl v),
   (0xF80000, fun m _ _ v => m.secLock v),
   (0xF90000, fun m _ l v => m.crcGo (i0 l) v)]

/-- A 32-bit write at a BAR0 offset: a register's own meaning where it has one, else its fields by type; a write to a reserved
location is ignored (R11, R244, R473). -/
def Module.regWrite (m : Module) (off v : Nat) : Module :=
  match regAt off with
  | none => m
  | some (r, idx) =>
    match writeTable.find? (fun t => t.1 = r.base) with
    | some t => t.2 m r.fields idx (v % 2 ^ 32)
    | none => m.writeFields r.fields idx (v % 2 ^ 32)

/-- A 32-bit write at a BAR2 offset: the two doorbells of each queue; any other location is reserved (R244, R266). -/
def Module.doorbellWrite (m : Module) (off v : Nat) : Module :=
  match off % 64 with
  | 0 => m.sqTail (off / 64) v
  | 4 => m.cqHead (off / 64) v
  | _ => m

/-- REGISTER_WRITE: an aligned 32-bit write to BAR0 (space 0), to BAR2 (space 2) or to a word of the configuration space (space 15,
once it completes configuration requests: R459); any other is dropped (R244). -/
def Module.hostWrite32 (m : Module) (space off v : Nat) : Module :=
  match space with
  | 0 => if off % 4 = 0 then m.regWrite off v else m
  | 2 => if off % 4 = 0 then m.doorbellWrite off v else m
  | _ => if 4 ≤ m.rd Reg.hubBootStatus_stage then m.configWrite off v else m.emit .configRetry

/-- A 32-bit read at a BAR0 offset as the die or the host sees it, with the latching that some reads do (R31, R95, R227, R453). -/
def Module.readAt (m : Module) (off : Nat) : Nat × Module :=
  match regAt off with
  | none => (0, m)
  | some (r, idx) =>
    let m1 :=
      if r.base = 0x120 then m.readRoundLo
      else if r.base = 0x400050 then m.readCyclesLo (idx.headD 0)
      else if r.base = 0x400058 then m.readPassesLo (idx.headD 0)
      else if r.base = 0x300010 then m.readAcceptedLo
      else if r.base = 0xEC0018 then m.readOpsecLo
      else m
    (m.readWord off, { m1 with out := m.out })

/-- A 32-bit read of BAR0 (space 0), of BAR2 (space 2), where every location reads as zero (R244, R266), or of a word of the
configuration space (R459). -/
def Module.hostRead32 (m : Module) (space off : Nat) : Module :=
  match space with
  | 0 => let (w, m1) := m.readAt off; m1.emit (.readData w)
  | 2 => m.emit (.readData 0)
  | _ => if 4 ≤ m.rd Reg.hubBootStatus_stage then m.emit (.readData (m.configRead off)) else m.emit .configRetry

/-- UNSUPPORTED_ACCESS: an access of `size` bytes at an offset. One that is not an aligned 32-bit access is answered with Unsupported
Request when it reads and dropped when it writes (R244); an aligned 32-bit one is served. -/
def Module.hostMmio (m : Module) (space off size : Nat) (write : Bool) (v : Nat) : Module :=
  if space = 15 ∨ (size = 4 ∧ off % 4 = 0) then (if write then m.hostWrite32 space off v else m.hostRead32 space off)
  else if write then m else m.unsup

/-! ### Debug accesses to a die (R360, R466) -/

/-- The BAR0 offset that debug address a of an Aliowell die reaches: the TINE_ or the FIRN_ block of the die. -/
def debugOffset (c a : Nat) : Option Nat :=
  let off := if c < 72 then 0x400000 + 0x10000 * c + a else 0x900000 + 0x10000 * (c - 72) + a
  if c < 88 ∧ a < 0x10000 ∧ (regAt off).isSome then some off else none

/-- The debug access waits for connection c's die with the given direction. -/
def Module.dbgAt (m : Module) (c : Nat) (write : Bool) : Option DbgAccess :=
  m.qlk.dbg.filter (fun d => d.conn = c && d.write = write && d.answer.isNone)

/-- The die's answer to the debug access: status and data. -/
def Module.dbgSet (m : Module) (status data : Nat) : Module :=
  { m with qlk := { m.qlk with dbg := m.qlk.dbg.map (fun d => { d with answer := some (status, data) }) } }

/-- DRD: the die of connection c acts on the read sent to it; a guest's DRD is refused (R364). -/
def Module.dbgRead (m : Module) (c : Nat) : Module :=
  if 88 ≤ c then m.guestMsg (c - 88) 3 0 (fun m _ => m)
  else match m.dbgAt c false with
    | none => m
    | some d =>
      match debugOffset c d.addr with
      | none => m.dbgSet 2 0
      | some off => let (w, m1) := m.readAt off; m1.dbgSet 0 w

/-- DWR: the die of connection c acts on the write sent to it, refused while SEC_LOCK is set; a guest's DWR is refused. -/
def Module.dbgWrite (m : Module) (c : Nat) : Module :=
  if 88 ≤ c then m.guestMsg (c - 88) 3 2 (fun m _ => m)
  else match m.dbgAt c true with
    | none => m
    | some d =>
      if m.rdB Reg.secStatus_secLock then m.dbgSet 1 0
      else match debugOffset c d.addr with
        | none => m.dbgSet 2 0
        | some off => (m.regWrite off d.data).dbgSet 0 0

/-! ### Entries of queue 0 and of the other queues (R250, R255) -/

/-- SQ_ENTRY_FETCHED on queue 0: a management entry runs by its opcode; one whose opcode is reserved completes with
ACCESS_DENIED, detail OPCODE (R249). -/
def Module.mgmtEntry (m : Module) (e : List Nat) (x : EntryData) : Module :=
  match e.getD 0 0 with
  | 0x80 => m.createQueue e
  | 0x81 => m.deleteQueue e
  | 0x82 => m.bindCtx e
  | 0x83 => m.unbindCtx e
  | 0x90 => m.fabricJoin e
  | 0x91 => m.fabricLeave e
  | 0xA0 => m.pairForm e x.peer
  | 0xA1 => m.pairDissolve e
  | 0xA2 => m.pairHandover e
  | 0xB0 => m.ownerEnrol e x.block x.flashOk
  | 0xB1 => m.ownerUpdate e x.block x.flashOk
  | 0xB2 => m.ownerRelease e x.block x.flashOk
  | 0xB3 => m.fwUpdate e x.image x.flashOk
  | op => m.mgmt op e (fun m cid => m.finish 0 cid (denied 0x15 (ent e 6 2)))

/-- SQ_ENTRY_FETCHED: an entry of queue q, fetched in a cycle of the round. -/
def Module.sqEntry (m : Module) (q : Nat) (e : List Nat) (x : EntryData) (cycle : Nat) : Module :=
  if q = 0 then m.mgmtEntry e x else m.fetch q e x.ins x.outs x.param cycle

end Sys2Proof.Machine
end

