-- ==== Sys2Proof/WellFormed.lean ====
section
/-! DEFINITION. Well-formed commands: every operand names hardware that exists and fits the field it stands for. -/

namespace Sys2Proof

/-- A number below a bound. -/
def below (x n : Nat) : Bool := decide (x < n)
/-- A 32-bit word. -/
def isWord (v : Nat) : Bool := below v (2 ^ 32)
/-- The 128 data bits of a granule. -/
def isGran (v : Nat) : Bool := below v (2 ^ 128)
/-- Bytes. -/
def isBytes (l : List Nat) : Bool := l.all (fun b => below b 256)
/-- A submission entry: 64 bytes (R246). -/
def isEntry (l : List Nat) : Bool := isBytes l && decide (l.length = 64)
/-- A fabric cycle of a round (R30). -/
def isCycle (c : Nat) : Bool := below c 8192
/-- A Tine site (R14). -/
def isSite (s : Nat) : Bool := below s 72
/-- A weight bank: 1 A, 2 B (R86). -/
def isBank (b : Nat) : Bool := below 0 b && below b 3
/-- A fabric port (R4). -/
def isPort (p : Nat) : Bool := below p 64
/-- A virtual channel (R137). -/
def isVc (v : Nat) : Bool := below v 8
/-- A Quinhorn connection: 0-71 Tine sites, 72-87 Firn engines, 88 and 89 guest sites (R346). -/
def isConn (c : Nat) : Bool := below c 90
/-- A bundle of a connection. -/
def isBundle (c b : Nat) : Bool := isConn c && below b (if c < 72 then 10 else if c < 88 then 16 else 4)
/-- A guest site. -/
def isGuest (g : Nat) : Bool := below g 2
/-- A queue (R246). -/
def isQueue (q : Nat) : Bool := below q 16384
/-- A location that the host reaches: BAR0 (0), BAR2 (2), a word of the configuration space (15) (R241 to R243). -/
def isSpace (b o : Nat) : Bool :=
  (decide (b = 0) && below o (2 ^ 26)) || (decide (b = 2) && below o (2 ^ 20)) || (decide (b = 15) && below o 32)
/-- A sequence engine: 0-15 Firn engines, 16-19 laser banks, 20 the power manager (R144). -/
def isEngine (e : Nat) : Bool := below e 21

/-- Mesh links that flip bits of a granule: a node of the 8 by 8 array, one of its links, a pattern of code-word bits (R17). -/
def isHits (l : List (Nat × Nat × Nat)) : Bool := l.all (fun h => below h.1 64 && below h.2.1 5 && below h.2.2 (2 ^ 144))

/-- The operands of a command stand for what the hardware has. -/
def Instr.wf : Instr → Bool
  | .roundBoundary _ _ _ => true
  | .roundMark conn => isConn conn
  | .heldWindowExpiry number => below number 65536
  | .coalesceTimeout q => isQueue q
  | .hubRoundLoRead => true
  | .tineCyclesLoRead site => isSite site
  | .tineMatPassesLoRead site => isSite site
  | .admAcceptedLoRead => true
  | .calOpsecLoRead => true
  | .registerWrite place v => isSpace place.space place.off && isWord v
  | .unsupportedAccess x => isSpace x.place.space x.place.off && isWord x.v
  | .refclkLost => true
  | .refclkReturn => true
  | .holdoverSlewEnd => true
  | .rootPllUnlock => true
  | .rootPllLock _ => true
  | .treeLostAtDie rx => below rx 88
  | .bothTreesLost rx => below rx 88
  | .clockLossNotice rx => below rx 88
  | .treeSourceLost tree => below tree 2
  | .tload site _ => isSite site
  | .astage site _ => isSite site
  | .stream site _ => isSite site
  | .wset site _ => isSite site
  | .drain site _ => isSite site
  | .drainw site _ => isSite site
  | .padd site _ => isSite site
  | .pdrain site _ => isSite site
  | .vadd site _ => isSite site
  | .vsub site _ => isSite site
  | .vmul site _ => isSite site
  | .vfma site _ => isSite site
  | .vmin site _ => isSite site
  | .vmax site _ => isSite site
  | .vlogic site _ => isSite site
  | .vshift site _ => isSite site
  | .vcmp site _ => isSite site
  | .vsel site _ => isSite site
  | .vreduce site _ => isSite site
  | .vgather site _ => isSite site
  | .vscatter site _ => isSite site
  | .vfill site _ => isSite site
  | .cload site _ => isSite site
  | .ceval site _ => isSite site
  | .fdecode site _ => isSite site
  | .fencode site _ => isSite site
  | .freblock site _ => isSite site
  | .ftile site _ => isSite site
  | .send site _ => isSite site
  | .recv site _ => isSite site
  | .recvTimeout site _ => isSite site
  | .dmard site _ => isSite site
  | .dmawr site _ => isSite site
  | .copy site _ => isSite site
  | .input site _ => isSite site
  | .output site _ => isSite site
  | .nop site _ => isSite site
  | .sbegin site _ => isSite site
  | .setreg site _ => isSite site
  | .addreg site _ => isSite site
  | .loop site _ => isSite site
  | .brcnt site _ => isSite site
  | .jump site _ => isSite site
  | .barrier site _ => isSite site
  | .sync site _ => isSite site
  | .cschk site _ => isSite site
  | .relmark site _ => isSite site
  | .trap site _ => isSite site
  | .eos site _ => isSite site
  | .reservedOpcode site _ => isSite site
  | .operationComplete site _ => isSite site
  | .stageFaultReport site => isSite site
  | .tileChecksumRecheck => true
  | .stageEndReport site => isSite site
  | .stageDispatch _ => true
  | .streamFlit site x => isSite site && isHits x.hits
  | .fillStart _ => true
  | .fillGranule site x => isSite site && isBank x.bank && isHits x.fault.mesh
  | .fillEnd site bank => isSite site && isBank bank
  | .fillAbort site bank => isSite site && isBank bank
  | .bankSwitchEnd site _ => isSite site
  | .spareCalled site => isSite site
  | .entryTestDone site _ => isSite site
  | .parkCommand site => isSite site
  | .wakeCommand site => isSite site
  | .migrationStart site => isSite site
  | .migrationDone site => isSite site
  | .tineCntClrActivity site => isSite site
  | .tineCntClrCheckfield site => isSite site
  | .tineCntClrCorr site => isSite site
  | .structVerify => true
  | .structVerified => true
  | .structCommit => true
  | .structAbort => true
  | .quiesceComplete => true
  | .quiesceTimeout => true
  | .structApplyDone => true
  | .structPersist => true
  | .structPersistDone _ => true
  | .loadImage q e _ _ param cycle => isQueue q && isEntry e && isBytes param && isCycle cycle
  | .loadImageCopied ctx bytes => below ctx 65536 && isBytes bytes
  | .evict q e _ _ param cycle => isQueue q && isEntry e && isBytes param && isCycle cycle
  | .pin q e _ _ param cycle => isQueue q && isEntry e && isBytes param && isCycle cycle
  | .query q e _ _ param cycle => isQueue q && isEntry e && isBytes param && isCycle cycle
  | .cancel q e _ _ param cycle => isQueue q && isEntry e && isBytes param && isCycle cycle
  | .invoke q e _ _ param cycle => isQueue q && isEntry e && isBytes param && isCycle cycle
  | .invokeChain q e _ _ param cycle => isQueue q && isEntry e && isBytes param && isCycle cycle
  | .scrubRead e => below e (2 ^ 144)
  | .gddr7TempRead dev _ => below dev 12
  | .cxlLinkDown p => below p 2
  | .cxlRetrainEnd p _ => below p 2
  | .cxlBringup p _ => below p 2
  | .memHostRegionWrite v => isWord v
  | .memCntClrCirque => true
  | .memCntClrDev => true
  | .bar4Read _ _ => true
  | .bar4Write _ bytes => isBytes bytes
  | .hubApertureBaseWrite v => isWord v
  | .releaseGateOpen cycle => isCycle cycle
  | .admCntClrPeak => true
  | .admCntClrReasons => true
  | .admCntClrOutcomes => true
  | .sqTailDoorbell q v => isQueue q && isWord v
  | .cqHeadDoorbell q v => isQueue q && isWord v
  | .sqEntryFetched q e data cycle => isQueue q && isEntry e && isBytes data.param && isCycle cycle
  | .sqFetchError q => isQueue q
  | .entryTaken q cid data cycle => isQueue q && below cid 65536 && isBytes data && isCycle cycle
  | .hostReadFail q cid cycle => isQueue q && below cid 65536 && isCycle cycle
  | .createQueue e => isEntry e
  | .deleteQueue e => isEntry e
  | .queueDrainDone q => isQueue q
  | .bind e => isEntry e
  | .unbind e => isEntry e
  | .queEnable => true
  | .queue0Enabled => true
  | .queDisable => true
  | .pcieReset => true
  | .fabricRequest p vc cycle => isPort p && isVc vc && isCycle cycle
  | .reply p vc => isPort p && isVc vc
  | .quote p number x => isPort p && below number 65536 && isCycle x.cycle
  | .subreq p vc number cid seed flat _ data cycle => isPort p && isVc vc && below number 65536 && below cid 65536 && isWord seed && isWord flat && isBytes data && isCycle cycle
  | .streamPacket p vc fromSlice => isPort p && isVc vc && below fromSlice 64
  | .packetForward p vc => isPort p && isVc vc
  | .notice p group target _ => isPort p && below target (if group then 512 else 32)
  | .noticeSend p => isPort p
  | .messageReassemblyTimeout src tag vc => below src (2 ^ 20) && below tag 65536 && isVc vc
  | .fabricJoin e => isEntry e
  | .fabricLeave e => isEntry e
  | .fabricLeaveDone => true
  | .rteCommit => true
  | .shadowTableWrite table index v => below table 4 && below index 1024 && isWord v
  | .rteClrAll => true
  | .dataFlit p hdr grans _ => isPort p && isGran hdr && decide (grans.length = 15)
  | .idleFlit p hdr _ => isPort p && isGran hdr
  | .flitCrcFail p => isPort p
  | .ackTimeout p => isPort p
  | .init p pkg port serial role next _ advH advD => isPort p && below pkg 16384 && isPort port && below serial (2 ^ 64) && below role 4 && below next 65536 && decide (advH.length = 8) && decide (advD.length = 8)
  | .retrainReq p hdr _ kind => isPort p && isGran hdr && below kind 2
  | .mapPropose p hdr _ map x clk _ => isPort p && isGran hdr && below map 65536 && isWord x && below clk 32
  | .mapRequest p hdr _ map x clk _ => isPort p && isGran hdr && below map 65536 && isWord x && below clk 32
  | .mapAck p hdr _ x map => isPort p && isGran hdr && below map 65536 && isWord x
  | .mapReject p hdr _ x reason => isPort p && isGran hdr && isWord x && below reason 256
  | .creditAudit p hdr _ counts => isPort p && isGran hdr && decide (counts.length = 8)
  | .loopReq p hdr _ => isPort p && isGran hdr
  | .mapSwitch p fibre => isPort p && below fibre 2
  | .mapRequestTimeout p => isPort p
  | .slotLost p slot => isPort p && below slot 16
  | .crcFailTimeout p => isPort p
  | .waveRetry p => isPort p
  | .linkGrace p => isPort p
  | .graceExpiry p => isPort p
  | .initRetry p => isPort p
  | .phyPortUp p txMap rxMap _ => isPort p && below txMap 65536 && below rxMap 65536
  | .flushNow p => isPort p
  | .retrainFull p => isPort p
  | .reinit p => isPort p
  | .fabClrAll p => isPort p
  | .ringLockLoss p slot _ => isPort p && below slot 17
  | .clkLost p => isPort p
  | .clockFallbackLock p => isPort p
  | .fallbackExit p => isPort p
  | .setf e _ => isEngine e
  | .setfs e _ => isEngine e
  | .getf e _ sensed => isEngine e && isWord sensed
  | .loads e _ => isEngine e
  | .adds e _ => isEngine e
  | .wait e => isEngine e
  | .poll e _ sensed => isEngine e && isWord sensed
  | .brs e _ => isEngine e
  | .measure e _ _ => isEngine e
  | .done e _ => isEngine e
  | .fail e _ => isEngine e
  | .seqLimitExceeded e _ => isEngine e
  | .laserLocked bank slot unit => below bank 4 && below slot 17 && below unit 2
  | .laserWarmTimeout bank slot unit => below bank 4 && below slot 17 && below unit 2
  | .laserFail bank slot unit => below bank 4 && below slot 17 && below unit 2
  | .laserOverpower bank slot unit _ => below bank 4 && below slot 17 && below unit 2
  | .eolWarn bank slot _ => below bank 4 && below slot 17
  | .lasSwap bank slot => below bank 4 && below slot 32
  | .plannedSwap bank => below bank 4
  | .swapRemoval bank => below bank 4
  | .swapDeferral bank => below bank 4
  | .swapDone bank => below bank 4
  | .fibreOverpower p _ => isPort p
  | .clearSafety p => isPort p
  | .fibreDark p => isPort p
  | .safeProbe p => isPort p
  | .probeReceived p => isPort p
  | .firnRetrain p => isPort p
  | .useSpare p => isPort p
  | .loopModeWrite p mode pattern => isPort p && below mode 8 && below pattern 4
  | .qlkLinkFrame conn b frame _ => isBundle conn b && below frame (2 ^ 256)
  | .qlkGranule conn b d check => isBundle conn b && isGran d && below check 65536
  | .qlkAckTimeout conn b => isBundle conn b
  | .qlkClockLoss conn b => isBundle conn b
  | .cap conn b _ _ _ _ _ _ _ => isBundle conn b
  | .qlkMap conn b _ _ => isBundle conn b
  | .qlkMapAck conn b _ _ => isBundle conn b
  | .testStart conn b _ => isBundle conn b
  | .testResult conn b _ => isBundle conn b
  | .qlkRetrainReq conn b => isBundle conn b
  | .ready conn b => isBundle conn b
  | .bundleRetrain conn b _ => isBundle conn b
  | .bundleRetire conn b _ _ => isBundle conn b
  | .qlkRetrain conn b => isConn conn && below b 16
  | .qlkClrAll conn => isConn conn
  | .partialReset conn => isConn conn
  | .rd g => isGuest g
  | .rdResp g => isGuest g
  | .wr g => isGuest g
  | .wrMasked g => isGuest g
  | .wrAck g => isGuest g
  | .atAdd g => isGuest g
  | .atSwap g => isGuest g
  | .atCas g => isGuest g
  | .atResp g => isGuest g
  | .guestCopy g => isGuest g
  | .rdS g => isGuest g
  | .rdM g => isGuest g
  | .upg g => isGuest g
  | .wbM g => isGuest g
  | .cohEvict g => isGuest g
  | .cohGrant g => isGuest g
  | .snpInv g => isGuest g
  | .snpS g => isGuest g
  | .snpAck g => isGuest g
  | .snoopTimeout g _ => isGuest g
  | .event g => isGuest g
  | .drd conn => isConn conn
  | .drdResp conn => isConn conn
  | .dwr conn => isConn conn
  | .dwrAck conn => isConn conn
  | .debugTimeout => true
  | .dbgGo _ conn => below conn 128
  | .unfence g => isGuest g
  | .clrViol g => isGuest g
  | .winRightsWrite g w v => isGuest g && below w 16 && isWord v
  | .guestOverpower g _ => isGuest g
  | .pairForm e _ => isEntry e
  | .pairDissolve e => isEntry e
  | .pairHandover e => isEntry e
  | .autoHandover => true
  | .handoverReq p => isPort p
  | .acquire p => isPort p
  | .leaseGrant p _ => isPort p
  | .renew p => isPort p
  | .renewPeriod => true
  | .renewAck p _ => isPort p
  | .leaseRelease p => isPort p
  | .leaseQuery p _ => isPort p
  | .leaseStatus p => isPort p
  | .deny p => isPort p
  | .failFast p => isPort p
  | .announce p => isPort p
  | .announceRepeat pkg => below pkg 16384
  | .detach p => isPort p
  | .leaseMessageRepeat _ _ => true
  | .selfFence => true
  | .leaseExpiry => true
  | .witnessLeaseExpiry pair => below pair 16384
  | .standbyBindingEnd => true
  | .witnessStartEnd => true
  | .failFastEvent cls sub _ => below cls 256 && below sub 65536
  | .kvRecord p => isPort p
  | .outRecord p => isPort p
  | .descRecord p => isPort p
  | .modRecord p => isPort p
  | .reqRecord p => isPort p
  | .closeRecord p cycle => isPort p && isCycle cycle
  | .checkpointRecord p => isPort p
  | .deltaAck p => isPort p
  | .standbyLoss => true
  | .pairingPortDown p => isPort p
  | .closeTimeout => true
  | .switchoverStart _ => true
  | .resyncComplete _ _ _ => true
  | .pairClrAll => true
  | .faultPinClr v => isWord v
  | .safLogLatch v => isWord v
  | .proofTest site _ _ => isSite site
  | .moraineWrite => true
  | .snapIn => true
  | .snapTrigger v => isWord v
  | .snapLatch cycle => isCycle cycle
  | .snapConfirmTimeout conn => isConn conn
  | .snapRearm v => isWord v
  | .tempSample ch _ _ _ => below ch 100
  | .thmForceWrite ch v => below ch 128 && below v 65536
  | .thmRelease ch v => below ch 128 && below v 65536
  | .thmRetest ch v => below ch 128 && below v 65536
  | .clearShutdown ch v => below ch 128 && below v 65536
  | .thmCurveWrite index v => below index 21 && isWord v
  | .budgetGrant conn => below conn 88
  | .budgetRequest conn _ => below conn 88
  | .budgetReturn conn _ _ => below conn 88
  | .supplyOutOfWindow d _ => below d 170
  | .inputOutOfWindow _ => true
  | .powerFailCommitDone => true
  | .calRun mask => below mask 32
  | .calRunDone _ => true
  | .calStoreDone => true
  | .calStoreRetry => true
  | .calRevert mask => below mask 32
  | .opsecTick => true
  | .opsecRecord => true
  | .powerOnReset => true
  | .modResetN => true
  | .hubResetModule v => isWord v
  | .watchdogExpiry => true
  | .firmwareVerified => true
  | .bootDevicesReady _ => true
  | .bootStructureApplied => true
  | .bootReady => true
  | .recoveryImage _ => true
  | .fwUpdate e _ _ => isEntry e
  | .ownerEnrol e _ _ => isEntry e
  | .ownerUpdate e _ _ => isEntry e
  | .ownerRelease e _ _ => isEntry e
  | .secLockSet v => isWord v
  | .getVersion transport => below transport 2
  | .getCapabilities transport => below transport 2
  | .negotiateAlgorithms transport req => below transport 2 && isBytes req
  | .getDigests transport => below transport 2
  | .getCertificate transport slot off len => below transport 2 && below slot 16 && below off 65536 && below len 65536
  | .challenge transport slot nonce => below transport 2 && below slot 256 && isBytes nonce
  | .getMeasurements transport index nonce => below transport 2 && below index 256 && isBytes nonce
  | .crcGo e v => below e 4 && isWord v
  | .crcRunEnd e _ => below e 4
  | .ctxLatchView x => isWord x.v
  | .modResetNRelease => true

end Sys2Proof
end

