-- ==== Sys2Proof/Machine/Act.lean ====
section
/-! DEFINITION. How every command acts: on the module, leaving the queue of waiting commands alone. -/

namespace Sys2Proof.Machine

/-- A command with effect f: the module after f. `ok`: its operands name hardware that exists; a command for which they do not
finds nothing to act on, as a write to a reserved location does (R244, R472). -/
def State.act (s : State) (ok : Bool) (f : Module → Module) : Host.Outcome State Fault Refusal :=
  .next { s with toModule := if ok then f s.toModule else s.toModule }

end Sys2Proof.Machine
end

