-- ==== Sys2Proof/Machine/CmdAdmission.lean ====
section
/-! DEFINITION. The release gate and the admission counters (R223, R228, R229, R240): the meaning of each command, one definition per row. -/

namespace Sys2Proof.Machine

/-- RELEASE_GATE_OPEN (R229). -/
def execReleaseGateOpen (cycle : Nat) (s : State) : Host.Outcome State Fault Refusal :=
  s.act (isCycle cycle) (fun m => m.releaseGate cycle)

/-- ADM_CNT_CLR_PEAK (R223). -/
def execAdmCntClrPeak (s : State) : Host.Outcome State Fault Refusal := s.act true (fun m => m.clrPeak)

/-- ADM_CNT_CLR_REASONS (R228). -/
def execAdmCntClrReasons (s : State) : Host.Outcome State Fault Refusal := s.act true (fun m => m.clrReasons)

/-- ADM_CNT_CLR_OUTCOMES (R240). -/
def execAdmCntClrOutcomes (s : State) : Host.Outcome State Fault Refusal := s.act true (fun m => m.clrOutcomes)

end Sys2Proof.Machine
end

