-- ==== Sys2Proof/Machine/CmdBoot.lean ====
section
/-! DEFINITION. Resets, the boot sequence, ownership, SPDM, the check-value engines and the context view (R151, R165, R458 to R470, R478): the meaning of each command, one definition per row. -/

namespace Sys2Proof.Machine

/-- POWER_ON_RESET (R458). -/
def execPowerOnReset (s : State) : Host.Outcome State Fault Refusal := s.act true (fun m => m.powerOn)

/-- MOD_RESET_N (R458). -/
def execModResetN (s : State) : Host.Outcome State Fault Refusal := s.act true (fun m => m.modReset)

/-- HUB_RESET_MODULE (R458). -/
def execHubResetModule (v : Nat) (s : State) : Host.Outcome State Fault Refusal := s.act (isWord v) (fun m => m.hubReset v)

/-- WATCHDOG_EXPIRY (R458). -/
def execWatchdogExpiry (s : State) : Host.Outcome State Fault Refusal := s.act true (fun m => m.watchdog)

/-- FIRMWARE_VERIFIED (R460). -/
def execFirmwareVerified (s : State) : Host.Outcome State Fault Refusal := s.act true (fun m => m.firmwareVerified)

/-- BOOT_DEVICES_READY (R459). -/
def execBootDevicesReady (found : BootTest) (s : State) : Host.Outcome State Fault Refusal :=
  s.act true (fun m => m.bootDevices found)

/-- BOOT_STRUCTURE_APPLIED (R151). -/
def execBootStructureApplied (s : State) : Host.Outcome State Fault Refusal := s.act true (fun m => m.bootStructure)

/-- BOOT_READY (R459). -/
def execBootReady (s : State) : Host.Outcome State Fault Refusal := s.act true (fun m => m.bootReady)

/-- RECOVERY_IMAGE (R460). -/
def execRecoveryImage (img : FwImage) (s : State) : Host.Outcome State Fault Refusal :=
  s.act true (fun m => m.recoveryImage img)

/-- FW_UPDATE (R461). -/
def execFwUpdate (e : List Nat) (img : Option FwImage) (flashOk : Bool) (s : State) : Host.Outcome State Fault Refusal :=
  s.act (isEntry e) (fun m => m.fwUpdate e img flashOk)

/-- OWNER_ENROL (R463). -/
def execOwnerEnrol (e : List Nat) (block : Option (List Nat)) (flashOk : Bool) (s : State) : Host.Outcome State Fault Refusal :=
  s.act (isEntry e) (fun m => m.ownerEnrol e block flashOk)

/-- OWNER_UPDATE (R463). -/
def execOwnerUpdate (e : List Nat) (block : Option (List Nat)) (flashOk : Bool) (s : State) : Host.Outcome State Fault Refusal :=
  s.act (isEntry e) (fun m => m.ownerUpdate e block flashOk)

/-- OWNER_RELEASE (R463). -/
def execOwnerRelease (e : List Nat) (block : Option (List Nat)) (flashOk : Bool) (s : State) : Host.Outcome State Fault Refusal :=
  s.act (isEntry e) (fun m => m.ownerRelease e block flashOk)

/-- SEC_LOCK_SET (R466). -/
def execSecLockSet (v : Nat) (s : State) : Host.Outcome State Fault Refusal := s.act (isWord v) (fun m => m.secLock v)

/-- GET_VERSION (R467). -/
def execGetVersion (transport : Nat) (s : State) : Host.Outcome State Fault Refusal :=
  s.act (below transport 2) (fun m => m.spdmVersion transport)

/-- GET_CAPABILITIES (R467). -/
def execGetCapabilities (transport : Nat) (s : State) : Host.Outcome State Fault Refusal :=
  s.act (below transport 2) (fun m => m.spdmCaps transport)

/-- NEGOTIATE_ALGORITHMS (R467). -/
def execNegotiateAlgorithms (transport : Nat) (req : List Nat) (s : State) : Host.Outcome State Fault Refusal :=
  s.act (below transport 2 && isBytes req) (fun m => m.spdmAlgs transport req)

/-- GET_DIGESTS (R467). -/
def execGetDigests (transport : Nat) (s : State) : Host.Outcome State Fault Refusal :=
  s.act (below transport 2) (fun m => m.spdmDigests transport)

/-- GET_CERTIFICATE (R467). -/
def execGetCertificate (transport slot off len : Nat) (s : State) : Host.Outcome State Fault Refusal :=
  s.act (below transport 2 && below slot 16 && below off 65536 && below len 65536) (fun m => m.spdmCert transport slot off len)

/-- CHALLENGE (R467). -/
def execChallenge (transport slot : Nat) (nonce : List Nat) (s : State) : Host.Outcome State Fault Refusal :=
  s.act (below transport 2 && below slot 256 && isBytes nonce) (fun m => m.spdmChallenge transport slot nonce)

/-- GET_MEASUREMENTS (R468). -/
def execGetMeasurements (transport index : Nat) (nonce : List Nat) (s : State) : Host.Outcome State Fault Refusal :=
  s.act (below transport 2 && below index 256 && isBytes nonce) (fun m => m.spdmMeasure transport index nonce)

/-- CRC_GO (R470). -/
def execCrcGo (e v : Nat) (s : State) : Host.Outcome State Fault Refusal := s.act (below e 4 && isWord v) (fun m => m.crcGo e v)

/-- CRC_RUN_END (R469). -/
def execCrcRunEnd (e : Nat) (host : Option (List Nat)) (s : State) : Host.Outcome State Fault Refusal :=
  s.act (below e 4) (fun m => m.crcEnd e host)

/-- CTX_LATCH_VIEW (R165). -/
def execCtxLatchView (x : ViewRead) (s : State) : Host.Outcome State Fault Refusal :=
  s.act (isWord x.v) (fun m => m.ctxSel x.v x.errs)

/-- MOD_RESET_N_RELEASE (R478). -/
def execModResetNRelease (s : State) : Host.Outcome State Fault Refusal := s.act true (fun m => m.modRelease)

end Sys2Proof.Machine
end

