-- ==== Sys2Proof/Machine/CmdClock.lean ====
section
/-! DEFINITION. Commands of the clocks, the round, timers of other blocks that rounds drive, and register accesses (R11, R29 to R31, R95, R227, R238, R244, R268, R453): the meaning of each command, one definition per row. -/

namespace Sys2Proof.Machine

/-- ROUND_BOUNDARY (R30). -/
def execRoundBoundary (cv dw mj : Nat) (s : State) : Host.Outcome State Fault Refusal :=
  s.act true (fun m => m.roundBoundary cv dw mj)

/-- ROUND_MARK (R31). -/
def execRoundMark (conn : Nat) (s : State) : Host.Outcome State Fault Refusal := s.act (isConn conn) (fun m => m.roundMark conn)

/-- HELD_WINDOW_EXPIRY (R238). -/
def execHeldWindowExpiry (number : Nat) (s : State) : Host.Outcome State Fault Refusal :=
  s.act (below number 65536) (fun m => m.windowExpiry number)

/-- COALESCE_TIMEOUT (R268). -/
def execCoalesceTimeout (q : Nat) (s : State) : Host.Outcome State Fault Refusal :=
  s.act (isQueue q) (fun m => m.coalesceTimeout q)

/-- HUB_ROUND_LO_READ (R31). -/
def execHubRoundLoRead (s : State) : Host.Outcome State Fault Refusal := s.act true (fun m => m.readRoundLo)

/-- TINE_CYCLES_LO_READ (R95). -/
def execTineCyclesLoRead (site : Nat) (s : State) : Host.Outcome State Fault Refusal :=
  s.act (isSite site) (fun m => m.readCyclesLo site)

/-- TINE_MAT_PASSES_LO_READ (R95). -/
def execTineMatPassesLoRead (site : Nat) (s : State) : Host.Outcome State Fault Refusal :=
  s.act (isSite site) (fun m => m.readPassesLo site)

/-- ADM_ACCEPTED_LO_READ (R227). -/
def execAdmAcceptedLoRead (s : State) : Host.Outcome State Fault Refusal := s.act true (fun m => m.readAcceptedLo)

/-- CAL_OPSEC_LO_READ (R453). -/
def execCalOpsecLoRead (s : State) : Host.Outcome State Fault Refusal := s.act true (fun m => m.readOpsecLo)

/-- REGISTER_WRITE (R11). -/
def execRegisterWrite (place : BarAddr) (v : Nat) (s : State) : Host.Outcome State Fault Refusal :=
  s.act (isSpace place.space place.off && isWord v) (fun m => m.hostWrite32 place.space place.off v)

/-- UNSUPPORTED_ACCESS (R244). -/
def execUnsupportedAccess (x : HostAccess) (s : State) : Host.Outcome State Fault Refusal :=
  s.act (isSpace x.place.space x.place.off && isWord x.v) (fun m => m.hostMmio x.place.space x.place.off x.size x.write x.v)

/-- REFCLK_LOST (R29). -/
def execRefclkLost (s : State) : Host.Outcome State Fault Refusal := s.act true (fun m => m.refclkLost)

/-- REFCLK_RETURN (R29). -/
def execRefclkReturn (s : State) : Host.Outcome State Fault Refusal := s.act true (fun m => m.refclkReturn)

/-- HOLDOVER_SLEW_END (R29). -/
def execHoldoverSlewEnd (s : State) : Host.Outcome State Fault Refusal := s.act true (fun m => m.slewEnd)

/-- ROOT_PLL_UNLOCK (R29). -/
def execRootPllUnlock (s : State) : Host.Outcome State Fault Refusal := s.act true (fun m => m.rootUnlock)

/-- ROOT_PLL_LOCK (R30). -/
def execRootPllLock (phases : List Nat) (s : State) : Host.Outcome State Fault Refusal :=
  s.act true (fun m => m.rootLock phases)

/-- TREE_LOST_AT_DIE (R28). -/
def execTreeLostAtDie (rx : Nat) (s : State) : Host.Outcome State Fault Refusal :=
  s.act (below rx 88) (fun m => m.treeLostAtDie rx)

/-- BOTH_TREES_LOST (R29). -/
def execBothTreesLost (rx : Nat) (s : State) : Host.Outcome State Fault Refusal :=
  s.act (below rx 88) (fun m => m.bothTreesLost rx)

/-- CLOCK_LOSS_NOTICE (R29). -/
def execClockLossNotice (rx : Nat) (s : State) : Host.Outcome State Fault Refusal :=
  s.act (below rx 88) (fun m => m.clockLossNotice rx)

/-- TREE_SOURCE_LOST (R29). -/
def execTreeSourceLost (tree : Nat) (s : State) : Host.Outcome State Fault Refusal :=
  s.act (below tree 2) (fun m => m.treeSourceLost tree)

end Sys2Proof.Machine
end

