-- ==== Sys2Proof/Machine/CmdContext.lean ====
section
/-! DEFINITION. Submission entries that carry the opcodes of R251 (R166 to R182, R252 to R258): the meaning of each command, one definition per row. -/

namespace Sys2Proof.Machine

/-- LOAD_IMAGE (R169). -/
def execLoadImage (q : Nat) (e : List Nat) (ins outs : List (Nat × Nat)) (param : List Nat) (cycle : Nat) (s : State) : Host.Outcome State Fault Refusal :=
  s.act (isQueue q && isEntry e && isBytes param && isCycle cycle) (fun m => m.fetchOp 3 q e ins outs param cycle)

/-- LOAD_IMAGE_COPIED (R169). -/
def execLoadImageCopied (ctx : Nat) (bytes : List Nat) (s : State) : Host.Outcome State Fault Refusal :=
  s.act (below ctx 65536 && isBytes bytes) (fun m => m.loadCopied ctx bytes)

/-- EVICT (R178). -/
def execEvict (q : Nat) (e : List Nat) (ins outs : List (Nat × Nat)) (param : List Nat) (cycle : Nat) (s : State) : Host.Outcome State Fault Refusal :=
  s.act (isQueue q && isEntry e && isBytes param && isCycle cycle) (fun m => m.fetchOp 4 q e ins outs param cycle)

/-- PIN (R179). -/
def execPin (q : Nat) (e : List Nat) (ins outs : List (Nat × Nat)) (param : List Nat) (cycle : Nat) (s : State) : Host.Outcome State Fault Refusal :=
  s.act (isQueue q && isEntry e && isBytes param && isCycle cycle) (fun m => m.fetchOp 5 q e ins outs param cycle)

/-- QUERY (R258). -/
def execQuery (q : Nat) (e : List Nat) (ins outs : List (Nat × Nat)) (param : List Nat) (cycle : Nat) (s : State) : Host.Outcome State Fault Refusal :=
  s.act (isQueue q && isEntry e && isBytes param && isCycle cycle) (fun m => m.fetchOp 6 q e ins outs param cycle)

/-- CANCEL (R257). -/
def execCancel (q : Nat) (e : List Nat) (ins outs : List (Nat × Nat)) (param : List Nat) (cycle : Nat) (s : State) : Host.Outcome State Fault Refusal :=
  s.act (isQueue q && isEntry e && isBytes param && isCycle cycle) (fun m => m.fetchOp 7 q e ins outs param cycle)

/-- INVOKE (R252). -/
def execInvoke (q : Nat) (e : List Nat) (ins outs : List (Nat × Nat)) (param : List Nat) (cycle : Nat) (s : State) : Host.Outcome State Fault Refusal :=
  s.act (isQueue q && isEntry e && isBytes param && isCycle cycle) (fun m => m.fetchOp 1 q e ins outs param cycle)

/-- INVOKE_CHAIN (R254). -/
def execInvokeChain (q : Nat) (e : List Nat) (ins outs : List (Nat × Nat)) (param : List Nat) (cycle : Nat) (s : State) : Host.Outcome State Fault Refusal :=
  s.act (isQueue q && isEntry e && isBytes param && isCycle cycle) (fun m => m.fetchOp 2 q e ins outs param cycle)

end Sys2Proof.Machine
end

