-- ==== Sys2Proof/Machine/CmdFabric.lean ====
section
/-! DEFINITION. Packets, routing and the package ID (R238, R269, R330 to R345): the meaning of each command, one definition per row. -/

namespace Sys2Proof.Machine

/-- FABRIC_REQUEST (R269). -/
def execFabricRequest (p vc cycle : Nat) (s : State) : Host.Outcome State Fault Refusal :=
  s.act (isPort p && isVc vc && isCycle cycle) (fun m => m.fabricRequest p vc cycle)

/-- REPLY (R330). -/
def execReply (p vc : Nat) (s : State) : Host.Outcome State Fault Refusal :=
  s.act (isPort p && isVc vc) (fun m => m.replyPacket p vc)

/-- QUOTE (R238). -/
def execQuote (p number : Nat) (x : QuoteBody) (s : State) : Host.Outcome State Fault Refusal :=
  s.act (isPort p && below number 65536 && isCycle x.cycle) (fun m => m.quotePacket p number x.durations x.cycle)

/-- SUBREQ (R238). -/
def execSubreq (p vc number cid seed flat outCap : Nat) (data : List Nat) (cycle : Nat) (s : State) : Host.Outcome State Fault Refusal :=
  s.act (isPort p && isVc vc && below number 65536 && below cid 65536 && isWord seed && isWord flat && isBytes data && isCycle cycle) (fun m => m.subreqPacket p vc number cid seed flat outCap data cycle)

/-- STREAM_PACKET (R330). -/
def execStreamPacket (p vc fromSlice : Nat) (s : State) : Host.Outcome State Fault Refusal :=
  s.act (isPort p && isVc vc && below fromSlice 64) (fun m => m.streamPacket p vc fromSlice)

/-- PACKET_FORWARD (R337). -/
def execPacketForward (p vc : Nat) (s : State) : Host.Outcome State Fault Refusal :=
  s.act (isPort p && isVc vc) (fun m => m.packetForward p vc)

/-- NOTICE (R338). -/
def execNotice (p : Nat) (group : Bool) (target : Nat) (down : Bool) (s : State) : Host.Outcome State Fault Refusal :=
  s.act (isPort p && below target (if group then 512 else 32)) (fun m => m.noticePacket p group target down)

/-- NOTICE_SEND (R338). -/
def execNoticeSend (p : Nat) (s : State) : Host.Outcome State Fault Refusal := s.act (isPort p) (fun m => m.noticeSend p)

/-- MESSAGE_REASSEMBLY_TIMEOUT (R331). -/
def execMessageReassemblyTimeout (src tag vc : Nat) (s : State) : Host.Outcome State Fault Refusal :=
  s.act (below src (2 ^ 20) && below tag 65536 && isVc vc) (fun m => m.reassemblyTimeout src tag vc)

/-- FABRIC_JOIN (R345). -/
def execFabricJoin (e : List Nat) (s : State) : Host.Outcome State Fault Refusal := s.act (isEntry e) (fun m => m.fabricJoin e)

/-- FABRIC_LEAVE (R345). -/
def execFabricLeave (e : List Nat) (s : State) : Host.Outcome State Fault Refusal :=
  s.act (isEntry e) (fun m => m.fabricLeave e)

/-- FABRIC_LEAVE_DONE (R345). -/
def execFabricLeaveDone (s : State) : Host.Outcome State Fault Refusal := s.act true (fun m => m.fabricLeft)

/-- RTE_COMMIT (R336). -/
def execRteCommit (s : State) : Host.Outcome State Fault Refusal := s.act true (fun m => m.rteCommit)

/-- SHADOW_TABLE_WRITE (R336). -/
def execShadowTableWrite (table index v : Nat) (s : State) : Host.Outcome State Fault Refusal :=
  s.act (below table 4 && below index 1024 && isWord v) (fun m => m.shadowWrite table index v)

/-- RTE_CLR_ALL (R341). -/
def execRteClrAll (s : State) : Host.Outcome State Fault Refusal := s.act true (fun m => m.rteClr)

end Sys2Proof.Machine
end

