-- ==== Sys2Proof/Machine/CmdHost.lean ====
section
/-! DEFINITION. Queues, doorbells, entries and PCIe resets (R247 to R249, R255, R266, R267, R271): the meaning of each command, one definition per row. -/

namespace Sys2Proof.Machine

/-- SQ_TAIL_DOORBELL (R266). -/
def execSqTailDoorbell (q v : Nat) (s : State) : Host.Outcome State Fault Refusal :=
  s.act (isQueue q && isWord v) (fun m => m.sqTail q v)

/-- CQ_HEAD_DOORBELL (R266). -/
def execCqHeadDoorbell (q v : Nat) (s : State) : Host.Outcome State Fault Refusal :=
  s.act (isQueue q && isWord v) (fun m => m.cqHead q v)

/-- SQ_ENTRY_FETCHED (R255). -/
def execSqEntryFetched (q : Nat) (e : List Nat) (data : EntryData) (cycle : Nat) (s : State) : Host.Outcome State Fault Refusal :=
  s.act (isQueue q && isEntry e && isBytes data.param && isCycle cycle) (fun m => m.sqEntry q e data cycle)

/-- SQ_FETCH_ERROR (R266). -/
def execSqFetchError (q : Nat) (s : State) : Host.Outcome State Fault Refusal := s.act (isQueue q) (fun m => m.sqFetchError q)

/-- ENTRY_TAKEN (R255). -/
def execEntryTaken (q cid : Nat) (data : List Nat) (cycle : Nat) (s : State) : Host.Outcome State Fault Refusal :=
  s.act (isQueue q && below cid 65536 && isBytes data && isCycle cycle) (fun m => m.inputCopied q cid data cycle)

/-- HOST_READ_FAIL (R255). -/
def execHostReadFail (q cid cycle : Nat) (s : State) : Host.Outcome State Fault Refusal :=
  s.act (isQueue q && below cid 65536 && isCycle cycle) (fun m => m.hostReadFail q cid cycle)

/-- CREATE_QUEUE (R249). -/
def execCreateQueue (e : List Nat) (s : State) : Host.Outcome State Fault Refusal :=
  s.act (isEntry e) (fun m => m.createQueue e)

/-- DELETE_QUEUE (R249). -/
def execDeleteQueue (e : List Nat) (s : State) : Host.Outcome State Fault Refusal :=
  s.act (isEntry e) (fun m => m.deleteQueue e)

/-- QUEUE_DRAIN_DONE (R249). -/
def execQueueDrainDone (q : Nat) (s : State) : Host.Outcome State Fault Refusal := s.act (isQueue q) (fun m => m.queueDrained q)

/-- BIND (R267). -/
def execBind (e : List Nat) (s : State) : Host.Outcome State Fault Refusal := s.act (isEntry e) (fun m => m.bindCtx e)

/-- UNBIND (R249). -/
def execUnbind (e : List Nat) (s : State) : Host.Outcome State Fault Refusal := s.act (isEntry e) (fun m => m.unbindCtx e)

/-- QUE_ENABLE (R247). -/
def execQueEnable (s : State) : Host.Outcome State Fault Refusal := s.act true (fun m => m.queEnable)

/-- QUEUE0_ENABLED (R247). -/
def execQueue0Enabled (s : State) : Host.Outcome State Fault Refusal := s.act true (fun m => m.queue0Enabled)

/-- QUE_DISABLE (R247). -/
def execQueDisable (s : State) : Host.Outcome State Fault Refusal := s.act true (fun m => m.queDisable)

/-- PCIE_RESET (R271). -/
def execPcieReset (s : State) : Host.Outcome State Fault Refusal := s.act true (fun m => m.pcieReset)

end Sys2Proof.Machine
end

