-- ==== Sys2Proof/Machine/CmdLink.lean ====
section
/-! DEFINITION. The link layer of a fabric port (R302 to R323): the meaning of each command, one definition per row. -/

namespace Sys2Proof.Machine

/-- DATA_FLIT (R308). -/
def execDataFlit (p hdr : Nat) (grans : List (Nat × Nat)) (late : Bool) (s : State) : Host.Outcome State Fault Refusal :=
  s.act (isPort p && isGran hdr && decide (grans.length = 15)) (fun m => m.dataFlit p hdr grans late)

/-- IDLE_FLIT (R308). -/
def execIdleFlit (p hdr : Nat) (late : Bool) (s : State) : Host.Outcome State Fault Refusal :=
  s.act (isPort p && isGran hdr) (fun m => m.idleFlit p hdr late)

/-- FLIT_CRC_FAIL (R304). -/
def execFlitCrcFail (p : Nat) (s : State) : Host.Outcome State Fault Refusal := s.act (isPort p) (fun m => m.badFlit p)

/-- ACK_TIMEOUT (R310). -/
def execAckTimeout (p : Nat) (s : State) : Host.Outcome State Fault Refusal := s.act (isPort p) (fun m => m.ackTimeout p)

/-- INIT (R315). -/
def execInit (p pkg port serial role next : Nat) (seen : Bool) (advH advD : List Nat) (s : State) : Host.Outcome State Fault Refusal :=
  s.act (isPort p && below pkg 16384 && isPort port && below serial (2 ^ 64) && below role 4 && below next 65536 && decide (advH.length = 8) && decide (advD.length = 8)) (fun m => m.initFlit p pkg port serial role next seen advH advD)

/-- RETRAIN_REQ (R319). -/
def execRetrainReq (p hdr : Nat) (late : Bool) (kind : Nat) (s : State) : Host.Outcome State Fault Refusal :=
  s.act (isPort p && isGran hdr && below kind 2) (fun m => m.ctlFlit p hdr late (fun m => m.retrainReq p kind))

/-- MAP_PROPOSE (R320). -/
def execMapPropose (p hdr : Nat) (late : Bool) (map x clk : Nat) (passed : Bool) (s : State) : Host.Outcome State Fault Refusal :=
  s.act (isPort p && isGran hdr && below map 65536 && isWord x && below clk 32) (fun m => m.ctlFlit p hdr late (fun m => m.mapPropose p map x clk passed))

/-- MAP_REQUEST (R320). -/
def execMapRequest (p hdr : Nat) (late : Bool) (map x clk : Nat) (passed : Bool) (s : State) : Host.Outcome State Fault Refusal :=
  s.act (isPort p && isGran hdr && below map 65536 && isWord x && below clk 32) (fun m => m.ctlFlit p hdr late (fun m => m.mapRequest p map x clk passed))

/-- MAP_ACK (R320). -/
def execMapAck (p hdr : Nat) (late : Bool) (x map : Nat) (s : State) : Host.Outcome State Fault Refusal :=
  s.act (isPort p && isGran hdr && below map 65536 && isWord x) (fun m => m.ctlFlit p hdr late (fun m => m.mapAck p x map))

/-- MAP_REJECT (R320). -/
def execMapReject (p hdr : Nat) (late : Bool) (x reason : Nat) (s : State) : Host.Outcome State Fault Refusal :=
  s.act (isPort p && isGran hdr && isWord x && below reason 256) (fun m => m.ctlFlit p hdr late (fun m => m.mapReject p x reason))

/-- CREDIT_AUDIT (R314). -/
def execCreditAudit (p hdr : Nat) (late : Bool) (counts : List (Nat × Nat × Nat × Nat × Nat × Nat)) (s : State) : Host.Outcome State Fault Refusal :=
  s.act (isPort p && isGran hdr && decide (counts.length = 8)) (fun m => m.ctlFlit p hdr late (fun m => m.creditAudit p counts))

/-- LOOP_REQ (R317). -/
def execLoopReq (p hdr : Nat) (late : Bool) (s : State) : Host.Outcome State Fault Refusal :=
  s.act (isPort p && isGran hdr) (fun m => m.ctlFlit p hdr late (fun m => m.loopReq p))

/-- MAP_SWITCH (R320). -/
def execMapSwitch (p fibre : Nat) (s : State) : Host.Outcome State Fault Refusal :=
  s.act (isPort p && below fibre 2) (fun m => m.mapSwitch p fibre)

/-- MAP_REQUEST_TIMEOUT (R320). -/
def execMapRequestTimeout (p : Nat) (s : State) : Host.Outcome State Fault Refusal := s.act (isPort p) (fun m => m.mapTimeout p)

/-- SLOT_LOST (R321). -/
def execSlotLost (p slot : Nat) (s : State) : Host.Outcome State Fault Refusal :=
  s.act (isPort p && below slot 16) (fun m => m.slotLost p slot)

/-- CRC_FAIL_TIMEOUT (R321). -/
def execCrcFailTimeout (p : Nat) (s : State) : Host.Outcome State Fault Refusal := s.act (isPort p) (fun m => m.retrainAsk p)

/-- WAVE_RETRY (R322). -/
def execWaveRetry (p : Nat) (s : State) : Host.Outcome State Fault Refusal := s.act (isPort p) (fun m => m.waveRetry p)

/-- LINK_GRACE (R323). -/
def execLinkGrace (p : Nat) (s : State) : Host.Outcome State Fault Refusal := s.act (isPort p) (fun m => m.linkGrace p)

/-- GRACE_EXPIRY (R323). -/
def execGraceExpiry (p : Nat) (s : State) : Host.Outcome State Fault Refusal := s.act (isPort p) (fun m => m.graceExpiry p)

/-- INIT_RETRY (R323). -/
def execInitRetry (p : Nat) (s : State) : Host.Outcome State Fault Refusal := s.act (isPort p) (fun m => m.initRetry p)

/-- PHY_PORT_UP (R323). -/
def execPhyPortUp (p txMap rxMap : Nat) (eyes : Bool) (s : State) : Host.Outcome State Fault Refusal :=
  s.act (isPort p && below txMap 65536 && below rxMap 65536) (fun m => m.phyUp p txMap rxMap eyes)

/-- FLUSH_NOW (R323). -/
def execFlushNow (p : Nat) (s : State) : Host.Outcome State Fault Refusal := s.act (isPort p) (fun m => m.flushNow p)

/-- RETRAIN_FULL (R319). -/
def execRetrainFull (p : Nat) (s : State) : Host.Outcome State Fault Refusal := s.act (isPort p) (fun m => m.retrainAsk p)

/-- REINIT (R319). -/
def execReinit (p : Nat) (s : State) : Host.Outcome State Fault Refusal := s.act (isPort p) (fun m => m.reinitAsk p)

/-- FAB_CLR_ALL (R304). -/
def execFabClrAll (p : Nat) (s : State) : Host.Outcome State Fault Refusal := s.act (isPort p) (fun m => m.fabClr p)

end Sys2Proof.Machine
end

