-- ==== Sys2Proof/Machine/CmdMemory.lean ====
section
/-! DEFINITION. Memory: the scrubber, the CXL ports, the host region and the aperture (R191 to R208, R245, R474): the meaning of each command, one definition per row. -/

namespace Sys2Proof.Machine

/-- SCRUB_READ (R199). -/
def execScrubRead (e : Nat) (s : State) : Host.Outcome State Fault Refusal := s.act (below e (2 ^ 144)) (fun m => m.scrubRead e)

/-- GDDR7_TEMP_READ (R195). -/
def execGddr7TempRead (dev : Nat) (t : Int) (s : State) : Host.Outcome State Fault Refusal :=
  s.act (below dev 12) (fun m => m.gddrTemp dev t)

/-- CXL_LINK_DOWN (R205). -/
def execCxlLinkDown (p : Nat) (s : State) : Host.Outcome State Fault Refusal := s.act (below p 2) (fun m => m.cxlDown p)

/-- CXL_RETRAIN_END (R205). -/
def execCxlRetrainEnd (p : Nat) (dev : Option CxlDevice) (s : State) : Host.Outcome State Fault Refusal :=
  s.act (below p 2) (fun m => m.cxlRetrain p dev)

/-- CXL_BRINGUP (R202). -/
def execCxlBringup (p : Nat) (dev : CxlDevice) (s : State) : Host.Outcome State Fault Refusal :=
  s.act (below p 2) (fun m => m.cxlBringup p dev)

/-- MEM_HOST_REGION_WRITE (R206). -/
def execMemHostRegionWrite (v : Nat) (s : State) : Host.Outcome State Fault Refusal :=
  s.act (isWord v) (fun m => m.hostRegionWrite v)

/-- MEM_CNT_CLR_CIRQUE (R191). -/
def execMemCntClrCirque (s : State) : Host.Outcome State Fault Refusal := s.act true (fun m => m.clrCirque)

/-- MEM_CNT_CLR_DEV (R208). -/
def execMemCntClrDev (s : State) : Host.Outcome State Fault Refusal := s.act true (fun m => m.clrDev)

/-- BAR4_READ (R245). -/
def execBar4Read (o n : Nat) (s : State) : Host.Outcome State Fault Refusal := s.act true (fun m => m.bar4Read o n)

/-- BAR4_WRITE (R245). -/
def execBar4Write (o : Nat) (bytes : List Nat) (s : State) : Host.Outcome State Fault Refusal :=
  s.act (isBytes bytes) (fun m => m.bar4Write o bytes)

/-- HUB_APERTURE_BASE_WRITE (R474). -/
def execHubApertureBaseWrite (v : Nat) (s : State) : Host.Outcome State Fault Refusal :=
  s.act (isWord v) (fun m => m.apertureWrite v)

end Sys2Proof.Machine
end

