-- ==== Sys2Proof/Machine/CmdOptics.lean ====
section
/-! DEFINITION. Optical ports, sequence steps and laser banks (R145, R146, R280 to R296): the meaning of each command, one definition per row. -/

namespace Sys2Proof.Machine

/-- RING_LOCK_LOSS (R280). -/
def execRingLockLoss (p slot : Nat) (tx : Bool) (s : State) : Host.Outcome State Fault Refusal :=
  s.act (isPort p && below slot 17) (fun m => m.ringLost p slot tx)

/-- CLK_LOST (R282). -/
def execClkLost (p : Nat) (s : State) : Host.Outcome State Fault Refusal := s.act (isPort p) (fun m => m.clkLost p)

/-- CLOCK_FALLBACK_LOCK (R283). -/
def execClockFallbackLock (p : Nat) (s : State) : Host.Outcome State Fault Refusal :=
  s.act (isPort p) (fun m => m.fallbackLock p)

/-- FALLBACK_EXIT (R283). -/
def execFallbackExit (p : Nat) (s : State) : Host.Outcome State Fault Refusal := s.act (isPort p) (fun m => m.fallbackExit p)

/-- SETF (R145). -/
def execSetf (e t : Nat) (s : State) : Host.Outcome State Fault Refusal := s.act (isEngine e) (fun m => m.seqSetf e t)

/-- SETFS (R145). -/
def execSetfs (e t : Nat) (s : State) : Host.Outcome State Fault Refusal := s.act (isEngine e) (fun m => m.seqSetfs e t)

/-- GETF (R145). -/
def execGetf (e t sensed : Nat) (s : State) : Host.Outcome State Fault Refusal :=
  s.act (isEngine e && isWord sensed) (fun m => m.seqGetf e t sensed)

/-- LOADS (R145). -/
def execLoads (e t : Nat) (s : State) : Host.Outcome State Fault Refusal := s.act (isEngine e) (fun m => m.seqLoads e t)

/-- ADDS (R145). -/
def execAdds (e t : Nat) (s : State) : Host.Outcome State Fault Refusal := s.act (isEngine e) (fun m => m.seqAdds e t)

/-- WAIT (R145). -/
def execWait (e : Nat) (s : State) : Host.Outcome State Fault Refusal := s.act (isEngine e) (fun m => m.seqWaitStep e)

/-- POLL (R145). -/
def execPoll (e t sensed : Nat) (s : State) : Host.Outcome State Fault Refusal :=
  s.act (isEngine e && isWord sensed) (fun m => m.seqPoll e t sensed)

/-- BRS (R145). -/
def execBrs (e t : Nat) (s : State) : Host.Outcome State Fault Refusal := s.act (isEngine e) (fun m => m.seqBrs e t)

/-- MEASURE (R145). -/
def execMeasure (e t : Nat) (res : Option Nat) (s : State) : Host.Outcome State Fault Refusal :=
  s.act (isEngine e) (fun m => m.seqMeasure e t res)

/-- DONE (R145). -/
def execDone (e : Nat) (one : Bool) (s : State) : Host.Outcome State Fault Refusal :=
  s.act (isEngine e) (fun m => m.seqFinish e true one)

/-- FAIL (R145). -/
def execFail (e : Nat) (one : Bool) (s : State) : Host.Outcome State Fault Refusal :=
  s.act (isEngine e) (fun m => m.seqFinish e false one)

/-- SEQ_LIMIT_EXCEEDED (R146). -/
def execSeqLimitExceeded (e t : Nat) (s : State) : Host.Outcome State Fault Refusal :=
  s.act (isEngine e) (fun m => m.seqLimit e t)

/-- LASER_LOCKED (R287). -/
def execLaserLocked (bank slot unit : Nat) (s : State) : Host.Outcome State Fault Refusal :=
  s.act (below bank 4 && below slot 17 && below unit 2) (fun m => m.laserLocked bank slot unit)

/-- LASER_WARM_TIMEOUT (R287). -/
def execLaserWarmTimeout (bank slot unit : Nat) (s : State) : Host.Outcome State Fault Refusal :=
  s.act (below bank 4 && below slot 17 && below unit 2) (fun m => m.laserTimeout bank slot unit)

/-- LASER_FAIL (R287). -/
def execLaserFail (bank slot unit : Nat) (s : State) : Host.Outcome State Fault Refusal :=
  s.act (below bank 4 && below slot 17 && below unit 2) (fun m => m.laserFail bank slot unit)

/-- LASER_OVERPOWER (R287). -/
def execLaserOverpower (bank slot unit reading : Nat) (s : State) : Host.Outcome State Fault Refusal :=
  s.act (below bank 4 && below slot 17 && below unit 2) (fun m => m.laserOver bank slot unit reading)

/-- EOL_WARN (R288). -/
def execEolWarn (bank slot ratio : Nat) (s : State) : Host.Outcome State Fault Refusal :=
  s.act (below bank 4 && below slot 17) (fun m => m.eolWarn bank slot ratio)

/-- LAS_SWAP (R288). -/
def execLasSwap (bank slot : Nat) (s : State) : Host.Outcome State Fault Refusal :=
  s.act (below bank 4 && below slot 32) (fun m => m.askSwap bank slot)

/-- PLANNED_SWAP (R289). -/
def execPlannedSwap (bank : Nat) (s : State) : Host.Outcome State Fault Refusal :=
  s.act (below bank 4) (fun m => m.plannedSwap bank)

/-- SWAP_REMOVAL (R289). -/
def execSwapRemoval (bank : Nat) (s : State) : Host.Outcome State Fault Refusal :=
  s.act (below bank 4) (fun m => m.swapRemoval bank)

/-- SWAP_DEFERRAL (R289). -/
def execSwapDeferral (bank : Nat) (s : State) : Host.Outcome State Fault Refusal :=
  s.act (below bank 4) (fun m => m.swapDeferral bank)

/-- SWAP_DONE (R289). -/
def execSwapDone (bank : Nat) (s : State) : Host.Outcome State Fault Refusal := s.act (below bank 4) (fun m => m.swapDone bank)

/-- FIBRE_OVERPOWER (R293). -/
def execFibreOverpower (p reading : Nat) (s : State) : Host.Outcome State Fault Refusal :=
  s.act (isPort p) (fun m => m.overpower p reading)

/-- CLEAR_SAFETY (R293). -/
def execClearSafety (p : Nat) (s : State) : Host.Outcome State Fault Refusal := s.act (isPort p) (fun m => m.clearSafety p)

/-- FIBRE_DARK (R295). -/
def execFibreDark (p : Nat) (s : State) : Host.Outcome State Fault Refusal := s.act (isPort p) (fun m => m.fibreDark p)

/-- SAFE_PROBE (R295). -/
def execSafeProbe (p : Nat) (s : State) : Host.Outcome State Fault Refusal := s.act (isPort p) (fun m => m.safeProbe p)

/-- PROBE_RECEIVED (R295). -/
def execProbeReceived (p : Nat) (s : State) : Host.Outcome State Fault Refusal := s.act (isPort p) (fun m => m.probeSeen p)

/-- FIRN_RETRAIN (R284). -/
def execFirnRetrain (p : Nat) (s : State) : Host.Outcome State Fault Refusal := s.act (isPort p) (fun m => m.firnRetrain p)

/-- USE_SPARE (R296). -/
def execUseSpare (p : Nat) (s : State) : Host.Outcome State Fault Refusal := s.act (isPort p) (fun m => m.useSpare p)

/-- LOOP_MODE_WRITE (R286). -/
def execLoopModeWrite (p mode pattern : Nat) (s : State) : Host.Outcome State Fault Refusal :=
  s.act (isPort p && below mode 8 && below pattern 4) (fun m => m.loopMode p mode pattern)

end Sys2Proof.Machine
end

