-- ==== Sys2Proof/Machine/CmdPairing.lean ====
section
/-! DEFINITION. Pairing: the lease, fail-fast, the state delta, switch-over (R377 to R402, R414): the meaning of each command, one definition per row. -/

namespace Sys2Proof.Machine

/-- PAIR_FORM (R378). -/
def execPairForm (e : List Nat) (info : PeerInfo) (s : State) : Host.Outcome State Fault Refusal :=
  s.act (isEntry e) (fun m => m.pairForm e info)

/-- PAIR_DISSOLVE (R377). -/
def execPairDissolve (e : List Nat) (s : State) : Host.Outcome State Fault Refusal :=
  s.act (isEntry e) (fun m => m.pairDissolve e)

/-- PAIR_HANDOVER (R402). -/
def execPairHandover (e : List Nat) (s : State) : Host.Outcome State Fault Refusal :=
  s.act (isEntry e) (fun m => m.pairHandover e)

/-- AUTO_HANDOVER (R402). -/
def execAutoHandover (s : State) : Host.Outcome State Fault Refusal := s.act true (fun m => m.autoHandover)

/-- HANDOVER_REQ (R402). -/
def execHandoverReq (p : Nat) (s : State) : Host.Outcome State Fault Refusal := s.act (isPort p) (fun m => m.handoverReq p)

/-- ACQUIRE (R390). -/
def execAcquire (p : Nat) (s : State) : Host.Outcome State Fault Refusal := s.act (isPort p) (fun m => m.acquire p)

/-- LEASE_GRANT (R390). -/
def execLeaseGrant (p : Nat) (lists : List HostLists) (s : State) : Host.Outcome State Fault Refusal :=
  s.act (isPort p) (fun m => m.leaseGrant p lists)

/-- RENEW (R390). -/
def execRenew (p : Nat) (s : State) : Host.Outcome State Fault Refusal := s.act (isPort p) (fun m => m.renew p)

/-- RENEW_PERIOD (R389). -/
def execRenewPeriod (s : State) : Host.Outcome State Fault Refusal := s.act true (fun m => m.renewPeriod)

/-- RENEW_ACK (R389). -/
def execRenewAck (p us : Nat) (s : State) : Host.Outcome State Fault Refusal := s.act (isPort p) (fun m => m.renewAck p us)

/-- LEASE_RELEASE (R390). -/
def execLeaseRelease (p : Nat) (s : State) : Host.Outcome State Fault Refusal := s.act (isPort p) (fun m => m.leaseRelease p)

/-- LEASE_QUERY (R390). -/
def execLeaseQuery (p us : Nat) (s : State) : Host.Outcome State Fault Refusal := s.act (isPort p) (fun m => m.leaseQuery p us)

/-- LEASE_STATUS (R394). -/
def execLeaseStatus (p : Nat) (s : State) : Host.Outcome State Fault Refusal := s.act (isPort p) (fun m => m.leaseStatus p)

/-- DENY (R390). -/
def execDeny (p : Nat) (s : State) : Host.Outcome State Fault Refusal := s.act (isPort p) (fun m => m.deny p)

/-- FAIL_FAST (R394). -/
def execFailFast (p : Nat) (s : State) : Host.Outcome State Fault Refusal := s.act (isPort p) (fun m => m.failFastRx p)

/-- ANNOUNCE (R396). -/
def execAnnounce (p : Nat) (s : State) : Host.Outcome State Fault Refusal := s.act (isPort p) (fun m => m.announce p)

/-- ANNOUNCE_REPEAT (R396). -/
def execAnnounceRepeat (pkg : Nat) (s : State) : Host.Outcome State Fault Refusal :=
  s.act (below pkg 16384) (fun m => m.announceRepeat pkg)

/-- DETACH (R388). -/
def execDetach (p : Nat) (s : State) : Host.Outcome State Fault Refusal := s.act (isPort p) (fun m => m.detach p)

/-- LEASE_MESSAGE_REPEAT (R388). -/
def execLeaseMessageRepeat (index : Nat) (overdue : Bool) (s : State) : Host.Outcome State Fault Refusal :=
  s.act true (fun m => m.leaseRepeat index overdue)

/-- SELF_FENCE (R389). -/
def execSelfFence (s : State) : Host.Outcome State Fault Refusal := s.act true (fun m => m.selfFence)

/-- LEASE_EXPIRY (R389). -/
def execLeaseExpiry (s : State) : Host.Outcome State Fault Refusal := s.act true (fun m => m.leaseExpiry)

/-- WITNESS_LEASE_EXPIRY (R390). -/
def execWitnessLeaseExpiry (pair : Nat) (s : State) : Host.Outcome State Fault Refusal :=
  s.act (below pair 16384) (fun m => m.witnessExpiry pair)

/-- STANDBY_BINDING_END (R391). -/
def execStandbyBindingEnd (s : State) : Host.Outcome State Fault Refusal := s.act true (fun m => m.bindingEnd)

/-- WITNESS_START_END (R390). -/
def execWitnessStartEnd (s : State) : Host.Outcome State Fault Refusal := s.act true (fun m => m.witnessStarted)

/-- FAIL_FAST_EVENT (R414). -/
def execFailFastEvent (cls sub : Nat) (detail : List Nat) (s : State) : Host.Outcome State Fault Refusal :=
  s.act (below cls 256 && below sub 65536) (fun m => m.failFastEvent cls sub detail)

/-- KV_RECORD (R385). -/
def execKvRecord (p : Nat) (s : State) : Host.Outcome State Fault Refusal := s.act (isPort p) (fun m => m.deltaRecord p 2)

/-- OUT_RECORD (R385). -/
def execOutRecord (p : Nat) (s : State) : Host.Outcome State Fault Refusal := s.act (isPort p) (fun m => m.deltaRecord p 3)

/-- DESC_RECORD (R383). -/
def execDescRecord (p : Nat) (s : State) : Host.Outcome State Fault Refusal := s.act (isPort p) (fun m => m.deltaRecord p 4)

/-- MOD_RECORD (R385). -/
def execModRecord (p : Nat) (s : State) : Host.Outcome State Fault Refusal := s.act (isPort p) (fun m => m.deltaRecord p 5)

/-- REQ_RECORD (R386). -/
def execReqRecord (p : Nat) (s : State) : Host.Outcome State Fault Refusal := s.act (isPort p) (fun m => m.deltaRecord p 1)

/-- CLOSE_RECORD (R387). -/
def execCloseRecord (p cycle : Nat) (s : State) : Host.Outcome State Fault Refusal :=
  s.act (isPort p && isCycle cycle) (fun m => m.closeRec p cycle)

/-- CHECKPOINT_RECORD (R399). -/
def execCheckpointRecord (p : Nat) (s : State) : Host.Outcome State Fault Refusal := s.act (isPort p) (fun m => m.ckptRec p)

/-- DELTA_ACK (R387). -/
def execDeltaAck (p : Nat) (s : State) : Host.Outcome State Fault Refusal := s.act (isPort p) (fun m => m.deltaAck p)

/-- STANDBY_LOSS (R387). -/
def execStandbyLoss (s : State) : Host.Outcome State Fault Refusal := s.act true (fun m => m.standbyLoss)

/-- PAIRING_PORT_DOWN (R387). -/
def execPairingPortDown (p : Nat) (s : State) : Host.Outcome State Fault Refusal :=
  s.act (isPort p) (fun m => m.pairingPortDown p)

/-- CLOSE_TIMEOUT (R394). -/
def execCloseTimeout (s : State) : Host.Outcome State Fault Refusal := s.act true (fun m => m.closeTimeout)

/-- SWITCHOVER_START (R395). -/
def execSwitchoverStart (lists : List HostLists) (s : State) : Host.Outcome State Fault Refusal :=
  s.act true (fun m => m.switchover lists)

/-- RESYNC_COMPLETE (R401). -/
def execResyncComplete (kv : List (Nat × List Nat)) (reqs : List (List Nat)) (subs : List Nat) (s : State) : Host.Outcome State Fault Refusal :=
  s.act true (fun m => m.resyncComplete kv reqs subs)

/-- PAIR_CLR_ALL (R387). -/
def execPairClrAll (s : State) : Host.Outcome State Fault Refusal := s.act true (fun m => m.pairClr)

end Sys2Proof.Machine
end

