-- ==== Sys2Proof/Machine/CmdPower.lean ====
section
/-! DEFINITION. Temperature, budgets, supplies, calibration and the operating-seconds counter (R430 to R457): the meaning of each command, one definition per row. -/

namespace Sys2Proof.Machine

/-- TEMP_SAMPLE (R436). -/
def execTempSample (ch : Nat) (t : Int) (isOpen stale : Bool) (s : State) : Host.Outcome State Fault Refusal :=
  s.act (below ch 100) (fun m => m.tempSample ch t isOpen stale)

/-- THM_FORCE_WRITE (R441). -/
def execThmForceWrite (ch v : Nat) (s : State) : Host.Outcome State Fault Refusal :=
  s.act (below ch 128 && below v 65536) (fun m => m.thmForceTo ch v)

/-- THM_RELEASE (R441). -/
def execThmRelease (ch v : Nat) (s : State) : Host.Outcome State Fault Refusal :=
  s.act (below ch 128 && below v 65536) (fun m => m.thmReleaseCh ch v)

/-- THM_RETEST (R441). -/
def execThmRetest (ch v : Nat) (s : State) : Host.Outcome State Fault Refusal :=
  s.act (below ch 128 && below v 65536) (fun m => m.thmRetestCh ch v)

/-- CLEAR_SHUTDOWN (R437). -/
def execClearShutdown (ch v : Nat) (s : State) : Host.Outcome State Fault Refusal :=
  s.act (below ch 128 && below v 65536) (fun m => m.clearShutdown ch v)

/-- THM_CURVE_WRITE (R438). -/
def execThmCurveWrite (index v : Nat) (s : State) : Host.Outcome State Fault Refusal :=
  s.act (below index 21 && isWord v) (fun m => m.curveWrite index v)

/-- BUDGET_GRANT (R431). -/
def execBudgetGrant (conn : Nat) (s : State) : Host.Outcome State Fault Refusal :=
  s.act (below conn 88) (fun m => m.budgetGrant conn)

/-- BUDGET_REQUEST (R431). -/
def execBudgetRequest (conn mw : Nat) (s : State) : Host.Outcome State Fault Refusal :=
  s.act (below conn 88) (fun m => m.budgetRequest conn mw)

/-- BUDGET_RETURN (R431). -/
def execBudgetReturn (conn mj mw : Nat) (s : State) : Host.Outcome State Fault Refusal :=
  s.act (below conn 88) (fun m => m.budgetReturn conn mj mw)

/-- SUPPLY_OUT_OF_WINDOW (R430). -/
def execSupplyOutOfWindow (d mv : Nat) (s : State) : Host.Outcome State Fault Refusal :=
  s.act (below d 170) (fun m => m.supplyOut d mv)

/-- INPUT_OUT_OF_WINDOW (R457). -/
def execInputOutOfWindow (cv : Nat) (s : State) : Host.Outcome State Fault Refusal := s.act true (fun m => m.inputOut cv)

/-- POWER_FAIL_COMMIT_DONE (R457). -/
def execPowerFailCommitDone (s : State) : Host.Outcome State Fault Refusal := s.act true (fun m => m.powerFailDone)

/-- CAL_RUN (R448). -/
def execCalRun (mask : Nat) (s : State) : Host.Outcome State Fault Refusal := s.act (below mask 32) (fun m => m.calRun mask)

/-- CAL_RUN_DONE (R448). -/
def execCalRunDone (vals : List (Nat × Nat × Nat)) (s : State) : Host.Outcome State Fault Refusal :=
  s.act true (fun m => m.calRunDone vals)

/-- CAL_STORE_DONE (R451). -/
def execCalStoreDone (s : State) : Host.Outcome State Fault Refusal := s.act true (fun m => m.calStoreDone)

/-- CAL_STORE_RETRY (R451). -/
def execCalStoreRetry (s : State) : Host.Outcome State Fault Refusal := s.act true (fun m => m.calStoreRetry)

/-- CAL_REVERT (R450). -/
def execCalRevert (mask : Nat) (s : State) : Host.Outcome State Fault Refusal :=
  s.act (below mask 32) (fun m => m.calRevert mask)

/-- OPSEC_TICK (R453). -/
def execOpsecTick (s : State) : Host.Outcome State Fault Refusal := s.act true (fun m => m.opsecTick)

/-- OPSEC_RECORD (R453). -/
def execOpsecRecord (s : State) : Host.Outcome State Fault Refusal := s.act true (fun m => m.opsecRecord)

end Sys2Proof.Machine
end

