-- ==== Sys2Proof/Machine/CmdQuinhorn.lean ====
section
/-! DEFINITION. Quinhorn bundles, guest sites, debug accesses and the firewall (R350 to R375, R434): the meaning of each command, one definition per row. -/

namespace Sys2Proof.Machine

/-- QLK_LINK_FRAME (R350). -/
def execQlkLinkFrame (conn b frame : Nat) (late : Bool) (s : State) : Host.Outcome State Fault Refusal :=
  s.act (isBundle conn b && below frame (2 ^ 256)) (fun m => m.qframe conn b frame late)

/-- QLK_GRANULE (R351). -/
def execQlkGranule (conn b d check : Nat) (s : State) : Host.Outcome State Fault Refusal :=
  s.act (isBundle conn b && isGran d && below check 65536) (fun m => m.qgranule conn b d check)

/-- QLK_ACK_TIMEOUT (R352). -/
def execQlkAckTimeout (conn b : Nat) (s : State) : Host.Outcome State Fault Refusal :=
  s.act (isBundle conn b) (fun m => m.qackTimeout conn b)

/-- QLK_CLOCK_LOSS (R372). -/
def execQlkClockLoss (conn b : Nat) (s : State) : Host.Outcome State Fault Refusal :=
  s.act (isBundle conn b) (fun m => m.retrain conn b)

/-- CAP (R362). -/
def execCap (conn b major minor lanes mask maxLen retimers : Nat) (credits : List Nat) (s : State) : Host.Outcome State Fault Refusal :=
  s.act (isBundle conn b) (fun m => m.qcap conn b major minor lanes mask maxLen retimers credits)

/-- QLK_MAP (R361). -/
def execQlkMap (conn b : Nat) (rx tx : List Nat) (s : State) : Host.Outcome State Fault Refusal :=
  s.act (isBundle conn b) (fun m => m.qmap conn b rx tx)

/-- QLK_MAP_ACK (R361). -/
def execQlkMapAck (conn b : Nat) (rx tx : List Nat) (s : State) : Host.Outcome State Fault Refusal :=
  s.act (isBundle conn b) (fun m => m.qmapAck conn b rx tx)

/-- TEST_START (R372). -/
def execTestStart (conn b failed : Nat) (s : State) : Host.Outcome State Fault Refusal :=
  s.act (isBundle conn b) (fun m => m.qtestStart conn b failed)

/-- TEST_RESULT (R372). -/
def execTestResult (conn b failed : Nat) (s : State) : Host.Outcome State Fault Refusal :=
  s.act (isBundle conn b) (fun m => m.qtestResult conn b failed)

/-- QLK_RETRAIN_REQ (R372). -/
def execQlkRetrainReq (conn b : Nat) (s : State) : Host.Outcome State Fault Refusal :=
  s.act (isBundle conn b) (fun m => m.retrain conn b)

/-- READY (R371). -/
def execReady (conn b : Nat) (s : State) : Host.Outcome State Fault Refusal :=
  s.act (isBundle conn b) (fun m => m.qready conn b)

/-- BUNDLE_RETRAIN (R372). -/
def execBundleRetrain (conn b : Nat) (failed : Bool) (s : State) : Host.Outcome State Fault Refusal :=
  s.act (isBundle conn b) (fun m => m.bundleRetrain conn b failed)

/-- BUNDLE_RETIRE (R373). -/
def execBundleRetire (conn b : Nat) (fill stage : Bool) (s : State) : Host.Outcome State Fault Refusal :=
  s.act (isBundle conn b) (fun m => m.bundleRetire conn b fill stage)

/-- QLK_RETRAIN (R372). -/
def execQlkRetrain (conn b : Nat) (s : State) : Host.Outcome State Fault Refusal :=
  s.act (isConn conn && below b 16) (fun m => m.retrain conn b)

/-- QLK_CLR_ALL (R372). -/
def execQlkClrAll (conn : Nat) (s : State) : Host.Outcome State Fault Refusal := s.act (isConn conn) (fun m => m.qclear conn)

/-- PARTIAL_RESET (R375). -/
def execPartialReset (conn : Nat) (s : State) : Host.Outcome State Fault Refusal :=
  s.act (isConn conn) (fun m => m.partialReset conn)

/-- RD (R357). -/
def execRd (g : Nat) (s : State) : Host.Outcome State Fault Refusal := s.act (isGuest g) (fun m => m.guestRd g)

/-- RD_RESP (R357). -/
def execRdResp (g : Nat) (s : State) : Host.Outcome State Fault Refusal := s.act (isGuest g) (fun m => m.sendDue g 0 1 0)

/-- WR (R357). -/
def execWr (g : Nat) (s : State) : Host.Outcome State Fault Refusal := s.act (isGuest g) (fun m => m.guestWr g)

/-- WR_MASKED (R357). -/
def execWrMasked (g : Nat) (s : State) : Host.Outcome State Fault Refusal := s.act (isGuest g) (fun m => m.guestWrMasked g)

/-- WR_ACK (R358). -/
def execWrAck (g : Nat) (s : State) : Host.Outcome State Fault Refusal := s.act (isGuest g) (fun m => m.sendDue g 0 4 0)

/-- AT_ADD (R357). -/
def execAtAdd (g : Nat) (s : State) : Host.Outcome State Fault Refusal := s.act (isGuest g) (fun m => m.guestAtAdd g)

/-- AT_SWAP (R357). -/
def execAtSwap (g : Nat) (s : State) : Host.Outcome State Fault Refusal := s.act (isGuest g) (fun m => m.guestAtSwap g)

/-- AT_CAS (R357). -/
def execAtCas (g : Nat) (s : State) : Host.Outcome State Fault Refusal := s.act (isGuest g) (fun m => m.guestAtCas g)

/-- AT_RESP (R357). -/
def execAtResp (g : Nat) (s : State) : Host.Outcome State Fault Refusal := s.act (isGuest g) (fun m => m.sendDue g 0 8 0)

/-- GUEST_COPY (R357). -/
def execGuestCopy (g : Nat) (s : State) : Host.Outcome State Fault Refusal := s.act (isGuest g) (fun m => m.guestCopy g)

/-- RD_S (R359). -/
def execRdS (g : Nat) (s : State) : Host.Outcome State Fault Refusal := s.act (isGuest g) (fun m => m.cohRequest g 0)

/-- RD_M (R359). -/
def execRdM (g : Nat) (s : State) : Host.Outcome State Fault Refusal := s.act (isGuest g) (fun m => m.cohRequest g 1)

/-- UPG (R359). -/
def execUpg (g : Nat) (s : State) : Host.Outcome State Fault Refusal := s.act (isGuest g) (fun m => m.cohRequest g 2)

/-- WB_M (R359). -/
def execWbM (g : Nat) (s : State) : Host.Outcome State Fault Refusal := s.act (isGuest g) (fun m => m.cohWriteBack g)

/-- COH_EVICT (R359). -/
def execCohEvict (g : Nat) (s : State) : Host.Outcome State Fault Refusal := s.act (isGuest g) (fun m => m.cohEvict g)

/-- COH_GRANT (R359). -/
def execCohGrant (g : Nat) (s : State) : Host.Outcome State Fault Refusal := s.act (isGuest g) (fun m => m.sendDue g 1 5 1)

/-- SNP_INV (R359). -/
def execSnpInv (g : Nat) (s : State) : Host.Outcome State Fault Refusal := s.act (isGuest g) (fun m => m.sendSnoop g true)

/-- SNP_S (R359). -/
def execSnpS (g : Nat) (s : State) : Host.Outcome State Fault Refusal := s.act (isGuest g) (fun m => m.sendSnoop g false)

/-- SNP_ACK (R359). -/
def execSnpAck (g : Nat) (s : State) : Host.Outcome State Fault Refusal := s.act (isGuest g) (fun m => m.snoopAck g)

/-- SNOOP_TIMEOUT (R359). -/
def execSnoopTimeout (g line : Nat) (s : State) : Host.Outcome State Fault Refusal :=
  s.act (isGuest g) (fun m => m.snoopTimeout g line)

/-- EVENT (R364). -/
def execEvent (g : Nat) (s : State) : Host.Outcome State Fault Refusal := s.act (isGuest g) (fun m => m.guestEvent g)

/-- DRD (R360). -/
def execDrd (conn : Nat) (s : State) : Host.Outcome State Fault Refusal := s.act (isConn conn) (fun m => m.dbgRead conn)

/-- DRD_RESP (R360). -/
def execDrdResp (conn : Nat) (s : State) : Host.Outcome State Fault Refusal := s.act (isConn conn) (fun m => m.dbgAnswer conn 1)

/-- DWR (R360). -/
def execDwr (conn : Nat) (s : State) : Host.Outcome State Fault Refusal := s.act (isConn conn) (fun m => m.dbgWrite conn)

/-- DWR_ACK (R360). -/
def execDwrAck (conn : Nat) (s : State) : Host.Outcome State Fault Refusal := s.act (isConn conn) (fun m => m.dbgAnswer conn 3)

/-- DEBUG_TIMEOUT (R360). -/
def execDebugTimeout (s : State) : Host.Outcome State Fault Refusal := s.act true (fun m => m.dbgTimeout)

/-- DBG_GO (R360). -/
def execDbgGo (write : Bool) (conn : Nat) (s : State) : Host.Outcome State Fault Refusal :=
  s.act (below conn 128) (fun m => m.dbgGo write conn)

/-- UNFENCE (R366). -/
def execUnfence (g : Nat) (s : State) : Host.Outcome State Fault Refusal :=
  s.act (isGuest g) (fun m => m.clr Reg.qlkFwCtl_fenced [g])

/-- CLR_VIOL (R366). -/
def execClrViol (g : Nat) (s : State) : Host.Outcome State Fault Refusal := s.act (isGuest g) (fun m => m.clrViol g)

/-- WIN_RIGHTS_WRITE (R365). -/
def execWinRightsWrite (g w v : Nat) (s : State) : Host.Outcome State Fault Refusal :=
  s.act (isGuest g && below w 16 && isWord v) (fun m => m.winRights g w v)

/-- GUEST_OVERPOWER (R434). -/
def execGuestOverpower (g mw : Nat) (s : State) : Host.Outcome State Fault Refusal :=
  s.act (isGuest g) (fun m => m.guestPower g mw)

end Sys2Proof.Machine
end

