-- ==== Sys2Proof/Machine/CmdSafety.lean ====
section
/-! DEFINITION. The fault pin, the log window, proof tests, the moraine record and snapshots (R408, R415, R416, R422 to R425): the meaning of each command, one definition per row. -/

namespace Sys2Proof.Machine

/-- FAULT_PIN_CLR (R408). -/
def execFaultPinClr (v : Nat) (s : State) : Host.Outcome State Fault Refusal := s.act (isWord v) (fun m => m.faultPinClr v)

/-- SAF_LOG_LATCH (R416). -/
def execSafLogLatch (v : Nat) (s : State) : Host.Outcome State Fault Refusal := s.act (isWord v) (fun m => m.logSel v)

/-- PROOF_TEST (R415). -/
def execProofTest (site : Nat) (pass : Bool) (bad : Option Nat) (s : State) : Host.Outcome State Fault Refusal :=
  s.act (isSite site) (fun m => m.proofTest site pass bad)

/-- MORAINE_WRITE (R422). -/
def execMoraineWrite (s : State) : Host.Outcome State Fault Refusal := s.act true (fun m => m.moraineWrite)

/-- SNAP_IN (R424). -/
def execSnapIn (s : State) : Host.Outcome State Fault Refusal := s.act true (fun m => m.snapIn)

/-- SNAP_TRIGGER (R424). -/
def execSnapTrigger (v : Nat) (s : State) : Host.Outcome State Fault Refusal := s.act (isWord v) (fun m => m.snapReg v)

/-- SNAP_LATCH (R425). -/
def execSnapLatch (cycle : Nat) (s : State) : Host.Outcome State Fault Refusal :=
  s.act (isCycle cycle) (fun m => m.snapLatch cycle)

/-- SNAP_CONFIRM_TIMEOUT (R425). -/
def execSnapConfirmTimeout (conn : Nat) (s : State) : Host.Outcome State Fault Refusal :=
  s.act (isConn conn) (fun m => m.snapAbsent conn)

/-- SNAP_REARM (R425). -/
def execSnapRearm (v : Nat) (s : State) : Host.Outcome State Fault Refusal := s.act (isWord v) (fun m => m.snapRearm v)

end Sys2Proof.Machine
end

