-- ==== Sys2Proof/Machine/CmdStage.lean ====
section
/-! DEFINITION. Stages, fills, bank switches and site states (R62, R86 to R95, R113, R162, R175, R180, R219, R409): the meaning of each command, one definition per row. -/

namespace Sys2Proof.Machine

/-- STAGE_FAULT_REPORT (R409). -/
def execStageFaultReport (site : Nat) (s : State) : Host.Outcome State Fault Refusal :=
  s.act (isSite site) (fun m => m.faultReport site)

/-- TILE_CHECKSUM_RECHECK (R62). -/
def execTileChecksumRecheck (s : State) : Host.Outcome State Fault Refusal := s.act true (fun m => m.recheckTile)

/-- STAGE_END_REPORT (R162). -/
def execStageEndReport (site : Nat) (s : State) : Host.Outcome State Fault Refusal :=
  s.act (isSite site) (fun m => m.endReport site)

/-- STAGE_DISPATCH (R219). -/
def execStageDispatch (req : Nat) (s : State) : Host.Outcome State Fault Refusal := s.act true (fun m => m.dispatchStage req)

/-- STREAM_FLIT (R113). -/
def execStreamFlit (site : Nat) (x : FlitHits) (s : State) : Host.Outcome State Fault Refusal :=
  s.act (isSite site && isHits x.hits) (fun m => m.streamFlit site x.flit x.hits)

/-- FILL_START (R175). -/
def execFillStart (fill : Nat) (s : State) : Host.Outcome State Fault Refusal := s.act true (fun m => m.fillStart fill)

/-- FILL_GRANULE (R86). -/
def execFillGranule (site : Nat) (x : FillHit) (s : State) : Host.Outcome State Fault Refusal :=
  s.act (isSite site && isBank x.bank && isHits x.fault.mesh) (fun m => m.fillStep site x.bank x.fault)

/-- FILL_END (R86). -/
def execFillEnd (site bank : Nat) (s : State) : Host.Outcome State Fault Refusal :=
  s.act (isSite site && isBank bank) (fun m => m.fillEnd site bank)

/-- FILL_ABORT (R86). -/
def execFillAbort (site bank : Nat) (s : State) : Host.Outcome State Fault Refusal :=
  s.act (isSite site && isBank bank) (fun m => m.fillAbort site bank)

/-- BANK_SWITCH_END (R88). -/
def execBankSwitchEnd (site : Nat) (env : OpEnv) (s : State) : Host.Outcome State Fault Refusal :=
  s.act (isSite site) (fun m => m.switchEnd site env)

/-- SPARE_CALLED (R91). -/
def execSpareCalled (site : Nat) (s : State) : Host.Outcome State Fault Refusal :=
  s.act (isSite site) (fun m => m.spareCalled site)

/-- ENTRY_TEST_DONE (R92). -/
def execEntryTestDone (site : Nat) (pass : Bool) (s : State) : Host.Outcome State Fault Refusal :=
  s.act (isSite site) (fun m => m.entryTest site pass)

/-- PARK_COMMAND (R91). -/
def execParkCommand (site : Nat) (s : State) : Host.Outcome State Fault Refusal := s.act (isSite site) (fun m => m.park site)

/-- WAKE_COMMAND (R91). -/
def execWakeCommand (site : Nat) (s : State) : Host.Outcome State Fault Refusal := s.act (isSite site) (fun m => m.wake site)

/-- MIGRATION_START (R180). -/
def execMigrationStart (site : Nat) (s : State) : Host.Outcome State Fault Refusal :=
  s.act (isSite site) (fun m => m.migrationStart site)

/-- MIGRATION_DONE (R91). -/
def execMigrationDone (site : Nat) (s : State) : Host.Outcome State Fault Refusal :=
  s.act (isSite site) (fun m => m.migrationDone site)

/-- TINE_CNT_CLR_ACTIVITY (R95). -/
def execTineCntClrActivity (site : Nat) (s : State) : Host.Outcome State Fault Refusal :=
  s.act (isSite site) (fun m => m.clrActivity site)

/-- TINE_CNT_CLR_CHECKFIELD (R95). -/
def execTineCntClrCheckfield (site : Nat) (s : State) : Host.Outcome State Fault Refusal :=
  s.act (isSite site) (fun m => m.clrCheckfield site)

/-- TINE_CNT_CLR_CORR (R95). -/
def execTineCntClrCorr (site : Nat) (s : State) : Host.Outcome State Fault Refusal :=
  s.act (isSite site) (fun m => m.clrCorr site)

end Sys2Proof.Machine
end

