-- ==== Sys2Proof/Machine/CmdStruct.lean ====
section
/-! DEFINITION. The structure bitstream (R149, R153 to R157): the meaning of each command, one definition per row. -/

namespace Sys2Proof.Machine

/-- STRUCT_VERIFY (R153). -/
def execStructVerify (s : State) : Host.Outcome State Fault Refusal := s.act true (fun m => m.structVerify)

/-- STRUCT_VERIFIED (R149). -/
def execStructVerified (s : State) : Host.Outcome State Fault Refusal := s.act true (fun m => m.structVerified)

/-- STRUCT_COMMIT (R154). -/
def execStructCommit (s : State) : Host.Outcome State Fault Refusal := s.act true (fun m => m.structCommit)

/-- STRUCT_ABORT (R154). -/
def execStructAbort (s : State) : Host.Outcome State Fault Refusal := s.act true (fun m => m.structAbort)

/-- QUIESCE_COMPLETE (R154). -/
def execQuiesceComplete (s : State) : Host.Outcome State Fault Refusal := s.act true (fun m => m.quiesceComplete)

/-- QUIESCE_TIMEOUT (R154). -/
def execQuiesceTimeout (s : State) : Host.Outcome State Fault Refusal := s.act true (fun m => m.quiesceTimeout)

/-- STRUCT_APPLY_DONE (R155). -/
def execStructApplyDone (s : State) : Host.Outcome State Fault Refusal := s.act true (fun m => m.structApplyDone)

/-- STRUCT_PERSIST (R153). -/
def execStructPersist (s : State) : Host.Outcome State Fault Refusal := s.act true (fun m => m.structPersist)

/-- STRUCT_PERSIST_DONE (R153). -/
def execStructPersistDone (ok : Bool) (s : State) : Host.Outcome State Fault Refusal :=
  s.act true (fun m => m.structPersistDone ok)

end Sys2Proof.Machine
end

