-- ==== Sys2Proof/Machine/CmdTine.lean ====
section
/-! DEFINITION. Operations of a Tine as its sequencer issues them, and their completion (R97 to R118): the meaning of each command, one definition per row. -/

namespace Sys2Proof.Machine

/-- TLOAD (R105). -/
def execTload (site : Nat) (env : OpEnv) (s : State) : Host.Outcome State Fault Refusal :=
  s.act (isSite site) (fun m => tloadOp site env m)

/-- ASTAGE (R106). -/
def execAstage (site : Nat) (env : OpEnv) (s : State) : Host.Outcome State Fault Refusal :=
  s.act (isSite site) (fun m => astageOp site env m)

/-- STREAM (R105). -/
def execStream (site : Nat) (env : OpEnv) (s : State) : Host.Outcome State Fault Refusal :=
  s.act (isSite site) (fun m => streamOp site env m)

/-- WSET (R48). -/
def execWset (site : Nat) (env : OpEnv) (s : State) : Host.Outcome State Fault Refusal :=
  s.act (isSite site) (fun m => wsetOp site env m)

/-- DRAIN (R105). -/
def execDrain (site : Nat) (env : OpEnv) (s : State) : Host.Outcome State Fault Refusal :=
  s.act (isSite site) (fun m => drainOp site env m)

/-- DRAINW (R105). -/
def execDrainw (site : Nat) (env : OpEnv) (s : State) : Host.Outcome State Fault Refusal :=
  s.act (isSite site) (fun m => drainwOp site env m)

/-- PADD (R54). -/
def execPadd (site : Nat) (env : OpEnv) (s : State) : Host.Outcome State Fault Refusal :=
  s.act (isSite site) (fun m => paddOp site env m)

/-- PDRAIN (R105). -/
def execPdrain (site : Nat) (env : OpEnv) (s : State) : Host.Outcome State Fault Refusal :=
  s.act (isSite site) (fun m => pdrainOp site env m)

/-- VADD (R108). -/
def execVadd (site : Nat) (env : OpEnv) (s : State) : Host.Outcome State Fault Refusal :=
  s.act (isSite site) (fun m => vaddOp site env m)

/-- VSUB (R108). -/
def execVsub (site : Nat) (env : OpEnv) (s : State) : Host.Outcome State Fault Refusal :=
  s.act (isSite site) (fun m => vsubOp site env m)

/-- VMUL (R108). -/
def execVmul (site : Nat) (env : OpEnv) (s : State) : Host.Outcome State Fault Refusal :=
  s.act (isSite site) (fun m => vmulOp site env m)

/-- VFMA (R108). -/
def execVfma (site : Nat) (env : OpEnv) (s : State) : Host.Outcome State Fault Refusal :=
  s.act (isSite site) (fun m => vfmaOp site env m)

/-- VMIN (R108). -/
def execVmin (site : Nat) (env : OpEnv) (s : State) : Host.Outcome State Fault Refusal :=
  s.act (isSite site) (fun m => vminOp site env m)

/-- VMAX (R108). -/
def execVmax (site : Nat) (env : OpEnv) (s : State) : Host.Outcome State Fault Refusal :=
  s.act (isSite site) (fun m => vmaxOp site env m)

/-- VLOGIC (R108). -/
def execVlogic (site : Nat) (env : OpEnv) (s : State) : Host.Outcome State Fault Refusal :=
  s.act (isSite site) (fun m => vlogicOp site env m)

/-- VSHIFT (R108). -/
def execVshift (site : Nat) (env : OpEnv) (s : State) : Host.Outcome State Fault Refusal :=
  s.act (isSite site) (fun m => vshiftOp site env m)

/-- VCMP (R108). -/
def execVcmp (site : Nat) (env : OpEnv) (s : State) : Host.Outcome State Fault Refusal :=
  s.act (isSite site) (fun m => vcmpOp site env m)

/-- VSEL (R108). -/
def execVsel (site : Nat) (env : OpEnv) (s : State) : Host.Outcome State Fault Refusal :=
  s.act (isSite site) (fun m => vselOp site env m)

/-- VREDUCE (R108). -/
def execVreduce (site : Nat) (env : OpEnv) (s : State) : Host.Outcome State Fault Refusal :=
  s.act (isSite site) (fun m => vreduceOp site env m)

/-- VGATHER (R108). -/
def execVgather (site : Nat) (env : OpEnv) (s : State) : Host.Outcome State Fault Refusal :=
  s.act (isSite site) (fun m => vgatherOp site env m)

/-- VSCATTER (R108). -/
def execVscatter (site : Nat) (env : OpEnv) (s : State) : Host.Outcome State Fault Refusal :=
  s.act (isSite site) (fun m => vscatterOp site env m)

/-- VFILL (R108). -/
def execVfill (site : Nat) (env : OpEnv) (s : State) : Host.Outcome State Fault Refusal :=
  s.act (isSite site) (fun m => vfillOp site env m)

/-- CLOAD (R109). -/
def execCload (site : Nat) (env : OpEnv) (s : State) : Host.Outcome State Fault Refusal :=
  s.act (isSite site) (fun m => cloadOp site env m)

/-- CEVAL (R73). -/
def execCeval (site : Nat) (env : OpEnv) (s : State) : Host.Outcome State Fault Refusal :=
  s.act (isSite site) (fun m => cevalOp site env m)

/-- FDECODE (R109). -/
def execFdecode (site : Nat) (env : OpEnv) (s : State) : Host.Outcome State Fault Refusal :=
  s.act (isSite site) (fun m => fdecodeOp site env m)

/-- FENCODE (R109). -/
def execFencode (site : Nat) (env : OpEnv) (s : State) : Host.Outcome State Fault Refusal :=
  s.act (isSite site) (fun m => fencodeOp site env m)

/-- FREBLOCK (R109). -/
def execFreblock (site : Nat) (env : OpEnv) (s : State) : Host.Outcome State Fault Refusal :=
  s.act (isSite site) (fun m => freblockOp site env m)

/-- FTILE (R109). -/
def execFtile (site : Nat) (env : OpEnv) (s : State) : Host.Outcome State Fault Refusal :=
  s.act (isSite site) (fun m => ftileOp site env m)

/-- SEND (R111). -/
def execSend (site : Nat) (env : OpEnv) (s : State) : Host.Outcome State Fault Refusal :=
  s.act (isSite site) (fun m => sendOp site env m)

/-- RECV (R113). -/
def execRecv (site : Nat) (env : OpEnv) (s : State) : Host.Outcome State Fault Refusal :=
  s.act (isSite site) (fun m => recvOp site env m)

/-- RECV_TIMEOUT (R113). -/
def execRecvTimeout (site slot : Nat) (s : State) : Host.Outcome State Fault Refusal :=
  s.act (isSite site) (fun m => m.recvTimeout site slot)

/-- DMARD (R112). -/
def execDmard (site : Nat) (env : OpEnv) (s : State) : Host.Outcome State Fault Refusal :=
  s.act (isSite site) (fun m => dmardOp site env m)

/-- DMAWR (R112). -/
def execDmawr (site : Nat) (env : OpEnv) (s : State) : Host.Outcome State Fault Refusal :=
  s.act (isSite site) (fun m => dmawrOp site env m)

/-- COPY (R111). -/
def execCopy (site : Nat) (env : OpEnv) (s : State) : Host.Outcome State Fault Refusal :=
  s.act (isSite site) (fun m => copyOp site env m)

/-- INPUT (R112). -/
def execInput (site : Nat) (env : OpEnv) (s : State) : Host.Outcome State Fault Refusal :=
  s.act (isSite site) (fun m => inputOp site env m)

/-- OUTPUT (R112). -/
def execOutput (site : Nat) (env : OpEnv) (s : State) : Host.Outcome State Fault Refusal :=
  s.act (isSite site) (fun m => outputOp site env m)

/-- NOP (R115). -/
def execNop (site : Nat) (env : OpEnv) (s : State) : Host.Outcome State Fault Refusal :=
  s.act (isSite site) (fun m => nopOp site env m)

/-- SBEGIN (R115). -/
def execSbegin (site : Nat) (env : OpEnv) (s : State) : Host.Outcome State Fault Refusal :=
  s.act (isSite site) (fun m => sbeginOp site env m)

/-- SETREG (R115). -/
def execSetreg (site : Nat) (env : OpEnv) (s : State) : Host.Outcome State Fault Refusal :=
  s.act (isSite site) (fun m => setregOp site env m)

/-- ADDREG (R115). -/
def execAddreg (site : Nat) (env : OpEnv) (s : State) : Host.Outcome State Fault Refusal :=
  s.act (isSite site) (fun m => addregOp site env m)

/-- LOOP (R115). -/
def execLoop (site : Nat) (env : OpEnv) (s : State) : Host.Outcome State Fault Refusal :=
  s.act (isSite site) (fun m => loopOp site env m)

/-- BRCNT (R115). -/
def execBrcnt (site : Nat) (env : OpEnv) (s : State) : Host.Outcome State Fault Refusal :=
  s.act (isSite site) (fun m => brcntOp site env m)

/-- JUMP (R115). -/
def execJump (site : Nat) (env : OpEnv) (s : State) : Host.Outcome State Fault Refusal :=
  s.act (isSite site) (fun m => jumpOp site env m)

/-- BARRIER (R101). -/
def execBarrier (site : Nat) (env : OpEnv) (s : State) : Host.Outcome State Fault Refusal :=
  s.act (isSite site) (fun m => barrierOp site env m)

/-- SYNC (R101). -/
def execSync (site : Nat) (env : OpEnv) (s : State) : Host.Outcome State Fault Refusal :=
  s.act (isSite site) (fun m => syncOp site env m)

/-- CSCHK (R116). -/
def execCschk (site : Nat) (env : OpEnv) (s : State) : Host.Outcome State Fault Refusal :=
  s.act (isSite site) (fun m => cschkOp site env m)

/-- RELMARK (R117). -/
def execRelmark (site : Nat) (env : OpEnv) (s : State) : Host.Outcome State Fault Refusal :=
  s.act (isSite site) (fun m => relmarkOp site env m)

/-- TRAP (R115). -/
def execTrap (site : Nat) (env : OpEnv) (s : State) : Host.Outcome State Fault Refusal :=
  s.act (isSite site) (fun m => trapOp site env m)

/-- EOS (R115). -/
def execEos (site : Nat) (env : OpEnv) (s : State) : Host.Outcome State Fault Refusal :=
  s.act (isSite site) (fun m => eosOp site env m)

/-- RESERVED_OPCODE (R118). -/
def execReservedOpcode (site : Nat) (env : OpEnv) (s : State) : Host.Outcome State Fault Refusal :=
  s.act (isSite site) (fun m => reservedOp site env m)

/-- OPERATION_COMPLETE (R101). -/
def execOperationComplete (site slot : Nat) (s : State) : Host.Outcome State Fault Refusal :=
  s.act (isSite site) (fun m => m.opComplete site slot)

end Sys2Proof.Machine
end

