-- ==== Sys2Proof/Machine/Dispatch.lean ====
section
/-! DEFINITION. What each command does: one arm per constructor of Instr, each a direct call of its meaning. -/

namespace Sys2Proof.Machine

/-- A command's effect on everything but the queue. -/
def exec (i : Instr) (s : State) : Host.Outcome State Fault Refusal :=
  match i with
  -- Clock
  | .roundBoundary cv dw mj => Sys2Proof.Machine.execRoundBoundary cv dw mj s
  | .roundMark conn => Sys2Proof.Machine.execRoundMark conn s
  | .heldWindowExpiry number => Sys2Proof.Machine.execHeldWindowExpiry number s
  | .coalesceTimeout q => Sys2Proof.Machine.execCoalesceTimeout q s
  | .hubRoundLoRead => Sys2Proof.Machine.execHubRoundLoRead s
  | .tineCyclesLoRead site => Sys2Proof.Machine.execTineCyclesLoRead site s
  | .tineMatPassesLoRead site => Sys2Proof.Machine.execTineMatPassesLoRead site s
  | .admAcceptedLoRead => Sys2Proof.Machine.execAdmAcceptedLoRead s
  | .calOpsecLoRead => Sys2Proof.Machine.execCalOpsecLoRead s
  | .registerWrite place v => Sys2Proof.Machine.execRegisterWrite place v s
  | .unsupportedAccess x => Sys2Proof.Machine.execUnsupportedAccess x s
  | .refclkLost => Sys2Proof.Machine.execRefclkLost s
  | .refclkReturn => Sys2Proof.Machine.execRefclkReturn s
  | .holdoverSlewEnd => Sys2Proof.Machine.execHoldoverSlewEnd s
  | .rootPllUnlock => Sys2Proof.Machine.execRootPllUnlock s
  | .rootPllLock phases => Sys2Proof.Machine.execRootPllLock phases s
  | .treeLostAtDie rx => Sys2Proof.Machine.execTreeLostAtDie rx s
  | .bothTreesLost rx => Sys2Proof.Machine.execBothTreesLost rx s
  | .clockLossNotice rx => Sys2Proof.Machine.execClockLossNotice rx s
  | .treeSourceLost tree => Sys2Proof.Machine.execTreeSourceLost tree s
  -- Tine
  | .tload site env => Sys2Proof.Machine.execTload site env s
  | .astage site env => Sys2Proof.Machine.execAstage site env s
  | .stream site env => Sys2Proof.Machine.execStream site env s
  | .wset site env => Sys2Proof.Machine.execWset site env s
  | .drain site env => Sys2Proof.Machine.execDrain site env s
  | .drainw site env => Sys2Proof.Machine.execDrainw site env s
  | .padd site env => Sys2Proof.Machine.execPadd site env s
  | .pdrain site env => Sys2Proof.Machine.execPdrain site env s
  | .vadd site env => Sys2Proof.Machine.execVadd site env s
  | .vsub site env => Sys2Proof.Machine.execVsub site env s
  | .vmul site env => Sys2Proof.Machine.execVmul site env s
  | .vfma site env => Sys2Proof.Machine.execVfma site env s
  | .vmin site env => Sys2Proof.Machine.execVmin site env s
  | .vmax site env => Sys2Proof.Machine.execVmax site env s
  | .vlogic site env => Sys2Proof.Machine.execVlogic site env s
  | .vshift site env => Sys2Proof.Machine.execVshift site env s
  | .vcmp site env => Sys2Proof.Machine.execVcmp site env s
  | .vsel site env => Sys2Proof.Machine.execVsel site env s
  | .vreduce site env => Sys2Proof.Machine.execVreduce site env s
  | .vgather site env => Sys2Proof.Machine.execVgather site env s
  | .vscatter site env => Sys2Proof.Machine.execVscatter site env s
  | .vfill site env => Sys2Proof.Machine.execVfill site env s
  | .cload site env => Sys2Proof.Machine.execCload site env s
  | .ceval site env => Sys2Proof.Machine.execCeval site env s
  | .fdecode site env => Sys2Proof.Machine.execFdecode site env s
  | .fencode site env => Sys2Proof.Machine.execFencode site env s
  | .freblock site env => Sys2Proof.Machine.execFreblock site env s
  | .ftile site env => Sys2Proof.Machine.execFtile site env s
  | .send site env => Sys2Proof.Machine.execSend site env s
  | .recv site env => Sys2Proof.Machine.execRecv site env s
  | .recvTimeout site slot => Sys2Proof.Machine.execRecvTimeout site slot s
  | .dmard site env => Sys2Proof.Machine.execDmard site env s
  | .dmawr site env => Sys2Proof.Machine.execDmawr site env s
  | .copy site env => Sys2Proof.Machine.execCopy site env s
  | .input site env => Sys2Proof.Machine.execInput site env s
  | .output site env => Sys2Proof.Machine.execOutput site env s
  | .nop site env => Sys2Proof.Machine.execNop site env s
  | .sbegin site env => Sys2Proof.Machine.execSbegin site env s
  | .setreg site env => Sys2Proof.Machine.execSetreg site env s
  | .addreg site env => Sys2Proof.Machine.execAddreg site env s
  | .loop site env => Sys2Proof.Machine.execLoop site env s
  | .brcnt site env => Sys2Proof.Machine.execBrcnt site env s
  | .jump site env => Sys2Proof.Machine.execJump site env s
  | .barrier site env => Sys2Proof.Machine.execBarrier site env s
  | .sync site env => Sys2Proof.Machine.execSync site env s
  | .cschk site env => Sys2Proof.Machine.execCschk site env s
  | .relmark site env => Sys2Proof.Machine.execRelmark site env s
  | .trap site env => Sys2Proof.Machine.execTrap site env s
  | .eos site env => Sys2Proof.Machine.execEos site env s
  | .reservedOpcode site env => Sys2Proof.Machine.execReservedOpcode site env s
  | .operationComplete site slot => Sys2Proof.Machine.execOperationComplete site slot s
  -- Stage
  | .stageFaultReport site => Sys2Proof.Machine.execStageFaultReport site s
  | .tileChecksumRecheck => Sys2Proof.Machine.execTileChecksumRecheck s
  | .stageEndReport site => Sys2Proof.Machine.execStageEndReport site s
  | .stageDispatch req => Sys2Proof.Machine.execStageDispatch req s
  | .streamFlit site x => Sys2Proof.Machine.execStreamFlit site x s
  | .fillStart fill => Sys2Proof.Machine.execFillStart fill s
  | .fillGranule site x => Sys2Proof.Machine.execFillGranule site x s
  | .fillEnd site bank => Sys2Proof.Machine.execFillEnd site bank s
  | .fillAbort site bank => Sys2Proof.Machine.execFillAbort site bank s
  | .bankSwitchEnd site env => Sys2Proof.Machine.execBankSwitchEnd site env s
  | .spareCalled site => Sys2Proof.Machine.execSpareCalled site s
  | .entryTestDone site pass => Sys2Proof.Machine.execEntryTestDone site pass s
  | .parkCommand site => Sys2Proof.Machine.execParkCommand site s
  | .wakeCommand site => Sys2Proof.Machine.execWakeCommand site s
  | .migrationStart site => Sys2Proof.Machine.execMigrationStart site s
  | .migrationDone site => Sys2Proof.Machine.execMigrationDone site s
  | .tineCntClrActivity site => Sys2Proof.Machine.execTineCntClrActivity site s
  | .tineCntClrCheckfield site => Sys2Proof.Machine.execTineCntClrCheckfield site s
  | .tineCntClrCorr site => Sys2Proof.Machine.execTineCntClrCorr site s
  -- Struct
  | .structVerify => Sys2Proof.Machine.execStructVerify s
  | .structVerified => Sys2Proof.Machine.execStructVerified s
  | .structCommit => Sys2Proof.Machine.execStructCommit s
  | .structAbort => Sys2Proof.Machine.execStructAbort s
  | .quiesceComplete => Sys2Proof.Machine.execQuiesceComplete s
  | .quiesceTimeout => Sys2Proof.Machine.execQuiesceTimeout s
  | .structApplyDone => Sys2Proof.Machine.execStructApplyDone s
  | .structPersist => Sys2Proof.Machine.execStructPersist s
  | .structPersistDone ok => Sys2Proof.Machine.execStructPersistDone ok s
  -- Context
  | .loadImage q e ins outs param cycle => Sys2Proof.Machine.execLoadImage q e ins outs param cycle s
  | .loadImageCopied ctx bytes => Sys2Proof.Machine.execLoadImageCopied ctx bytes s
  | .evict q e ins outs param cycle => Sys2Proof.Machine.execEvict q e ins outs param cycle s
  | .pin q e ins outs param cycle => Sys2Proof.Machine.execPin q e ins outs param cycle s
  | .query q e ins outs param cycle => Sys2Proof.Machine.execQuery q e ins outs param cycle s
  | .cancel q e ins outs param cycle => Sys2Proof.Machine.execCancel q e ins outs param cycle s
  | .invoke q e ins outs param cycle => Sys2Proof.Machine.execInvoke q e ins outs param cycle s
  | .invokeChain q e ins outs param cycle => Sys2Proof.Machine.execInvokeChain q e ins outs param cycle s
  -- Memory
  | .scrubRead e => Sys2Proof.Machine.execScrubRead e s
  | .gddr7TempRead dev t => Sys2Proof.Machine.execGddr7TempRead dev t s
  | .cxlLinkDown p => Sys2Proof.Machine.execCxlLinkDown p s
  | .cxlRetrainEnd p dev => Sys2Proof.Machine.execCxlRetrainEnd p dev s
  | .cxlBringup p dev => Sys2Proof.Machine.execCxlBringup p dev s
  | .memHostRegionWrite v => Sys2Proof.Machine.execMemHostRegionWrite v s
  | .memCntClrCirque => Sys2Proof.Machine.execMemCntClrCirque s
  | .memCntClrDev => Sys2Proof.Machine.execMemCntClrDev s
  | .bar4Read o n => Sys2Proof.Machine.execBar4Read o n s
  | .bar4Write o bytes => Sys2Proof.Machine.execBar4Write o bytes s
  | .hubApertureBaseWrite v => Sys2Proof.Machine.execHubApertureBaseWrite v s
  -- Admission
  | .releaseGateOpen cycle => Sys2Proof.Machine.execReleaseGateOpen cycle s
  | .admCntClrPeak => Sys2Proof.Machine.execAdmCntClrPeak s
  | .admCntClrReasons => Sys2Proof.Machine.execAdmCntClrReasons s
  | .admCntClrOutcomes => Sys2Proof.Machine.execAdmCntClrOutcomes s
  -- Host
  | .sqTailDoorbell q v => Sys2Proof.Machine.execSqTailDoorbell q v s
  | .cqHeadDoorbell q v => Sys2Proof.Machine.execCqHeadDoorbell q v s
  | .sqEntryFetched q e data cycle => Sys2Proof.Machine.execSqEntryFetched q e data cycle s
  | .sqFetchError q => Sys2Proof.Machine.execSqFetchError q s
  | .entryTaken q cid data cycle => Sys2Proof.Machine.execEntryTaken q cid data cycle s
  | .hostReadFail q cid cycle => Sys2Proof.Machine.execHostReadFail q cid cycle s
  | .createQueue e => Sys2Proof.Machine.execCreateQueue e s
  | .deleteQueue e => Sys2Proof.Machine.execDeleteQueue e s
  | .queueDrainDone q => Sys2Proof.Machine.execQueueDrainDone q s
  | .bind e => Sys2Proof.Machine.execBind e s
  | .unbind e => Sys2Proof.Machine.execUnbind e s
  | .queEnable => Sys2Proof.Machine.execQueEnable s
  | .queue0Enabled => Sys2Proof.Machine.execQueue0Enabled s
  | .queDisable => Sys2Proof.Machine.execQueDisable s
  | .pcieReset => Sys2Proof.Machine.execPcieReset s
  -- Fabric
  | .fabricRequest p vc cycle => Sys2Proof.Machine.execFabricRequest p vc cycle s
  | .reply p vc => Sys2Proof.Machine.execReply p vc s
  | .quote p number x => Sys2Proof.Machine.execQuote p number x s
  | .subreq p vc number cid seed flat outCap data cycle => Sys2Proof.Machine.execSubreq p vc number cid seed flat outCap data cycle s
  | .streamPacket p vc fromSlice => Sys2Proof.Machine.execStreamPacket p vc fromSlice s
  | .packetForward p vc => Sys2Proof.Machine.execPacketForward p vc s
  | .notice p group target down => Sys2Proof.Machine.execNotice p group target down s
  | .noticeSend p => Sys2Proof.Machine.execNoticeSend p s
  | .messageReassemblyTimeout src tag vc => Sys2Proof.Machine.execMessageReassemblyTimeout src tag vc s
  | .fabricJoin e => Sys2Proof.Machine.execFabricJoin e s
  | .fabricLeave e => Sys2Proof.Machine.execFabricLeave e s
  | .fabricLeaveDone => Sys2Proof.Machine.execFabricLeaveDone s
  | .rteCommit => Sys2Proof.Machine.execRteCommit s
  | .shadowTableWrite table index v => Sys2Proof.Machine.execShadowTableWrite table index v s
  | .rteClrAll => Sys2Proof.Machine.execRteClrAll s
  -- Link
  | .dataFlit p hdr grans late => Sys2Proof.Machine.execDataFlit p hdr grans late s
  | .idleFlit p hdr late => Sys2Proof.Machine.execIdleFlit p hdr late s
  | .flitCrcFail p => Sys2Proof.Machine.execFlitCrcFail p s
  | .ackTimeout p => Sys2Proof.Machine.execAckTimeout p s
  | .init p pkg port serial role next seen advH advD => Sys2Proof.Machine.execInit p pkg port serial role next seen advH advD s
  | .retrainReq p hdr late kind => Sys2Proof.Machine.execRetrainReq p hdr late kind s
  | .mapPropose p hdr late map x clk passed => Sys2Proof.Machine.execMapPropose p hdr late map x clk passed s
  | .mapRequest p hdr late map x clk passed => Sys2Proof.Machine.execMapRequest p hdr late map x clk passed s
  | .mapAck p hdr late x map => Sys2Proof.Machine.execMapAck p hdr late x map s
  | .mapReject p hdr late x reason => Sys2Proof.Machine.execMapReject p hdr late x reason s
  | .creditAudit p hdr late counts => Sys2Proof.Machine.execCreditAudit p hdr late counts s
  | .loopReq p hdr late => Sys2Proof.Machine.execLoopReq p hdr late s
  | .mapSwitch p fibre => Sys2Proof.Machine.execMapSwitch p fibre s
  | .mapRequestTimeout p => Sys2Proof.Machine.execMapRequestTimeout p s
  | .slotLost p slot => Sys2Proof.Machine.execSlotLost p slot s
  | .crcFailTimeout p => Sys2Proof.Machine.execCrcFailTimeout p s
  | .waveRetry p => Sys2Proof.Machine.execWaveRetry p s
  | .linkGrace p => Sys2Proof.Machine.execLinkGrace p s
  | .graceExpiry p => Sys2Proof.Machine.execGraceExpiry p s
  | .initRetry p => Sys2Proof.Machine.execInitRetry p s
  | .phyPortUp p txMap rxMap eyes => Sys2Proof.Machine.execPhyPortUp p txMap rxMap eyes s
  | .flushNow p => Sys2Proof.Machine.execFlushNow p s
  | .retrainFull p => Sys2Proof.Machine.execRetrainFull p s
  | .reinit p => Sys2Proof.Machine.execReinit p s
  | .fabClrAll p => Sys2Proof.Machine.execFabClrAll p s
  -- Optics
  | .ringLockLoss p slot tx => Sys2Proof.Machine.execRingLockLoss p slot tx s
  | .clkLost p => Sys2Proof.Machine.execClkLost p s
  | .clockFallbackLock p => Sys2Proof.Machine.execClockFallbackLock p s
  | .fallbackExit p => Sys2Proof.Machine.execFallbackExit p s
  | .setf e t => Sys2Proof.Machine.execSetf e t s
  | .setfs e t => Sys2Proof.Machine.execSetfs e t s
  | .getf e t sensed => Sys2Proof.Machine.execGetf e t sensed s
  | .loads e t => Sys2Proof.Machine.execLoads e t s
  | .adds e t => Sys2Proof.Machine.execAdds e t s
  | .wait e => Sys2Proof.Machine.execWait e s
  | .poll e t sensed => Sys2Proof.Machine.execPoll e t sensed s
  | .brs e t => Sys2Proof.Machine.execBrs e t s
  | .measure e t res => Sys2Proof.Machine.execMeasure e t res s
  | .done e one => Sys2Proof.Machine.execDone e one s
  | .fail e one => Sys2Proof.Machine.execFail e one s
  | .seqLimitExceeded e t => Sys2Proof.Machine.execSeqLimitExceeded e t s
  | .laserLocked bank slot unit => Sys2Proof.Machine.execLaserLocked bank slot unit s
  | .laserWarmTimeout bank slot unit => Sys2Proof.Machine.execLaserWarmTimeout bank slot unit s
  | .laserFail bank slot unit => Sys2Proof.Machine.execLaserFail bank slot unit s
  | .laserOverpower bank slot unit reading => Sys2Proof.Machine.execLaserOverpower bank slot unit reading s
  | .eolWarn bank slot ratio => Sys2Proof.Machine.execEolWarn bank slot ratio s
  | .lasSwap bank slot => Sys2Proof.Machine.execLasSwap bank slot s
  | .plannedSwap bank => Sys2Proof.Machine.execPlannedSwap bank s
  | .swapRemoval bank => Sys2Proof.Machine.execSwapRemoval bank s
  | .swapDeferral bank => Sys2Proof.Machine.execSwapDeferral bank s
  | .swapDone bank => Sys2Proof.Machine.execSwapDone bank s
  | .fibreOverpower p reading => Sys2Proof.Machine.execFibreOverpower p reading s
  | .clearSafety p => Sys2Proof.Machine.execClearSafety p s
  | .fibreDark p => Sys2Proof.Machine.execFibreDark p s
  | .safeProbe p => Sys2Proof.Machine.execSafeProbe p s
  | .probeReceived p => Sys2Proof.Machine.execProbeReceived p s
  | .firnRetrain p => Sys2Proof.Machine.execFirnRetrain p s
  | .useSpare p => Sys2Proof.Machine.execUseSpare p s
  | .loopModeWrite p mode pattern => Sys2Proof.Machine.execLoopModeWrite p mode pattern s
  -- Quinhorn
  | .qlkLinkFrame conn b frame late => Sys2Proof.Machine.execQlkLinkFrame conn b frame late s
  | .qlkGranule conn b d check => Sys2Proof.Machine.execQlkGranule conn b d check s
  | .qlkAckTimeout conn b => Sys2Proof.Machine.execQlkAckTimeout conn b s
  | .qlkClockLoss conn b => Sys2Proof.Machine.execQlkClockLoss conn b s
  | .cap conn b major minor lanes mask maxLen retimers credits => Sys2Proof.Machine.execCap conn b major minor lanes mask maxLen retimers credits s
  | .qlkMap conn b rx tx => Sys2Proof.Machine.execQlkMap conn b rx tx s
  | .qlkMapAck conn b rx tx => Sys2Proof.Machine.execQlkMapAck conn b rx tx s
  | .testStart conn b failed => Sys2Proof.Machine.execTestStart conn b failed s
  | .testResult conn b failed => Sys2Proof.Machine.execTestResult conn b failed s
  | .qlkRetrainReq conn b => Sys2Proof.Machine.execQlkRetrainReq conn b s
  | .ready conn b => Sys2Proof.Machine.execReady conn b s
  | .bundleRetrain conn b failed => Sys2Proof.Machine.execBundleRetrain conn b failed s
  | .bundleRetire conn b fill stage => Sys2Proof.Machine.execBundleRetire conn b fill stage s
  | .qlkRetrain conn b => Sys2Proof.Machine.execQlkRetrain conn b s
  | .qlkClrAll conn => Sys2Proof.Machine.execQlkClrAll conn s
  | .partialReset conn => Sys2Proof.Machine.execPartialReset conn s
  | .rd g => Sys2Proof.Machine.execRd g s
  | .rdResp g => Sys2Proof.Machine.execRdResp g s
  | .wr g => Sys2Proof.Machine.execWr g s
  | .wrMasked g => Sys2Proof.Machine.execWrMasked g s
  | .wrAck g => Sys2Proof.Machine.execWrAck g s
  | .atAdd g => Sys2Proof.Machine.execAtAdd g s
  | .atSwap g => Sys2Proof.Machine.execAtSwap g s
  | .atCas g => Sys2Proof.Machine.execAtCas g s
  | .atResp g => Sys2Proof.Machine.execAtResp g s
  | .guestCopy g => Sys2Proof.Machine.execGuestCopy g s
  | .rdS g => Sys2Proof.Machine.execRdS g s
  | .rdM g => Sys2Proof.Machine.execRdM g s
  | .upg g => Sys2Proof.Machine.execUpg g s
  | .wbM g => Sys2Proof.Machine.execWbM g s
  | .cohEvict g => Sys2Proof.Machine.execCohEvict g s
  | .cohGrant g => Sys2Proof.Machine.execCohGrant g s
  | .snpInv g => Sys2Proof.Machine.execSnpInv g s
  | .snpS g => Sys2Proof.Machine.execSnpS g s
  | .snpAck g => Sys2Proof.Machine.execSnpAck g s
  | .snoopTimeout g line => Sys2Proof.Machine.execSnoopTimeout g line s
  | .event g => Sys2Proof.Machine.execEvent g s
  | .drd conn => Sys2Proof.Machine.execDrd conn s
  | .drdResp conn => Sys2Proof.Machine.execDrdResp conn s
  | .dwr conn => Sys2Proof.Machine.execDwr conn s
  | .dwrAck conn => Sys2Proof.Machine.execDwrAck conn s
  | .debugTimeout => Sys2Proof.Machine.execDebugTimeout s
  | .dbgGo write conn => Sys2Proof.Machine.execDbgGo write conn s
  | .unfence g => Sys2Proof.Machine.execUnfence g s
  | .clrViol g => Sys2Proof.Machine.execClrViol g s
  | .winRightsWrite g w v => Sys2Proof.Machine.execWinRightsWrite g w v s
  | .guestOverpower g mw => Sys2Proof.Machine.execGuestOverpower g mw s
  -- Pairing
  | .pairForm e info => Sys2Proof.Machine.execPairForm e info s
  | .pairDissolve e => Sys2Proof.Machine.execPairDissolve e s
  | .pairHandover e => Sys2Proof.Machine.execPairHandover e s
  | .autoHandover => Sys2Proof.Machine.execAutoHandover s
  | .handoverReq p => Sys2Proof.Machine.execHandoverReq p s
  | .acquire p => Sys2Proof.Machine.execAcquire p s
  | .leaseGrant p lists => Sys2Proof.Machine.execLeaseGrant p lists s
  | .renew p => Sys2Proof.Machine.execRenew p s
  | .renewPeriod => Sys2Proof.Machine.execRenewPeriod s
  | .renewAck p us => Sys2Proof.Machine.execRenewAck p us s
  | .leaseRelease p => Sys2Proof.Machine.execLeaseRelease p s
  | .leaseQuery p us => Sys2Proof.Machine.execLeaseQuery p us s
  | .leaseStatus p => Sys2Proof.Machine.execLeaseStatus p s
  | .deny p => Sys2Proof.Machine.execDeny p s
  | .failFast p => Sys2Proof.Machine.execFailFast p s
  | .announce p => Sys2Proof.Machine.execAnnounce p s
  | .announceRepeat pkg => Sys2Proof.Machine.execAnnounceRepeat pkg s
  | .detach p => Sys2Proof.Machine.execDetach p s
  | .leaseMessageRepeat index overdue => Sys2Proof.Machine.execLeaseMessageRepeat index overdue s
  | .selfFence => Sys2Proof.Machine.execSelfFence s
  | .leaseExpiry => Sys2Proof.Machine.execLeaseExpiry s
  | .witnessLeaseExpiry pair => Sys2Proof.Machine.execWitnessLeaseExpiry pair s
  | .standbyBindingEnd => Sys2Proof.Machine.execStandbyBindingEnd s
  | .witnessStartEnd => Sys2Proof.Machine.execWitnessStartEnd s
  | .failFastEvent cls sub detail => Sys2Proof.Machine.execFailFastEvent cls sub detail s
  | .kvRecord p => Sys2Proof.Machine.execKvRecord p s
  | .outRecord p => Sys2Proof.Machine.execOutRecord p s
  | .descRecord p => Sys2Proof.Machine.execDescRecord p s
  | .modRecord p => Sys2Proof.Machine.execModRecord p s
  | .reqRecord p => Sys2Proof.Machine.execReqRecord p s
  | .closeRecord p cycle => Sys2Proof.Machine.execCloseRecord p cycle s
  | .checkpointRecord p => Sys2Proof.Machine.execCheckpointRecord p s
  | .deltaAck p => Sys2Proof.Machine.execDeltaAck p s
  | .standbyLoss => Sys2Proof.Machine.execStandbyLoss s
  | .pairingPortDown p => Sys2Proof.Machine.execPairingPortDown p s
  | .closeTimeout => Sys2Proof.Machine.execCloseTimeout s
  | .switchoverStart lists => Sys2Proof.Machine.execSwitchoverStart lists s
  | .resyncComplete kv reqs subs => Sys2Proof.Machine.execResyncComplete kv reqs subs s
  | .pairClrAll => Sys2Proof.Machine.execPairClrAll s
  -- Safety
  | .faultPinClr v => Sys2Proof.Machine.execFaultPinClr v s
  | .safLogLatch v => Sys2Proof.Machine.execSafLogLatch v s
  | .proofTest site pass bad => Sys2Proof.Machine.execProofTest site pass bad s
  | .moraineWrite => Sys2Proof.Machine.execMoraineWrite s
  | .snapIn => Sys2Proof.Machine.execSnapIn s
  | .snapTrigger v => Sys2Proof.Machine.execSnapTrigger v s
  | .snapLatch cycle => Sys2Proof.Machine.execSnapLatch cycle s
  | .snapConfirmTimeout conn => Sys2Proof.Machine.execSnapConfirmTimeout conn s
  | .snapRearm v => Sys2Proof.Machine.execSnapRearm v s
  -- Power
  | .tempSample ch t isOpen stale => Sys2Proof.Machine.execTempSample ch t isOpen stale s
  | .thmForceWrite ch v => Sys2Proof.Machine.execThmForceWrite ch v s
  | .thmRelease ch v => Sys2Proof.Machine.execThmRelease ch v s
  | .thmRetest ch v => Sys2Proof.Machine.execThmRetest ch v s
  | .clearShutdown ch v => Sys2Proof.Machine.execClearShutdown ch v s
  | .thmCurveWrite index v => Sys2Proof.Machine.execThmCurveWrite index v s
  | .budgetGrant conn => Sys2Proof.Machine.execBudgetGrant conn s
  | .budgetRequest conn mw => Sys2Proof.Machine.execBudgetRequest conn mw s
  | .budgetReturn conn mj mw => Sys2Proof.Machine.execBudgetReturn conn mj mw s
  | .supplyOutOfWindow d mv => Sys2Proof.Machine.execSupplyOutOfWindow d mv s
  | .inputOutOfWindow cv => Sys2Proof.Machine.execInputOutOfWindow cv s
  | .powerFailCommitDone => Sys2Proof.Machine.execPowerFailCommitDone s
  | .calRun mask => Sys2Proof.Machine.execCalRun mask s
  | .calRunDone vals => Sys2Proof.Machine.execCalRunDone vals s
  | .calStoreDone => Sys2Proof.Machine.execCalStoreDone s
  | .calStoreRetry => Sys2Proof.Machine.execCalStoreRetry s
  | .calRevert mask => Sys2Proof.Machine.execCalRevert mask s
  | .opsecTick => Sys2Proof.Machine.execOpsecTick s
  | .opsecRecord => Sys2Proof.Machine.execOpsecRecord s
  -- Boot
  | .powerOnReset => Sys2Proof.Machine.execPowerOnReset s
  | .modResetN => Sys2Proof.Machine.execModResetN s
  | .hubResetModule v => Sys2Proof.Machine.execHubResetModule v s
  | .watchdogExpiry => Sys2Proof.Machine.execWatchdogExpiry s
  | .firmwareVerified => Sys2Proof.Machine.execFirmwareVerified s
  | .bootDevicesReady found => Sys2Proof.Machine.execBootDevicesReady found s
  | .bootStructureApplied => Sys2Proof.Machine.execBootStructureApplied s
  | .bootReady => Sys2Proof.Machine.execBootReady s
  | .recoveryImage img => Sys2Proof.Machine.execRecoveryImage img s
  | .fwUpdate e img flashOk => Sys2Proof.Machine.execFwUpdate e img flashOk s
  | .ownerEnrol e block flashOk => Sys2Proof.Machine.execOwnerEnrol e block flashOk s
  | .ownerUpdate e block flashOk => Sys2Proof.Machine.execOwnerUpdate e block flashOk s
  | .ownerRelease e block flashOk => Sys2Proof.Machine.execOwnerRelease e block flashOk s
  | .secLockSet v => Sys2Proof.Machine.execSecLockSet v s
  | .getVersion transport => Sys2Proof.Machine.execGetVersion transport s
  | .getCapabilities transport => Sys2Proof.Machine.execGetCapabilities transport s
  | .negotiateAlgorithms transport req => Sys2Proof.Machine.execNegotiateAlgorithms transport req s
  | .getDigests transport => Sys2Proof.Machine.execGetDigests transport s
  | .getCertificate transport slot off len => Sys2Proof.Machine.execGetCertificate transport slot off len s
  | .challenge transport slot nonce => Sys2Proof.Machine.execChallenge transport slot nonce s
  | .getMeasurements transport index nonce => Sys2Proof.Machine.execGetMeasurements transport index nonce s
  | .crcGo e v => Sys2Proof.Machine.execCrcGo e v s
  | .crcRunEnd e host => Sys2Proof.Machine.execCrcRunEnd e host s
  | .ctxLatchView x => Sys2Proof.Machine.execCtxLatchView x s
  | .modResetNRelease => Sys2Proof.Machine.execModResetNRelease s

end Sys2Proof.Machine
end

