-- ==== Sys2Proof/Safety.lean ====
section
/-! DEFINITION. The words that statements about the machine are made of: completion, frames over the kinds of state, the
canonical form of memory, and when a Tine's sequencer stands ready to issue an operation. -/

namespace Sys2Proof.Machine

/-! ### Kinds of state and frames -/

/-- The kinds of state the module holds: one for each field of `Module`. -/
inductive Kind where
  /-- The count of free values drawn. -/
  | free
  /-- What the block has sent. -/
  | out
  /-- The register fields. -/
  | regs
  /-- Device memory. -/
  | dev
  /-- The Tines' SRAM. -/
  | sram
  /-- The scrubber's position. -/
  | scrub
  /-- The count of patrol repairs. -/
  | repairs
  /-- Memory temperature bands. -/
  | memBand
  /-- Clock and round state. -/
  | hub
  /-- The error log and what the safety block keeps. -/
  | saf
  /-- Temperature channels. -/
  | thm
  /-- The power manager's bookkeeping. -/
  | pwr
  /-- The Tine sites. -/
  | tines
  /-- Calibration and the operating-seconds counter. -/
  | cal
  /-- The boot flash. -/
  | flash
  /-- Security state. -/
  | sec
  /-- Runs of the check-value engines. -/
  | crc
  /-- Stream granules on their way. -/
  | mesh
  /-- The context table and the work on it. -/
  | ctx
  /-- Queues, requests and entries. -/
  | host
  /-- Admission's bookkeeping. -/
  | adm
  /-- The structure. -/
  | str
  /-- Sequence instances. -/
  | seqs
  /-- Instances that wait for an engine. -/
  | seqWait
  /-- Optical ports. -/
  | optics
  /-- Laser banks. -/
  | lasers
  /-- Fabric links. -/
  | links
  /-- The fabric router. -/
  | rte
  /-- The Quinhorn side. -/
  | qlk
  /-- Pairing state. -/
  | pair
deriving DecidableEq, Repr

/-- Two modules hold the same in a kind of state. -/
def Module.sameIn (k : Kind) (a b : Module) : Prop :=
  match k with
  | .free => b.free = a.free
  | .out => b.out = a.out
  | .regs => b.regs = a.regs
  | .dev => b.dev = a.dev
  | .sram => b.sram = a.sram
  | .scrub => b.scrub = a.scrub
  | .repairs => b.repairs = a.repairs
  | .memBand => b.memBand = a.memBand
  | .hub => b.hub = a.hub
  | .saf => b.saf = a.saf
  | .thm => b.thm = a.thm
  | .pwr => b.pwr = a.pwr
  | .tines => b.tines = a.tines
  | .cal => b.cal = a.cal
  | .flash => b.flash = a.flash
  | .sec => b.sec = a.sec
  | .crc => b.crc = a.crc
  | .mesh => b.mesh = a.mesh
  | .ctx => b.ctx = a.ctx
  | .host => b.host = a.host
  | .adm => b.adm = a.adm
  | .str => b.str = a.str
  | .seqs => b.seqs = a.seqs
  | .seqWait => b.seqWait = a.seqWait
  | .optics => b.optics = a.optics
  | .lasers => b.lasers = a.lasers
  | .links => b.links = a.links
  | .rte => b.rte = a.rte
  | .qlk => b.qlk = a.qlk
  | .pair => b.pair = a.pair

/-- The step from module `a` to module `b` changes nothing outside the listed kinds of state. -/
def Frame (ks : List Kind) (a b : Module) : Prop := ∀ k, k ∉ ks → Module.sameIn k a b

/-! ### Completion -/

/-- In state `s` the command `c` answers the next state in which the module is `b`; the queue of waiting commands stands. -/
def Completes (c : Instr) (s : State) (b : Module) : Prop := exec c s = .next { s with toModule := b }

/-- As `Completes`, and nothing outside the listed kinds of state changes. -/
def CompletesIn (ks : List Kind) (c : Instr) (s : State) (b : Module) : Prop := Completes c s b ∧ Frame ks s.toModule b

/-! ### Memory -/

/-- Device memory and SRAM have the canonical form: addresses strictly rising, nothing listed that an unlisted place stands
for. -/
def Module.memOk (m : Module) : Prop := m.dev.wf = true ∧ m.sram.wf = true

/-- Register fields are kept by strictly rising key. -/
def keysRise : Nat → SMap Nat → Bool
  | _, [] => true
  | lo, (k, _) :: t => decide (lo ≤ k) && keysRise (k + 1) t

/-! ### A Tine ready to issue -/

/-- Site `site` stands ready to issue the operation word `w` of opcode `op`, with no fault in what is read: the sequencer runs
and is not waiting, its next index lies in the program, the word there is correct, is of this opcode, its token and its unit's
queue have room, and where no stage is open SBEGIN comes, and where one is open any other, or an SBEGIN at an entry point (R76,
R97, R101, R115). -/
def Module.readyFor (m : Module) (site : Nat) (env : OpEnv) (op w : Nat) : Prop :=
  let q := (m.tine site).seq
  let g := sramKey site (progBase (m.runBank site) + 16 * q.nextPc) / 16
  m.issuing site = true ∧ env.upsets = [] ∧ q.nextPc < q.disp.words ∧ q.nextPc ≤ 4095 ∧ m.sram.syndrome g = 0 ∧
    m.sram.granule g = w ∧ opOf w = op ∧ (sigOf w = 0 ∨ SMap.get 0 q.tokens (sigOf w) < 63) ∧
    (0x20 ≤ op → queueFull q.pend op = false) ∧
    (if op = 1 then q.opened = false ∨ m.entryPoint site q.nextPc = true else q.opened = true)

/-- The module as an operation's meaning finds it: PC names the word, and the next index is the one that follows (R76, R95). -/
def Module.issued (m : Module) (site : Nat) : Module :=
  (m.wr Reg.tineSeqStatus_pc (m.tine site).seq.nextPc [site]).modSeq site (fun q => { q with nextPc := q.nextPc + 1 })

/-- The module after an operation that acts and answers `o`: a fault ends the stage with the highest-ranked one, else `k` goes on (R93,
R118). -/
def OpOut.settled (o : OpOut) (site : Nat) (k : Module → Module) : Module :=
  match o.faults with
  | f :: t => o.m.stageFault site (worstFault f t)
  | [] => k o.m

/-- The module after the word w whose meaning is `sem`, from the module `m` in which it has issued: a control operation acts and
leaves nothing pending; any other enters its unit's queue and, where it may start, reads its format tables and acts at once (R76,
R100, R101). -/
def Module.afterOp (m : Module) (site w : Nat) (env : OpEnv) (sem : Nat → Module → OpOut) : Module :=
  if opOf w < 0x20 then (sem w m).settled site (fun b => b)
  else
    let o := m.withFormats site w (sem w)
    if mayStart (m.tine site).seq.pend (opOf w) w (m.tine site).seq.astages then o.settled site (fun b => b.pend site w env true o)
    else m.pend site w env false o

end Sys2Proof.Machine
end

