-- ==== Sys2Proof/Certificates/Slice0/Obligations.lean ====
section
/-! DEFINITION. The statements about the machine, for the provers. -/

open Sys2Proof Sys2Proof.Machine

/-- O1. For every command c, every queue rest t and every state s: step of s with c at the front of its queue is exec of c on s
with the queue's rest. -/
def Obligations.StepRunsTheFrontCommand : Prop :=
  ∀ (c : Instr) (t : List Instr) (s : State), step { s with pending := c :: t } = exec c { s with pending := t }

/-- O2. With no command waiting, step answers the same state (the model's choice, log entry 2). -/
def Obligations.StepIdlesOnAnEmptyQueue : Prop :=
  ∀ s : State, s.pending = [] → step s = .next s

/-- O3. Every command of the table, with any operands, answers a next state in every state, and leaves the queue of waiting
commands alone; so no run faults or is refused. -/
def Obligations.EveryCommandAnswersANextState : Prop :=
  ∀ (c : Instr) (s : State), ∃ b : Module, Completes c s b

/-- O4. A command that is not well-formed (an operand names a site, port, queue, connection, bank, engine or register offset
that does not exist, or is wider than its field) answers the same state (the model's choice, log entry 3). -/
def Obligations.OperandsThatNameNothingChangeNothing : Prop :=
  ∀ (c : Instr) (s : State), c.wf = false → exec c s = .next s

/-- O5. From every state, n steps reach a next state (never a fault or a refusal) in which exactly the n commands that had
waited longest are gone from the queue and the others wait in their order. -/
def Obligations.RunsTakeCommandsInOrder : Prop :=
  ∀ (n : Nat) (s : State), ∃ t : State, core.run n s = .next t ∧ t.pending = s.pending.drop n

/-- O6. If device memory and the Tines' SRAM are in canonical form before a step (addresses strictly rising, no byte or syndrome
listed that an unlisted one stands for), they are after it, for every command in every such state. -/
def Obligations.MemoryKeepsItsForm : Prop :=
  ∀ s t : State, s.memOk → step s = .next t → t.memOk

/-- O7. In the reset state every instance of every register field reads its reset value cut to its width; device memory and SRAM
list nothing, in canonical form; no command waits; the round count is 0 and no fault is latched. -/
def Obligations.TheResetState : Prop :=
  (∀ (f : Fld) (idx : List Nat), State.reset.rd f idx = f.resetAt idx) ∧ State.reset.memOk ∧ State.reset.dev.cells = [] ∧
  State.reset.dev.synd = [] ∧ State.reset.sram.cells = [] ∧ State.reset.sram.synd = [] ∧ State.reset.pending = [] ∧
  State.reset.hub.round = 0 ∧ State.reset.rd Reg.safStatus_fatalLatched = 0 ∧ State.reset.rd Reg.hubId_part = 0x0972

/-- O8. A field written by its type: RW takes the bits that fall on it; RWL takes them while SEC_LOCK is 0 and keeps its value
while it is 1; W1C loses exactly the bits written as 1; RO and WO keep theirs. Every field at another place reads as before,
and nothing but the register file changes. -/
def Obligations.FieldsTakeWritesByType : Prop :=
  ∀ (m : Module) (f : Fld) (idx : List Nat) (v : Nat), 0 < f.width →
  (f.ty = .rw → (m.writeField f idx v).rd f idx = f.part v) ∧
  (f.ty = .rwl → (m.writeField f idx v).rd f idx = if m.rd Reg.secStatus_secLock = 0 then f.part v else m.rd f idx) ∧
  (f.ty = .w1c → (m.writeField f idx v).rd f idx = (m.rd f idx &&& (2 ^ f.width - 1 - f.part v)) % 2 ^ f.width) ∧
  (f.ty = .ro ∨ f.ty = .wo → m.writeField f idx v = m) ∧
  (∀ (g : Fld) (jdx : List Nat), g.key jdx ≠ f.key idx → (m.writeField f idx v).rd g jdx = m.rd g jdx) ∧
  Frame [.regs] m (m.writeField f idx v)

/-- O9. A write to a reserved or misaligned BAR0 location answers the same state; an aligned 32-bit read of a reserved BAR0
location or of any BAR2 location answers zero. Any other access to a BAR that is not an aligned 32-bit one answers
Unsupported Request when it reads and is dropped when it writes. From boot STAGE 4 on, the endpoint's configuration words 0
to 6 (the model's numbering, log entry 96) read ALIOWELL_VID, 0x0972, the Cirque die revision, class code 0x12_0000,
ALIOWELL_VID, the Subsystem ID of the suffix and one function; before it every configuration access is answered with
Configuration Request Retry Status. -/
def Obligations.HostAccessesAreAnsweredByKind : Prop :=
  ∀ (off v : Nat) (s : State), isWord v = true →
  (off < 2 ^ 26 → off % 4 ≠ 0 ∨ regAt off = none → exec (.registerWrite ⟨0, off⟩ v) s = .next s) ∧
  (off < 2 ^ 26 → off % 4 = 0 → regAt off = none → Completes (.unsupportedAccess ⟨⟨0, off⟩, 4, false, v⟩) s (s.toModule.emit (.readData 0))) ∧
  (off < 2 ^ 20 → off % 4 = 0 → Completes (.unsupportedAccess ⟨⟨2, off⟩, 4, false, v⟩) s (s.toModule.emit (.readData 0))) ∧
  (∀ space size, space = 0 ∧ off < 2 ^ 26 ∨ space = 2 ∧ off < 2 ^ 20 → size ≠ 4 ∨ off % 4 ≠ 0 →
    exec (.unsupportedAccess ⟨⟨space, off⟩, size, true, v⟩) s = .next s ∧
    ∃ b, CompletesIn [.out, .host] (.unsupportedAccess ⟨⟨space, off⟩, size, false, v⟩) s b ∧ b.out = .unsupported :: s.out) ∧
  (∀ k id, [Config.aliowellVid, 0x0972, s.rd Reg.hubId_cirqueRev, 0x120000, Config.aliowellVid,
      s.rd Reg.hubId_guest0Fitted + 2 * s.rd Reg.hubId_guest1Fitted, 1][k]? = some id →
    (4 ≤ s.rd Reg.hubBootStatus_stage → Completes (.unsupportedAccess ⟨⟨15, k⟩, 4, false, v⟩) s (s.toModule.emit (.readData id))) ∧
    (s.rd Reg.hubBootStatus_stage < 4 → Completes (.unsupportedAccess ⟨⟨15, k⟩, 4, false, v⟩) s (s.toModule.emit .configRetry) ∧
      Completes (.registerWrite ⟨15, k⟩ v) s (s.toModule.emit .configRetry)))

/-- O10. Reads of HUB_ROUND_LO, TINE_CYCLES_LO, TINE_MAT_PASSES_LO, ADM_ACCEPTED_LO and CAL_OPSEC_LO answer the low 32 bits of
the count and latch the high bits into the HI register; nothing else changes. -/
def Obligations.LatchingReadsLatchTheHighWord : Prop :=
  ∀ (s : State) (site : Nat), isSite site = true →
  Completes .hubRoundLoRead s
    ((s.toModule.wr Reg.hubRoundHi_round (s.hub.round / 2 ^ 32)).emit (.readData (s.hub.round % 2 ^ 32))) ∧
  Completes (.tineCyclesLoRead site) s ((s.toModule.wr Reg.tineCyclesHi_cycles ((s.toModule.tine site).cycles / 2 ^ 32) [site]).emit
    (.readData ((s.toModule.tine site).cycles % 2 ^ 32))) ∧
  Completes (.tineMatPassesLoRead site) s ((s.toModule.wr Reg.tineMatPassesHi_passes ((s.toModule.tine site).passes / 2 ^ 32) [site]).emit
    (.readData ((s.toModule.tine site).passes % 2 ^ 32))) ∧
  Completes .admAcceptedLoRead s
    ((s.toModule.wr Reg.admAcceptedHi_accepted (s.adm.accepted / 2 ^ 32)).emit (.readData (s.adm.accepted % 2 ^ 32))) ∧
  Completes .calOpsecLoRead s
    ((s.toModule.wr Reg.calOpsecHi_opsec (s.cal.opsec % 2 ^ 48 / 2 ^ 32)).emit (.readData (s.cal.opsec % 2 ^ 48 % 2 ^ 32)))

/-- O11. With REFCLK present and the root PLL locked, REFCLK_LOST sets HOLDOVER, REF_SUBSTITUTE and REF_LOST and clears
REF_PRESENT, with ROOT_LOCK and the round kept; without, it changes nothing. In holdover, REFCLK_RETURN sets REF_PRESENT and
starts the slew, HOLDOVER kept. At the end of the slew HOLDOVER and REF_SUBSTITUTE clear. Out of these conditions the three
commands change nothing. -/
def Obligations.ReferenceClockIsLostAndReturns : Prop :=
  ∀ s : State,
  (s.rd Reg.hubClkStatus_refPresent ≠ 0 → s.rd Reg.hubClkStatus_rootLock ≠ 0 →
    ∃ b, CompletesIn [.out, .regs, .hub, .saf, .host] .refclkLost s b ∧ b.rd Reg.hubClkStatus_holdover = 1 ∧ b.rd Reg.hubClkStatus_refSubstitute = 1 ∧
      b.rd Reg.hubClkStatus_refPresent = 0 ∧ b.rd Reg.hubClkEvents_refLost = 1 ∧
      b.rd Reg.hubClkStatus_rootLock = s.rd Reg.hubClkStatus_rootLock ∧ b.hub.round = s.hub.round) ∧
  (s.rd Reg.hubClkStatus_holdover ≠ 0 → s.rd Reg.hubClkStatus_refPresent = 0 →
    ∃ b, CompletesIn [.regs, .hub] .refclkReturn s b ∧ b.rd Reg.hubClkStatus_refPresent = 1 ∧ b.hub.slewing = true ∧
      b.rd Reg.hubClkStatus_holdover = s.rd Reg.hubClkStatus_holdover) ∧
  (s.hub.slewing = true →
    ∃ b, CompletesIn [.regs, .hub] .holdoverSlewEnd s b ∧ b.rd Reg.hubClkStatus_holdover = 0 ∧
      b.rd Reg.hubClkStatus_refSubstitute = 0 ∧ b.hub.slewing = false) ∧
  (s.rd Reg.hubClkStatus_refPresent = 0 ∨ s.rd Reg.hubClkStatus_rootLock = 0 → exec .refclkLost s = .next s) ∧
  (s.rd Reg.hubClkStatus_holdover = 0 ∨ s.rd Reg.hubClkStatus_refPresent ≠ 0 → exec .refclkReturn s = .next s) ∧
  (s.hub.slewing = false → exec .holdoverSlewEnd s = .next s)

/-- O12. After ROUND_MARK every connection that exists holds the low 16 bits of the round number; a connection that had already
taken this mark changes nothing; marks it missed raise its frame-error count, saturating; no other connection's mark
changes. -/
def Obligations.RoundMarksAreAuthoritative : Prop :=
  ∀ (s : State) (c : Nat), isConn c = true →
  ∃ b, Completes (.roundMark c) s b ∧ (∃ k, SMap.find? b.hub.marks c = some k ∧ k % 65536 = s.hub.round % 65536) ∧ b.hub.round = s.hub.round ∧
    (∀ d, d ≠ c → SMap.find? b.hub.marks d = SMap.find? s.hub.marks d) ∧
    (∀ k, SMap.find? s.hub.marks c = some k →
      let gap := (s.hub.round % 65536 + 65536 - k % 65536) % 65536
      b.rd Reg.qlkFrameErr_count [c] = if gap ≤ 1 then s.rd Reg.qlkFrameErr_count [c]
        else min (s.rd Reg.qlkFrameErr_count [c] + (gap - 1)) (2 ^ Reg.qlkFrameErr_count.width - 1))

/-- O13. When a site stands ready to issue a word of the operation's opcode, the command completes: PC names the word and the
next index is the one that follows; the operation enters its unit's queue, and where it may start the formats it names are
read and its meaning acts, after which its highest-ranked fault ends the stage or it is recorded as pending with its token
raised; where it may not start it waits. Opcodes as the operation tables give them. -/
def Obligations.MatrixAndVectorOperationsIssue : Prop :=
  ∀ (s : State) (site : Nat) (env : OpEnv) (w : Nat), isSite site = true →
  (s.toModule.readyFor site env 0x20 w →
    Completes (.tload site env) s ((s.toModule.issued site).afterOp site w env (fun w m => m.tload site w))) ∧
  (s.toModule.readyFor site env 0x21 w →
    Completes (.astage site env) s ((s.toModule.issued site).afterOp site w env (fun w m => m.astage site w))) ∧
  (s.toModule.readyFor site env 0x22 w →
    Completes (.stream site env) s ((s.toModule.issued site).afterOp site w env (fun w m => m.stream site w env))) ∧
  (s.toModule.readyFor site env 0x23 w →
    Completes (.wset site env) s ((s.toModule.issued site).afterOp site w env (fun w m => m.wset site w))) ∧
  (s.toModule.readyFor site env 0x24 w →
    Completes (.drain site env) s ((s.toModule.issued site).afterOp site w env (fun w m => m.drain site w env))) ∧
  (s.toModule.readyFor site env 0x25 w →
    Completes (.drainw site env) s ((s.toModule.issued site).afterOp site w env (fun w m => m.drainw site w env))) ∧
  (s.toModule.readyFor site env 0x26 w →
    Completes (.padd site env) s ((s.toModule.issued site).afterOp site w env (fun w m => m.padd site w env))) ∧
  (s.toModule.readyFor site env 0x27 w →
    Completes (.pdrain site env) s ((s.toModule.issued site).afterOp site w env (fun w m => m.pdrain site w))) ∧
  (s.toModule.readyFor site env 0x40 w →
    Completes (.vadd site env) s ((s.toModule.issued site).afterOp site w env (fun w m => m.vec2 site w env (some 0) Sys2Proof.Machine.Num.add))) ∧
  (s.toModule.readyFor site env 0x41 w →
    Completes (.vsub site env) s ((s.toModule.issued site).afterOp site w env (fun w m => m.vec2 site w env (some 0) (fun a b => a.add b.neg)))) ∧
  (s.toModule.readyFor site env 0x42 w →
    Completes (.vmul site env) s ((s.toModule.issued site).afterOp site w env (fun w m => m.vec2 site w env (some 0) Sys2Proof.Machine.Num.mul))) ∧
  (s.toModule.readyFor site env 0x43 w →
    Completes (.vfma site env) s ((s.toModule.issued site).afterOp site w env (fun w m => m.vfma site w env))) ∧
  (s.toModule.readyFor site env 0x44 w →
    Completes (.vmin site env) s ((s.toModule.issued site).afterOp site w env (fun w m => m.vec2 site w env none Num.min))) ∧
  (s.toModule.readyFor site env 0x45 w →
    Completes (.vmax site env) s ((s.toModule.issued site).afterOp site w env (fun w m => m.vec2 site w env none Num.max))) ∧
  (s.toModule.readyFor site env 0x46 w →
    Completes (.vlogic site env) s ((s.toModule.issued site).afterOp site w env (fun w m => m.vlogic site w env))) ∧
  (s.toModule.readyFor site env 0x47 w →
    Completes (.vshift site env) s ((s.toModule.issued site).afterOp site w env (fun w m => m.vshift site w env))) ∧
  (s.toModule.readyFor site env 0x48 w →
    Completes (.vcmp site env) s ((s.toModule.issued site).afterOp site w env (fun w m => m.vcmp site w))) ∧
  (s.toModule.readyFor site env 0x49 w →
    Completes (.vsel site env) s ((s.toModule.issued site).afterOp site w env (fun w m => m.vsel site w))) ∧
  (s.toModule.readyFor site env 0x4A w →
    Completes (.vreduce site env) s ((s.toModule.issued site).afterOp site w env (fun w m => m.vreduce site w env))) ∧
  (s.toModule.readyFor site env 0x4B w →
    Completes (.vgather site env) s ((s.toModule.issued site).afterOp site w env (fun w m => m.vgather site w))) ∧
  (s.toModule.readyFor site env 0x4C w →
    Completes (.vscatter site env) s ((s.toModule.issued site).afterOp site w env (fun w m => m.vscatter site w))) ∧
  (s.toModule.readyFor site env 0x4D w →
    Completes (.vfill site env) s ((s.toModule.issued site).afterOp site w env (fun w m => m.vfill site w))) ∧
  (s.toModule.readyFor site env 0x60 w →
    Completes (.cload site env) s ((s.toModule.issued site).afterOp site w env (fun w m => m.cload site w))) ∧
  (s.toModule.readyFor site env 0x61 w →
    Completes (.ceval site env) s ((s.toModule.issued site).afterOp site w env (fun w m => m.ceval site w env))) ∧
  (s.toModule.readyFor site env 0x80 w →
    Completes (.fdecode site env) s ((s.toModule.issued site).afterOp site w env (fun w m => m.fdecode site w))) ∧
  (s.toModule.readyFor site env 0x81 w →
    Completes (.fencode site env) s ((s.toModule.issued site).afterOp site w env (fun w m => m.fencode site w))) ∧
  (s.toModule.readyFor site env 0x82 w →
    Completes (.freblock site env) s ((s.toModule.issued site).afterOp site w env (fun w m => m.freblock site w))) ∧
  (s.toModule.readyFor site env 0x83 w →
    Completes (.ftile site env) s ((s.toModule.issued site).afterOp site w env (fun w m => m.ftile site w env)))

/-- O14. As MatrixAndVectorOperationsIssue, for the movement operations, the control operations (which act at once and leave
nothing pending; TRAP ends the stage) and a reserved opcode, which ends the stage with fault code 0x01. -/
def Obligations.ControlAndMovementOperationsIssue : Prop :=
  ∀ (s : State) (site : Nat) (env : OpEnv) (w : Nat), isSite site = true →
  (s.toModule.readyFor site env 0xA0 w →
    Completes (.send site env) s ((s.toModule.issued site).afterOp site w env (fun w m => m.send site w))) ∧
  (s.toModule.readyFor site env 0xA1 w →
    Completes (.recv site env) s ((s.toModule.issued site).afterOp site w env (fun w m => m.recv site w))) ∧
  (s.toModule.readyFor site env 0xA2 w →
    Completes (.dmard site env) s ((s.toModule.issued site).afterOp site w env (fun w m => m.dmard site w env))) ∧
  (s.toModule.readyFor site env 0xA3 w →
    Completes (.dmawr site env) s ((s.toModule.issued site).afterOp site w env (fun w m => m.dmawr site w env))) ∧
  (s.toModule.readyFor site env 0xA4 w →
    Completes (.copy site env) s ((s.toModule.issued site).afterOp site w env (fun w m => m.copyOp site w))) ∧
  (s.toModule.readyFor site env 0xA5 w →
    Completes (.input site env) s ((s.toModule.issued site).afterOp site w env (fun w m => m.input site w))) ∧
  (s.toModule.readyFor site env 0xA6 w →
    Completes (.output site env) s ((s.toModule.issued site).afterOp site w env (fun w m => m.output site w))) ∧
  (s.toModule.readyFor site env 0x00 w →
    Completes (.nop site env) s ((s.toModule.issued site).afterOp site w env (fun _ m => OpOut.ok m []))) ∧
  (s.toModule.readyFor site env 0x01 w →
    Completes (.sbegin site env) s ((s.toModule.issued site).afterOp site w env (fun w m => m.sbegin site w))) ∧
  (s.toModule.readyFor site env 0x02 w →
    Completes (.setreg site env) s ((s.toModule.issued site).afterOp site w env (fun w m => m.setreg site w))) ∧
  (s.toModule.readyFor site env 0x03 w →
    Completes (.addreg site env) s ((s.toModule.issued site).afterOp site w env (fun w m => m.addreg site w))) ∧
  (s.toModule.readyFor site env 0x04 w →
    Completes (.loop site env) s ((s.toModule.issued site).afterOp site w env (fun w m => m.loop site w))) ∧
  (s.toModule.readyFor site env 0x05 w →
    Completes (.brcnt site env) s ((s.toModule.issued site).afterOp site w env (fun w m => m.brcnt site w))) ∧
  (s.toModule.readyFor site env 0x06 w →
    Completes (.jump site env) s ((s.toModule.issued site).afterOp site w env (fun w m => m.ctrl site (fun q => { q with nextPc := kTarget w })))) ∧
  (s.toModule.readyFor site env 0x07 w →
    Completes (.barrier site env) s ((s.toModule.issued site).afterOp site w env (fun w m => m.waitFor site (.barrier (kMask w))))) ∧
  (s.toModule.readyFor site env 0x08 w →
    Completes (.sync site env) s ((s.toModule.issued site).afterOp site w env (fun _ m => m.waitFor site .sync))) ∧
  (s.toModule.readyFor site env 0x09 w →
    Completes (.cschk site env) s ((s.toModule.issued site).afterOp site w env (fun _ m => m.waitFor site .cschk))) ∧
  (s.toModule.readyFor site env 0x0A w →
    Completes (.relmark site env) s ((s.toModule.issued site).afterOp site w env (fun _ m => m.waitFor site .relmark))) ∧
  (s.toModule.readyFor site env 0x0B w →
    Completes (.trap site env) s ((s.toModule.issued site).afterOp site w env (fun w m => OpOut.bad m [{ m.flt site 0x0D with detail := toLe 2 (kImm w % 65536) }]))) ∧
  (s.toModule.readyFor site env 0x0C w →
    Completes (.eos site env) s ((s.toModule.issued site).afterOp site w env (fun w m => m.eos site w))) ∧
  (∀ op, opDefined op = false → s.toModule.readyFor site env op w →
    Completes (.reservedOpcode site env) s ((s.toModule.issued site).afterOp site w env (fun _ m => OpOut.bad m [m.flt site 0x01])))

/-- O15. For every operation that is not a control operation, on any module, site and operation word: each granule of SRAM, of
any site, that holds no byte of a range the operation declares it writes keeps its data and its syndrome; one that raises a
fault declares no range, so it changes no SRAM. -/
def Obligations.OperationsWriteOnlyWhatTheyDeclare : Prop :=
  ∀ (m : Module) (site : Nat) (env : OpEnv) (w : Nat), isSite site = true →
  ∀ o ∈ [(fun w m => m.tload site w) w m, (fun w m => m.astage site w) w m, (fun w m => m.stream site w env) w m, (fun w m => m.wset site w) w m, (fun w m => m.drain site w env) w m, (fun w m => m.drainw site w env) w m, (fun w m => m.padd site w env) w m, (fun w m => m.pdrain site w) w m, (fun w m => m.vec2 site w env (some 0) Sys2Proof.Machine.Num.add) w m, (fun w m => m.vec2 site w env (some 0) (fun a b => a.add b.neg)) w m, (fun w m => m.vec2 site w env (some 0) Sys2Proof.Machine.Num.mul) w m, (fun w m => m.vfma site w env) w m, (fun w m => m.vec2 site w env none Num.min) w m, (fun w m => m.vec2 site w env none Num.max) w m, (fun w m => m.vlogic site w env) w m, (fun w m => m.vshift site w env) w m, (fun w m => m.vcmp site w) w m, (fun w m => m.vsel site w) w m, (fun w m => m.vreduce site w env) w m, (fun w m => m.vgather site w) w m, (fun w m => m.vscatter site w) w m, (fun w m => m.vfill site w) w m, (fun w m => m.cload site w) w m, (fun w m => m.ceval site w env) w m, (fun w m => m.fdecode site w) w m, (fun w m => m.fencode site w) w m, (fun w m => m.freblock site w) w m, (fun w m => m.ftile site w env) w m, (fun w m => m.send site w) w m, (fun w m => m.recv site w) w m, (fun w m => m.dmard site w env) w m, (fun w m => m.dmawr site w env) w m, (fun w m => m.copyOp site w) w m, (fun w m => m.input site w) w m, (fun w m => m.output site w) w m],
    (o.faults ≠ [] → o.writes = []) ∧
    ∀ g, (∀ r ∈ o.writes, ∀ a, r.1 ≤ a → a < r.1 + r.2 → sramKey site a / 16 ≠ g) →
      o.m.sram.granule g = m.sram.granule g ∧ o.m.sram.syndrome g = m.sram.syndrome g

/-- O16. On a site ready for the operation: SETREG sets REG to register SRC + IMM, ADDREG to REG + IMM, each modulo the
register's width (A registers in whole granules), and goes on; LOOP with C[REG] 0 goes on with C[REG] 0, else takes one off
and jumps to TARGET unless 0 is left; BRCNT jumps when C[REG] COND IMM holds, signed; JUMP jumps. Registers not named keep
their values. -/
def Obligations.ControlOperationsMoveTheSequencer : Prop :=
  ∀ (s : State) (site : Nat) (env : OpEnv) (w : Nat), isSite site = true →
  let q := (s.toModule.tine site).seq
  (s.toModule.readyFor site env 0x02 w → ∃ b, CompletesIn [.regs, .tines] (.setreg site env) s b ∧
    (b.tine site).seq = ({ q with nextPc := q.nextPc + 1 } : Seqr).setReg (kReg w) (q.reg (kSrc w) + kImm w)) ∧
  (s.toModule.readyFor site env 0x03 w → ∃ b, CompletesIn [.regs, .tines] (.addreg site env) s b ∧
    (b.tine site).seq = ({ q with nextPc := q.nextPc + 1 } : Seqr).setReg (kReg w) (q.reg (kReg w) + kImm w)) ∧
  (s.toModule.readyFor site env 0x04 w → 1 ≤ kReg w → kReg w < 16 → ∃ b, CompletesIn [.regs, .tines] (.loop site env) s b ∧
    (b.tine site).seq.reg (kReg w) = (q.reg (kReg w) - 1) % 2 ^ 32 ∧
    (q.reg (kReg w) < 2 ^ 32 → (b.tine site).seq.nextPc = if q.reg (kReg w) ≤ 1 then q.nextPc + 1 else kTarget w) ∧
    ∀ n, n ≠ kReg w → (b.tine site).seq.reg n = q.reg n) ∧
  (s.toModule.readyFor site env 0x05 w → ∃ b, CompletesIn [.regs, .tines] (.brcnt site env) s b ∧
    (b.tine site).seq = { q with nextPc := if condHolds (kCond w) (sext 32 (q.reg (kReg w))) (sext 32 (kImm w)) then kTarget w else q.nextPc + 1 }) ∧
  (s.toModule.readyFor site env 0x06 w → ∃ b, CompletesIn [.regs, .tines] (.jump site env) s b ∧
    (b.tine site).seq = { q with nextPc := kTarget w })

/-- O17. On an issuing site whose next index lies past its program or past word 4,095, with no upset, every operation command
ends the stage: STAGE_ACTIVE 0, PROGRAM_FAULT 1, fault code 0x0C reported, accumulators, staging buffers, tile registers,
tokens and pending operations discarded, and a switch that the stage held is taken. No other site changes. -/
def Obligations.IssuePastTheProgramEndsTheStage : Prop :=
  ∀ (s : State) (site : Nat) (env : OpEnv), isSite site = true → s.toModule.issuing site = true → env.upsets = [] →
  (s.toModule.tine site).seq.disp.words ≤ (s.toModule.tine site).seq.nextPc ∨ 4095 < (s.toModule.tine site).seq.nextPc →
  ∀ c ∈ [Instr.reservedOpcode site env, .tload site env, .astage site env, .stream site env, .wset site env, .drain site env, .drainw site env, .padd site env, .pdrain site env, .vadd site env, .vsub site env, .vmul site env, .vfma site env, .vmin site env, .vmax site env, .vlogic site env, .vshift site env, .vcmp site env, .vsel site env, .vreduce site env, .vgather site env, .vscatter site env, .vfill site env, .cload site env, .ceval site env, .fdecode site env, .fencode site env, .freblock site env, .ftile site env, .send site env, .recv site env, .dmard site env, .dmawr site env, .copy site env, .input site env, .output site env, .nop site env, .sbegin site env, .setreg site env, .addreg site env, .loop site env, .brcnt site env, .jump site env, .barrier site env, .sync site env, .cschk site env, .relmark site env, .trap site env, .eos site env],
  ∃ b, CompletesIn [.out, .regs, .saf, .tines] c s b ∧ b.rd Reg.tineSeqStatus_stageActive [site] = 0 ∧
    b.rd Reg.tineFault_programFault [site] = 1 ∧ (b.tine site).seq.pend = [] ∧ (b.tine site).seq.tokens = [] ∧
    (b.tine site).heldSwitch = 0 ∧ (∃ f, (b.tine site).report = some (.fault f) ∧ f.code = 0x0C) ∧
    (∀ e ∈ (b.tine site).engines, e.2.acc = [] ∧ e.2.buf0 = none ∧ e.2.buf1 = none ∧ e.2.active = none ∧ e.2.shadow = none) ∧
    (∀ d, d ≠ site → b.tine d = s.toModule.tine d)

/-- O18. A sum S * 2^C enters the window of least exponent L as t: S * 2^(C-L) when C is at least L, else S / 2^(L-C) truncated
toward zero with INEXACT_LOW set when the remainder is not zero; when |t| is 2^111 or more RANGE is set and t becomes 2^111
- 1 with t's sign; t is added exactly and the count rises by one; a sum of zero counts and sets no flag. -/
def Obligations.ContributionsEnterTheWindow : Prop :=
  ∀ (a : Acc) (L S C : Int),
  let t : Int := if L ≤ C then S * 2 ^ (C - L).toNat else S.tdiv (2 ^ (L - C).toNat)
  let lost : Bool := decide (C < L ∧ S.tmod (2 ^ (L - C).toNat) ≠ 0)
  let big : Bool := decide (2 ^ 111 ≤ t.natAbs)
  let r := a.contribute L S C false
  r.x = a.x + (if big then (if t < 0 then -(2 ^ 111 - 1) else 2 ^ 111 - 1) else t) ∧ r.count = a.count + 1 ∧
    r.flags = a.flags ||| (if lost then 1 else 0) ||| (if big then 2 else 0) ∧
    (S = 0 → r.x = a.x ∧ r.flags = a.flags)

/-- O19. Recording an operation whose SIG names a token, started or waiting, raises that token by one and no other.
OPERATION_COMPLETE of a started operation that waits for no granule takes it from the list and lowers its token by one, no
other token changing; then the operations that waited for it start and waits that are met end; where every operation left
has started and the sequencer waits for nothing, nothing else changes. Of an operation that has not started, or of a RECV
with granules still to come, it changes nothing. -/
def Obligations.TokensCountPendingOperations : Prop :=
  ∀ (m : Module) (site w : Nat) (env : OpEnv) (started : Bool) (o : OpOut), site < 72 →
  (∀ n, SMap.get 0 ((Module.pend m site w env started o).tine site).seq.tokens n =
    SMap.get 0 (m.tine site).seq.tokens n + if n = sigOf w ∧ sigOf w ≠ 0 then 1 else 0) ∧
  (∀ (s : State) (i : Nat) (p : Pending), s.toModule = m → (m.tine site).seq.pend[i]? = some p →
    let left := (p.recv.map (fun r => r.2.2.2.1)).getD 0
    (p.started = false ∨ 0 < left → exec (.operationComplete site i) s = .next s) ∧
    (p.started = true → left = 0 →
      ∃ b, Frame [.tines] m b ∧ (b.tine site).seq.pend = (m.tine site).seq.pend.eraseIdx i ∧
        (∀ n, SMap.get 0 (b.tine site).seq.tokens n = SMap.get 0 (m.tine site).seq.tokens n - if n = p.sig ∧ p.sig ≠ 0 then 1 else 0) ∧
        (∀ d, d ≠ site → b.tine d = m.tine d) ∧ Completes (.operationComplete site i) s ((b.startOps site).settle site) ∧
        ((∀ x ∈ (m.tine site).seq.pend, x.started = true) → (m.tine site).seq.wait = .run → (b.startOps site).settle site = b)))

/-- O20. For the 144 bits of a code word: no error gives syndrome 0 and is delivered; one data bit gives its column, of weight
3, and that bit is corrected; one check bit k gives 2^k and is corrected as a check bit; any two bits give a nonzero
syndrome of even weight at most 6, uncorrectable; three or four bits of one aligned nibble give a nonzero syndrome of weight
at most 5, uncorrectable. -/
def Obligations.TheCodeCorrectsAndDetects : Prop :=
  codeSynd 0 = 0 ∧ codeDecode 0 = .clean ∧
  (∀ i, i < 128 → popcount 16 (codeSynd (2 ^ i)) = 3 ∧ codeSynd (2 ^ i) = codeCol i ∧ codeDecode (codeSynd (2 ^ i)) = .data i) ∧
  (∀ k, k < 16 → codeSynd (2 ^ (128 + k)) = 2 ^ k ∧ codeDecode (codeSynd (2 ^ (128 + k))) = .check) ∧
  (∀ i, i < 144 → ∀ j, j < i → codeSynd (2 ^ i + 2 ^ j) ≠ 0 ∧ popcount 16 (codeSynd (2 ^ i + 2 ^ j)) % 2 = 0 ∧
    popcount 16 (codeSynd (2 ^ i + 2 ^ j)) ≤ 6 ∧ codeDecode (codeSynd (2 ^ i + 2 ^ j)) = .uncorr) ∧
  (∀ k, k < 36 → ∀ e ∈ [7, 11, 13, 14, 15], codeSynd (e * 16 ^ k) ≠ 0 ∧ popcount 16 (codeSynd (e * 16 ^ k)) ≤ 5 ∧
    codeDecode (codeSynd (e * 16 ^ k)) = .uncorr)

/-- O21. A granule of GDDR7 that was correct and has one bit flipped is delivered with its own data, not bad; it stands
corrected afterwards; a data bit raises the device's corrected count, a check bit its check-field count; every other
granule's data and syndrome stand. -/
def Obligations.SingleUpsetsOfMemoryAreCorrected : Prop :=
  ∀ (m : Module) (a i : Nat), a < gddrEnd → a % 16 = 0 → i < 144 → m.dev.syndrome (a / 16) = 0 →
  let m0 : Module := { m with dev := m.dev.upset (a / 16) (2 ^ i) }
  let r := m0.devRead a 0 sevDegraded
  r.1 = m.dev.granule (a / 16) ∧ r.2.1 = false ∧ r.2.2.dev.granule (a / 16) = m.dev.granule (a / 16) ∧
    r.2.2.dev.syndrome (a / 16) = 0 ∧
    (i < 128 → r.2.2.rd Reg.memDevCorr_corrected [gddrDevice a] =
      min (m.rd Reg.memDevCorr_corrected [gddrDevice a] + 1) (2 ^ Reg.memDevCorr_corrected.width - 1)) ∧
    (128 ≤ i → r.2.2.rd Reg.memDevCheckfield_checkFieldCorrected [gddrDevice a] =
      min (m.rd Reg.memDevCheckfield_checkFieldCorrected [gddrDevice a] + 1) (2 ^ Reg.memDevCheckfield_checkFieldCorrected.width - 1)) ∧
    ∀ g, g ≠ a / 16 → r.2.2.dev.granule g = m.dev.granule g ∧ r.2.2.dev.syndrome g = m.dev.syndrome g

/-- O22. After a write of a whole granule to GDDR7 a read delivers exactly those 128 bits, not bad, and changes nothing more; a
poisoned write reads back bad; every other granule's data and syndrome stand, and no other kind of state changes by the
write. -/
def Obligations.MemoryReadsWhatWasWritten : Prop :=
  ∀ (m : Module) (a d : Nat), a < gddrEnd → a % 16 = 0 → d < 2 ^ 128 →
  (m.devWrite a d false).devRead a 0 sevDegraded = (d, false, m.devWrite a d false) ∧
  ((m.devWrite a d true).devRead a 0 sevDegraded).1 = d ∧ ((m.devWrite a d true).devRead a 0 sevDegraded).2.1 = true ∧
  (∀ bad g, g ≠ a / 16 → (m.devWrite a d bad).dev.granule g = m.dev.granule g ∧ (m.devWrite a d bad).dev.syndrome g = m.dev.syndrome g) ∧
  ∀ bad, Frame [.dev] m (m.devWrite a d bad)

/-- O23. A GDDR7 granule at a 16-byte aligned address below the end of GDDR7 stands on its device in the code page of its
address: byte k of its data at 2,048 * page + 16 o + k, its check field, least significant byte first, at 2,048 * page +
1,792 + 2 o; granule g of a CXL window stands in page g div 112 as granule g mod 112 of its port's device; the last 32 bytes
of every page are zero. -/
def Obligations.CodePagesLayTheDevicesOut : Prop :=
  ∀ (m : Module) (a g p : Nat), a < gddrEnd → a % 16 = 0 → p < 2 →
  let page := (gddrPage a).1
  let o := (gddrPage a).2
  (∀ k, k < 16 → m.gddrByte (gddrDevice a) (2048 * page + 16 * o + k) = (m.dev.byte (a + k)).toNat ∧
    m.cxlByte p (2048 * (g / 112) + 16 * (g % 112) + k) = (m.dev.byte (cxlBase p + 16 * g + k)).toNat) ∧
  (∀ k, k < 2 → m.gddrByte (gddrDevice a) (2048 * page + 1792 + 2 * o + k) = m.dev.check (a / 16) / 256 ^ k % 256 ∧
    m.cxlByte p (2048 * (g / 112) + 1792 + 2 * (g % 112) + k) = m.dev.check (cxlBase p / 16 + g) / 256 ^ k % 256) ∧
  ∀ d n k, 2016 ≤ k → k < 2048 → m.gddrByte d (2048 * n + k) = 0 ∧ m.cxlByte p (2048 * n + k) = 0

/-- O24. MEM_HOST_REGION takes SIZE_256M only when it is at most 32 and no host context is loaded; otherwise the state stands.
HUB_APERTURE_BASE ignores a value above 16. MEM_CNT_CLR of the Cirque counters clears them. -/
def Obligations.HostRegionAndApertureTakeValidSizes : Prop :=
  ∀ (s : State) (v : Nat), isWord v = true →
  (v % 64 ≤ 32 → (∀ p ∈ s.ctx.table, p.1 = 0xFFFF ∨ p.2.state = 0) →
    Completes (.memHostRegionWrite v) s (s.toModule.wr Reg.memHostRegion_size256m (v % 64))) ∧
  (32 < v % 64 ∨ (∃ p ∈ s.ctx.table, p.1 ≠ 0xFFFF ∧ p.2.state ≠ 0) → exec (.memHostRegionWrite v) s = .next s) ∧
  (v % 32 ≤ 16 → Completes (.hubApertureBaseWrite v) s (s.toModule.wr Reg.hubApertureBase_base256m v)) ∧
  (16 < v % 32 → exec (.hubApertureBaseWrite v) s = .next s) ∧
  ∃ b, CompletesIn [.regs] .memCntClrCirque s b ∧ b.rd Reg.memCirqueCorr_count = 0 ∧ b.rd Reg.memCirqueUncorr_count = 0 ∧
    b.rd Reg.memMeshCorr_count = 0 ∧ b.rd Reg.memMeshUncorr_count = 0

/-- O25. SPARE_CALLED takes a SPARE site to TESTING and does nothing in any other state. ENTRY_TEST_DONE does nothing to a site
not under test; a failure sets ENTRY_TEST_FAIL and leaves the site RETIRED; a pass leaves it ACTIVE or SPARE. -/
def Obligations.EntryTestsDecideASite : Prop :=
  ∀ (s : State) (site : Nat), isSite site = true →
  (s.toModule.siteState site = 0 → ∃ b, CompletesIn [.out, .regs, .saf, .tines, .seqs, .seqWait] (.spareCalled site) s b ∧ b.siteState site = 1) ∧
  (s.toModule.siteState site ≠ 0 → exec (.spareCalled site) s = .next s) ∧
  (s.toModule.siteState site ≠ 1 → ∀ pass, exec (.entryTestDone site pass) s = .next s) ∧
  (s.toModule.siteState site = 1 → ∃ b, Completes (.entryTestDone site false) s b ∧ b.siteState site = 5 ∧
    b.rd Reg.tineFault_entryTestFail [site] = 1) ∧
  (s.toModule.siteState site = 1 → ∃ b, Completes (.entryTestDone site true) s b ∧ (b.siteState site = 2 ∨ b.siteState site = 0))

/-- O26. COMMIT of a VERIFIED structure on a member of a pair gives REJECTED with RESULT PAIRED; on any other module QUIESCING,
and admission stops. ABORT while QUIESCING gives VERIFIED, and admission resumes unless the default structure is in force;
in any other state it changes nothing. A COMMIT in any other state changes nothing. A COMMIT while the block is busy only
sets IGNORED_CMD. -/
def Obligations.StructureCommandsMoveTheBlock : Prop :=
  ∀ s : State,
  (s.toModule.structState = 2 → s.toModule.pairState ≠ 0 →
    Completes .structCommit s ((s.toModule.wr Reg.hubStructStatus_state 5).wr Reg.hubStructStatus_result 0x1A)) ∧
  (s.toModule.structState = 2 → s.toModule.pairState = 0 → ∃ b, CompletesIn [.regs, .str] .structCommit s b ∧ b.structState = 3 ∧
    b.rd Reg.admStatus_quiesced = 1 ∧ b.rd Reg.admStatus_running = 0 ∧ b.str.force = s.str.force) ∧
  (s.toModule.structState = 3 → ∃ b, CompletesIn [.regs] .structAbort s b ∧ b.structState = 2 ∧ b.rd Reg.admStatus_quiesced = 0 ∧
    b.rd Reg.admStatus_running = if s.rd Reg.hubStructStatus_defaultStruct = 0 then 1 else s.rd Reg.admStatus_running) ∧
  (s.toModule.structState ≠ 3 → exec .structAbort s = .next s) ∧
  (s.toModule.structState ∈ [1, 3, 4, 6] → Completes .structCommit s (s.toModule.set1 Reg.hubStructStatus_ignoredCmd)) ∧
  (s.toModule.structState = 0 ∨ s.toModule.structState = 5 → exec .structCommit s = .next s)

/-- O27. A doorbell write or an SQ read error of a queue that is not ENABLED is ignored. An SQ_TAIL of the SQ depth or more puts
the queue in ERROR with ERR DB_SQ (2), a CQ_HEAD outside the span of posted, unconsumed entries in ERROR with ERR DB_CQ (3),
an SQ read error in ERROR with ERR SQ_FETCH (1). A valid SQ_TAIL is kept; a valid CQ_HEAD frees the entries up to it; one
that repeats the head of a full ring frees every entry (the model's reading, log entry 61). No other queue changes. -/
def Obligations.DoorbellsMoveQueues : Prop :=
  ∀ (s : State) (q v : Nat), isQueue q = true → isWord v = true →
  (s.toModule.qState q ≠ 1 → exec (.sqTailDoorbell q v) s = .next s ∧ exec (.cqHeadDoorbell q v) s = .next s ∧
    exec (.sqFetchError q) s = .next s) ∧
  (s.toModule.qState q = 1 →
    (s.toModule.sqDepth q ≤ v → ∃ b, CompletesIn [.regs] (.sqTailDoorbell q v) s b ∧ b.qState q = 3 ∧ b.rd Reg.queStatus_err [q] = 2) ∧
    (v < s.toModule.sqDepth q → ∃ b, CompletesIn [.host] (.sqTailDoorbell q v) s b ∧
      b.queue q = { s.toModule.queue q with sqTail := v } ∧ ∀ p, p ≠ q → b.queue p = s.toModule.queue p) ∧
    (∃ b, CompletesIn [.regs] (.sqFetchError q) s b ∧ b.qState q = 3 ∧ b.rd Reg.queStatus_err [q] = 1) ∧
    let used := if v = (s.toModule.queue q).cqHead ∧ (s.toModule.queue q).posted = s.toModule.cqDepth q then (s.toModule.queue q).posted
      else (v + s.toModule.cqDepth q - (s.toModule.queue q).cqHead) % s.toModule.cqDepth q
    (s.toModule.cqDepth q ≤ v ∨ (s.toModule.queue q).posted < used →
      ∃ b, CompletesIn [.regs] (.cqHeadDoorbell q v) s b ∧ b.qState q = 3 ∧ b.rd Reg.queStatus_err [q] = 3) ∧
    (v < s.toModule.cqDepth q → used ≤ (s.toModule.queue q).posted → ∃ b, CompletesIn [.host] (.cqHeadDoorbell q v) s b ∧
      (b.queue q).cqHead = v ∧ (b.queue q).posted = (s.toModule.queue q).posted - used ∧ (b.queue q).sqTail = (s.toModule.queue q).sqTail ∧
      ∀ p, p ≠ q → b.queue p = s.toModule.queue p))

/-- O28. ENABLE of a DISABLED queue 0 is kept as asked for. Once asked for and READY, queue 0 becomes ENABLED with ERR, QUE_PTRS
and IN_FLIGHT zero and nothing in its ring. DISABLE of an ENABLED or ERROR queue 0 gives DRAINING; in any other state it
changes nothing. -/
def Obligations.QueueZeroIsEnabledAndTakenDown : Prop :=
  ∀ s : State,
  (s.toModule.qState 0 = 0 → ∃ b, CompletesIn [.host] .queEnable s b ∧ (b.queue 0).enabling = true) ∧
  (s.toModule.qState 0 ≠ 0 → exec .queEnable s = .next s ∧ exec .queue0Enabled s = .next s) ∧
  (s.toModule.qState 0 = 0 → (s.toModule.queue 0).enabling = true → s.rd Reg.hubBootStatus_ready ≠ 0 →
    ∃ b, CompletesIn [.regs, .host] .queue0Enabled s b ∧ b.qState 0 = 1 ∧ b.rd Reg.queStatus_err [0] = 0 ∧
      b.rd Reg.quePtrs_sqHead [0] = 0 ∧ b.rd Reg.quePtrs_cqTail [0] = 0 ∧ b.rd Reg.queStatus_inFlight [0] = 0 ∧ b.queue 0 = Queue.blank) ∧
  (s.toModule.qState 0 = 1 ∨ s.toModule.qState 0 = 3 → ∃ b, CompletesIn [.regs, .host] .queDisable s b ∧ b.qState 0 = 2 ∧
    (b.queue 0).fetched = []) ∧
  (s.toModule.qState 0 = 0 ∨ s.toModule.qState 0 = 2 → exec .queDisable s = .next s)

/-- O29. CLR_PEAK clears PEAK_BYTES; CLR_REASONS clears the twelve refusal-reason counters; CLR_OUTCOMES clears the accepted
count and the rejected, late and throttle-held counters. -/
def Obligations.AdmissionCountersClear : Prop :=
  ∀ s : State,
  Completes .admCntClrPeak s (s.toModule.wr Reg.admCopyPeak_peakBytes 0) ∧
  (∃ b, CompletesIn [.regs] .admCntClrReasons s b ∧ ∀ i, i < 12 → b.rd Reg.admRejReason_count [i] = 0) ∧
  ∃ b, CompletesIn [.regs, .adm] .admCntClrOutcomes s b ∧ b.adm = { s.adm with accepted := 0 } ∧ b.rd Reg.admRejected_count = 0 ∧
    b.rd Reg.admLate_count = 0 ∧ b.rd Reg.admLateSecond_count = 0 ∧ b.rd Reg.admLateUnprot_count = 0 ∧
    b.rd Reg.admLateUnexplained_count = 0 ∧ b.rd Reg.admThrottleHeld_count = 0

/-- O30. RTE_CTL.COMMIT sets COMMIT_PENDING and changes nothing else. A write to a shadow window while COMMIT_PENDING is 1 only
sets IGNORED_WRITE; while it is 0 the named entry takes the value, no other entry of the four tables changes, and the tables
in force stand. -/
def Obligations.ShadowTablesWaitForACommit : Prop :=
  ∀ (s : State) (table i v : Nat), isWord v = true → (table = 0 ∧ i < 512 ∨ table = 1 ∧ i < 32 ∨ 2 ≤ table ∧ table < 4 ∧ i < 1024) →
  Completes .rteCommit s (s.toModule.wr Reg.rteStatus_commitPending 1) ∧
  (s.rd Reg.rteStatus_commitPending ≠ 0 → Completes (.shadowTableWrite table i v) s (s.toModule.wr Reg.rteStatus_ignoredWrite 1)) ∧
  (s.rd Reg.rteStatus_commitPending = 0 →
    let f := if table = 0 then Reg.rteGroupSh_word else if table = 1 then Reg.rteLocalSh_word else if table = 2 then Reg.rteExcSh_lo else Reg.rteExcShHi_hi
    ∃ b, CompletesIn [.regs] (.shadowTableWrite table i v) s b ∧ b.rd f [i] = v ∧
      (∀ g ∈ [Reg.rteGroupSh_word, Reg.rteLocalSh_word, Reg.rteExcSh_lo, Reg.rteExcShHi_hi], ∀ j, j < 1024 → g.key [j] ≠ f.key [i] →
        b.rd g [j] = s.rd g [j]) ∧ b.rd Reg.rteStatus_ignoredWrite = s.rd Reg.rteStatus_ignoredWrite)

/-- O31. CRC-32C as the flit uses it and the sideband CRC-16, over the nine ASCII bytes 123456789, are 0xE3069283 and 0x29B1. -/
def Obligations.CheckValueExamples : Prop :=
  crc32c [0x31, 0x32, 0x33, 0x34, 0x35, 0x36, 0x37, 0x38, 0x39] = 0xE3069283 ∧ crc16 [0x31, 0x32, 0x33, 0x34, 0x35, 0x36, 0x37, 0x38, 0x39] = 0x29B1

/-- O32. On an engine whose instance stands at the step, within its limits: LOADS sets SCR to VALUE, ADDS adds VALUE modulo
2^32, both going to NEXT; BRS goes to NEXT when SCR COND VALUE holds, else to ALT; WAIT takes its TIME and goes to NEXT.
Each counts one step and its time, and changes no other instance and no other kind of state. -/
def Obligations.SequenceStepsActOnTheInstance : Prop :=
  ∀ (s : State) (e t : Nat) (i : SeqInst) (p : SeqStep), isEngine e = true → s.toModule.seqAt e = some (i, p) →
  i.steps < i.table.stepLimit → i.time + (if p.op = 6 then p.time else t) ≤ i.table.timeLimit →
  let after := fun (scr : SMap Nat) (ok : Bool) => { i with
    scr := scr, pc := if ok then seqNext i.pc p.next else p.alt, steps := i.steps + 1, time := i.time + (if p.op = 6 then p.time else t) }
  let done := fun (c : Instr) (x : SeqInst) => Completes c s { s.toModule with seqs := SMap.ins e x s.seqs }
  (p.op = 4 → done (.loads e t) (after (SMap.put 0 p.scr (p.value % 2 ^ 32) i.scr) true)) ∧
  (p.op = 5 → done (.adds e t) (after (SMap.put 0 p.scr ((SMap.get 0 i.scr p.scr + p.value) % 2 ^ 32) i.scr) true)) ∧
  (p.op = 8 → done (.brs e t) (after i.scr (seqCond p.cond (SMap.get 0 i.scr p.scr) p.value))) ∧
  (p.op = 6 → done (.wait e) (after i.scr true))

/-- O33. A WARMING unit that locks becomes READY, or LIT where it is the spare an unplanned swap waits for and the primary is
dark, and one not locked at 2 ms RETIRED with LASER_FAIL set; a LIT unit that fails becomes RETIRED with LASER_FAIL set; any
unit but a RETIRED one above its power limit becomes RETIRED with OVERPOWER_CUT set. In other states of the unit the command
changes nothing. -/
def Obligations.LaserUnitsFollowTheirTable : Prop :=
  ∀ (s : State) (b slot u reading : Nat), b < 4 → slot < 17 → u < 2 →
  (s.toModule.unitState b slot u = 1 → ∃ m, Completes (.laserLocked b slot u) s m ∧
    m.unitState b slot u = if u = 1 ∧ (s.toModule.bank b).unplanned.elem slot = true ∧ s.toModule.unitState b slot 0 ≠ 3 then 3 else 2) ∧
  (s.toModule.unitState b slot u = 1 → ∃ m, Completes (.laserWarmTimeout b slot u) s m ∧ m.unitState b slot u = 4 ∧
    m.rd Reg.lasEvents_laserFail [b] = 1) ∧
  (s.toModule.unitState b slot u ≠ 1 → exec (.laserLocked b slot u) s = .next s ∧ exec (.laserWarmTimeout b slot u) s = .next s) ∧
  (s.toModule.unitState b slot u = 3 → ∃ m, Completes (.laserFail b slot u) s m ∧ m.unitState b slot u = 4 ∧
    m.rd Reg.lasEvents_laserFail [b] = 1) ∧
  (s.toModule.unitState b slot u ≠ 3 → exec (.laserFail b slot u) s = .next s) ∧
  (s.toModule.unitState b slot u ≠ 4 → ∃ m, Completes (.laserOverpower b slot u reading) s m ∧ m.unitState b slot u = 4 ∧
    m.rd Reg.lasEvents_overpowerCut [b] = 1) ∧
  (s.toModule.unitState b slot u = 4 → exec (.laserOverpower b slot u reading) s = .next s)

/-- O34. A write of a guest window's rights, with SEC_LOCK clear: where the window overlaps the firmware area or lies outside
the GDDR7 range and every open CXL window, REJECTED is set and the rights are 0; elsewhere the rights take the bits written
and REJECTED clears. With SEC_LOCK set nothing changes. -/
def Obligations.FirewallWindowsStayWhereTheyMay : Prop :=
  ∀ (s : State) (g w v : Nat), g < 2 → w < 16 → isWord v = true →
  let base := (s.toModule.fwWindow g w).1
  let size := (s.toModule.fwWindow g w).2
  let bad := s.toModule.rangeOk base size = false ∨ base < gddrEnd ∧ fwArea < base + size
  (s.rd Reg.secStatus_secLock ≠ 0 → exec (.winRightsWrite g w v) s = .next s) ∧
  (s.rd Reg.secStatus_secLock = 0 → ∃ b, CompletesIn [.regs] (.winRightsWrite g w v) s b ∧
    (bad → b.rd Reg.qlkFwWinRights_rejected [g, w] = 1 ∧ b.rd Reg.qlkFwWinRights_r [g, w] = 0 ∧ b.rd Reg.qlkFwWinRights_w [g, w] = 0 ∧
      b.rd Reg.qlkFwWinRights_x [g, w] = 0 ∧ b.rd Reg.qlkFwWinRights_coherent [g, w] = 0) ∧
    (¬ bad → b.rd Reg.qlkFwWinRights_rejected [g, w] = 0 ∧ b.rd Reg.qlkFwWinRights_r [g, w] = bit v 0 ∧
      b.rd Reg.qlkFwWinRights_w [g, w] = bit v 1 ∧ b.rd Reg.qlkFwWinRights_x [g, w] = bit v 2 ∧ b.rd Reg.qlkFwWinRights_coherent [g, w] = bit v 3))

/-- O35. When the firewall refuses the message at the head of what a guest has sent, the command that takes it leaves device
memory, SRAM and every other kind of state but registers, the log, output and the Quinhorn side as they were, and the
message is gone. -/
def Obligations.RefusedGuestWritesLeaveMemory : Prop :=
  ∀ (s : State) (g : Nat) (x : QMsg) (t : List QMsg), g < 2 → (s.toModule.guest g).inbox = x :: t →
  (s.toModule.modGuest g (fun y => { y with inbox := t })).fwCheck g x ≠ 0 →
  (∀ c ∈ [(Instr.rd g, 0, 0), (.wr g, 0, 2), (.wrMasked g, 0, 3), (.atAdd g, 0, 5), (.atSwap g, 0, 6), (.atCas g, 0, 7), (.guestCopy g, 0, 9)],
    x.cls = c.2.1 → x.op = c.2.2 → ∃ b, CompletesIn [.out, .regs, .saf, .qlk] c.1 s b ∧ (b.guest g).inbox = t)

/-- O36. The command that takes a guest's WR, WR_MASKED, AT_ADD, AT_SWAP or AT_CAS from the head of what the guest has sent,
whatever becomes of it: the message is gone, SRAM stands, and every granule of device memory but those written keeps its
data and syndrome: for WR the granules from ADDR on, one for each of the payload; for the others the one that holds ADDR. -/
def Obligations.GuestStoresLeaveOtherMemory : Prop :=
  ∀ (s : State) (g : Nat) (x : QMsg) (t : List QMsg), g < 2 → (s.toModule.guest g).inbox = x :: t → x.cls = 0 →
  ∀ c ∈ [(Instr.wr g, 2, x.payload.length), (.wrMasked g, 3, 1), (.atAdd g, 5, 1), (.atSwap g, 6, 1), (.atCas g, 7, 1)], x.op = c.2.1 →
    ∃ b, CompletesIn [.out, .regs, .dev, .saf, .host, .qlk] c.1 s b ∧ (b.guest g).inbox = t ∧
      ∀ k, k < x.addr / 16 ∨ x.addr / 16 + c.2.2 ≤ k → b.dev.granule k = s.dev.granule k ∧ b.dev.syndrome k = s.dev.syndrome k

/-- O37. SELF_FENCE on the holder not yet fenced sets its fence, leaves at most 25,600 fabric cycles of the count, and sets
SELF_FENCE; a fenced or non-holding member stands. LEASE_EXPIRY leaves the holder FENCED, no longer holding the lease, and
changes nothing on any other member. -/
def Obligations.SelfFencingAndTheEndOfTheLease : Prop :=
  ∀ s : State,
  (s.toModule.pairState = 3 ∨ s.toModule.pairState = 4 →
    (s.pair.fenced = false → ∃ b, CompletesIn [.out, .regs, .saf, .pair] .selfFence s b ∧
      b.pair = { s.pair with fenced := true, left := min 25600 s.pair.left } ∧ b.rd Reg.pairEvents_selfFence = 1 ∧
      b.pairState = s.toModule.pairState) ∧
    (s.pair.fenced = true → exec .selfFence s = .next s) ∧
    ∃ b, Completes .leaseExpiry s b ∧ b.pairState = 6 ∧ b.rd Reg.pairStatus_leaseHeld = 0 ∧ b.rd Reg.pairStatus_formed = 0) ∧
  (s.toModule.pairState ≠ 3 → s.toModule.pairState ≠ 4 → exec .selfFence s = .next s ∧ exec .leaseExpiry s = .next s)

/-- O38. A record that does not match the newest unread one of its round, with room in the log: it stands in the slot SAF_LOG_WR
names with the next SEQ, the current round and OPSEC, SAF_LOG_WR advances modulo 1,024 and UNREAD rises by one. With the log
full, a record below DEGRADED is dropped and counted in SAF_LOG_LOST, the log standing. A record that matches the newest
unread one of its round is not written: that record's SUPPRESSED rises by one, up to 255, and no other record, register or
SEQ changes. -/
def Obligations.RecordsAreKeptInOrder : Prop :=
  ∀ (m : Module) (r : LogRec), m.rd Reg.safStatus_unread ≤ 1024 → r.severity < 2 → r.pin = false → m.recSnaps r = false →
  (∀ k, m.newestSlot = some k → let n := SMap.get LogRec.blank m.saf.log k
    n.cls ≠ r.cls ∨ n.event ≠ r.event ∨ n.source ≠ r.source ∨ n.sub ≠ r.sub ∨ n.round ≠ m.hub.round % 2 ^ 48) →
  (m.rd Reg.safStatus_unread < 1024 →
    SMap.find? (m.logRec r).saf.log (m.rd Reg.safLogWr_wr) =
      some { r with seq := m.saf.nextSeq, round := m.hub.round % 2 ^ 48, opsec := m.cal.opsec % 2 ^ 48, suppressed := 0, snapTaken := false } ∧
    (m.logRec r).rd Reg.safStatus_unread = m.rd Reg.safStatus_unread + 1 ∧
    (m.logRec r).rd Reg.safLogWr_wr = (m.rd Reg.safLogWr_wr + 1) % 1024 ∧ (m.logRec r).saf.nextSeq = (m.saf.nextSeq + 1) % 2 ^ 32) ∧
  (m.rd Reg.safStatus_unread = 1024 → (m.logRec r).saf.log = m.saf.log ∧
    (m.logRec r).rd Reg.safLogLost_lost = min (m.rd Reg.safLogLost_lost + 1) (2 ^ Reg.safLogLost_lost.width - 1)) ∧
  Frame [.regs, .saf] m (m.logRec r) ∧
  ∀ (x : LogRec) (k : Nat), x.severity < sevFatal → x.pin = false → m.newestSlot = some k →
    (let n := SMap.get LogRec.blank m.saf.log k
     n.cls = x.cls ∧ n.event = x.event ∧ n.source = x.source ∧ n.sub = x.sub ∧ n.round = m.hub.round % 2 ^ 48) →
    let again : LogRec := { SMap.get LogRec.blank m.saf.log k with
      suppressed := min 255 ((SMap.get LogRec.blank m.saf.log k).suppressed + 1) }
    m.logRec x = { m with saf := { m.saf with log := SMap.ins k again m.saf.log } }

/-- O39. A record of severity FATAL, whatever the log holds: FATAL_LATCHED, GATE_CLOSED and FAULT_PIN are 1 afterwards, and
FAULT_N is driven low if it was not low before. -/
def Obligations.FatalRecordsFailFast : Prop :=
  ∀ (m : Module) (r : LogRec), r.severity = sevFatal →
  (m.logRec r).rd Reg.safStatus_fatalLatched = 1 ∧ (m.logRec r).rd Reg.safStatus_gateClosed = 1 ∧
  (m.logRec r).rd Reg.safStatus_faultPin ≠ 0 ∧ (m.rd Reg.safStatus_faultPin = 0 → Output.pin 0 false ∈ (m.logRec r).out)

/-- O40. SNAP_CTL.TRIGGER with no snapshot held or being taken sends the trigger; otherwise it raises MISSED, saturating, and
sends nothing. REARM clears HELD. -/
def Obligations.SnapshotTriggersAreHeldBack : Prop :=
  ∀ (s : State) (v : Nat), isWord v = true → bitB v 31 = true → bitB v 30 = false →
  (s.rd Reg.snapStatus_held = 0 → s.saf.snapTrig = none → ∃ b, CompletesIn [.out, .regs, .saf] (.snapTrigger v) s b ∧
    b.out = .snapTrigger :: s.out ∧ b.saf.snapTrig = some (2, 0)) ∧
  (s.rd Reg.snapStatus_held ≠ 0 ∨ s.saf.snapTrig ≠ none → ∃ b, CompletesIn [.regs] (.snapTrigger v) s b ∧
    b.rd Reg.snapStatus_missed = min (s.rd Reg.snapStatus_missed + 1) (2 ^ Reg.snapStatus_missed.width - 1)) ∧
  ∀ u, isWord u = true → bitB u 30 = true → ∃ b, CompletesIn [.regs] (.snapRearm u) s b ∧ b.rd Reg.snapStatus_held = 0

/-- O41. In 1/64 degree, with T the die's filtered temperature at the last boundary: a ring set point, laser bias or diode
offset is the value of calibration point 0 at 25 degrees or less, that of point 7 at 95 degrees or more, and between points
i and i + 1 the linear interpolation of theirs, all times 640. Seven moves take a tap band from any band to one in which,
with T_lo no more than T_hi of the hotter die, T_lo lies below the boundary above it and T_hi no more than 2 degrees below
the boundary under it. -/
def Obligations.CalibratedValuesFollowTheTemperature : Prop :=
  ∀ (m : Module) (q item : Nat) (lo hi : Int) (b : Nat),
  let T := SMap.get 0 m.cal.temps (calChannel q item)
  (T ≤ 64 * 25 → m.setPoint q item = 640 * calVal m.cal.used q item 0) ∧
  (64 * 95 ≤ T → m.setPoint q item = 640 * calVal m.cal.used q item 7) ∧
  (∀ i : Nat, i < 7 → 64 * (25 + 10 * (i : Int)) ≤ T → T ≤ 64 * (35 + 10 * (i : Int)) →
    m.setPoint q item = calVal m.cal.used q item i * (64 * (35 + 10 * (i : Int)) - T) +
      calVal m.cal.used q item (i + 1) * (T - 64 * (25 + 10 * (i : Int)))) ∧
  (lo ≤ hi → b < 8 → let c := tapBand lo hi 7 b
    c < 8 ∧ (c < 7 → lo < 64 * (30 + 10 * (c : Int))) ∧ (0 < c → 64 * (28 + 10 * ((c : Int) - 1)) ≤ hi))

/-- O42. CAL_CTL.RUN always takes QUANT_MASK; while STATE is not IDLE it does no more, and in IDLE STATE becomes 1. REVERT with
no previous set only takes QUANT_MASK. -/
def Obligations.CalibrationRunsOneAtATime : Prop :=
  ∀ (s : State) (mask : Nat), mask < 32 →
  (s.rd Reg.calStatus_state ≠ 0 → Completes (.calRun mask) s (s.toModule.wr Reg.calCtl_quantMask mask)) ∧
  (s.rd Reg.calStatus_state = 0 → ∃ b, CompletesIn [.regs] (.calRun mask) s b ∧ b.rd Reg.calStatus_state = 1 ∧
    b.rd Reg.calCtl_quantMask = mask) ∧
  (s.cal.prev = none → Completes (.calRevert mask) s (s.toModule.wr Reg.calCtl_quantMask mask))

/-- O43. OPSEC_TICK with domain 165 powered raises the operating-seconds count by one modulo 2^48, and with it off changes
nothing. BUDGET_REQUEST and BUDGET_RETURN keep what the die sent, the other dies' values standing. -/
def Obligations.OperatingSecondsAndBudgetsAreKept : Prop :=
  ∀ (s : State) (conn mw mj : Nat), conn < 88 →
  (s.toModule.domain 165 = 2 → Completes .opsecTick s { s.toModule with cal := { s.cal with opsec := (s.cal.opsec + 1) % 2 ^ 48 } }) ∧
  (s.toModule.domain 165 ≠ 2 → exec .opsecTick s = .next s) ∧
  Completes (.budgetRequest conn mw) s { s.toModule with pwr := { s.pwr with requests := SMap.ins conn mw s.pwr.requests } } ∧
  Completes (.budgetReturn conn mj mw) s { s.toModule with pwr := { s.pwr with returns := SMap.ins conn (mj, mw) s.pwr.returns } }

/-- O44. A write of HUB_RESET_CTL with MODULE 1 and KEY 0x0972 leaves SEC_LOCK 0, LAST_RESET 2, the round count, the context
table, the queues, the bookings, the log and pairing state as at reset, GDDR7 zero, the CXL windows' bytes and the
operating-seconds count kept, and SRAM as at reset; without MODULE or with another key nothing changes. -/
def Obligations.ModuleResetKeepsWhatItShould : Prop :=
  ∀ (s : State) (v : Nat), isWord v = true →
  (bitB v 31 = false ∨ v % 65536 ≠ 0x0972 → exec (.hubResetModule v) s = .next s) ∧
  (bitB v 31 = true → v % 65536 = 0x0972 → ∃ b, Completes (.hubResetModule v) s b ∧ b.rd Reg.secStatus_secLock = 0 ∧
    b.rd Reg.hubBootStatus_lastReset = 2 ∧ b.hub.round = 0 ∧ b.hub.counting = false ∧ b.ctx = Module.reset.ctx ∧ b.host = Module.reset.host ∧
    b.adm = Module.reset.adm ∧ b.saf.log = [] ∧ b.pair = Module.reset.pair ∧ b.sram = Module.reset.sram ∧ b.cal.opsec = s.cal.opsec ∧
    (∀ a, a < gddrEnd → b.dev.byte a = 0) ∧
    ∀ a, cxlBase 0 ≤ a → b.dev.byte a = s.dev.byte a)

/-- O45. SEC_CTL with LOCK 1 sets SEC_LOCK and nothing else; with LOCK 0 nothing changes. While SEC_LOCK is set, a debug write
that an Aliowell die has received is answered REFUSED (1) with nothing written. -/
def Obligations.SecLockIsSetAndHolds : Prop :=
  ∀ (s : State) (v conn : Nat) (d : DbgAccess), isWord v = true → conn < 88 →
  (bitB v 0 = true → Completes (.secLockSet v) s (s.toModule.wr Reg.secStatus_secLock 1)) ∧
  (bitB v 0 = false → exec (.secLockSet v) s = .next s) ∧
  (s.rd Reg.secStatus_secLock ≠ 0 → s.qlk.dbg = some d → d.conn = conn → d.write = true → d.answer = none →
    Completes (.dwr conn) s { s.toModule with qlk := { s.qlk with dbg := some { d with answer := some (1, 0) } } })

/-- O46. A write with GO 1 while BUSY is 1 changes nothing but IGNORED. A write with GO 1 while BUSY is 0 sets BUSY and keeps
the run's parameters. A run with a WIDTH outside 1 to 64 ends with ERR PARAM (1), no DONE and BUSY 0. -/
def Obligations.CheckValueRunsStartOnce : Prop :=
  ∀ (s : State) (e v : Nat), e < 4 → isWord v = true → bitB v 31 = true →
  (s.rd Reg.crcStatus_busy [e] ≠ 0 → Completes (.crcGo e v) s (s.toModule.wr Reg.crcStatus_ignored 1 [e])) ∧
  (s.rd Reg.crcStatus_busy [e] = 0 → ∃ b r, CompletesIn [.regs, .crc] (.crcGo e v) s b ∧ b.rd Reg.crcStatus_busy [e] = 1 ∧
    SMap.find? b.crc e = some r ∧ r.width = v % 128 ∧ r.host = bitB v 30 ∧ r.refin = bitB v 29 ∧ r.refout = bitB v 28 ∧
    r.poly = s.rd Reg.crcPolyLo_value [e] + 2 ^ 32 * s.rd Reg.crcPolyHi_value [e] ∧
    r.init = s.rd Reg.crcInitLo_value [e] + 2 ^ 32 * s.rd Reg.crcInitHi_value [e] ∧
    r.xorout = s.rd Reg.crcXoroutLo_value [e] + 2 ^ 32 * s.rd Reg.crcXoroutHi_value [e] ∧
    r.len = s.rd Reg.crcLenLo_value [e] + 2 ^ 32 * s.rd Reg.crcLenHi_value [e]) ∧
  (∀ (r : CrcRun) (host : Option (List Nat)), SMap.find? s.crc e = some r → r.width = 0 ∨ 64 < r.width →
    ∃ b, CompletesIn [.regs, .crc] (.crcRunEnd e host) s b ∧ b.rd Reg.crcStatus_busy [e] = 0 ∧ b.rd Reg.crcStatus_err [e] = 1 ∧
      b.rd Reg.crcStatus_done [e] = s.rd Reg.crcStatus_done [e])

/-- O47. Completion and frame of the commands of one family: R238, R26, R268, R29, R30, R31, R95. -/
def Obligations.ClockCommandsComplete : Prop :=
  ∀ s : State,
  (∀ (cv : Nat) (dw : Nat) (mj : Nat), CompletesIn [.free, .out, .regs, .dev, .hub, .saf, .pwr, .tines, .cal, .mesh, .ctx, .host, .adm, .str, .optics, .links, .rte, .qlk, .pair] (.roundBoundary cv dw mj) s (s.toModule.roundBoundary cv dw mj)) ∧
  (∀ (conn : Nat), (isConn conn) = true → CompletesIn [.free, .out, .regs, .hub, .tines, .links] (.roundMark conn) s (s.toModule.roundMark conn)) ∧
  (∀ (number : Nat), (below number 65536) = true → CompletesIn [.adm] (.heldWindowExpiry number) s (s.toModule.windowExpiry number)) ∧
  (∀ (q : Nat), (isQueue q) = true → CompletesIn [.out, .regs, .host] (.coalesceTimeout q) s (s.toModule.coalesceTimeout q)) ∧
  (CompletesIn [.out, .regs] (.hubRoundLoRead) s (s.toModule.readRoundLo)) ∧
  (∀ (site : Nat), (isSite site) = true → CompletesIn [.out, .regs] (.tineCyclesLoRead site) s (s.toModule.readCyclesLo site)) ∧
  (∀ (site : Nat), (isSite site) = true → CompletesIn [.out, .regs] (.tineMatPassesLoRead site) s (s.toModule.readPassesLo site)) ∧
  (CompletesIn [.out, .regs] (.admAcceptedLoRead) s (s.toModule.readAcceptedLo)) ∧
  (CompletesIn [.out, .regs] (.calOpsecLoRead) s (s.toModule.readOpsecLo)) ∧
  (∀ (place : BarAddr) (v : Nat), (isSpace place.space place.off && isWord v) = true → Completes (.registerWrite place v) s (s.toModule.hostWrite32 place.space place.off v)) ∧
  (∀ (x : HostAccess), (isSpace x.place.space x.place.off && isWord x.v) = true → Completes (.unsupportedAccess x) s (s.toModule.hostMmio x.place.space x.place.off x.size x.write x.v)) ∧
  (CompletesIn [.out, .regs, .hub, .saf, .host] (.refclkLost) s (s.toModule.refclkLost)) ∧
  (CompletesIn [.regs, .hub] (.refclkReturn) s (s.toModule.refclkReturn)) ∧
  (CompletesIn [.regs, .hub] (.holdoverSlewEnd) s (s.toModule.slewEnd)) ∧
  (CompletesIn [.out, .regs, .hub, .saf, .host] (.rootPllUnlock) s (s.toModule.rootUnlock)) ∧
  (∀ (phases : List Nat), CompletesIn [.regs, .hub] (.rootPllLock phases) s (s.toModule.rootLock phases)) ∧
  (∀ (rx : Nat), (below rx 88) = true → CompletesIn [.out, .regs, .hub, .saf, .host] (.treeLostAtDie rx) s (s.toModule.treeLostAtDie rx)) ∧
  (∀ (rx : Nat), (below rx 88) = true → CompletesIn [.hub] (.bothTreesLost rx) s (s.toModule.bothTreesLost rx)) ∧
  (∀ (rx : Nat), (below rx 88) = true → CompletesIn [.out, .regs, .hub, .saf, .tines, .mesh, .ctx, .host, .seqs, .seqWait, .optics, .lasers, .links, .rte, .qlk] (.clockLossNotice rx) s (s.toModule.clockLossNotice rx)) ∧
  (∀ (tree : Nat), (below tree 2) = true → CompletesIn [.out, .regs, .hub, .saf, .host] (.treeSourceLost tree) s (s.toModule.treeSourceLost tree))

/-- O48. Completion and frame of the commands of one family: R101, R113, R76, R93. -/
def Obligations.TineCommandsComplete : Prop :=
  ∀ s : State,
  (∀ (site : Nat) (env : OpEnv), (isSite site) = true → CompletesIn [.free, .out, .regs, .sram, .saf, .tines, .ctx] (.tload site env) s (tloadOp site env s.toModule)) ∧
  (∀ (site : Nat) (env : OpEnv), (isSite site) = true → CompletesIn [.free, .out, .regs, .sram, .saf, .tines, .ctx] (.astage site env) s (astageOp site env s.toModule)) ∧
  (∀ (site : Nat) (env : OpEnv), (isSite site) = true → CompletesIn [.free, .out, .regs, .sram, .saf, .tines, .ctx] (.stream site env) s (streamOp site env s.toModule)) ∧
  (∀ (site : Nat) (env : OpEnv), (isSite site) = true → CompletesIn [.free, .out, .regs, .sram, .saf, .tines, .ctx] (.wset site env) s (wsetOp site env s.toModule)) ∧
  (∀ (site : Nat) (env : OpEnv), (isSite site) = true → CompletesIn [.free, .out, .regs, .sram, .saf, .tines, .ctx] (.drain site env) s (drainOp site env s.toModule)) ∧
  (∀ (site : Nat) (env : OpEnv), (isSite site) = true → CompletesIn [.free, .out, .regs, .sram, .saf, .tines, .ctx] (.drainw site env) s (drainwOp site env s.toModule)) ∧
  (∀ (site : Nat) (env : OpEnv), (isSite site) = true → CompletesIn [.free, .out, .regs, .sram, .saf, .tines, .ctx] (.padd site env) s (paddOp site env s.toModule)) ∧
  (∀ (site : Nat) (env : OpEnv), (isSite site) = true → CompletesIn [.free, .out, .regs, .sram, .saf, .tines, .ctx] (.pdrain site env) s (pdrainOp site env s.toModule)) ∧
  (∀ (site : Nat) (env : OpEnv), (isSite site) = true → CompletesIn [.free, .out, .regs, .sram, .saf, .tines, .ctx] (.vadd site env) s (vaddOp site env s.toModule)) ∧
  (∀ (site : Nat) (env : OpEnv), (isSite site) = true → CompletesIn [.free, .out, .regs, .sram, .saf, .tines, .ctx] (.vsub site env) s (vsubOp site env s.toModule)) ∧
  (∀ (site : Nat) (env : OpEnv), (isSite site) = true → CompletesIn [.free, .out, .regs, .sram, .saf, .tines, .ctx] (.vmul site env) s (vmulOp site env s.toModule)) ∧
  (∀ (site : Nat) (env : OpEnv), (isSite site) = true → CompletesIn [.free, .out, .regs, .sram, .saf, .tines, .ctx] (.vfma site env) s (vfmaOp site env s.toModule)) ∧
  (∀ (site : Nat) (env : OpEnv), (isSite site) = true → CompletesIn [.free, .out, .regs, .sram, .saf, .tines, .ctx] (.vmin site env) s (vminOp site env s.toModule)) ∧
  (∀ (site : Nat) (env : OpEnv), (isSite site) = true → CompletesIn [.free, .out, .regs, .sram, .saf, .tines, .ctx] (.vmax site env) s (vmaxOp site env s.toModule)) ∧
  (∀ (site : Nat) (env : OpEnv), (isSite site) = true → CompletesIn [.free, .out, .regs, .sram, .saf, .tines, .ctx] (.vlogic site env) s (vlogicOp site env s.toModule)) ∧
  (∀ (site : Nat) (env : OpEnv), (isSite site) = true → CompletesIn [.free, .out, .regs, .sram, .saf, .tines, .ctx] (.vshift site env) s (vshiftOp site env s.toModule)) ∧
  (∀ (site : Nat) (env : OpEnv), (isSite site) = true → CompletesIn [.free, .out, .regs, .sram, .saf, .tines, .ctx] (.vcmp site env) s (vcmpOp site env s.toModule)) ∧
  (∀ (site : Nat) (env : OpEnv), (isSite site) = true → CompletesIn [.free, .out, .regs, .sram, .saf, .tines, .ctx] (.vsel site env) s (vselOp site env s.toModule)) ∧
  (∀ (site : Nat) (env : OpEnv), (isSite site) = true → CompletesIn [.free, .out, .regs, .sram, .saf, .tines, .ctx] (.vreduce site env) s (vreduceOp site env s.toModule)) ∧
  (∀ (site : Nat) (env : OpEnv), (isSite site) = true → CompletesIn [.free, .out, .regs, .sram, .saf, .tines, .ctx] (.vgather site env) s (vgatherOp site env s.toModule)) ∧
  (∀ (site : Nat) (env : OpEnv), (isSite site) = true → CompletesIn [.free, .out, .regs, .sram, .saf, .tines, .ctx] (.vscatter site env) s (vscatterOp site env s.toModule)) ∧
  (∀ (site : Nat) (env : OpEnv), (isSite site) = true → CompletesIn [.free, .out, .regs, .sram, .saf, .tines, .ctx] (.vfill site env) s (vfillOp site env s.toModule)) ∧
  (∀ (site : Nat) (env : OpEnv), (isSite site) = true → CompletesIn [.free, .out, .regs, .sram, .saf, .tines, .ctx] (.cload site env) s (cloadOp site env s.toModule)) ∧
  (∀ (site : Nat) (env : OpEnv), (isSite site) = true → CompletesIn [.free, .out, .regs, .sram, .saf, .tines, .ctx] (.ceval site env) s (cevalOp site env s.toModule)) ∧
  (∀ (site : Nat) (env : OpEnv), (isSite site) = true → CompletesIn [.free, .out, .regs, .sram, .saf, .tines, .ctx] (.fdecode site env) s (fdecodeOp site env s.toModule)) ∧
  (∀ (site : Nat) (env : OpEnv), (isSite site) = true → CompletesIn [.free, .out, .regs, .sram, .saf, .tines, .ctx] (.fencode site env) s (fencodeOp site env s.toModule)) ∧
  (∀ (site : Nat) (env : OpEnv), (isSite site) = true → CompletesIn [.free, .out, .regs, .sram, .saf, .tines, .ctx] (.freblock site env) s (freblockOp site env s.toModule)) ∧
  (∀ (site : Nat) (env : OpEnv), (isSite site) = true → CompletesIn [.free, .out, .regs, .sram, .saf, .tines, .ctx] (.ftile site env) s (ftileOp site env s.toModule)) ∧
  (∀ (site : Nat) (env : OpEnv), (isSite site) = true → CompletesIn [.free, .out, .regs, .sram, .saf, .tines, .mesh, .ctx, .links, .rte] (.send site env) s (sendOp site env s.toModule)) ∧
  (∀ (site : Nat) (env : OpEnv), (isSite site) = true → CompletesIn [.free, .out, .regs, .sram, .saf, .tines, .ctx] (.recv site env) s (recvOp site env s.toModule)) ∧
  (∀ (site : Nat) (slot : Nat), (isSite site) = true → CompletesIn [.out, .regs, .saf, .tines] (.recvTimeout site slot) s (s.toModule.recvTimeout site slot)) ∧
  (∀ (site : Nat) (env : OpEnv), (isSite site) = true → CompletesIn [.free, .out, .regs, .dev, .sram, .saf, .tines, .ctx, .host] (.dmard site env) s (dmardOp site env s.toModule)) ∧
  (∀ (site : Nat) (env : OpEnv), (isSite site) = true → CompletesIn [.free, .out, .regs, .dev, .sram, .saf, .tines, .ctx, .host, .links, .rte] (.dmawr site env) s (dmawrOp site env s.toModule)) ∧
  (∀ (site : Nat) (env : OpEnv), (isSite site) = true → CompletesIn [.free, .out, .regs, .sram, .saf, .tines, .ctx] (.copy site env) s (copyOp site env s.toModule)) ∧
  (∀ (site : Nat) (env : OpEnv), (isSite site) = true → CompletesIn [.free, .out, .regs, .sram, .saf, .tines, .ctx] (.input site env) s (inputOp site env s.toModule)) ∧
  (∀ (site : Nat) (env : OpEnv), (isSite site) = true → CompletesIn [.free, .out, .regs, .sram, .saf, .tines, .ctx, .host] (.output site env) s (outputOp site env s.toModule)) ∧
  (∀ (site : Nat) (env : OpEnv), (isSite site) = true → CompletesIn [.free, .out, .regs, .sram, .saf, .tines, .ctx] (.nop site env) s (nopOp site env s.toModule)) ∧
  (∀ (site : Nat) (env : OpEnv), (isSite site) = true → CompletesIn [.free, .out, .regs, .sram, .saf, .tines, .ctx] (.sbegin site env) s (sbeginOp site env s.toModule)) ∧
  (∀ (site : Nat) (env : OpEnv), (isSite site) = true → CompletesIn [.free, .out, .regs, .sram, .saf, .tines, .ctx] (.setreg site env) s (setregOp site env s.toModule)) ∧
  (∀ (site : Nat) (env : OpEnv), (isSite site) = true → CompletesIn [.free, .out, .regs, .sram, .saf, .tines, .ctx] (.addreg site env) s (addregOp site env s.toModule)) ∧
  (∀ (site : Nat) (env : OpEnv), (isSite site) = true → CompletesIn [.free, .out, .regs, .sram, .saf, .tines, .ctx] (.loop site env) s (loopOp site env s.toModule)) ∧
  (∀ (site : Nat) (env : OpEnv), (isSite site) = true → CompletesIn [.free, .out, .regs, .sram, .saf, .tines, .ctx] (.brcnt site env) s (brcntOp site env s.toModule)) ∧
  (∀ (site : Nat) (env : OpEnv), (isSite site) = true → CompletesIn [.free, .out, .regs, .sram, .saf, .tines, .ctx] (.jump site env) s (jumpOp site env s.toModule)) ∧
  (∀ (site : Nat) (env : OpEnv), (isSite site) = true → CompletesIn [.free, .out, .regs, .sram, .saf, .tines, .ctx, .host] (.barrier site env) s (barrierOp site env s.toModule)) ∧
  (∀ (site : Nat) (env : OpEnv), (isSite site) = true → CompletesIn [.free, .out, .regs, .sram, .saf, .tines, .ctx, .host] (.sync site env) s (syncOp site env s.toModule)) ∧
  (∀ (site : Nat) (env : OpEnv), (isSite site) = true → CompletesIn [.free, .out, .regs, .sram, .saf, .tines, .ctx, .host] (.cschk site env) s (cschkOp site env s.toModule)) ∧
  (∀ (site : Nat) (env : OpEnv), (isSite site) = true → CompletesIn [.free, .out, .regs, .sram, .saf, .tines, .ctx, .host] (.relmark site env) s (relmarkOp site env s.toModule)) ∧
  (∀ (site : Nat) (env : OpEnv), (isSite site) = true → CompletesIn [.free, .out, .regs, .sram, .saf, .tines, .ctx] (.trap site env) s (trapOp site env s.toModule)) ∧
  (∀ (site : Nat) (env : OpEnv), (isSite site) = true → CompletesIn [.free, .out, .regs, .sram, .saf, .tines, .ctx, .host] (.eos site env) s (eosOp site env s.toModule)) ∧
  (∀ (site : Nat) (env : OpEnv), (isSite site) = true → CompletesIn [.free, .out, .regs, .sram, .saf, .tines, .ctx] (.reservedOpcode site env) s (reservedOp site env s.toModule)) ∧
  (∀ (site : Nat) (slot : Nat), (isSite site) = true → CompletesIn [.free, .out, .regs, .dev, .sram, .saf, .tines, .mesh, .ctx, .host, .links, .rte] (.operationComplete site slot) s (s.toModule.opComplete site slot))

/-- O49. Completion and frame of the commands of one family: R162, R219, R86, R88, R91, R95. -/
def Obligations.SiteAndBankCommandsComplete : Prop :=
  ∀ s : State,
  (∀ (site : Nat), (isSite site) = true → CompletesIn [.free, .out, .regs, .sram, .saf, .tines, .mesh, .ctx, .host, .adm, .links, .rte, .pair] (.stageFaultReport site) s (s.toModule.faultReport site)) ∧
  (CompletesIn [.free, .out, .regs, .dev, .saf, .tines, .mesh, .ctx, .host, .adm, .links, .rte, .pair] (.tileChecksumRecheck) s (s.toModule.recheckTile)) ∧
  (∀ (site : Nat), (isSite site) = true → CompletesIn [.free, .out, .regs, .saf, .tines, .mesh, .ctx, .host, .adm, .links, .rte, .pair] (.stageEndReport site) s (s.toModule.endReport site)) ∧
  (∀ (req : Nat), CompletesIn [.out, .regs, .saf, .tines, .ctx, .host] (.stageDispatch req) s (s.toModule.dispatchStage req)) ∧
  (∀ (site : Nat) (x : FlitHits), (isSite site && isHits x.hits) = true → CompletesIn [.free, .out, .regs, .sram, .saf, .tines, .mesh, .host] (.streamFlit site x) s (s.toModule.streamFlit site x.flit x.hits)) ∧
  (∀ (fill : Nat), CompletesIn [.free, .out, .regs, .sram, .saf, .tines, .ctx, .adm] (.fillStart fill) s (s.toModule.fillStart fill)) ∧
  (∀ (site : Nat) (x : FillHit), (isSite site && isBank x.bank && isHits x.fault.mesh) = true → CompletesIn [.free, .out, .regs, .dev, .sram, .saf, .tines, .ctx, .host] (.fillGranule site x) s (s.toModule.fillStep site x.bank x.fault)) ∧
  (∀ (site : Nat) (bank : Nat), (isSite site && isBank bank) = true → CompletesIn [.out, .regs, .dev, .saf, .tines, .ctx, .host, .pair] (.fillEnd site bank) s (s.toModule.fillEnd site bank)) ∧
  (∀ (site : Nat) (bank : Nat), (isSite site && isBank bank) = true → CompletesIn [.regs, .ctx] (.fillAbort site bank) s (s.toModule.fillAbort site bank)) ∧
  (∀ (site : Nat) (env : OpEnv), (isSite site) = true → CompletesIn [.free, .out, .regs, .sram, .saf, .tines, .ctx] (.bankSwitchEnd site env) s (s.toModule.switchEnd site env)) ∧
  (∀ (site : Nat), (isSite site) = true → CompletesIn [.out, .regs, .saf, .tines, .seqs, .seqWait] (.spareCalled site) s (s.toModule.spareCalled site)) ∧
  (∀ (site : Nat) (pass : Bool), (isSite site) = true → CompletesIn [.out, .regs, .sram, .saf, .tines, .ctx, .str, .seqs, .seqWait] (.entryTestDone site pass) s (s.toModule.entryTest site pass)) ∧
  (∀ (site : Nat), (isSite site) = true → CompletesIn [.regs, .seqs, .seqWait] (.parkCommand site) s (s.toModule.park site)) ∧
  (∀ (site : Nat), (isSite site) = true → CompletesIn [.regs, .sram, .tines, .seqs, .seqWait] (.wakeCommand site) s (s.toModule.wake site)) ∧
  (∀ (site : Nat), (isSite site) = true → CompletesIn [.out, .regs, .saf, .tines, .mesh, .ctx, .host, .str] (.migrationStart site) s (s.toModule.migrationStart site)) ∧
  (∀ (site : Nat), (isSite site) = true → CompletesIn [.out, .regs, .saf, .ctx, .seqs, .seqWait] (.migrationDone site) s (s.toModule.migrationDone site)) ∧
  (∀ (site : Nat), (isSite site) = true → CompletesIn [.tines] (.tineCntClrActivity site) s (s.toModule.clrActivity site)) ∧
  (∀ (site : Nat), (isSite site) = true → CompletesIn [.regs] (.tineCntClrCheckfield site) s (s.toModule.clrCheckfield site)) ∧
  (∀ (site : Nat), (isSite site) = true → CompletesIn [.regs] (.tineCntClrCorr site) s (s.toModule.clrCorr site))

/-- O50. Completion and frame of the commands of one family: R149, R153, R154, R155. -/
def Obligations.StructureCommandsComplete : Prop :=
  ∀ s : State,
  (CompletesIn [.out, .regs, .dev, .saf, .host, .str] (.structVerify) s (s.toModule.structVerify)) ∧
  (CompletesIn [.regs, .str] (.structVerified) s (s.toModule.structVerified)) ∧
  (CompletesIn [.regs, .str] (.structCommit) s (s.toModule.structCommit)) ∧
  (CompletesIn [.regs] (.structAbort) s (s.toModule.structAbort)) ∧
  (CompletesIn [.regs, .str] (.quiesceComplete) s (s.toModule.quiesceComplete)) ∧
  (CompletesIn [.regs] (.quiesceTimeout) s (s.toModule.quiesceTimeout)) ∧
  (CompletesIn [.free, .out, .regs, .sram, .hub, .saf, .tines, .mesh, .ctx, .host, .adm, .str, .seqs, .seqWait, .optics, .lasers, .links, .rte, .pair] (.structApplyDone) s (s.toModule.structApplyDone)) ∧
  (CompletesIn [.regs] (.structPersist) s (s.toModule.structPersist)) ∧
  (∀ (ok : Bool), CompletesIn [.regs, .flash] (.structPersistDone ok) s (s.toModule.structPersistDone ok))

/-- O51. Completion and frame of the commands of one family: R169, R178, R179, R252, R254, R257, R258. -/
def Obligations.RequestCommandsComplete : Prop :=
  ∀ s : State,
  (∀ (q : Nat) (e : List Nat) (ins : List (Nat × Nat)) (outs : List (Nat × Nat)) (param : List Nat) (cycle : Nat), (isQueue q && isEntry e && isBytes param && isCycle cycle) = true → CompletesIn [.out, .regs, .dev, .saf, .ctx, .host, .adm, .qlk, .pair] (.loadImage q e ins outs param cycle) s (s.toModule.fetchOp 3 q e ins outs param cycle)) ∧
  (∀ (ctx : Nat) (bytes : List Nat), (below ctx 65536 && isBytes bytes) = true → CompletesIn [.out, .regs, .dev, .saf, .sec, .ctx, .host, .pair] (.loadImageCopied ctx bytes) s (s.toModule.loadCopied ctx bytes)) ∧
  (∀ (q : Nat) (e : List Nat) (ins : List (Nat × Nat)) (outs : List (Nat × Nat)) (param : List Nat) (cycle : Nat), (isQueue q && isEntry e && isBytes param && isCycle cycle) = true → CompletesIn [.out, .regs, .dev, .saf, .ctx, .host, .adm, .qlk, .pair] (.evict q e ins outs param cycle) s (s.toModule.fetchOp 4 q e ins outs param cycle)) ∧
  (∀ (q : Nat) (e : List Nat) (ins : List (Nat × Nat)) (outs : List (Nat × Nat)) (param : List Nat) (cycle : Nat), (isQueue q && isEntry e && isBytes param && isCycle cycle) = true → CompletesIn [.out, .regs, .dev, .saf, .ctx, .host, .adm, .qlk, .pair] (.pin q e ins outs param cycle) s (s.toModule.fetchOp 5 q e ins outs param cycle)) ∧
  (∀ (q : Nat) (e : List Nat) (ins : List (Nat × Nat)) (outs : List (Nat × Nat)) (param : List Nat) (cycle : Nat), (isQueue q && isEntry e && isBytes param && isCycle cycle) = true → CompletesIn [.out, .regs, .dev, .saf, .ctx, .host, .adm, .qlk, .pair] (.query q e ins outs param cycle) s (s.toModule.fetchOp 6 q e ins outs param cycle)) ∧
  (∀ (q : Nat) (e : List Nat) (ins : List (Nat × Nat)) (outs : List (Nat × Nat)) (param : List Nat) (cycle : Nat), (isQueue q && isEntry e && isBytes param && isCycle cycle) = true → CompletesIn [.out, .regs, .dev, .saf, .ctx, .host, .adm, .qlk, .pair] (.cancel q e ins outs param cycle) s (s.toModule.fetchOp 7 q e ins outs param cycle)) ∧
  (∀ (q : Nat) (e : List Nat) (ins : List (Nat × Nat)) (outs : List (Nat × Nat)) (param : List Nat) (cycle : Nat), (isQueue q && isEntry e && isBytes param && isCycle cycle) = true → CompletesIn [.out, .regs, .dev, .saf, .ctx, .host, .adm, .qlk, .pair] (.invoke q e ins outs param cycle) s (s.toModule.fetchOp 1 q e ins outs param cycle)) ∧
  (∀ (q : Nat) (e : List Nat) (ins : List (Nat × Nat)) (outs : List (Nat × Nat)) (param : List Nat) (cycle : Nat), (isQueue q && isEntry e && isBytes param && isCycle cycle) = true → CompletesIn [.out, .regs, .dev, .saf, .ctx, .host, .adm, .qlk, .pair] (.invokeChain q e ins outs param cycle) s (s.toModule.fetchOp 2 q e ins outs param cycle))

/-- O52. Completion and frame of the commands of one family: R195, R199, R202, R205, R206, R208, R245. -/
def Obligations.MemoryCommandsComplete : Prop :=
  ∀ s : State,
  (∀ (e : Nat), (below e (2 ^ 144)) = true → CompletesIn [.free, .out, .regs, .dev, .scrub, .repairs, .saf, .ctx, .host] (.scrubRead e) s (s.toModule.scrubRead e)) ∧
  (∀ (dev : Nat) (t : Int), (below dev 12) = true → CompletesIn [.out, .regs, .memBand, .saf, .host] (.gddr7TempRead dev t) s (s.toModule.gddrTemp dev t)) ∧
  (∀ (p : Nat), (below p 2) = true → CompletesIn [.out, .regs, .saf, .host] (.cxlLinkDown p) s (s.toModule.cxlDown p)) ∧
  (∀ (p : Nat) (dev : Option CxlDevice), (below p 2) = true → CompletesIn [.out, .regs, .dev, .saf, .ctx, .host, .pair] (.cxlRetrainEnd p dev) s (s.toModule.cxlRetrain p dev)) ∧
  (∀ (p : Nat) (dev : CxlDevice), (below p 2) = true → CompletesIn [.regs] (.cxlBringup p dev) s (s.toModule.cxlBringup p dev)) ∧
  (∀ (v : Nat), (isWord v) = true → CompletesIn [.regs] (.memHostRegionWrite v) s (s.toModule.hostRegionWrite v)) ∧
  (CompletesIn [.regs] (.memCntClrCirque) s (s.toModule.clrCirque)) ∧
  (CompletesIn [.regs] (.memCntClrDev) s (s.toModule.clrDev)) ∧
  (∀ (o : Nat) (n : Nat), CompletesIn [.out, .regs, .dev, .saf, .host, .qlk] (.bar4Read o n) s (s.toModule.bar4Read o n)) ∧
  (∀ (o : Nat) (bytes : List Nat), (isBytes bytes) = true → CompletesIn [.out, .regs, .dev, .saf, .host, .qlk] (.bar4Write o bytes) s (s.toModule.bar4Write o bytes)) ∧
  (∀ (v : Nat), (isWord v) = true → CompletesIn [.regs] (.hubApertureBaseWrite v) s (s.toModule.apertureWrite v))

/-- O53. Completion and frame of the commands of one family: R229, R247, R249, R255, R266, R267, R271. -/
def Obligations.QueueCommandsComplete : Prop :=
  ∀ s : State,
  (∀ (q : Nat) (v : Nat), (isQueue q && isWord v) = true → CompletesIn [.regs, .host] (.sqTailDoorbell q v) s (s.toModule.sqTail q v)) ∧
  (∀ (q : Nat) (v : Nat), (isQueue q && isWord v) = true → CompletesIn [.regs, .host] (.cqHeadDoorbell q v) s (s.toModule.cqHead q v)) ∧
  (∀ (q : Nat) (e : List Nat) (data : EntryData) (cycle : Nat), (isQueue q && isEntry e && isBytes data.param && isCycle cycle) = true → CompletesIn [.free, .out, .regs, .dev, .saf, .flash, .ctx, .host, .adm, .links, .rte, .qlk, .pair] (.sqEntryFetched q e data cycle) s (s.toModule.sqEntry q e data cycle)) ∧
  (∀ (q : Nat), (isQueue q) = true → CompletesIn [.regs] (.sqFetchError q) s (s.toModule.sqFetchError q)) ∧
  (∀ (q : Nat) (cid : Nat) (data : List Nat) (cycle : Nat), (isQueue q && below cid 65536 && isBytes data && isCycle cycle) = true → CompletesIn [.out, .regs, .dev, .saf, .ctx, .host, .adm, .qlk, .pair] (.entryTaken q cid data cycle) s (s.toModule.inputCopied q cid data cycle)) ∧
  (∀ (q : Nat) (cid : Nat) (cycle : Nat), (isQueue q && below cid 65536 && isCycle cycle) = true → CompletesIn [.out, .regs, .dev, .saf, .ctx, .host, .adm, .qlk, .pair] (.hostReadFail q cid cycle) s (s.toModule.hostReadFail q cid cycle)) ∧
  (∀ (e : List Nat), (isEntry e) = true → CompletesIn [.out, .regs, .host, .pair] (.createQueue e) s (s.toModule.createQueue e)) ∧
  (∀ (e : List Nat), (isEntry e) = true → CompletesIn [.out, .regs, .host, .pair] (.deleteQueue e) s (s.toModule.deleteQueue e)) ∧
  (∀ (q : Nat), (isQueue q) = true → CompletesIn [.out, .regs, .host, .pair] (.queueDrainDone q) s (s.toModule.queueDrained q)) ∧
  (∀ (e : List Nat), (isEntry e) = true → CompletesIn [.out, .regs, .ctx, .host, .pair] (.bind e) s (s.toModule.bindCtx e)) ∧
  (∀ (e : List Nat), (isEntry e) = true → CompletesIn [.out, .regs, .ctx, .host, .pair] (.unbind e) s (s.toModule.unbindCtx e)) ∧
  (CompletesIn [.host] (.queEnable) s (s.toModule.queEnable)) ∧
  (CompletesIn [.regs, .host] (.queue0Enabled) s (s.toModule.queue0Enabled)) ∧
  (CompletesIn [.regs, .host] (.queDisable) s (s.toModule.queDisable)) ∧
  (CompletesIn [.regs, .ctx, .host, .rte, .pair] (.pcieReset) s (s.toModule.pcieReset)) ∧
  (∀ (cycle : Nat), (isCycle cycle) = true → CompletesIn [.free, .out, .regs, .dev, .saf, .tines, .sec, .mesh, .ctx, .host, .adm, .links, .rte, .qlk, .pair] (.releaseGateOpen cycle) s (s.toModule.releaseGate cycle)) ∧
  (CompletesIn [.regs] (.admCntClrPeak) s (s.toModule.clrPeak)) ∧
  (CompletesIn [.regs] (.admCntClrReasons) s (s.toModule.clrReasons)) ∧
  (CompletesIn [.regs, .adm] (.admCntClrOutcomes) s (s.toModule.clrOutcomes))

/-- O54. Completion and frame of the commands of one family: R238, R269, R330, R331, R336, R337, R338, R345. -/
def Obligations.FabricCommandsComplete : Prop :=
  ∀ s : State,
  (∀ (p : Nat) (vc : Nat) (cycle : Nat), (isPort p && isVc vc && isCycle cycle) = true → CompletesIn [.out, .regs, .dev, .saf, .ctx, .host, .adm, .links, .rte, .qlk, .pair] (.fabricRequest p vc cycle) s (s.toModule.fabricRequest p vc cycle)) ∧
  (∀ (p : Nat) (vc : Nat), (isPort p && isVc vc) = true → CompletesIn [.free, .out, .regs, .saf, .tines, .mesh, .ctx, .host, .adm, .links, .rte, .pair] (.reply p vc) s (s.toModule.replyPacket p vc)) ∧
  (∀ (p : Nat) (number : Nat) (x : QuoteBody), (isPort p && below number 65536 && isCycle x.cycle) = true → CompletesIn [.regs, .adm, .links, .rte, .pair] (.quote p number x) s (s.toModule.quotePacket p number x.durations x.cycle)) ∧
  (∀ (p : Nat) (vc : Nat) (number : Nat) (cid : Nat) (seed : Nat) (flat : Nat) (outCap : Nat) (data : List Nat) (cycle : Nat), (isPort p && isVc vc && below number 65536 && below cid 65536 && isWord seed && isWord flat && isBytes data && isCycle cycle) = true → CompletesIn [.free, .out, .regs, .ctx, .host, .adm, .links, .rte, .pair] (.subreq p vc number cid seed flat outCap data cycle) s (s.toModule.subreqPacket p vc number cid seed flat outCap data cycle)) ∧
  (∀ (p : Nat) (vc : Nat) (fromSlice : Nat), (isPort p && isVc vc && below fromSlice 64) = true → CompletesIn [.regs, .mesh, .links, .rte, .pair] (.streamPacket p vc fromSlice) s (s.toModule.streamPacket p vc fromSlice)) ∧
  (∀ (p : Nat) (vc : Nat), (isPort p && isVc vc) = true → CompletesIn [.out, .regs, .links, .rte] (.packetForward p vc) s (s.toModule.packetForward p vc)) ∧
  (∀ (p : Nat) (group : Bool) (target : Nat) (down : Bool), (isPort p && below target (if group then 512 else 32)) = true → CompletesIn [.regs, .host, .links, .rte] (.notice p group target down) s (s.toModule.noticePacket p group target down)) ∧
  (∀ (p : Nat), (isPort p) = true → CompletesIn [.out, .regs, .links, .rte] (.noticeSend p) s (s.toModule.noticeSend p)) ∧
  (∀ (src : Nat) (tag : Nat) (vc : Nat), (below src (2 ^ 20) && below tag 65536 && isVc vc) = true → CompletesIn [.free, .out, .regs, .saf, .tines, .mesh, .ctx, .host, .adm, .links, .rte, .pair] (.messageReassemblyTimeout src tag vc) s (s.toModule.reassemblyTimeout src tag vc)) ∧
  (∀ (e : List Nat), (isEntry e) = true → CompletesIn [.out, .regs, .saf, .host, .links, .pair] (.fabricJoin e) s (s.toModule.fabricJoin e)) ∧
  (∀ (e : List Nat), (isEntry e) = true → CompletesIn [.out, .regs, .host, .rte, .pair] (.fabricLeave e) s (s.toModule.fabricLeave e)) ∧
  (CompletesIn [.out, .regs, .saf, .host, .links, .rte, .pair] (.fabricLeaveDone) s (s.toModule.fabricLeft)) ∧
  (CompletesIn [.regs] (.rteCommit) s (s.toModule.rteCommit)) ∧
  (∀ (table : Nat) (index : Nat) (v : Nat), (below table 4 && below index 1024 && isWord v) = true → CompletesIn [.regs] (.shadowTableWrite table index v) s (s.toModule.shadowWrite table index v)) ∧
  (CompletesIn [.regs] (.rteClrAll) s (s.toModule.rteClr))

/-- O55. Completion and frame of the commands of one family: R304, R308, R310, R314, R315, R319, R320, R321, R323. -/
def Obligations.LinkCommandsComplete : Prop :=
  ∀ s : State,
  (∀ (p : Nat) (hdr : Nat) (grans : List (Nat × Nat)) (late : Bool), (isPort p && isGran hdr && decide (grans.length = 15)) = true → CompletesIn [.out, .regs, .saf, .host, .links] (.dataFlit p hdr grans late) s (s.toModule.dataFlit p hdr grans late)) ∧
  (∀ (p : Nat) (hdr : Nat) (late : Bool), (isPort p && isGran hdr) = true → CompletesIn [.out, .regs, .saf, .host, .links] (.idleFlit p hdr late) s (s.toModule.idleFlit p hdr late)) ∧
  (∀ (p : Nat), (isPort p) = true → CompletesIn [.out, .regs, .links] (.flitCrcFail p) s (s.toModule.badFlit p)) ∧
  (∀ (p : Nat), (isPort p) = true → CompletesIn [.out, .regs, .hub, .saf, .cal, .host, .seqs, .seqWait, .optics, .lasers, .links, .rte] (.ackTimeout p) s (s.toModule.ackTimeout p)) ∧
  (∀ (p : Nat) (pkg : Nat) (port : Nat) (serial : Nat) (role : Nat) (next : Nat) (seen : Bool) (advH : List Nat) (advD : List Nat), (isPort p && below pkg 16384 && isPort port && below serial (2 ^ 64) && below role 4 && below next 65536 && decide (advH.length = 8) && decide (advD.length = 8)) = true → CompletesIn [.free, .out, .regs, .saf, .tines, .mesh, .ctx, .host, .adm, .links, .rte, .pair] (.init p pkg port serial role next seen advH advD) s (s.toModule.initFlit p pkg port serial role next seen advH advD)) ∧
  (∀ (p : Nat) (hdr : Nat) (late : Bool) (kind : Nat), (isPort p && isGran hdr && below kind 2) = true → CompletesIn [.out, .regs, .hub, .saf, .cal, .host, .seqs, .seqWait, .optics, .lasers, .links, .rte] (.retrainReq p hdr late kind) s (s.toModule.ctlFlit p hdr late (fun m => m.retrainReq p kind))) ∧
  (∀ (p : Nat) (hdr : Nat) (late : Bool) (map : Nat) (x : Nat) (clk : Nat) (passed : Bool), (isPort p && isGran hdr && below map 65536 && isWord x && below clk 32) = true → CompletesIn [.out, .regs, .hub, .saf, .host, .seqs, .seqWait, .lasers, .links, .rte] (.mapPropose p hdr late map x clk passed) s (s.toModule.ctlFlit p hdr late (fun m => m.mapPropose p map x clk passed))) ∧
  (∀ (p : Nat) (hdr : Nat) (late : Bool) (map : Nat) (x : Nat) (clk : Nat) (passed : Bool), (isPort p && isGran hdr && below map 65536 && isWord x && below clk 32) = true → CompletesIn [.out, .regs, .hub, .saf, .host, .seqs, .seqWait, .lasers, .links, .rte] (.mapRequest p hdr late map x clk passed) s (s.toModule.ctlFlit p hdr late (fun m => m.mapRequest p map x clk passed))) ∧
  (∀ (p : Nat) (hdr : Nat) (late : Bool) (x : Nat) (map : Nat), (isPort p && isGran hdr && below map 65536 && isWord x) = true → CompletesIn [.free, .out, .regs, .hub, .saf, .tines, .mesh, .ctx, .host, .adm, .seqs, .seqWait, .optics, .lasers, .links, .rte, .pair] (.mapAck p hdr late x map) s (s.toModule.ctlFlit p hdr late (fun m => m.mapAck p x map))) ∧
  (∀ (p : Nat) (hdr : Nat) (late : Bool) (x : Nat) (reason : Nat), (isPort p && isGran hdr && isWord x && below reason 256) = true → CompletesIn [.free, .out, .regs, .hub, .saf, .host, .seqs, .seqWait, .lasers, .links, .rte] (.mapReject p hdr late x reason) s (s.toModule.ctlFlit p hdr late (fun m => m.mapReject p x reason))) ∧
  (∀ (p : Nat) (hdr : Nat) (late : Bool) (counts : List (Nat × Nat × Nat × Nat × Nat × Nat)), (isPort p && isGran hdr && decide (counts.length = 8)) = true → CompletesIn [.out, .regs, .saf, .host, .links] (.creditAudit p hdr late counts) s (s.toModule.ctlFlit p hdr late (fun m => m.creditAudit p counts))) ∧
  (∀ (p : Nat) (hdr : Nat) (late : Bool), (isPort p && isGran hdr) = true → CompletesIn [.free, .out, .regs, .hub, .saf, .tines, .mesh, .ctx, .host, .adm, .seqs, .seqWait, .optics, .lasers, .links, .rte, .pair] (.loopReq p hdr late) s (s.toModule.ctlFlit p hdr late (fun m => m.loopReq p))) ∧
  (∀ (p : Nat) (fibre : Nat), (isPort p && below fibre 2) = true → CompletesIn [.free, .out, .regs, .hub, .saf, .seqs, .seqWait, .optics, .lasers, .links] (.mapSwitch p fibre) s (s.toModule.mapSwitch p fibre)) ∧
  (∀ (p : Nat), (isPort p) = true → CompletesIn [.free, .out, .regs, .hub, .saf, .cal, .host, .seqs, .seqWait, .optics, .lasers, .links, .rte] (.mapRequestTimeout p) s (s.toModule.mapTimeout p)) ∧
  (∀ (p : Nat) (slot : Nat), (isPort p && below slot 16) = true → CompletesIn [.free, .out, .regs, .hub, .saf, .host, .seqs, .seqWait, .lasers, .links, .rte] (.slotLost p slot) s (s.toModule.slotLost p slot)) ∧
  (∀ (p : Nat), (isPort p) = true → CompletesIn [.out, .regs, .hub, .saf, .cal, .host, .seqs, .seqWait, .optics, .lasers, .links, .rte] (.crcFailTimeout p) s (s.toModule.retrainAsk p)) ∧
  (∀ (p : Nat), (isPort p) = true → CompletesIn [.regs, .seqs, .seqWait] (.waveRetry p) s (s.toModule.waveRetry p)) ∧
  (∀ (p : Nat), (isPort p) = true → CompletesIn [.out, .regs, .hub, .saf, .host, .seqs, .seqWait, .optics, .lasers, .links, .rte] (.linkGrace p) s (s.toModule.linkGrace p)) ∧
  (∀ (p : Nat), (isPort p) = true → CompletesIn [.free, .out, .regs, .hub, .saf, .tines, .cal, .mesh, .ctx, .host, .adm, .seqs, .seqWait, .optics, .lasers, .links, .rte, .pair] (.graceExpiry p) s (s.toModule.graceExpiry p)) ∧
  (∀ (p : Nat), (isPort p) = true → CompletesIn [.out, .regs, .links] (.initRetry p) s (s.toModule.initRetry p)) ∧
  (∀ (p : Nat) (txMap : Nat) (rxMap : Nat) (eyes : Bool), (isPort p && below txMap 65536 && below rxMap 65536) = true → CompletesIn [.out, .regs, .saf, .cal, .seqs, .seqWait, .optics, .links] (.phyPortUp p txMap rxMap eyes) s (s.toModule.phyUp p txMap rxMap eyes)) ∧
  (∀ (p : Nat), (isPort p) = true → CompletesIn [.free, .out, .regs, .hub, .saf, .tines, .cal, .mesh, .ctx, .host, .adm, .seqs, .seqWait, .optics, .lasers, .links, .rte, .pair] (.flushNow p) s (s.toModule.flushNow p)) ∧
  (∀ (p : Nat), (isPort p) = true → CompletesIn [.out, .regs, .hub, .saf, .cal, .host, .seqs, .seqWait, .optics, .lasers, .links, .rte] (.retrainFull p) s (s.toModule.retrainAsk p)) ∧
  (∀ (p : Nat), (isPort p) = true → CompletesIn [.out, .regs, .saf, .host, .links] (.reinit p) s (s.toModule.reinitAsk p)) ∧
  (∀ (p : Nat), (isPort p) = true → CompletesIn [.regs] (.fabClrAll p) s (s.toModule.fabClr p))

/-- O56. Completion and frame of the commands of one family: R145, R280, R282, R283, R287, R289, R293, R295. -/
def Obligations.OpticsCommandsComplete : Prop :=
  ∀ s : State,
  (∀ (p : Nat) (slot : Nat) (tx : Bool), (isPort p && below slot 17) = true → CompletesIn [.free, .out, .regs, .hub, .saf, .host, .seqs, .seqWait, .lasers, .links, .rte] (.ringLockLoss p slot tx) s (s.toModule.ringLost p slot tx)) ∧
  (∀ (p : Nat), (isPort p) = true → CompletesIn [.free, .out, .regs, .hub, .saf, .host, .seqs, .seqWait, .optics, .lasers, .links, .rte] (.clkLost p) s (s.toModule.clkLost p)) ∧
  (∀ (p : Nat), (isPort p) = true → CompletesIn [.out, .regs, .saf, .optics] (.clockFallbackLock p) s (s.toModule.fallbackLock p)) ∧
  (∀ (p : Nat), (isPort p) = true → CompletesIn [.free, .out, .regs, .links] (.fallbackExit p) s (s.toModule.fallbackExit p)) ∧
  (∀ (e : Nat) (t : Nat), (isEngine e) = true → CompletesIn [.free, .out, .regs, .hub, .saf, .pwr, .tines, .cal, .mesh, .ctx, .host, .str, .seqs, .seqWait, .optics, .lasers, .links, .rte, .qlk] (.setf e t) s (s.toModule.seqSetf e t)) ∧
  (∀ (e : Nat) (t : Nat), (isEngine e) = true → CompletesIn [.free, .out, .regs, .hub, .saf, .pwr, .tines, .cal, .mesh, .ctx, .host, .str, .seqs, .seqWait, .optics, .lasers, .links, .rte, .qlk] (.setfs e t) s (s.toModule.seqSetfs e t)) ∧
  (∀ (e : Nat) (t : Nat) (sensed : Nat), (isEngine e && isWord sensed) = true → CompletesIn [.free, .out, .regs, .hub, .saf, .pwr, .tines, .cal, .mesh, .ctx, .host, .str, .seqs, .seqWait, .optics, .lasers, .links, .rte, .qlk] (.getf e t sensed) s (s.toModule.seqGetf e t sensed)) ∧
  (∀ (e : Nat) (t : Nat), (isEngine e) = true → CompletesIn [.free, .out, .regs, .hub, .saf, .pwr, .tines, .cal, .mesh, .ctx, .host, .str, .seqs, .seqWait, .optics, .lasers, .links, .rte, .qlk] (.loads e t) s (s.toModule.seqLoads e t)) ∧
  (∀ (e : Nat) (t : Nat), (isEngine e) = true → CompletesIn [.free, .out, .regs, .hub, .saf, .pwr, .tines, .cal, .mesh, .ctx, .host, .str, .seqs, .seqWait, .optics, .lasers, .links, .rte, .qlk] (.adds e t) s (s.toModule.seqAdds e t)) ∧
  (∀ (e : Nat), (isEngine e) = true → CompletesIn [.free, .out, .regs, .hub, .saf, .pwr, .tines, .cal, .mesh, .ctx, .host, .str, .seqs, .seqWait, .optics, .lasers, .links, .rte, .qlk] (.wait e) s (s.toModule.seqWaitStep e)) ∧
  (∀ (e : Nat) (t : Nat) (sensed : Nat), (isEngine e && isWord sensed) = true → CompletesIn [.free, .out, .regs, .hub, .saf, .pwr, .tines, .cal, .mesh, .ctx, .host, .str, .seqs, .seqWait, .optics, .lasers, .links, .rte, .qlk] (.poll e t sensed) s (s.toModule.seqPoll e t sensed)) ∧
  (∀ (e : Nat) (t : Nat), (isEngine e) = true → CompletesIn [.free, .out, .regs, .hub, .saf, .pwr, .tines, .cal, .mesh, .ctx, .host, .str, .seqs, .seqWait, .optics, .lasers, .links, .rte, .qlk] (.brs e t) s (s.toModule.seqBrs e t)) ∧
  (∀ (e : Nat) (t : Nat) (res : Option Nat), (isEngine e) = true → CompletesIn [.free, .out, .regs, .hub, .saf, .pwr, .tines, .cal, .mesh, .ctx, .host, .str, .seqs, .seqWait, .optics, .lasers, .links, .rte, .qlk] (.measure e t res) s (s.toModule.seqMeasure e t res)) ∧
  (∀ (e : Nat) (one : Bool), (isEngine e) = true → CompletesIn [.free, .out, .regs, .hub, .saf, .pwr, .tines, .cal, .mesh, .ctx, .host, .str, .seqs, .seqWait, .optics, .lasers, .links, .rte, .qlk] (.done e one) s (s.toModule.seqFinish e true one)) ∧
  (∀ (e : Nat) (one : Bool), (isEngine e) = true → CompletesIn [.free, .out, .regs, .hub, .saf, .pwr, .tines, .cal, .mesh, .ctx, .host, .str, .seqs, .seqWait, .optics, .lasers, .links, .rte, .qlk] (.fail e one) s (s.toModule.seqFinish e false one)) ∧
  (∀ (e : Nat) (t : Nat), (isEngine e) = true → CompletesIn [.free, .out, .regs, .hub, .saf, .pwr, .tines, .cal, .mesh, .ctx, .host, .str, .seqs, .seqWait, .optics, .lasers, .links, .rte, .qlk] (.seqLimitExceeded e t) s (s.toModule.seqLimit e t)) ∧
  (∀ (bank : Nat) (slot : Nat) (unit : Nat), (below bank 4 && below slot 17 && below unit 2) = true → CompletesIn [.regs, .saf, .seqs, .seqWait, .lasers] (.laserLocked bank slot unit) s (s.toModule.laserLocked bank slot unit)) ∧
  (∀ (bank : Nat) (slot : Nat) (unit : Nat), (below bank 4 && below slot 17 && below unit 2) = true → CompletesIn [.free, .out, .regs, .hub, .saf, .host, .seqs, .seqWait, .optics, .lasers, .links] (.laserWarmTimeout bank slot unit) s (s.toModule.laserTimeout bank slot unit)) ∧
  (∀ (bank : Nat) (slot : Nat) (unit : Nat), (below bank 4 && below slot 17 && below unit 2) = true → CompletesIn [.free, .out, .regs, .hub, .saf, .host, .seqs, .seqWait, .optics, .lasers, .links] (.laserFail bank slot unit) s (s.toModule.laserFail bank slot unit)) ∧
  (∀ (bank : Nat) (slot : Nat) (unit : Nat) (reading : Nat), (below bank 4 && below slot 17 && below unit 2) = true → CompletesIn [.free, .out, .regs, .hub, .saf, .host, .seqs, .seqWait, .optics, .lasers, .links] (.laserOverpower bank slot unit reading) s (s.toModule.laserOver bank slot unit reading)) ∧
  (∀ (bank : Nat) (slot : Nat) (ratio : Nat), (below bank 4 && below slot 17) = true → CompletesIn [.out, .regs, .saf, .lasers] (.eolWarn bank slot ratio) s (s.toModule.eolWarn bank slot ratio)) ∧
  (∀ (bank : Nat) (slot : Nat), (below bank 4 && below slot 32) = true → CompletesIn [.out, .regs, .saf, .lasers] (.lasSwap bank slot) s (s.toModule.askSwap bank slot)) ∧
  (∀ (bank : Nat), (below bank 4) = true → CompletesIn [.out, .regs, .saf, .seqs, .seqWait, .lasers] (.plannedSwap bank) s (s.toModule.plannedSwap bank)) ∧
  (∀ (bank : Nat), (below bank 4) = true → CompletesIn [.free, .out, .regs, .hub, .saf, .seqs, .seqWait, .optics, .lasers, .links] (.swapRemoval bank) s (s.toModule.swapRemoval bank)) ∧
  (∀ (bank : Nat), (below bank 4) = true → CompletesIn [.out, .regs, .saf, .lasers] (.swapDeferral bank) s (s.toModule.swapDeferral bank)) ∧
  (∀ (bank : Nat), (below bank 4) = true → CompletesIn [.free, .out, .regs, .hub, .saf, .seqs, .seqWait, .optics, .lasers, .links] (.swapDone bank) s (s.toModule.swapDone bank)) ∧
  (∀ (p : Nat) (reading : Nat), (isPort p) = true → CompletesIn [.out, .regs, .hub, .saf, .host, .seqs, .seqWait, .optics, .lasers, .links, .rte] (.fibreOverpower p reading) s (s.toModule.overpower p reading)) ∧
  (∀ (p : Nat), (isPort p) = true → CompletesIn [.regs, .cal, .seqs, .seqWait, .optics] (.clearSafety p) s (s.toModule.clearSafety p)) ∧
  (∀ (p : Nat), (isPort p) = true → CompletesIn [.out, .regs, .hub, .saf, .host, .seqs, .seqWait, .optics, .lasers, .links, .rte] (.fibreDark p) s (s.toModule.fibreDark p)) ∧
  (∀ (p : Nat), (isPort p) = true → CompletesIn [.out] (.safeProbe p) s (s.toModule.safeProbe p)) ∧
  (∀ (p : Nat), (isPort p) = true → CompletesIn [.out, .regs, .cal, .seqs, .seqWait, .optics] (.probeReceived p) s (s.toModule.probeSeen p)) ∧
  (∀ (p : Nat), (isPort p) = true → CompletesIn [.out, .regs, .hub, .saf, .cal, .host, .seqs, .seqWait, .optics, .lasers, .links, .rte] (.firnRetrain p) s (s.toModule.firnRetrain p)) ∧
  (∀ (p : Nat), (isPort p) = true → CompletesIn [.out, .regs, .saf, .cal, .seqs, .seqWait, .optics] (.useSpare p) s (s.toModule.useSpare p)) ∧
  (∀ (p : Nat) (mode : Nat) (pattern : Nat), (isPort p && below mode 8 && below pattern 4) = true → CompletesIn [.free, .out, .regs, .hub, .saf, .tines, .cal, .mesh, .ctx, .host, .adm, .seqs, .seqWait, .optics, .lasers, .links, .rte, .pair] (.loopModeWrite p mode pattern) s (s.toModule.loopMode p mode pattern))

/-- O57. Completion and frame of the commands of one family: R350, R351, R352, R357, R359, R360, R366, R372. -/
def Obligations.QuinhornCommandsComplete : Prop :=
  ∀ s : State,
  (∀ (conn : Nat) (b : Nat) (frame : Nat) (late : Bool), (isBundle conn b && below frame (2 ^ 256)) = true → CompletesIn [.out, .regs, .saf, .host, .qlk] (.qlkLinkFrame conn b frame late) s (s.toModule.qframe conn b frame late)) ∧
  (∀ (conn : Nat) (b : Nat) (d : Nat) (check : Nat), (isBundle conn b && isGran d && below check 65536) = true → CompletesIn [.out, .regs, .saf, .host, .qlk] (.qlkGranule conn b d check) s (s.toModule.qgranule conn b d check)) ∧
  (∀ (conn : Nat) (b : Nat), (isBundle conn b) = true → CompletesIn [.out, .regs, .saf, .host, .qlk] (.qlkAckTimeout conn b) s (s.toModule.qackTimeout conn b)) ∧
  (∀ (conn : Nat) (b : Nat), (isBundle conn b) = true → CompletesIn [.out, .regs, .saf, .host, .qlk] (.qlkClockLoss conn b) s (s.toModule.retrain conn b)) ∧
  (∀ (conn : Nat) (b : Nat) (major : Nat) (minor : Nat) (lanes : Nat) (mask : Nat) (maxLen : Nat) (retimers : Nat) (credits : List Nat), (isBundle conn b) = true → CompletesIn [.out, .regs, .saf, .host, .qlk] (.cap conn b major minor lanes mask maxLen retimers credits) s (s.toModule.qcap conn b major minor lanes mask maxLen retimers credits)) ∧
  (∀ (conn : Nat) (b : Nat) (rx : List Nat) (tx : List Nat), (isBundle conn b) = true → CompletesIn [.out, .regs, .saf, .host, .qlk] (.qlkMap conn b rx tx) s (s.toModule.qmap conn b rx tx)) ∧
  (∀ (conn : Nat) (b : Nat) (rx : List Nat) (tx : List Nat), (isBundle conn b) = true → CompletesIn [.free, .out, .regs, .hub, .saf, .tines, .ctx, .host, .seqs, .seqWait, .lasers, .links, .rte, .qlk] (.qlkMapAck conn b rx tx) s (s.toModule.qmapAck conn b rx tx)) ∧
  (∀ (conn : Nat) (b : Nat) (failed : Nat), (isBundle conn b) = true → CompletesIn [.out, .regs, .saf, .host, .qlk] (.testStart conn b failed) s (s.toModule.qtestStart conn b failed)) ∧
  (∀ (conn : Nat) (b : Nat) (failed : Nat), (isBundle conn b) = true → CompletesIn [.out, .regs, .saf, .host, .qlk] (.testResult conn b failed) s (s.toModule.qtestResult conn b failed)) ∧
  (∀ (conn : Nat) (b : Nat), (isBundle conn b) = true → CompletesIn [.out, .regs, .saf, .host, .qlk] (.qlkRetrainReq conn b) s (s.toModule.retrain conn b)) ∧
  (∀ (conn : Nat) (b : Nat), (isBundle conn b) = true → CompletesIn [.free, .out, .regs, .hub, .saf, .tines, .ctx, .host, .seqs, .seqWait, .lasers, .links, .rte, .qlk] (.ready conn b) s (s.toModule.qready conn b)) ∧
  (∀ (conn : Nat) (b : Nat) (failed : Bool), (isBundle conn b) = true → CompletesIn [.out, .regs, .saf, .host, .qlk] (.bundleRetrain conn b failed) s (s.toModule.bundleRetrain conn b failed)) ∧
  (∀ (conn : Nat) (b : Nat) (fill : Bool) (stage : Bool), (isBundle conn b) = true → CompletesIn [.free, .out, .regs, .hub, .saf, .tines, .ctx, .host, .seqs, .seqWait, .lasers, .links, .rte, .qlk] (.bundleRetire conn b fill stage) s (s.toModule.bundleRetire conn b fill stage)) ∧
  (∀ (conn : Nat) (b : Nat), (isConn conn && below b 16) = true → CompletesIn [.out, .regs, .saf, .host, .qlk] (.qlkRetrain conn b) s (s.toModule.retrain conn b)) ∧
  (∀ (conn : Nat), (isConn conn) = true → CompletesIn [.regs] (.qlkClrAll conn) s (s.toModule.qclear conn)) ∧
  (∀ (conn : Nat), (isConn conn) = true → CompletesIn [.out, .regs, .hub, .saf, .tines, .host, .seqs, .seqWait, .optics, .lasers, .links, .rte, .qlk] (.partialReset conn) s (s.toModule.partialReset conn)) ∧
  (∀ (g : Nat), (isGuest g) = true → CompletesIn [.out, .regs, .dev, .saf, .host, .qlk] (.rd g) s (s.toModule.guestRd g)) ∧
  (∀ (g : Nat), (isGuest g) = true → CompletesIn [.out, .qlk] (.rdResp g) s (s.toModule.sendDue g 0 1 0)) ∧
  (∀ (g : Nat), (isGuest g) = true → CompletesIn [.out, .regs, .dev, .saf, .qlk] (.wr g) s (s.toModule.guestWr g)) ∧
  (∀ (g : Nat), (isGuest g) = true → CompletesIn [.out, .regs, .dev, .saf, .host, .qlk] (.wrMasked g) s (s.toModule.guestWrMasked g)) ∧
  (∀ (g : Nat), (isGuest g) = true → CompletesIn [.out, .qlk] (.wrAck g) s (s.toModule.sendDue g 0 4 0)) ∧
  (∀ (g : Nat), (isGuest g) = true → CompletesIn [.out, .regs, .dev, .saf, .host, .qlk] (.atAdd g) s (s.toModule.guestAtAdd g)) ∧
  (∀ (g : Nat), (isGuest g) = true → CompletesIn [.out, .regs, .dev, .saf, .host, .qlk] (.atSwap g) s (s.toModule.guestAtSwap g)) ∧
  (∀ (g : Nat), (isGuest g) = true → CompletesIn [.out, .regs, .dev, .saf, .host, .qlk] (.atCas g) s (s.toModule.guestAtCas g)) ∧
  (∀ (g : Nat), (isGuest g) = true → CompletesIn [.out, .qlk] (.atResp g) s (s.toModule.sendDue g 0 8 0)) ∧
  (∀ (g : Nat), (isGuest g) = true → CompletesIn [.out, .regs, .dev, .saf, .host, .qlk] (.guestCopy g) s (s.toModule.guestCopy g)) ∧
  (∀ (g : Nat), (isGuest g) = true → CompletesIn [.out, .regs, .dev, .saf, .host, .qlk] (.rdS g) s (s.toModule.cohRequest g 0)) ∧
  (∀ (g : Nat), (isGuest g) = true → CompletesIn [.out, .regs, .dev, .saf, .host, .qlk] (.rdM g) s (s.toModule.cohRequest g 1)) ∧
  (∀ (g : Nat), (isGuest g) = true → CompletesIn [.out, .regs, .dev, .saf, .host, .qlk] (.upg g) s (s.toModule.cohRequest g 2)) ∧
  (∀ (g : Nat), (isGuest g) = true → CompletesIn [.out, .regs, .dev, .saf, .qlk] (.wbM g) s (s.toModule.cohWriteBack g)) ∧
  (∀ (g : Nat), (isGuest g) = true → CompletesIn [.out, .regs, .saf, .qlk] (.cohEvict g) s (s.toModule.cohEvict g)) ∧
  (∀ (g : Nat), (isGuest g) = true → CompletesIn [.out, .qlk] (.cohGrant g) s (s.toModule.sendDue g 1 5 1)) ∧
  (∀ (g : Nat), (isGuest g) = true → CompletesIn [.out, .qlk] (.snpInv g) s (s.toModule.sendSnoop g true)) ∧
  (∀ (g : Nat), (isGuest g) = true → CompletesIn [.out, .qlk] (.snpS g) s (s.toModule.sendSnoop g false)) ∧
  (∀ (g : Nat), (isGuest g) = true → CompletesIn [.out, .regs, .dev, .saf, .host, .qlk] (.snpAck g) s (s.toModule.snoopAck g)) ∧
  (∀ (g : Nat) (line : Nat), (isGuest g) = true → CompletesIn [.out, .regs, .dev, .saf, .host, .qlk] (.snoopTimeout g line) s (s.toModule.snoopTimeout g line)) ∧
  (∀ (g : Nat), (isGuest g) = true → CompletesIn [.out, .regs, .saf, .qlk] (.event g) s (s.toModule.guestEvent g)) ∧
  (∀ (conn : Nat), (isConn conn) = true → CompletesIn [.out, .regs, .saf, .qlk] (.drd conn) s (s.toModule.dbgRead conn)) ∧
  (∀ (conn : Nat), (isConn conn) = true → CompletesIn [.out, .regs, .saf, .qlk] (.drdResp conn) s (s.toModule.dbgAnswer conn 1)) ∧
  (∀ (conn : Nat), (isConn conn) = true → Completes (.dwr conn) s (s.toModule.dbgWrite conn)) ∧
  (∀ (conn : Nat), (isConn conn) = true → CompletesIn [.out, .regs, .saf, .qlk] (.dwrAck conn) s (s.toModule.dbgAnswer conn 3)) ∧
  (CompletesIn [.regs, .qlk] (.debugTimeout) s (s.toModule.dbgTimeout)) ∧
  (∀ (write : Bool) (conn : Nat), (below conn 128) = true → CompletesIn [.out, .regs, .qlk] (.dbgGo write conn) s (s.toModule.dbgGo write conn)) ∧
  (∀ (g : Nat), (isGuest g) = true → CompletesIn [.regs] (.unfence g) s (s.toModule.clr Reg.qlkFwCtl_fenced [g])) ∧
  (∀ (g : Nat), (isGuest g) = true → CompletesIn [.regs, .qlk] (.clrViol g) s (s.toModule.clrViol g)) ∧
  (∀ (g : Nat) (w : Nat) (v : Nat), (isGuest g && below w 16 && isWord v) = true → CompletesIn [.regs] (.winRightsWrite g w v) s (s.toModule.winRights g w v)) ∧
  (∀ (g : Nat) (mw : Nat), (isGuest g) = true → CompletesIn [.out, .regs, .saf, .host, .seqs, .seqWait] (.guestOverpower g mw) s (s.toModule.guestPower g mw))

/-- O58. Completion and frame of the commands of one family: R377, R378, R387, R389, R390, R394, R395, R402. -/
def Obligations.PairingCommandsComplete : Prop :=
  ∀ s : State,
  (∀ (e : List Nat) (info : PeerInfo), (isEntry e) = true → CompletesIn [.free, .out, .regs, .host, .links, .rte, .pair] (.pairForm e info) s (s.toModule.pairForm e info)) ∧
  (∀ (e : List Nat), (isEntry e) = true → CompletesIn [.out, .regs, .host, .links, .rte, .pair] (.pairDissolve e) s (s.toModule.pairDissolve e)) ∧
  (∀ (e : List Nat), (isEntry e) = true → CompletesIn [.out, .regs, .host, .links, .rte, .pair] (.pairHandover e) s (s.toModule.pairHandover e)) ∧
  (CompletesIn [.out, .regs, .links, .rte, .pair] (.autoHandover) s (s.toModule.autoHandover)) ∧
  (∀ (p : Nat), (isPort p) = true → CompletesIn [.regs, .links, .rte, .pair] (.handoverReq p) s (s.toModule.handoverReq p)) ∧
  (∀ (p : Nat), (isPort p) = true → CompletesIn [.out, .regs, .links, .rte, .pair] (.acquire p) s (s.toModule.acquire p)) ∧
  (∀ (p : Nat) (lists : List HostLists), (isPort p) = true → CompletesIn [.out, .regs, .dev, .saf, .sec, .ctx, .host, .adm, .links, .rte, .pair] (.leaseGrant p lists) s (s.toModule.leaseGrant p lists)) ∧
  (∀ (p : Nat), (isPort p) = true → CompletesIn [.out, .regs, .links, .rte, .pair] (.renew p) s (s.toModule.renew p)) ∧
  (CompletesIn [.out, .regs, .links, .rte, .pair] (.renewPeriod) s (s.toModule.renewPeriod)) ∧
  (∀ (p : Nat) (us : Nat), (isPort p) = true → CompletesIn [.regs, .links, .rte, .pair] (.renewAck p us) s (s.toModule.renewAck p us)) ∧
  (∀ (p : Nat), (isPort p) = true → CompletesIn [.out, .regs, .links, .rte, .pair] (.leaseRelease p) s (s.toModule.leaseRelease p)) ∧
  (∀ (p : Nat) (us : Nat), (isPort p) = true → CompletesIn [.out, .regs, .links, .rte, .pair] (.leaseQuery p us) s (s.toModule.leaseQuery p us)) ∧
  (∀ (p : Nat), (isPort p) = true → CompletesIn [.out, .regs, .links, .rte, .pair] (.leaseStatus p) s (s.toModule.leaseStatus p)) ∧
  (∀ (p : Nat), (isPort p) = true → CompletesIn [.out, .regs, .host, .links, .rte, .pair] (.deny p) s (s.toModule.deny p)) ∧
  (∀ (p : Nat), (isPort p) = true → CompletesIn [.out, .regs, .saf, .host, .links, .rte, .pair] (.failFast p) s (s.toModule.failFastRx p)) ∧
  (∀ (p : Nat), (isPort p) = true → CompletesIn [.free, .out, .regs, .links, .rte] (.announce p) s (s.toModule.announce p)) ∧
  (∀ (pkg : Nat), (below pkg 16384) = true → CompletesIn [.out, .regs, .links, .rte, .pair] (.announceRepeat pkg) s (s.toModule.announceRepeat pkg)) ∧
  (∀ (p : Nat), (isPort p) = true → CompletesIn [.out, .regs, .saf, .host, .links, .rte, .pair] (.detach p) s (s.toModule.detach p)) ∧
  (∀ (index : Nat) (overdue : Bool), CompletesIn [.out, .regs, .host, .links, .rte, .pair] (.leaseMessageRepeat index overdue) s (s.toModule.leaseRepeat index overdue)) ∧
  (CompletesIn [.out, .regs, .saf, .pair] (.selfFence) s (s.toModule.selfFence)) ∧
  (CompletesIn [.free, .out, .regs, .saf, .tines, .mesh, .ctx, .host, .adm, .links, .rte, .pair] (.leaseExpiry) s (s.toModule.leaseExpiry)) ∧
  (∀ (pair : Nat), (below pair 16384) = true → CompletesIn [.out, .regs, .links, .rte, .pair] (.witnessLeaseExpiry pair) s (s.toModule.witnessExpiry pair)) ∧
  (CompletesIn [.out, .regs, .links, .rte, .pair] (.standbyBindingEnd) s (s.toModule.bindingEnd)) ∧
  (CompletesIn [.regs, .pair] (.witnessStartEnd) s (s.toModule.witnessStarted)) ∧
  (∀ (cls : Nat) (sub : Nat) (detail : List Nat), (below cls 256 && below sub 65536) = true → CompletesIn [.free, .out, .regs, .saf, .tines, .mesh, .ctx, .host, .adm, .links, .rte, .pair] (.failFastEvent cls sub detail) s (s.toModule.failFastEvent cls sub detail)) ∧
  (∀ (p : Nat), (isPort p) = true → CompletesIn [.regs, .links, .rte, .pair] (.kvRecord p) s (s.toModule.deltaRecord p 2)) ∧
  (∀ (p : Nat), (isPort p) = true → CompletesIn [.regs, .links, .rte, .pair] (.outRecord p) s (s.toModule.deltaRecord p 3)) ∧
  (∀ (p : Nat), (isPort p) = true → CompletesIn [.regs, .links, .rte, .pair] (.descRecord p) s (s.toModule.deltaRecord p 4)) ∧
  (∀ (p : Nat), (isPort p) = true → CompletesIn [.regs, .links, .rte, .pair] (.modRecord p) s (s.toModule.deltaRecord p 5)) ∧
  (∀ (p : Nat), (isPort p) = true → CompletesIn [.regs, .links, .rte, .pair] (.reqRecord p) s (s.toModule.deltaRecord p 1)) ∧
  (∀ (p : Nat) (cycle : Nat), (isPort p && isCycle cycle) = true → CompletesIn [.free, .out, .regs, .dev, .saf, .ctx, .host, .links, .rte, .pair] (.closeRecord p cycle) s (s.toModule.closeRec p cycle)) ∧
  (∀ (p : Nat), (isPort p) = true → CompletesIn [.out, .regs, .dev, .saf, .host, .links, .rte, .pair] (.checkpointRecord p) s (s.toModule.ckptRec p)) ∧
  (∀ (p : Nat), (isPort p) = true → CompletesIn [.regs, .links, .rte, .pair] (.deltaAck p) s (s.toModule.deltaAck p)) ∧
  (CompletesIn [.out, .regs, .saf, .host, .pair] (.standbyLoss) s (s.toModule.standbyLoss)) ∧
  (∀ (p : Nat), (isPort p) = true → CompletesIn [.out, .regs, .saf, .host, .links, .rte, .pair] (.pairingPortDown p) s (s.toModule.pairingPortDown p)) ∧
  (CompletesIn [.out, .regs, .host, .links, .rte, .pair] (.closeTimeout) s (s.toModule.closeTimeout)) ∧
  (∀ (lists : List HostLists), CompletesIn [.out, .regs, .dev, .saf, .sec, .ctx, .host, .adm, .links, .rte, .pair] (.switchoverStart lists) s (s.toModule.switchover lists)) ∧
  (∀ (kv : List (Nat × List Nat)) (reqs : List (List Nat)) (subs : List Nat), CompletesIn [.out, .regs, .dev, .saf, .host, .pair] (.resyncComplete kv reqs subs) s (s.toModule.resyncComplete kv reqs subs)) ∧
  (CompletesIn [.regs] (.pairClrAll) s (s.toModule.pairClr))

/-- O59. Completion and frame of the commands of one family: R408, R416, R424, R431, R436, R441, R448, R453, R457. -/
def Obligations.PowerAndSafetyCommandsComplete : Prop :=
  ∀ s : State,
  (∀ (ch : Nat) (t : Int) (isOpen : Bool) (stale : Bool), (below ch 100) = true → CompletesIn [.out, .regs, .hub, .saf, .thm, .tines, .mesh, .ctx, .host, .seqs, .seqWait, .optics, .lasers, .links, .rte, .qlk] (.tempSample ch t isOpen stale) s (s.toModule.tempSample ch t isOpen stale)) ∧
  (∀ (ch : Nat) (v : Nat), (below ch 128 && below v 65536) = true → CompletesIn [.out, .regs, .hub, .saf, .thm, .tines, .mesh, .ctx, .host, .seqs, .seqWait, .optics, .lasers, .links, .rte, .qlk] (.thmForceWrite ch v) s (s.toModule.thmForceTo ch v)) ∧
  (∀ (ch : Nat) (v : Nat), (below ch 128 && below v 65536) = true → CompletesIn [.out, .regs, .hub, .saf, .thm, .tines, .mesh, .ctx, .host, .seqs, .seqWait, .optics, .lasers, .links, .rte, .qlk] (.thmRelease ch v) s (s.toModule.thmReleaseCh ch v)) ∧
  (∀ (ch : Nat) (v : Nat), (below ch 128 && below v 65536) = true → CompletesIn [.regs, .thm] (.thmRetest ch v) s (s.toModule.thmRetestCh ch v)) ∧
  (∀ (ch : Nat) (v : Nat), (below ch 128 && below v 65536) = true → CompletesIn [.regs, .thm, .seqs, .seqWait] (.clearShutdown ch v) s (s.toModule.clearShutdown ch v)) ∧
  (∀ (index : Nat) (v : Nat), (below index 21 && isWord v) = true → CompletesIn [.regs] (.thmCurveWrite index v) s (s.toModule.curveWrite index v)) ∧
  (∀ (conn : Nat), (below conn 88) = true → CompletesIn [.regs] (.budgetGrant conn) s (s.toModule.budgetGrant conn)) ∧
  (∀ (conn : Nat) (mw : Nat), (below conn 88) = true → CompletesIn [.pwr] (.budgetRequest conn mw) s (s.toModule.budgetRequest conn mw)) ∧
  (∀ (conn : Nat) (mj : Nat) (mw : Nat), (below conn 88) = true → CompletesIn [.pwr] (.budgetReturn conn mj mw) s (s.toModule.budgetReturn conn mj mw)) ∧
  (∀ (d : Nat) (mv : Nat), (below d 170) = true → CompletesIn [.out, .regs, .hub, .saf, .tines, .mesh, .ctx, .host, .seqs, .seqWait, .optics, .lasers, .links, .rte, .qlk] (.supplyOutOfWindow d mv) s (s.toModule.supplyOut d mv)) ∧
  (∀ (cv : Nat), CompletesIn [.out, .regs, .hub, .saf, .cal, .flash, .host, .seqs, .seqWait, .optics, .lasers, .links, .rte, .qlk] (.inputOutOfWindow cv) s (s.toModule.inputOut cv)) ∧
  (CompletesIn [.flash] (.powerFailCommitDone) s (s.toModule.powerFailDone)) ∧
  (∀ (mask : Nat), (below mask 32) = true → CompletesIn [.regs] (.calRun mask) s (s.toModule.calRun mask)) ∧
  (∀ (vals : List (Nat × Nat × Nat)), CompletesIn [.regs, .cal] (.calRunDone vals) s (s.toModule.calRunDone vals)) ∧
  (CompletesIn [.regs, .cal] (.calStoreDone) s (s.toModule.calStoreDone)) ∧
  (CompletesIn [.regs, .cal] (.calStoreRetry) s (s.toModule.calStoreRetry)) ∧
  (∀ (mask : Nat), (below mask 32) = true → CompletesIn [.regs, .cal] (.calRevert mask) s (s.toModule.calRevert mask)) ∧
  (CompletesIn [.cal] (.opsecTick) s (s.toModule.opsecTick)) ∧
  (CompletesIn [.regs, .cal] (.opsecRecord) s (s.toModule.opsecRecord)) ∧
  (∀ (v : Nat), (isWord v) = true → CompletesIn [.out, .regs] (.faultPinClr v) s (s.toModule.faultPinClr v)) ∧
  (∀ (v : Nat), (isWord v) = true → CompletesIn [.regs] (.safLogLatch v) s (s.toModule.logSel v)) ∧
  (∀ (site : Nat) (pass : Bool) (bad : Option Nat), (isSite site) = true → CompletesIn [.out, .regs, .saf, .tines, .ctx, .adm] (.proofTest site pass bad) s (s.toModule.proofTest site pass bad)) ∧
  (CompletesIn [.flash] (.moraineWrite) s (s.toModule.moraineWrite)) ∧
  (CompletesIn [.out, .regs, .saf] (.snapIn) s (s.toModule.snapIn)) ∧
  (∀ (v : Nat), (isWord v) = true → CompletesIn [.out, .regs, .saf] (.snapTrigger v) s (s.toModule.snapReg v)) ∧
  (∀ (cycle : Nat), (isCycle cycle) = true → CompletesIn [.out, .regs, .saf] (.snapLatch cycle) s (s.toModule.snapLatch cycle)) ∧
  (∀ (conn : Nat), (isConn conn) = true → CompletesIn [.regs] (.snapConfirmTimeout conn) s (s.toModule.snapAbsent conn)) ∧
  (∀ (v : Nat), (isWord v) = true → CompletesIn [.regs] (.snapRearm v) s (s.toModule.snapRearm v))

/-- O60. Completion and frame of the commands of one family: R149, R458, R459, R460, R461, R463, R466, R467, R470. -/
def Obligations.BootAndSecurityCommandsComplete : Prop :=
  ∀ s : State,
  (Completes (.powerOnReset) s (s.toModule.powerOn)) ∧
  (Completes (.modResetN) s (s.toModule.modReset)) ∧
  (∀ (v : Nat), (isWord v) = true → Completes (.hubResetModule v) s (s.toModule.hubReset v)) ∧
  (Completes (.watchdogExpiry) s (s.toModule.watchdog)) ∧
  (CompletesIn [.regs, .saf, .flash, .sec] (.firmwareVerified) s (s.toModule.firmwareVerified)) ∧
  (∀ (found : BootTest), CompletesIn [.free, .out, .regs, .sram, .hub, .saf, .pwr, .tines, .host, .seqs, .seqWait, .optics, .lasers, .links, .rte, .qlk] (.bootDevicesReady found) s (s.toModule.bootDevices found)) ∧
  (CompletesIn [.free, .out, .regs, .dev, .sram, .hub, .saf, .tines, .cal, .mesh, .ctx, .host, .adm, .str, .seqs, .seqWait, .optics, .lasers, .links, .rte, .qlk, .pair] (.bootStructureApplied) s (s.toModule.bootStructure)) ∧
  (CompletesIn [.regs, .flash] (.bootReady) s (s.toModule.bootReady)) ∧
  (∀ (img : FwImage), Completes (.recoveryImage img) s (s.toModule.recoveryImage img)) ∧
  (∀ (e : List Nat) (img : Option FwImage) (flashOk : Bool), (isEntry e) = true → CompletesIn [.out, .regs, .flash, .host, .pair] (.fwUpdate e img flashOk) s (s.toModule.fwUpdate e img flashOk)) ∧
  (∀ (e : List Nat) (block : Option (List Nat)) (flashOk : Bool), (isEntry e) = true → CompletesIn [.out, .regs, .flash, .host, .pair] (.ownerEnrol e block flashOk) s (s.toModule.ownerEnrol e block flashOk)) ∧
  (∀ (e : List Nat) (block : Option (List Nat)) (flashOk : Bool), (isEntry e) = true → CompletesIn [.out, .regs, .flash, .host, .pair] (.ownerUpdate e block flashOk) s (s.toModule.ownerUpdate e block flashOk)) ∧
  (∀ (e : List Nat) (block : Option (List Nat)) (flashOk : Bool), (isEntry e) = true → CompletesIn [.out, .regs, .flash, .host, .pair] (.ownerRelease e block flashOk) s (s.toModule.ownerRelease e block flashOk)) ∧
  (∀ (v : Nat), (isWord v) = true → CompletesIn [.regs] (.secLockSet v) s (s.toModule.secLock v)) ∧
  (∀ (transport : Nat), (below transport 2) = true → CompletesIn [.out, .sec] (.getVersion transport) s (s.toModule.spdmVersion transport)) ∧
  (∀ (transport : Nat), (below transport 2) = true → CompletesIn [.out, .sec] (.getCapabilities transport) s (s.toModule.spdmCaps transport)) ∧
  (∀ (transport : Nat) (req : List Nat), (below transport 2 && isBytes req) = true → CompletesIn [.out, .sec] (.negotiateAlgorithms transport req) s (s.toModule.spdmAlgs transport req)) ∧
  (∀ (transport : Nat), (below transport 2) = true → CompletesIn [.out] (.getDigests transport) s (s.toModule.spdmDigests transport)) ∧
  (∀ (transport : Nat) (slot : Nat) (off : Nat) (len : Nat), (below transport 2 && below slot 16 && below off 65536 && below len 65536) = true → CompletesIn [.out] (.getCertificate transport slot off len) s (s.toModule.spdmCert transport slot off len)) ∧
  (∀ (transport : Nat) (slot : Nat) (nonce : List Nat), (below transport 2 && below slot 256 && isBytes nonce) = true → CompletesIn [.free, .out] (.challenge transport slot nonce) s (s.toModule.spdmChallenge transport slot nonce)) ∧
  (∀ (transport : Nat) (index : Nat) (nonce : List Nat), (below transport 2 && below index 256 && isBytes nonce) = true → CompletesIn [.free, .out] (.getMeasurements transport index nonce) s (s.toModule.spdmMeasure transport index nonce)) ∧
  (∀ (e : Nat) (v : Nat), (below e 4 && isWord v) = true → CompletesIn [.regs, .crc] (.crcGo e v) s (s.toModule.crcGo e v)) ∧
  (∀ (e : Nat) (host : Option (List Nat)), (below e 4) = true → CompletesIn [.free, .out, .regs, .dev, .saf, .crc, .host] (.crcRunEnd e host) s (s.toModule.crcEnd e host)) ∧
  (∀ (x : ViewRead), (isWord x.v) = true → CompletesIn [.out, .regs, .saf] (.ctxLatchView x) s (s.toModule.ctxSel x.v x.errs)) ∧
  (CompletesIn [.hub] (.modResetNRelease) s (s.toModule.modRelease))
end

