-- ==== Sys2Proof/Laws/Commands.lean ====
section
/-! SUPPORT. What each command does and which operands it accepts, command by command: proofs cite these and unfold no dispatch. -/

namespace Sys2Proof.Machine

theorem exec_roundBoundary (cv : Nat) (dw : Nat) (mj : Nat) (s : State) : exec (.roundBoundary cv dw mj) s = s.act (true) (fun m => m.roundBoundary cv dw mj) := rfl
theorem wf_roundBoundary (cv : Nat) (dw : Nat) (mj : Nat) : Instr.wf (.roundBoundary cv dw mj) = (true) := rfl
theorem exec_roundMark (conn : Nat) (s : State) : exec (.roundMark conn) s = s.act (isConn conn) (fun m => m.roundMark conn) := rfl
theorem wf_roundMark (conn : Nat) : Instr.wf (.roundMark conn) = (isConn conn) := rfl
theorem exec_heldWindowExpiry (number : Nat) (s : State) : exec (.heldWindowExpiry number) s = s.act (below number 65536) (fun m => m.windowExpiry number) := rfl
theorem wf_heldWindowExpiry (number : Nat) : Instr.wf (.heldWindowExpiry number) = (below number 65536) := rfl
theorem exec_coalesceTimeout (q : Nat) (s : State) : exec (.coalesceTimeout q) s = s.act (isQueue q) (fun m => m.coalesceTimeout q) := rfl
theorem wf_coalesceTimeout (q : Nat) : Instr.wf (.coalesceTimeout q) = (isQueue q) := rfl
theorem exec_hubRoundLoRead (s : State) : exec (.hubRoundLoRead) s = s.act (true) (fun m => m.readRoundLo) := rfl
theorem wf_hubRoundLoRead : Instr.wf (.hubRoundLoRead) = (true) := rfl
theorem exec_tineCyclesLoRead (site : Nat) (s : State) : exec (.tineCyclesLoRead site) s = s.act (isSite site) (fun m => m.readCyclesLo site) := rfl
theorem wf_tineCyclesLoRead (site : Nat) : Instr.wf (.tineCyclesLoRead site) = (isSite site) := rfl
theorem exec_tineMatPassesLoRead (site : Nat) (s : State) : exec (.tineMatPassesLoRead site) s = s.act (isSite site) (fun m => m.readPassesLo site) := rfl
theorem wf_tineMatPassesLoRead (site : Nat) : Instr.wf (.tineMatPassesLoRead site) = (isSite site) := rfl
theorem exec_admAcceptedLoRead (s : State) : exec (.admAcceptedLoRead) s = s.act (true) (fun m => m.readAcceptedLo) := rfl
theorem wf_admAcceptedLoRead : Instr.wf (.admAcceptedLoRead) = (true) := rfl
theorem exec_calOpsecLoRead (s : State) : exec (.calOpsecLoRead) s = s.act (true) (fun m => m.readOpsecLo) := rfl
theorem wf_calOpsecLoRead : Instr.wf (.calOpsecLoRead) = (true) := rfl
theorem exec_registerWrite (place : BarAddr) (v : Nat) (s : State) : exec (.registerWrite place v) s = s.act (isSpace place.space place.off && isWord v) (fun m => m.hostWrite32 place.space place.off v) := rfl
theorem wf_registerWrite (place : BarAddr) (v : Nat) : Instr.wf (.registerWrite place v) = (isSpace place.space place.off && isWord v) := rfl
theorem exec_unsupportedAccess (x : HostAccess) (s : State) : exec (.unsupportedAccess x) s = s.act (isSpace x.place.space x.place.off && isWord x.v) (fun m => m.hostMmio x.place.space x.place.off x.size x.write x.v) := rfl
theorem wf_unsupportedAccess (x : HostAccess) : Instr.wf (.unsupportedAccess x) = (isSpace x.place.space x.place.off && isWord x.v) := rfl
theorem exec_refclkLost (s : State) : exec (.refclkLost) s = s.act (true) (fun m => m.refclkLost) := rfl
theorem wf_refclkLost : Instr.wf (.refclkLost) = (true) := rfl
theorem exec_refclkReturn (s : State) : exec (.refclkReturn) s = s.act (true) (fun m => m.refclkReturn) := rfl
theorem wf_refclkReturn : Instr.wf (.refclkReturn) = (true) := rfl
theorem exec_holdoverSlewEnd (s : State) : exec (.holdoverSlewEnd) s = s.act (true) (fun m => m.slewEnd) := rfl
theorem wf_holdoverSlewEnd : Instr.wf (.holdoverSlewEnd) = (true) := rfl
theorem exec_rootPllUnlock (s : State) : exec (.rootPllUnlock) s = s.act (true) (fun m => m.rootUnlock) := rfl
theorem wf_rootPllUnlock : Instr.wf (.rootPllUnlock) = (true) := rfl
theorem exec_rootPllLock (phases : List Nat) (s : State) : exec (.rootPllLock phases) s = s.act (true) (fun m => m.rootLock phases) := rfl
theorem wf_rootPllLock (phases : List Nat) : Instr.wf (.rootPllLock phases) = (true) := rfl
theorem exec_treeLostAtDie (rx : Nat) (s : State) : exec (.treeLostAtDie rx) s = s.act (below rx 88) (fun m => m.treeLostAtDie rx) := rfl
theorem wf_treeLostAtDie (rx : Nat) : Instr.wf (.treeLostAtDie rx) = (below rx 88) := rfl
theorem exec_bothTreesLost (rx : Nat) (s : State) : exec (.bothTreesLost rx) s = s.act (below rx 88) (fun m => m.bothTreesLost rx) := rfl
theorem wf_bothTreesLost (rx : Nat) : Instr.wf (.bothTreesLost rx) = (below rx 88) := rfl
theorem exec_clockLossNotice (rx : Nat) (s : State) : exec (.clockLossNotice rx) s = s.act (below rx 88) (fun m => m.clockLossNotice rx) := rfl
theorem wf_clockLossNotice (rx : Nat) : Instr.wf (.clockLossNotice rx) = (below rx 88) := rfl
theorem exec_treeSourceLost (tree : Nat) (s : State) : exec (.treeSourceLost tree) s = s.act (below tree 2) (fun m => m.treeSourceLost tree) := rfl
theorem wf_treeSourceLost (tree : Nat) : Instr.wf (.treeSourceLost tree) = (below tree 2) := rfl
theorem exec_tload (site : Nat) (env : OpEnv) (s : State) : exec (.tload site env) s = s.act (isSite site) (fun m => tloadOp site env m) := rfl
theorem wf_tload (site : Nat) (env : OpEnv) : Instr.wf (.tload site env) = (isSite site) := rfl
theorem exec_astage (site : Nat) (env : OpEnv) (s : State) : exec (.astage site env) s = s.act (isSite site) (fun m => astageOp site env m) := rfl
theorem wf_astage (site : Nat) (env : OpEnv) : Instr.wf (.astage site env) = (isSite site) := rfl
theorem exec_stream (site : Nat) (env : OpEnv) (s : State) : exec (.stream site env) s = s.act (isSite site) (fun m => streamOp site env m) := rfl
theorem wf_stream (site : Nat) (env : OpEnv) : Instr.wf (.stream site env) = (isSite site) := rfl
theorem exec_wset (site : Nat) (env : OpEnv) (s : State) : exec (.wset site env) s = s.act (isSite site) (fun m => wsetOp site env m) := rfl
theorem wf_wset (site : Nat) (env : OpEnv) : Instr.wf (.wset site env) = (isSite site) := rfl
theorem exec_drain (site : Nat) (env : OpEnv) (s : State) : exec (.drain site env) s = s.act (isSite site) (fun m => drainOp site env m) := rfl
theorem wf_drain (site : Nat) (env : OpEnv) : Instr.wf (.drain site env) = (isSite site) := rfl
theorem exec_drainw (site : Nat) (env : OpEnv) (s : State) : exec (.drainw site env) s = s.act (isSite site) (fun m => drainwOp site env m) := rfl
theorem wf_drainw (site : Nat) (env : OpEnv) : Instr.wf (.drainw site env) = (isSite site) := rfl
theorem exec_padd (site : Nat) (env : OpEnv) (s : State) : exec (.padd site env) s = s.act (isSite site) (fun m => paddOp site env m) := rfl
theorem wf_padd (site : Nat) (env : OpEnv) : Instr.wf (.padd site env) = (isSite site) := rfl
theorem exec_pdrain (site : Nat) (env : OpEnv) (s : State) : exec (.pdrain site env) s = s.act (isSite site) (fun m => pdrainOp site env m) := rfl
theorem wf_pdrain (site : Nat) (env : OpEnv) : Instr.wf (.pdrain site env) = (isSite site) := rfl
theorem exec_vadd (site : Nat) (env : OpEnv) (s : State) : exec (.vadd site env) s = s.act (isSite site) (fun m => vaddOp site env m) := rfl
theorem wf_vadd (site : Nat) (env : OpEnv) : Instr.wf (.vadd site env) = (isSite site) := rfl
theorem exec_vsub (site : Nat) (env : OpEnv) (s : State) : exec (.vsub site env) s = s.act (isSite site) (fun m => vsubOp site env m) := rfl
theorem wf_vsub (site : Nat) (env : OpEnv) : Instr.wf (.vsub site env) = (isSite site) := rfl
theorem exec_vmul (site : Nat) (env : OpEnv) (s : State) : exec (.vmul site env) s = s.act (isSite site) (fun m => vmulOp site env m) := rfl
theorem wf_vmul (site : Nat) (env : OpEnv) : Instr.wf (.vmul site env) = (isSite site) := rfl
theorem exec_vfma (site : Nat) (env : OpEnv) (s : State) : exec (.vfma site env) s = s.act (isSite site) (fun m => vfmaOp site env m) := rfl
theorem wf_vfma (site : Nat) (env : OpEnv) : Instr.wf (.vfma site env) = (isSite site) := rfl
theorem exec_vmin (site : Nat) (env : OpEnv) (s : State) : exec (.vmin site env) s = s.act (isSite site) (fun m => vminOp site env m) := rfl
theorem wf_vmin (site : Nat) (env : OpEnv) : Instr.wf (.vmin site env) = (isSite site) := rfl
theorem exec_vmax (site : Nat) (env : OpEnv) (s : State) : exec (.vmax site env) s = s.act (isSite site) (fun m => vmaxOp site env m) := rfl
theorem wf_vmax (site : Nat) (env : OpEnv) : Instr.wf (.vmax site env) = (isSite site) := rfl
theorem exec_vlogic (site : Nat) (env : OpEnv) (s : State) : exec (.vlogic site env) s = s.act (isSite site) (fun m => vlogicOp site env m) := rfl
theorem wf_vlogic (site : Nat) (env : OpEnv) : Instr.wf (.vlogic site env) = (isSite site) := rfl
theorem exec_vshift (site : Nat) (env : OpEnv) (s : State) : exec (.vshift site env) s = s.act (isSite site) (fun m => vshiftOp site env m) := rfl
theorem wf_vshift (site : Nat) (env : OpEnv) : Instr.wf (.vshift site env) = (isSite site) := rfl
theorem exec_vcmp (site : Nat) (env : OpEnv) (s : State) : exec (.vcmp site env) s = s.act (isSite site) (fun m => vcmpOp site env m) := rfl
theorem wf_vcmp (site : Nat) (env : OpEnv) : Instr.wf (.vcmp site env) = (isSite site) := rfl
theorem exec_vsel (site : Nat) (env : OpEnv) (s : State) : exec (.vsel site env) s = s.act (isSite site) (fun m => vselOp site env m) := rfl
theorem wf_vsel (site : Nat) (env : OpEnv) : Instr.wf (.vsel site env) = (isSite site) := rfl
theorem exec_vreduce (site : Nat) (env : OpEnv) (s : State) : exec (.vreduce site env) s = s.act (isSite site) (fun m => vreduceOp site env m) := rfl
theorem wf_vreduce (site : Nat) (env : OpEnv) : Instr.wf (.vreduce site env) = (isSite site) := rfl
theorem exec_vgather (site : Nat) (env : OpEnv) (s : State) : exec (.vgather site env) s = s.act (isSite site) (fun m => vgatherOp site env m) := rfl
theorem wf_vgather (site : Nat) (env : OpEnv) : Instr.wf (.vgather site env) = (isSite site) := rfl
theorem exec_vscatter (site : Nat) (env : OpEnv) (s : State) : exec (.vscatter site env) s = s.act (isSite site) (fun m => vscatterOp site env m) := rfl
theorem wf_vscatter (site : Nat) (env : OpEnv) : Instr.wf (.vscatter site env) = (isSite site) := rfl
theorem exec_vfill (site : Nat) (env : OpEnv) (s : State) : exec (.vfill site env) s = s.act (isSite site) (fun m => vfillOp site env m) := rfl
theorem wf_vfill (site : Nat) (env : OpEnv) : Instr.wf (.vfill site env) = (isSite site) := rfl
theorem exec_cload (site : Nat) (env : OpEnv) (s : State) : exec (.cload site env) s = s.act (isSite site) (fun m => cloadOp site env m) := rfl
theorem wf_cload (site : Nat) (env : OpEnv) : Instr.wf (.cload site env) = (isSite site) := rfl
theorem exec_ceval (site : Nat) (env : OpEnv) (s : State) : exec (.ceval site env) s = s.act (isSite site) (fun m => cevalOp site env m) := rfl
theorem wf_ceval (site : Nat) (env : OpEnv) : Instr.wf (.ceval site env) = (isSite site) := rfl
theorem exec_fdecode (site : Nat) (env : OpEnv) (s : State) : exec (.fdecode site env) s = s.act (isSite site) (fun m => fdecodeOp site env m) := rfl
theorem wf_fdecode (site : Nat) (env : OpEnv) : Instr.wf (.fdecode site env) = (isSite site) := rfl
theorem exec_fencode (site : Nat) (env : OpEnv) (s : State) : exec (.fencode site env) s = s.act (isSite site) (fun m => fencodeOp site env m) := rfl
theorem wf_fencode (site : Nat) (env : OpEnv) : Instr.wf (.fencode site env) = (isSite site) := rfl
theorem exec_freblock (site : Nat) (env : OpEnv) (s : State) : exec (.freblock site env) s = s.act (isSite site) (fun m => freblockOp site env m) := rfl
theorem wf_freblock (site : Nat) (env : OpEnv) : Instr.wf (.freblock site env) = (isSite site) := rfl
theorem exec_ftile (site : Nat) (env : OpEnv) (s : State) : exec (.ftile site env) s = s.act (isSite site) (fun m => ftileOp site env m) := rfl
theorem wf_ftile (site : Nat) (env : OpEnv) : Instr.wf (.ftile site env) = (isSite site) := rfl
theorem exec_send (site : Nat) (env : OpEnv) (s : State) : exec (.send site env) s = s.act (isSite site) (fun m => sendOp site env m) := rfl
theorem wf_send (site : Nat) (env : OpEnv) : Instr.wf (.send site env) = (isSite site) := rfl
theorem exec_recv (site : Nat) (env : OpEnv) (s : State) : exec (.recv site env) s = s.act (isSite site) (fun m => recvOp site env m) := rfl
theorem wf_recv (site : Nat) (env : OpEnv) : Instr.wf (.recv site env) = (isSite site) := rfl
theorem exec_recvTimeout (site : Nat) (slot : Nat) (s : State) : exec (.recvTimeout site slot) s = s.act (isSite site) (fun m => m.recvTimeout site slot) := rfl
theorem wf_recvTimeout (site : Nat) (slot : Nat) : Instr.wf (.recvTimeout site slot) = (isSite site) := rfl
theorem exec_dmard (site : Nat) (env : OpEnv) (s : State) : exec (.dmard site env) s = s.act (isSite site) (fun m => dmardOp site env m) := rfl
theorem wf_dmard (site : Nat) (env : OpEnv) : Instr.wf (.dmard site env) = (isSite site) := rfl
theorem exec_dmawr (site : Nat) (env : OpEnv) (s : State) : exec (.dmawr site env) s = s.act (isSite site) (fun m => dmawrOp site env m) := rfl
theorem wf_dmawr (site : Nat) (env : OpEnv) : Instr.wf (.dmawr site env) = (isSite site) := rfl
theorem exec_copy (site : Nat) (env : OpEnv) (s : State) : exec (.copy site env) s = s.act (isSite site) (fun m => copyOp site env m) := rfl
theorem wf_copy (site : Nat) (env : OpEnv) : Instr.wf (.copy site env) = (isSite site) := rfl
theorem exec_input (site : Nat) (env : OpEnv) (s : State) : exec (.input site env) s = s.act (isSite site) (fun m => inputOp site env m) := rfl
theorem wf_input (site : Nat) (env : OpEnv) : Instr.wf (.input site env) = (isSite site) := rfl
theorem exec_output (site : Nat) (env : OpEnv) (s : State) : exec (.output site env) s = s.act (isSite site) (fun m => outputOp site env m) := rfl
theorem wf_output (site : Nat) (env : OpEnv) : Instr.wf (.output site env) = (isSite site) := rfl
theorem exec_nop (site : Nat) (env : OpEnv) (s : State) : exec (.nop site env) s = s.act (isSite site) (fun m => nopOp site env m) := rfl
theorem wf_nop (site : Nat) (env : OpEnv) : Instr.wf (.nop site env) = (isSite site) := rfl
theorem exec_sbegin (site : Nat) (env : OpEnv) (s : State) : exec (.sbegin site env) s = s.act (isSite site) (fun m => sbeginOp site env m) := rfl
theorem wf_sbegin (site : Nat) (env : OpEnv) : Instr.wf (.sbegin site env) = (isSite site) := rfl
theorem exec_setreg (site : Nat) (env : OpEnv) (s : State) : exec (.setreg site env) s = s.act (isSite site) (fun m => setregOp site env m) := rfl
theorem wf_setreg (site : Nat) (env : OpEnv) : Instr.wf (.setreg site env) = (isSite site) := rfl
theorem exec_addreg (site : Nat) (env : OpEnv) (s : State) : exec (.addreg site env) s = s.act (isSite site) (fun m => addregOp site env m) := rfl
theorem wf_addreg (site : Nat) (env : OpEnv) : Instr.wf (.addreg site env) = (isSite site) := rfl
theorem exec_loop (site : Nat) (env : OpEnv) (s : State) : exec (.loop site env) s = s.act (isSite site) (fun m => loopOp site env m) := rfl
theorem wf_loop (site : Nat) (env : OpEnv) : Instr.wf (.loop site env) = (isSite site) := rfl
theorem exec_brcnt (site : Nat) (env : OpEnv) (s : State) : exec (.brcnt site env) s = s.act (isSite site) (fun m => brcntOp site env m) := rfl
theorem wf_brcnt (site : Nat) (env : OpEnv) : Instr.wf (.brcnt site env) = (isSite site) := rfl
theorem exec_jump (site : Nat) (env : OpEnv) (s : State) : exec (.jump site env) s = s.act (isSite site) (fun m => jumpOp site env m) := rfl
theorem wf_jump (site : Nat) (env : OpEnv) : Instr.wf (.jump site env) = (isSite site) := rfl
theorem exec_barrier (site : Nat) (env : OpEnv) (s : State) : exec (.barrier site env) s = s.act (isSite site) (fun m => barrierOp site env m) := rfl
theorem wf_barrier (site : Nat) (env : OpEnv) : Instr.wf (.barrier site env) = (isSite site) := rfl
theorem exec_sync (site : Nat) (env : OpEnv) (s : State) : exec (.sync site env) s = s.act (isSite site) (fun m => syncOp site env m) := rfl
theorem wf_sync (site : Nat) (env : OpEnv) : Instr.wf (.sync site env) = (isSite site) := rfl
theorem exec_cschk (site : Nat) (env : OpEnv) (s : State) : exec (.cschk site env) s = s.act (isSite site) (fun m => cschkOp site env m) := rfl
theorem wf_cschk (site : Nat) (env : OpEnv) : Instr.wf (.cschk site env) = (isSite site) := rfl
theorem exec_relmark (site : Nat) (env : OpEnv) (s : State) : exec (.relmark site env) s = s.act (isSite site) (fun m => relmarkOp site env m) := rfl
theorem wf_relmark (site : Nat) (env : OpEnv) : Instr.wf (.relmark site env) = (isSite site) := rfl
theorem exec_trap (site : Nat) (env : OpEnv) (s : State) : exec (.trap site env) s = s.act (isSite site) (fun m => trapOp site env m) := rfl
theorem wf_trap (site : Nat) (env : OpEnv) : Instr.wf (.trap site env) = (isSite site) := rfl
theorem exec_eos (site : Nat) (env : OpEnv) (s : State) : exec (.eos site env) s = s.act (isSite site) (fun m => eosOp site env m) := rfl
theorem wf_eos (site : Nat) (env : OpEnv) : Instr.wf (.eos site env) = (isSite site) := rfl
theorem exec_reservedOpcode (site : Nat) (env : OpEnv) (s : State) : exec (.reservedOpcode site env) s = s.act (isSite site) (fun m => reservedOp site env m) := rfl
theorem wf_reservedOpcode (site : Nat) (env : OpEnv) : Instr.wf (.reservedOpcode site env) = (isSite site) := rfl
theorem exec_operationComplete (site : Nat) (slot : Nat) (s : State) : exec (.operationComplete site slot) s = s.act (isSite site) (fun m => m.opComplete site slot) := rfl
theorem wf_operationComplete (site : Nat) (slot : Nat) : Instr.wf (.operationComplete site slot) = (isSite site) := rfl
theorem exec_stageFaultReport (site : Nat) (s : State) : exec (.stageFaultReport site) s = s.act (isSite site) (fun m => m.faultReport site) := rfl
theorem wf_stageFaultReport (site : Nat) : Instr.wf (.stageFaultReport site) = (isSite site) := rfl
theorem exec_tileChecksumRecheck (s : State) : exec (.tileChecksumRecheck) s = s.act (true) (fun m => m.recheckTile) := rfl
theorem wf_tileChecksumRecheck : Instr.wf (.tileChecksumRecheck) = (true) := rfl
theorem exec_stageEndReport (site : Nat) (s : State) : exec (.stageEndReport site) s = s.act (isSite site) (fun m => m.endReport site) := rfl
theorem wf_stageEndReport (site : Nat) : Instr.wf (.stageEndReport site) = (isSite site) := rfl
theorem exec_stageDispatch (req : Nat) (s : State) : exec (.stageDispatch req) s = s.act (true) (fun m => m.dispatchStage req) := rfl
theorem wf_stageDispatch (req : Nat) : Instr.wf (.stageDispatch req) = (true) := rfl
theorem exec_streamFlit (site : Nat) (x : FlitHits) (s : State) : exec (.streamFlit site x) s = s.act (isSite site && isHits x.hits) (fun m => m.streamFlit site x.flit x.hits) := rfl
theorem wf_streamFlit (site : Nat) (x : FlitHits) : Instr.wf (.streamFlit site x) = (isSite site && isHits x.hits) := rfl
theorem exec_fillStart (fill : Nat) (s : State) : exec (.fillStart fill) s = s.act (true) (fun m => m.fillStart fill) := rfl
theorem wf_fillStart (fill : Nat) : Instr.wf (.fillStart fill) = (true) := rfl
theorem exec_fillGranule (site : Nat) (x : FillHit) (s : State) : exec (.fillGranule site x) s = s.act (isSite site && isBank x.bank && isHits x.fault.mesh) (fun m => m.fillStep site x.bank x.fault) := rfl
theorem wf_fillGranule (site : Nat) (x : FillHit) : Instr.wf (.fillGranule site x) = (isSite site && isBank x.bank && isHits x.fault.mesh) := rfl
theorem exec_fillEnd (site : Nat) (bank : Nat) (s : State) : exec (.fillEnd site bank) s = s.act (isSite site && isBank bank) (fun m => m.fillEnd site bank) := rfl
theorem wf_fillEnd (site : Nat) (bank : Nat) : Instr.wf (.fillEnd site bank) = (isSite site && isBank bank) := rfl
theorem exec_fillAbort (site : Nat) (bank : Nat) (s : State) : exec (.fillAbort site bank) s = s.act (isSite site && isBank bank) (fun m => m.fillAbort site bank) := rfl
theorem wf_fillAbort (site : Nat) (bank : Nat) : Instr.wf (.fillAbort site bank) = (isSite site && isBank bank) := rfl
theorem exec_bankSwitchEnd (site : Nat) (env : OpEnv) (s : State) : exec (.bankSwitchEnd site env) s = s.act (isSite site) (fun m => m.switchEnd site env) := rfl
theorem wf_bankSwitchEnd (site : Nat) (env : OpEnv) : Instr.wf (.bankSwitchEnd site env) = (isSite site) := rfl
theorem exec_spareCalled (site : Nat) (s : State) : exec (.spareCalled site) s = s.act (isSite site) (fun m => m.spareCalled site) := rfl
theorem wf_spareCalled (site : Nat) : Instr.wf (.spareCalled site) = (isSite site) := rfl
theorem exec_entryTestDone (site : Nat) (pass : Bool) (s : State) : exec (.entryTestDone site pass) s = s.act (isSite site) (fun m => m.entryTest site pass) := rfl
theorem wf_entryTestDone (site : Nat) (pass : Bool) : Instr.wf (.entryTestDone site pass) = (isSite site) := rfl
theorem exec_parkCommand (site : Nat) (s : State) : exec (.parkCommand site) s = s.act (isSite site) (fun m => m.park site) := rfl
theorem wf_parkCommand (site : Nat) : Instr.wf (.parkCommand site) = (isSite site) := rfl
theorem exec_wakeCommand (site : Nat) (s : State) : exec (.wakeCommand site) s = s.act (isSite site) (fun m => m.wake site) := rfl
theorem wf_wakeCommand (site : Nat) : Instr.wf (.wakeCommand site) = (isSite site) := rfl
theorem exec_migrationStart (site : Nat) (s : State) : exec (.migrationStart site) s = s.act (isSite site) (fun m => m.migrationStart site) := rfl
theorem wf_migrationStart (site : Nat) : Instr.wf (.migrationStart site) = (isSite site) := rfl
theorem exec_migrationDone (site : Nat) (s : State) : exec (.migrationDone site) s = s.act (isSite site) (fun m => m.migrationDone site) := rfl
theorem wf_migrationDone (site : Nat) : Instr.wf (.migrationDone site) = (isSite site) := rfl
theorem exec_tineCntClrActivity (site : Nat) (s : State) : exec (.tineCntClrActivity site) s = s.act (isSite site) (fun m => m.clrActivity site) := rfl
theorem wf_tineCntClrActivity (site : Nat) : Instr.wf (.tineCntClrActivity site) = (isSite site) := rfl
theorem exec_tineCntClrCheckfield (site : Nat) (s : State) : exec (.tineCntClrCheckfield site) s = s.act (isSite site) (fun m => m.clrCheckfield site) := rfl
theorem wf_tineCntClrCheckfield (site : Nat) : Instr.wf (.tineCntClrCheckfield site) = (isSite site) := rfl
theorem exec_tineCntClrCorr (site : Nat) (s : State) : exec (.tineCntClrCorr site) s = s.act (isSite site) (fun m => m.clrCorr site) := rfl
theorem wf_tineCntClrCorr (site : Nat) : Instr.wf (.tineCntClrCorr site) = (isSite site) := rfl
theorem exec_structVerify (s : State) : exec (.structVerify) s = s.act (true) (fun m => m.structVerify) := rfl
theorem wf_structVerify : Instr.wf (.structVerify) = (true) := rfl
theorem exec_structVerified (s : State) : exec (.structVerified) s = s.act (true) (fun m => m.structVerified) := rfl
theorem wf_structVerified : Instr.wf (.structVerified) = (true) := rfl
theorem exec_structCommit (s : State) : exec (.structCommit) s = s.act (true) (fun m => m.structCommit) := rfl
theorem wf_structCommit : Instr.wf (.structCommit) = (true) := rfl
theorem exec_structAbort (s : State) : exec (.structAbort) s = s.act (true) (fun m => m.structAbort) := rfl
theorem wf_structAbort : Instr.wf (.structAbort) = (true) := rfl
theorem exec_quiesceComplete (s : State) : exec (.quiesceComplete) s = s.act (true) (fun m => m.quiesceComplete) := rfl
theorem wf_quiesceComplete : Instr.wf (.quiesceComplete) = (true) := rfl
theorem exec_quiesceTimeout (s : State) : exec (.quiesceTimeout) s = s.act (true) (fun m => m.quiesceTimeout) := rfl
theorem wf_quiesceTimeout : Instr.wf (.quiesceTimeout) = (true) := rfl
theorem exec_structApplyDone (s : State) : exec (.structApplyDone) s = s.act (true) (fun m => m.structApplyDone) := rfl
theorem wf_structApplyDone : Instr.wf (.structApplyDone) = (true) := rfl
theorem exec_structPersist (s : State) : exec (.structPersist) s = s.act (true) (fun m => m.structPersist) := rfl
theorem wf_structPersist : Instr.wf (.structPersist) = (true) := rfl
theorem exec_structPersistDone (ok : Bool) (s : State) : exec (.structPersistDone ok) s = s.act (true) (fun m => m.structPersistDone ok) := rfl
theorem wf_structPersistDone (ok : Bool) : Instr.wf (.structPersistDone ok) = (true) := rfl
theorem exec_loadImage (q : Nat) (e : List Nat) (ins : List (Nat × Nat)) (outs : List (Nat × Nat)) (param : List Nat) (cycle : Nat) (s : State) : exec (.loadImage q e ins outs param cycle) s = s.act (isQueue q && isEntry e && isBytes param && isCycle cycle) (fun m => m.fetchOp 3 q e ins outs param cycle) := rfl
theorem wf_loadImage (q : Nat) (e : List Nat) (ins : List (Nat × Nat)) (outs : List (Nat × Nat)) (param : List Nat) (cycle : Nat) : Instr.wf (.loadImage q e ins outs param cycle) = (isQueue q && isEntry e && isBytes param && isCycle cycle) := rfl
theorem exec_loadImageCopied (ctx : Nat) (bytes : List Nat) (s : State) : exec (.loadImageCopied ctx bytes) s = s.act (below ctx 65536 && isBytes bytes) (fun m => m.loadCopied ctx bytes) := rfl
theorem wf_loadImageCopied (ctx : Nat) (bytes : List Nat) : Instr.wf (.loadImageCopied ctx bytes) = (below ctx 65536 && isBytes bytes) := rfl
theorem exec_evict (q : Nat) (e : List Nat) (ins : List (Nat × Nat)) (outs : List (Nat × Nat)) (param : List Nat) (cycle : Nat) (s : State) : exec (.evict q e ins outs param cycle) s = s.act (isQueue q && isEntry e && isBytes param && isCycle cycle) (fun m => m.fetchOp 4 q e ins outs param cycle) := rfl
theorem wf_evict (q : Nat) (e : List Nat) (ins : List (Nat × Nat)) (outs : List (Nat × Nat)) (param : List Nat) (cycle : Nat) : Instr.wf (.evict q e ins outs param cycle) = (isQueue q && isEntry e && isBytes param && isCycle cycle) := rfl
theorem exec_pin (q : Nat) (e : List Nat) (ins : List (Nat × Nat)) (outs : List (Nat × Nat)) (param : List Nat) (cycle : Nat) (s : State) : exec (.pin q e ins outs param cycle) s = s.act (isQueue q && isEntry e && isBytes param && isCycle cycle) (fun m => m.fetchOp 5 q e ins outs param cycle) := rfl
theorem wf_pin (q : Nat) (e : List Nat) (ins : List (Nat × Nat)) (outs : List (Nat × Nat)) (param : List Nat) (cycle : Nat) : Instr.wf (.pin q e ins outs param cycle) = (isQueue q && isEntry e && isBytes param && isCycle cycle) := rfl
theorem exec_query (q : Nat) (e : List Nat) (ins : List (Nat × Nat)) (outs : List (Nat × Nat)) (param : List Nat) (cycle : Nat) (s : State) : exec (.query q e ins outs param cycle) s = s.act (isQueue q && isEntry e && isBytes param && isCycle cycle) (fun m => m.fetchOp 6 q e ins outs param cycle) := rfl
theorem wf_query (q : Nat) (e : List Nat) (ins : List (Nat × Nat)) (outs : List (Nat × Nat)) (param : List Nat) (cycle : Nat) : Instr.wf (.query q e ins outs param cycle) = (isQueue q && isEntry e && isBytes param && isCycle cycle) := rfl
theorem exec_cancel (q : Nat) (e : List Nat) (ins : List (Nat × Nat)) (outs : List (Nat × Nat)) (param : List Nat) (cycle : Nat) (s : State) : exec (.cancel q e ins outs param cycle) s = s.act (isQueue q && isEntry e && isBytes param && isCycle cycle) (fun m => m.fetchOp 7 q e ins outs param cycle) := rfl
theorem wf_cancel (q : Nat) (e : List Nat) (ins : List (Nat × Nat)) (outs : List (Nat × Nat)) (param : List Nat) (cycle : Nat) : Instr.wf (.cancel q e ins outs param cycle) = (isQueue q && isEntry e && isBytes param && isCycle cycle) := rfl
theorem exec_invoke (q : Nat) (e : List Nat) (ins : List (Nat × Nat)) (outs : List (Nat × Nat)) (param : List Nat) (cycle : Nat) (s : State) : exec (.invoke q e ins outs param cycle) s = s.act (isQueue q && isEntry e && isBytes param && isCycle cycle) (fun m => m.fetchOp 1 q e ins outs param cycle) := rfl
theorem wf_invoke (q : Nat) (e : List Nat) (ins : List (Nat × Nat)) (outs : List (Nat × Nat)) (param : List Nat) (cycle : Nat) : Instr.wf (.invoke q e ins outs param cycle) = (isQueue q && isEntry e && isBytes param && isCycle cycle) := rfl
theorem exec_invokeChain (q : Nat) (e : List Nat) (ins : List (Nat × Nat)) (outs : List (Nat × Nat)) (param : List Nat) (cycle : Nat) (s : State) : exec (.invokeChain q e ins outs param cycle) s = s.act (isQueue q && isEntry e && isBytes param && isCycle cycle) (fun m => m.fetchOp 2 q e ins outs param cycle) := rfl
theorem wf_invokeChain (q : Nat) (e : List Nat) (ins : List (Nat × Nat)) (outs : List (Nat × Nat)) (param : List Nat) (cycle : Nat) : Instr.wf (.invokeChain q e ins outs param cycle) = (isQueue q && isEntry e && isBytes param && isCycle cycle) := rfl
theorem exec_scrubRead (e : Nat) (s : State) : exec (.scrubRead e) s = s.act (below e (2 ^ 144)) (fun m => m.scrubRead e) := rfl
theorem wf_scrubRead (e : Nat) : Instr.wf (.scrubRead e) = (below e (2 ^ 144)) := rfl
theorem exec_gddr7TempRead (dev : Nat) (t : Int) (s : State) : exec (.gddr7TempRead dev t) s = s.act (below dev 12) (fun m => m.gddrTemp dev t) := rfl
theorem wf_gddr7TempRead (dev : Nat) (t : Int) : Instr.wf (.gddr7TempRead dev t) = (below dev 12) := rfl
theorem exec_cxlLinkDown (p : Nat) (s : State) : exec (.cxlLinkDown p) s = s.act (below p 2) (fun m => m.cxlDown p) := rfl
theorem wf_cxlLinkDown (p : Nat) : Instr.wf (.cxlLinkDown p) = (below p 2) := rfl
theorem exec_cxlRetrainEnd (p : Nat) (dev : Option CxlDevice) (s : State) : exec (.cxlRetrainEnd p dev) s = s.act (below p 2) (fun m => m.cxlRetrain p dev) := rfl
theorem wf_cxlRetrainEnd (p : Nat) (dev : Option CxlDevice) : Instr.wf (.cxlRetrainEnd p dev) = (below p 2) := rfl
theorem exec_cxlBringup (p : Nat) (dev : CxlDevice) (s : State) : exec (.cxlBringup p dev) s = s.act (below p 2) (fun m => m.cxlBringup p dev) := rfl
theorem wf_cxlBringup (p : Nat) (dev : CxlDevice) : Instr.wf (.cxlBringup p dev) = (below p 2) := rfl
theorem exec_memHostRegionWrite (v : Nat) (s : State) : exec (.memHostRegionWrite v) s = s.act (isWord v) (fun m => m.hostRegionWrite v) := rfl
theorem wf_memHostRegionWrite (v : Nat) : Instr.wf (.memHostRegionWrite v) = (isWord v) := rfl
theorem exec_memCntClrCirque (s : State) : exec (.memCntClrCirque) s = s.act (true) (fun m => m.clrCirque) := rfl
theorem wf_memCntClrCirque : Instr.wf (.memCntClrCirque) = (true) := rfl
theorem exec_memCntClrDev (s : State) : exec (.memCntClrDev) s = s.act (true) (fun m => m.clrDev) := rfl
theorem wf_memCntClrDev : Instr.wf (.memCntClrDev) = (true) := rfl
theorem exec_bar4Read (o : Nat) (n : Nat) (s : State) : exec (.bar4Read o n) s = s.act (true) (fun m => m.bar4Read o n) := rfl
theorem wf_bar4Read (o : Nat) (n : Nat) : Instr.wf (.bar4Read o n) = (true) := rfl
theorem exec_bar4Write (o : Nat) (bytes : List Nat) (s : State) : exec (.bar4Write o bytes) s = s.act (isBytes bytes) (fun m => m.bar4Write o bytes) := rfl
theorem wf_bar4Write (o : Nat) (bytes : List Nat) : Instr.wf (.bar4Write o bytes) = (isBytes bytes) := rfl
theorem exec_hubApertureBaseWrite (v : Nat) (s : State) : exec (.hubApertureBaseWrite v) s = s.act (isWord v) (fun m => m.apertureWrite v) := rfl
theorem wf_hubApertureBaseWrite (v : Nat) : Instr.wf (.hubApertureBaseWrite v) = (isWord v) := rfl
theorem exec_releaseGateOpen (cycle : Nat) (s : State) : exec (.releaseGateOpen cycle) s = s.act (isCycle cycle) (fun m => m.releaseGate cycle) := rfl
theorem wf_releaseGateOpen (cycle : Nat) : Instr.wf (.releaseGateOpen cycle) = (isCycle cycle) := rfl
theorem exec_admCntClrPeak (s : State) : exec (.admCntClrPeak) s = s.act (true) (fun m => m.clrPeak) := rfl
theorem wf_admCntClrPeak : Instr.wf (.admCntClrPeak) = (true) := rfl
theorem exec_admCntClrReasons (s : State) : exec (.admCntClrReasons) s = s.act (true) (fun m => m.clrReasons) := rfl
theorem wf_admCntClrReasons : Instr.wf (.admCntClrReasons) = (true) := rfl
theorem exec_admCntClrOutcomes (s : State) : exec (.admCntClrOutcomes) s = s.act (true) (fun m => m.clrOutcomes) := rfl
theorem wf_admCntClrOutcomes : Instr.wf (.admCntClrOutcomes) = (true) := rfl
theorem exec_sqTailDoorbell (q : Nat) (v : Nat) (s : State) : exec (.sqTailDoorbell q v) s = s.act (isQueue q && isWord v) (fun m => m.sqTail q v) := rfl
theorem wf_sqTailDoorbell (q : Nat) (v : Nat) : Instr.wf (.sqTailDoorbell q v) = (isQueue q && isWord v) := rfl
theorem exec_cqHeadDoorbell (q : Nat) (v : Nat) (s : State) : exec (.cqHeadDoorbell q v) s = s.act (isQueue q && isWord v) (fun m => m.cqHead q v) := rfl
theorem wf_cqHeadDoorbell (q : Nat) (v : Nat) : Instr.wf (.cqHeadDoorbell q v) = (isQueue q && isWord v) := rfl
theorem exec_sqEntryFetched (q : Nat) (e : List Nat) (data : EntryData) (cycle : Nat) (s : State) : exec (.sqEntryFetched q e data cycle) s = s.act (isQueue q && isEntry e && isBytes data.param && isCycle cycle) (fun m => m.sqEntry q e data cycle) := rfl
theorem wf_sqEntryFetched (q : Nat) (e : List Nat) (data : EntryData) (cycle : Nat) : Instr.wf (.sqEntryFetched q e data cycle) = (isQueue q && isEntry e && isBytes data.param && isCycle cycle) := rfl
theorem exec_sqFetchError (q : Nat) (s : State) : exec (.sqFetchError q) s = s.act (isQueue q) (fun m => m.sqFetchError q) := rfl
theorem wf_sqFetchError (q : Nat) : Instr.wf (.sqFetchError q) = (isQueue q) := rfl
theorem exec_entryTaken (q : Nat) (cid : Nat) (data : List Nat) (cycle : Nat) (s : State) : exec (.entryTaken q cid data cycle) s = s.act (isQueue q && below cid 65536 && isBytes data && isCycle cycle) (fun m => m.inputCopied q cid data cycle) := rfl
theorem wf_entryTaken (q : Nat) (cid : Nat) (data : List Nat) (cycle : Nat) : Instr.wf (.entryTaken q cid data cycle) = (isQueue q && below cid 65536 && isBytes data && isCycle cycle) := rfl
theorem exec_hostReadFail (q : Nat) (cid : Nat) (cycle : Nat) (s : State) : exec (.hostReadFail q cid cycle) s = s.act (isQueue q && below cid 65536 && isCycle cycle) (fun m => m.hostReadFail q cid cycle) := rfl
theorem wf_hostReadFail (q : Nat) (cid : Nat) (cycle : Nat) : Instr.wf (.hostReadFail q cid cycle) = (isQueue q && below cid 65536 && isCycle cycle) := rfl
theorem exec_createQueue (e : List Nat) (s : State) : exec (.createQueue e) s = s.act (isEntry e) (fun m => m.createQueue e) := rfl
theorem wf_createQueue (e : List Nat) : Instr.wf (.createQueue e) = (isEntry e) := rfl
theorem exec_deleteQueue (e : List Nat) (s : State) : exec (.deleteQueue e) s = s.act (isEntry e) (fun m => m.deleteQueue e) := rfl
theorem wf_deleteQueue (e : List Nat) : Instr.wf (.deleteQueue e) = (isEntry e) := rfl
theorem exec_queueDrainDone (q : Nat) (s : State) : exec (.queueDrainDone q) s = s.act (isQueue q) (fun m => m.queueDrained q) := rfl
theorem wf_queueDrainDone (q : Nat) : Instr.wf (.queueDrainDone q) = (isQueue q) := rfl
theorem exec_bind (e : List Nat) (s : State) : exec (.bind e) s = s.act (isEntry e) (fun m => m.bindCtx e) := rfl
theorem wf_bind (e : List Nat) : Instr.wf (.bind e) = (isEntry e) := rfl
theorem exec_unbind (e : List Nat) (s : State) : exec (.unbind e) s = s.act (isEntry e) (fun m => m.unbindCtx e) := rfl
theorem wf_unbind (e : List Nat) : Instr.wf (.unbind e) = (isEntry e) := rfl
theorem exec_queEnable (s : State) : exec (.queEnable) s = s.act (true) (fun m => m.queEnable) := rfl
theorem wf_queEnable : Instr.wf (.queEnable) = (true) := rfl
theorem exec_queue0Enabled (s : State) : exec (.queue0Enabled) s = s.act (true) (fun m => m.queue0Enabled) := rfl
theorem wf_queue0Enabled : Instr.wf (.queue0Enabled) = (true) := rfl
theorem exec_queDisable (s : State) : exec (.queDisable) s = s.act (true) (fun m => m.queDisable) := rfl
theorem wf_queDisable : Instr.wf (.queDisable) = (true) := rfl
theorem exec_pcieReset (s : State) : exec (.pcieReset) s = s.act (true) (fun m => m.pcieReset) := rfl
theorem wf_pcieReset : Instr.wf (.pcieReset) = (true) := rfl
theorem exec_fabricRequest (p : Nat) (vc : Nat) (cycle : Nat) (s : State) : exec (.fabricRequest p vc cycle) s = s.act (isPort p && isVc vc && isCycle cycle) (fun m => m.fabricRequest p vc cycle) := rfl
theorem wf_fabricRequest (p : Nat) (vc : Nat) (cycle : Nat) : Instr.wf (.fabricRequest p vc cycle) = (isPort p && isVc vc && isCycle cycle) := rfl
theorem exec_reply (p : Nat) (vc : Nat) (s : State) : exec (.reply p vc) s = s.act (isPort p && isVc vc) (fun m => m.replyPacket p vc) := rfl
theorem wf_reply (p : Nat) (vc : Nat) : Instr.wf (.reply p vc) = (isPort p && isVc vc) := rfl
theorem exec_quote (p : Nat) (number : Nat) (x : QuoteBody) (s : State) : exec (.quote p number x) s = s.act (isPort p && below number 65536 && isCycle x.cycle) (fun m => m.quotePacket p number x.durations x.cycle) := rfl
theorem wf_quote (p : Nat) (number : Nat) (x : QuoteBody) : Instr.wf (.quote p number x) = (isPort p && below number 65536 && isCycle x.cycle) := rfl
theorem exec_subreq (p : Nat) (vc : Nat) (number : Nat) (cid : Nat) (seed : Nat) (flat : Nat) (outCap : Nat) (data : List Nat) (cycle : Nat) (s : State) : exec (.subreq p vc number cid seed flat outCap data cycle) s = s.act (isPort p && isVc vc && below number 65536 && below cid 65536 && isWord seed && isWord flat && isBytes data && isCycle cycle) (fun m => m.subreqPacket p vc number cid seed flat outCap data cycle) := rfl
theorem wf_subreq (p : Nat) (vc : Nat) (number : Nat) (cid : Nat) (seed : Nat) (flat : Nat) (outCap : Nat) (data : List Nat) (cycle : Nat) : Instr.wf (.subreq p vc number cid seed flat outCap data cycle) = (isPort p && isVc vc && below number 65536 && below cid 65536 && isWord seed && isWord flat && isBytes data && isCycle cycle) := rfl
theorem exec_streamPacket (p : Nat) (vc : Nat) (fromSlice : Nat) (s : State) : exec (.streamPacket p vc fromSlice) s = s.act (isPort p && isVc vc && below fromSlice 64) (fun m => m.streamPacket p vc fromSlice) := rfl
theorem wf_streamPacket (p : Nat) (vc : Nat) (fromSlice : Nat) : Instr.wf (.streamPacket p vc fromSlice) = (isPort p && isVc vc && below fromSlice 64) := rfl
theorem exec_packetForward (p : Nat) (vc : Nat) (s : State) : exec (.packetForward p vc) s = s.act (isPort p && isVc vc) (fun m => m.packetForward p vc) := rfl
theorem wf_packetForward (p : Nat) (vc : Nat) : Instr.wf (.packetForward p vc) = (isPort p && isVc vc) := rfl
theorem exec_notice (p : Nat) (group : Bool) (target : Nat) (down : Bool) (s : State) : exec (.notice p group target down) s = s.act (isPort p && below target (if group then 512 else 32)) (fun m => m.noticePacket p group target down) := rfl
theorem wf_notice (p : Nat) (group : Bool) (target : Nat) (down : Bool) : Instr.wf (.notice p group target down) = (isPort p && below target (if group then 512 else 32)) := rfl
theorem exec_noticeSend (p : Nat) (s : State) : exec (.noticeSend p) s = s.act (isPort p) (fun m => m.noticeSend p) := rfl
theorem wf_noticeSend (p : Nat) : Instr.wf (.noticeSend p) = (isPort p) := rfl
theorem exec_messageReassemblyTimeout (src : Nat) (tag : Nat) (vc : Nat) (s : State) : exec (.messageReassemblyTimeout src tag vc) s = s.act (below src (2 ^ 20) && below tag 65536 && isVc vc) (fun m => m.reassemblyTimeout src tag vc) := rfl
theorem wf_messageReassemblyTimeout (src : Nat) (tag : Nat) (vc : Nat) : Instr.wf (.messageReassemblyTimeout src tag vc) = (below src (2 ^ 20) && below tag 65536 && isVc vc) := rfl
theorem exec_fabricJoin (e : List Nat) (s : State) : exec (.fabricJoin e) s = s.act (isEntry e) (fun m => m.fabricJoin e) := rfl
theorem wf_fabricJoin (e : List Nat) : Instr.wf (.fabricJoin e) = (isEntry e) := rfl
theorem exec_fabricLeave (e : List Nat) (s : State) : exec (.fabricLeave e) s = s.act (isEntry e) (fun m => m.fabricLeave e) := rfl
theorem wf_fabricLeave (e : List Nat) : Instr.wf (.fabricLeave e) = (isEntry e) := rfl
theorem exec_fabricLeaveDone (s : State) : exec (.fabricLeaveDone) s = s.act (true) (fun m => m.fabricLeft) := rfl
theorem wf_fabricLeaveDone : Instr.wf (.fabricLeaveDone) = (true) := rfl
theorem exec_rteCommit (s : State) : exec (.rteCommit) s = s.act (true) (fun m => m.rteCommit) := rfl
theorem wf_rteCommit : Instr.wf (.rteCommit) = (true) := rfl
theorem exec_shadowTableWrite (table : Nat) (index : Nat) (v : Nat) (s : State) : exec (.shadowTableWrite table index v) s = s.act (below table 4 && below index 1024 && isWord v) (fun m => m.shadowWrite table index v) := rfl
theorem wf_shadowTableWrite (table : Nat) (index : Nat) (v : Nat) : Instr.wf (.shadowTableWrite table index v) = (below table 4 && below index 1024 && isWord v) := rfl
theorem exec_rteClrAll (s : State) : exec (.rteClrAll) s = s.act (true) (fun m => m.rteClr) := rfl
theorem wf_rteClrAll : Instr.wf (.rteClrAll) = (true) := rfl
theorem exec_dataFlit (p : Nat) (hdr : Nat) (grans : List (Nat × Nat)) (late : Bool) (s : State) : exec (.dataFlit p hdr grans late) s = s.act (isPort p && isGran hdr && decide (grans.length = 15)) (fun m => m.dataFlit p hdr grans late) := rfl
theorem wf_dataFlit (p : Nat) (hdr : Nat) (grans : List (Nat × Nat)) (late : Bool) : Instr.wf (.dataFlit p hdr grans late) = (isPort p && isGran hdr && decide (grans.length = 15)) := rfl
theorem exec_idleFlit (p : Nat) (hdr : Nat) (late : Bool) (s : State) : exec (.idleFlit p hdr late) s = s.act (isPort p && isGran hdr) (fun m => m.idleFlit p hdr late) := rfl
theorem wf_idleFlit (p : Nat) (hdr : Nat) (late : Bool) : Instr.wf (.idleFlit p hdr late) = (isPort p && isGran hdr) := rfl
theorem exec_flitCrcFail (p : Nat) (s : State) : exec (.flitCrcFail p) s = s.act (isPort p) (fun m => m.badFlit p) := rfl
theorem wf_flitCrcFail (p : Nat) : Instr.wf (.flitCrcFail p) = (isPort p) := rfl
theorem exec_ackTimeout (p : Nat) (s : State) : exec (.ackTimeout p) s = s.act (isPort p) (fun m => m.ackTimeout p) := rfl
theorem wf_ackTimeout (p : Nat) : Instr.wf (.ackTimeout p) = (isPort p) := rfl
theorem exec_init (p : Nat) (pkg : Nat) (port : Nat) (serial : Nat) (role : Nat) (next : Nat) (seen : Bool) (advH : List Nat) (advD : List Nat) (s : State) : exec (.init p pkg port serial role next seen advH advD) s = s.act (isPort p && below pkg 16384 && isPort port && below serial (2 ^ 64) && below role 4 && below next 65536 && decide (advH.length = 8) && decide (advD.length = 8)) (fun m => m.initFlit p pkg port serial role next seen advH advD) := rfl
theorem wf_init (p : Nat) (pkg : Nat) (port : Nat) (serial : Nat) (role : Nat) (next : Nat) (seen : Bool) (advH : List Nat) (advD : List Nat) : Instr.wf (.init p pkg port serial role next seen advH advD) = (isPort p && below pkg 16384 && isPort port && below serial (2 ^ 64) && below role 4 && below next 65536 && decide (advH.length = 8) && decide (advD.length = 8)) := rfl
theorem exec_retrainReq (p : Nat) (hdr : Nat) (late : Bool) (kind : Nat) (s : State) : exec (.retrainReq p hdr late kind) s = s.act (isPort p && isGran hdr && below kind 2) (fun m => m.ctlFlit p hdr late (fun m => m.retrainReq p kind)) := rfl
theorem wf_retrainReq (p : Nat) (hdr : Nat) (late : Bool) (kind : Nat) : Instr.wf (.retrainReq p hdr late kind) = (isPort p && isGran hdr && below kind 2) := rfl
theorem exec_mapPropose (p : Nat) (hdr : Nat) (late : Bool) (map : Nat) (x : Nat) (clk : Nat) (passed : Bool) (s : State) : exec (.mapPropose p hdr late map x clk passed) s = s.act (isPort p && isGran hdr && below map 65536 && isWord x && below clk 32) (fun m => m.ctlFlit p hdr late (fun m => m.mapPropose p map x clk passed)) := rfl
theorem wf_mapPropose (p : Nat) (hdr : Nat) (late : Bool) (map : Nat) (x : Nat) (clk : Nat) (passed : Bool) : Instr.wf (.mapPropose p hdr late map x clk passed) = (isPort p && isGran hdr && below map 65536 && isWord x && below clk 32) := rfl
theorem exec_mapRequest (p : Nat) (hdr : Nat) (late : Bool) (map : Nat) (x : Nat) (clk : Nat) (passed : Bool) (s : State) : exec (.mapRequest p hdr late map x clk passed) s = s.act (isPort p && isGran hdr && below map 65536 && isWord x && below clk 32) (fun m => m.ctlFlit p hdr late (fun m => m.mapRequest p map x clk passed)) := rfl
theorem wf_mapRequest (p : Nat) (hdr : Nat) (late : Bool) (map : Nat) (x : Nat) (clk : Nat) (passed : Bool) : Instr.wf (.mapRequest p hdr late map x clk passed) = (isPort p && isGran hdr && below map 65536 && isWord x && below clk 32) := rfl
theorem exec_mapAck (p : Nat) (hdr : Nat) (late : Bool) (x : Nat) (map : Nat) (s : State) : exec (.mapAck p hdr late x map) s = s.act (isPort p && isGran hdr && below map 65536 && isWord x) (fun m => m.ctlFlit p hdr late (fun m => m.mapAck p x map)) := rfl
theorem wf_mapAck (p : Nat) (hdr : Nat) (late : Bool) (x : Nat) (map : Nat) : Instr.wf (.mapAck p hdr late x map) = (isPort p && isGran hdr && below map 65536 && isWord x) := rfl
theorem exec_mapReject (p : Nat) (hdr : Nat) (late : Bool) (x : Nat) (reason : Nat) (s : State) : exec (.mapReject p hdr late x reason) s = s.act (isPort p && isGran hdr && isWord x && below reason 256) (fun m => m.ctlFlit p hdr late (fun m => m.mapReject p x reason)) := rfl
theorem wf_mapReject (p : Nat) (hdr : Nat) (late : Bool) (x : Nat) (reason : Nat) : Instr.wf (.mapReject p hdr late x reason) = (isPort p && isGran hdr && isWord x && below reason 256) := rfl
theorem exec_creditAudit (p : Nat) (hdr : Nat) (late : Bool) (counts : List (Nat × Nat × Nat × Nat × Nat × Nat)) (s : State) : exec (.creditAudit p hdr late counts) s = s.act (isPort p && isGran hdr && decide (counts.length = 8)) (fun m => m.ctlFlit p hdr late (fun m => m.creditAudit p counts)) := rfl
theorem wf_creditAudit (p : Nat) (hdr : Nat) (late : Bool) (counts : List (Nat × Nat × Nat × Nat × Nat × Nat)) : Instr.wf (.creditAudit p hdr late counts) = (isPort p && isGran hdr && decide (counts.length = 8)) := rfl
theorem exec_loopReq (p : Nat) (hdr : Nat) (late : Bool) (s : State) : exec (.loopReq p hdr late) s = s.act (isPort p && isGran hdr) (fun m => m.ctlFlit p hdr late (fun m => m.loopReq p)) := rfl
theorem wf_loopReq (p : Nat) (hdr : Nat) (late : Bool) : Instr.wf (.loopReq p hdr late) = (isPort p && isGran hdr) := rfl
theorem exec_mapSwitch (p : Nat) (fibre : Nat) (s : State) : exec (.mapSwitch p fibre) s = s.act (isPort p && below fibre 2) (fun m => m.mapSwitch p fibre) := rfl
theorem wf_mapSwitch (p : Nat) (fibre : Nat) : Instr.wf (.mapSwitch p fibre) = (isPort p && below fibre 2) := rfl
theorem exec_mapRequestTimeout (p : Nat) (s : State) : exec (.mapRequestTimeout p) s = s.act (isPort p) (fun m => m.mapTimeout p) := rfl
theorem wf_mapRequestTimeout (p : Nat) : Instr.wf (.mapRequestTimeout p) = (isPort p) := rfl
theorem exec_slotLost (p : Nat) (slot : Nat) (s : State) : exec (.slotLost p slot) s = s.act (isPort p && below slot 16) (fun m => m.slotLost p slot) := rfl
theorem wf_slotLost (p : Nat) (slot : Nat) : Instr.wf (.slotLost p slot) = (isPort p && below slot 16) := rfl
theorem exec_crcFailTimeout (p : Nat) (s : State) : exec (.crcFailTimeout p) s = s.act (isPort p) (fun m => m.retrainAsk p) := rfl
theorem wf_crcFailTimeout (p : Nat) : Instr.wf (.crcFailTimeout p) = (isPort p) := rfl
theorem exec_waveRetry (p : Nat) (s : State) : exec (.waveRetry p) s = s.act (isPort p) (fun m => m.waveRetry p) := rfl
theorem wf_waveRetry (p : Nat) : Instr.wf (.waveRetry p) = (isPort p) := rfl
theorem exec_linkGrace (p : Nat) (s : State) : exec (.linkGrace p) s = s.act (isPort p) (fun m => m.linkGrace p) := rfl
theorem wf_linkGrace (p : Nat) : Instr.wf (.linkGrace p) = (isPort p) := rfl
theorem exec_graceExpiry (p : Nat) (s : State) : exec (.graceExpiry p) s = s.act (isPort p) (fun m => m.graceExpiry p) := rfl
theorem wf_graceExpiry (p : Nat) : Instr.wf (.graceExpiry p) = (isPort p) := rfl
theorem exec_initRetry (p : Nat) (s : State) : exec (.initRetry p) s = s.act (isPort p) (fun m => m.initRetry p) := rfl
theorem wf_initRetry (p : Nat) : Instr.wf (.initRetry p) = (isPort p) := rfl
theorem exec_phyPortUp (p : Nat) (txMap : Nat) (rxMap : Nat) (eyes : Bool) (s : State) : exec (.phyPortUp p txMap rxMap eyes) s = s.act (isPort p && below txMap 65536 && below rxMap 65536) (fun m => m.phyUp p txMap rxMap eyes) := rfl
theorem wf_phyPortUp (p : Nat) (txMap : Nat) (rxMap : Nat) (eyes : Bool) : Instr.wf (.phyPortUp p txMap rxMap eyes) = (isPort p && below txMap 65536 && below rxMap 65536) := rfl
theorem exec_flushNow (p : Nat) (s : State) : exec (.flushNow p) s = s.act (isPort p) (fun m => m.flushNow p) := rfl
theorem wf_flushNow (p : Nat) : Instr.wf (.flushNow p) = (isPort p) := rfl
theorem exec_retrainFull (p : Nat) (s : State) : exec (.retrainFull p) s = s.act (isPort p) (fun m => m.retrainAsk p) := rfl
theorem wf_retrainFull (p : Nat) : Instr.wf (.retrainFull p) = (isPort p) := rfl
theorem exec_reinit (p : Nat) (s : State) : exec (.reinit p) s = s.act (isPort p) (fun m => m.reinitAsk p) := rfl
theorem wf_reinit (p : Nat) : Instr.wf (.reinit p) = (isPort p) := rfl
theorem exec_fabClrAll (p : Nat) (s : State) : exec (.fabClrAll p) s = s.act (isPort p) (fun m => m.fabClr p) := rfl
theorem wf_fabClrAll (p : Nat) : Instr.wf (.fabClrAll p) = (isPort p) := rfl
theorem exec_ringLockLoss (p : Nat) (slot : Nat) (tx : Bool) (s : State) : exec (.ringLockLoss p slot tx) s = s.act (isPort p && below slot 17) (fun m => m.ringLost p slot tx) := rfl
theorem wf_ringLockLoss (p : Nat) (slot : Nat) (tx : Bool) : Instr.wf (.ringLockLoss p slot tx) = (isPort p && below slot 17) := rfl
theorem exec_clkLost (p : Nat) (s : State) : exec (.clkLost p) s = s.act (isPort p) (fun m => m.clkLost p) := rfl
theorem wf_clkLost (p : Nat) : Instr.wf (.clkLost p) = (isPort p) := rfl
theorem exec_clockFallbackLock (p : Nat) (s : State) : exec (.clockFallbackLock p) s = s.act (isPort p) (fun m => m.fallbackLock p) := rfl
theorem wf_clockFallbackLock (p : Nat) : Instr.wf (.clockFallbackLock p) = (isPort p) := rfl
theorem exec_fallbackExit (p : Nat) (s : State) : exec (.fallbackExit p) s = s.act (isPort p) (fun m => m.fallbackExit p) := rfl
theorem wf_fallbackExit (p : Nat) : Instr.wf (.fallbackExit p) = (isPort p) := rfl
theorem exec_setf (e : Nat) (t : Nat) (s : State) : exec (.setf e t) s = s.act (isEngine e) (fun m => m.seqSetf e t) := rfl
theorem wf_setf (e : Nat) (t : Nat) : Instr.wf (.setf e t) = (isEngine e) := rfl
theorem exec_setfs (e : Nat) (t : Nat) (s : State) : exec (.setfs e t) s = s.act (isEngine e) (fun m => m.seqSetfs e t) := rfl
theorem wf_setfs (e : Nat) (t : Nat) : Instr.wf (.setfs e t) = (isEngine e) := rfl
theorem exec_getf (e : Nat) (t : Nat) (sensed : Nat) (s : State) : exec (.getf e t sensed) s = s.act (isEngine e && isWord sensed) (fun m => m.seqGetf e t sensed) := rfl
theorem wf_getf (e : Nat) (t : Nat) (sensed : Nat) : Instr.wf (.getf e t sensed) = (isEngine e && isWord sensed) := rfl
theorem exec_loads (e : Nat) (t : Nat) (s : State) : exec (.loads e t) s = s.act (isEngine e) (fun m => m.seqLoads e t) := rfl
theorem wf_loads (e : Nat) (t : Nat) : Instr.wf (.loads e t) = (isEngine e) := rfl
theorem exec_adds (e : Nat) (t : Nat) (s : State) : exec (.adds e t) s = s.act (isEngine e) (fun m => m.seqAdds e t) := rfl
theorem wf_adds (e : Nat) (t : Nat) : Instr.wf (.adds e t) = (isEngine e) := rfl
theorem exec_wait (e : Nat) (s : State) : exec (.wait e) s = s.act (isEngine e) (fun m => m.seqWaitStep e) := rfl
theorem wf_wait (e : Nat) : Instr.wf (.wait e) = (isEngine e) := rfl
theorem exec_poll (e : Nat) (t : Nat) (sensed : Nat) (s : State) : exec (.poll e t sensed) s = s.act (isEngine e && isWord sensed) (fun m => m.seqPoll e t sensed) := rfl
theorem wf_poll (e : Nat) (t : Nat) (sensed : Nat) : Instr.wf (.poll e t sensed) = (isEngine e && isWord sensed) := rfl
theorem exec_brs (e : Nat) (t : Nat) (s : State) : exec (.brs e t) s = s.act (isEngine e) (fun m => m.seqBrs e t) := rfl
theorem wf_brs (e : Nat) (t : Nat) : Instr.wf (.brs e t) = (isEngine e) := rfl
theorem exec_measure (e : Nat) (t : Nat) (res : Option Nat) (s : State) : exec (.measure e t res) s = s.act (isEngine e) (fun m => m.seqMeasure e t res) := rfl
theorem wf_measure (e : Nat) (t : Nat) (res : Option Nat) : Instr.wf (.measure e t res) = (isEngine e) := rfl
theorem exec_done (e : Nat) (one : Bool) (s : State) : exec (.done e one) s = s.act (isEngine e) (fun m => m.seqFinish e true one) := rfl
theorem wf_done (e : Nat) (one : Bool) : Instr.wf (.done e one) = (isEngine e) := rfl
theorem exec_fail (e : Nat) (one : Bool) (s : State) : exec (.fail e one) s = s.act (isEngine e) (fun m => m.seqFinish e false one) := rfl
theorem wf_fail (e : Nat) (one : Bool) : Instr.wf (.fail e one) = (isEngine e) := rfl
theorem exec_seqLimitExceeded (e : Nat) (t : Nat) (s : State) : exec (.seqLimitExceeded e t) s = s.act (isEngine e) (fun m => m.seqLimit e t) := rfl
theorem wf_seqLimitExceeded (e : Nat) (t : Nat) : Instr.wf (.seqLimitExceeded e t) = (isEngine e) := rfl
theorem exec_laserLocked (bank : Nat) (slot : Nat) (unit : Nat) (s : State) : exec (.laserLocked bank slot unit) s = s.act (below bank 4 && below slot 17 && below unit 2) (fun m => m.laserLocked bank slot unit) := rfl
theorem wf_laserLocked (bank : Nat) (slot : Nat) (unit : Nat) : Instr.wf (.laserLocked bank slot unit) = (below bank 4 && below slot 17 && below unit 2) := rfl
theorem exec_laserWarmTimeout (bank : Nat) (slot : Nat) (unit : Nat) (s : State) : exec (.laserWarmTimeout bank slot unit) s = s.act (below bank 4 && below slot 17 && below unit 2) (fun m => m.laserTimeout bank slot unit) := rfl
theorem wf_laserWarmTimeout (bank : Nat) (slot : Nat) (unit : Nat) : Instr.wf (.laserWarmTimeout bank slot unit) = (below bank 4 && below slot 17 && below unit 2) := rfl
theorem exec_laserFail (bank : Nat) (slot : Nat) (unit : Nat) (s : State) : exec (.laserFail bank slot unit) s = s.act (below bank 4 && below slot 17 && below unit 2) (fun m => m.laserFail bank slot unit) := rfl
theorem wf_laserFail (bank : Nat) (slot : Nat) (unit : Nat) : Instr.wf (.laserFail bank slot unit) = (below bank 4 && below slot 17 && below unit 2) := rfl
theorem exec_laserOverpower (bank : Nat) (slot : Nat) (unit : Nat) (reading : Nat) (s : State) : exec (.laserOverpower bank slot unit reading) s = s.act (below bank 4 && below slot 17 && below unit 2) (fun m => m.laserOver bank slot unit reading) := rfl
theorem wf_laserOverpower (bank : Nat) (slot : Nat) (unit : Nat) (reading : Nat) : Instr.wf (.laserOverpower bank slot unit reading) = (below bank 4 && below slot 17 && below unit 2) := rfl
theorem exec_eolWarn (bank : Nat) (slot : Nat) (ratio : Nat) (s : State) : exec (.eolWarn bank slot ratio) s = s.act (below bank 4 && below slot 17) (fun m => m.eolWarn bank slot ratio) := rfl
theorem wf_eolWarn (bank : Nat) (slot : Nat) (ratio : Nat) : Instr.wf (.eolWarn bank slot ratio) = (below bank 4 && below slot 17) := rfl
theorem exec_lasSwap (bank : Nat) (slot : Nat) (s : State) : exec (.lasSwap bank slot) s = s.act (below bank 4 && below slot 32) (fun m => m.askSwap bank slot) := rfl
theorem wf_lasSwap (bank : Nat) (slot : Nat) : Instr.wf (.lasSwap bank slot) = (below bank 4 && below slot 32) := rfl
theorem exec_plannedSwap (bank : Nat) (s : State) : exec (.plannedSwap bank) s = s.act (below bank 4) (fun m => m.plannedSwap bank) := rfl
theorem wf_plannedSwap (bank : Nat) : Instr.wf (.plannedSwap bank) = (below bank 4) := rfl
theorem exec_swapRemoval (bank : Nat) (s : State) : exec (.swapRemoval bank) s = s.act (below bank 4) (fun m => m.swapRemoval bank) := rfl
theorem wf_swapRemoval (bank : Nat) : Instr.wf (.swapRemoval bank) = (below bank 4) := rfl
theorem exec_swapDeferral (bank : Nat) (s : State) : exec (.swapDeferral bank) s = s.act (below bank 4) (fun m => m.swapDeferral bank) := rfl
theorem wf_swapDeferral (bank : Nat) : Instr.wf (.swapDeferral bank) = (below bank 4) := rfl
theorem exec_swapDone (bank : Nat) (s : State) : exec (.swapDone bank) s = s.act (below bank 4) (fun m => m.swapDone bank) := rfl
theorem wf_swapDone (bank : Nat) : Instr.wf (.swapDone bank) = (below bank 4) := rfl
theorem exec_fibreOverpower (p : Nat) (reading : Nat) (s : State) : exec (.fibreOverpower p reading) s = s.act (isPort p) (fun m => m.overpower p reading) := rfl
theorem wf_fibreOverpower (p : Nat) (reading : Nat) : Instr.wf (.fibreOverpower p reading) = (isPort p) := rfl
theorem exec_clearSafety (p : Nat) (s : State) : exec (.clearSafety p) s = s.act (isPort p) (fun m => m.clearSafety p) := rfl
theorem wf_clearSafety (p : Nat) : Instr.wf (.clearSafety p) = (isPort p) := rfl
theorem exec_fibreDark (p : Nat) (s : State) : exec (.fibreDark p) s = s.act (isPort p) (fun m => m.fibreDark p) := rfl
theorem wf_fibreDark (p : Nat) : Instr.wf (.fibreDark p) = (isPort p) := rfl
theorem exec_safeProbe (p : Nat) (s : State) : exec (.safeProbe p) s = s.act (isPort p) (fun m => m.safeProbe p) := rfl
theorem wf_safeProbe (p : Nat) : Instr.wf (.safeProbe p) = (isPort p) := rfl
theorem exec_probeReceived (p : Nat) (s : State) : exec (.probeReceived p) s = s.act (isPort p) (fun m => m.probeSeen p) := rfl
theorem wf_probeReceived (p : Nat) : Instr.wf (.probeReceived p) = (isPort p) := rfl
theorem exec_firnRetrain (p : Nat) (s : State) : exec (.firnRetrain p) s = s.act (isPort p) (fun m => m.firnRetrain p) := rfl
theorem wf_firnRetrain (p : Nat) : Instr.wf (.firnRetrain p) = (isPort p) := rfl
theorem exec_useSpare (p : Nat) (s : State) : exec (.useSpare p) s = s.act (isPort p) (fun m => m.useSpare p) := rfl
theorem wf_useSpare (p : Nat) : Instr.wf (.useSpare p) = (isPort p) := rfl
theorem exec_loopModeWrite (p : Nat) (mode : Nat) (pattern : Nat) (s : State) : exec (.loopModeWrite p mode pattern) s = s.act (isPort p && below mode 8 && below pattern 4) (fun m => m.loopMode p mode pattern) := rfl
theorem wf_loopModeWrite (p : Nat) (mode : Nat) (pattern : Nat) : Instr.wf (.loopModeWrite p mode pattern) = (isPort p && below mode 8 && below pattern 4) := rfl
theorem exec_qlkLinkFrame (conn : Nat) (b : Nat) (frame : Nat) (late : Bool) (s : State) : exec (.qlkLinkFrame conn b frame late) s = s.act (isBundle conn b && below frame (2 ^ 256)) (fun m => m.qframe conn b frame late) := rfl
theorem wf_qlkLinkFrame (conn : Nat) (b : Nat) (frame : Nat) (late : Bool) : Instr.wf (.qlkLinkFrame conn b frame late) = (isBundle conn b && below frame (2 ^ 256)) := rfl
theorem exec_qlkGranule (conn : Nat) (b : Nat) (d : Nat) (check : Nat) (s : State) : exec (.qlkGranule conn b d check) s = s.act (isBundle conn b && isGran d && below check 65536) (fun m => m.qgranule conn b d check) := rfl
theorem wf_qlkGranule (conn : Nat) (b : Nat) (d : Nat) (check : Nat) : Instr.wf (.qlkGranule conn b d check) = (isBundle conn b && isGran d && below check 65536) := rfl
theorem exec_qlkAckTimeout (conn : Nat) (b : Nat) (s : State) : exec (.qlkAckTimeout conn b) s = s.act (isBundle conn b) (fun m => m.qackTimeout conn b) := rfl
theorem wf_qlkAckTimeout (conn : Nat) (b : Nat) : Instr.wf (.qlkAckTimeout conn b) = (isBundle conn b) := rfl
theorem exec_qlkClockLoss (conn : Nat) (b : Nat) (s : State) : exec (.qlkClockLoss conn b) s = s.act (isBundle conn b) (fun m => m.retrain conn b) := rfl
theorem wf_qlkClockLoss (conn : Nat) (b : Nat) : Instr.wf (.qlkClockLoss conn b) = (isBundle conn b) := rfl
theorem exec_cap (conn : Nat) (b : Nat) (major : Nat) (minor : Nat) (lanes : Nat) (mask : Nat) (maxLen : Nat) (retimers : Nat) (credits : List Nat) (s : State) : exec (.cap conn b major minor lanes mask maxLen retimers credits) s = s.act (isBundle conn b) (fun m => m.qcap conn b major minor lanes mask maxLen retimers credits) := rfl
theorem wf_cap (conn : Nat) (b : Nat) (major : Nat) (minor : Nat) (lanes : Nat) (mask : Nat) (maxLen : Nat) (retimers : Nat) (credits : List Nat) : Instr.wf (.cap conn b major minor lanes mask maxLen retimers credits) = (isBundle conn b) := rfl
theorem exec_qlkMap (conn : Nat) (b : Nat) (rx : List Nat) (tx : List Nat) (s : State) : exec (.qlkMap conn b rx tx) s = s.act (isBundle conn b) (fun m => m.qmap conn b rx tx) := rfl
theorem wf_qlkMap (conn : Nat) (b : Nat) (rx : List Nat) (tx : List Nat) : Instr.wf (.qlkMap conn b rx tx) = (isBundle conn b) := rfl
theorem exec_qlkMapAck (conn : Nat) (b : Nat) (rx : List Nat) (tx : List Nat) (s : State) : exec (.qlkMapAck conn b rx tx) s = s.act (isBundle conn b) (fun m => m.qmapAck conn b rx tx) := rfl
theorem wf_qlkMapAck (conn : Nat) (b : Nat) (rx : List Nat) (tx : List Nat) : Instr.wf (.qlkMapAck conn b rx tx) = (isBundle conn b) := rfl
theorem exec_testStart (conn : Nat) (b : Nat) (failed : Nat) (s : State) : exec (.testStart conn b failed) s = s.act (isBundle conn b) (fun m => m.qtestStart conn b failed) := rfl
theorem wf_testStart (conn : Nat) (b : Nat) (failed : Nat) : Instr.wf (.testStart conn b failed) = (isBundle conn b) := rfl
theorem exec_testResult (conn : Nat) (b : Nat) (failed : Nat) (s : State) : exec (.testResult conn b failed) s = s.act (isBundle conn b) (fun m => m.qtestResult conn b failed) := rfl
theorem wf_testResult (conn : Nat) (b : Nat) (failed : Nat) : Instr.wf (.testResult conn b failed) = (isBundle conn b) := rfl
theorem exec_qlkRetrainReq (conn : Nat) (b : Nat) (s : State) : exec (.qlkRetrainReq conn b) s = s.act (isBundle conn b) (fun m => m.retrain conn b) := rfl
theorem wf_qlkRetrainReq (conn : Nat) (b : Nat) : Instr.wf (.qlkRetrainReq conn b) = (isBundle conn b) := rfl
theorem exec_ready (conn : Nat) (b : Nat) (s : State) : exec (.ready conn b) s = s.act (isBundle conn b) (fun m => m.qready conn b) := rfl
theorem wf_ready (conn : Nat) (b : Nat) : Instr.wf (.ready conn b) = (isBundle conn b) := rfl
theorem exec_bundleRetrain (conn : Nat) (b : Nat) (failed : Bool) (s : State) : exec (.bundleRetrain conn b failed) s = s.act (isBundle conn b) (fun m => m.bundleRetrain conn b failed) := rfl
theorem wf_bundleRetrain (conn : Nat) (b : Nat) (failed : Bool) : Instr.wf (.bundleRetrain conn b failed) = (isBundle conn b) := rfl
theorem exec_bundleRetire (conn : Nat) (b : Nat) (fill : Bool) (stage : Bool) (s : State) : exec (.bundleRetire conn b fill stage) s = s.act (isBundle conn b) (fun m => m.bundleRetire conn b fill stage) := rfl
theorem wf_bundleRetire (conn : Nat) (b : Nat) (fill : Bool) (stage : Bool) : Instr.wf (.bundleRetire conn b fill stage) = (isBundle conn b) := rfl
theorem exec_qlkRetrain (conn : Nat) (b : Nat) (s : State) : exec (.qlkRetrain conn b) s = s.act (isConn conn && below b 16) (fun m => m.retrain conn b) := rfl
theorem wf_qlkRetrain (conn : Nat) (b : Nat) : Instr.wf (.qlkRetrain conn b) = (isConn conn && below b 16) := rfl
theorem exec_qlkClrAll (conn : Nat) (s : State) : exec (.qlkClrAll conn) s = s.act (isConn conn) (fun m => m.qclear conn) := rfl
theorem wf_qlkClrAll (conn : Nat) : Instr.wf (.qlkClrAll conn) = (isConn conn) := rfl
theorem exec_partialReset (conn : Nat) (s : State) : exec (.partialReset conn) s = s.act (isConn conn) (fun m => m.partialReset conn) := rfl
theorem wf_partialReset (conn : Nat) : Instr.wf (.partialReset conn) = (isConn conn) := rfl
theorem exec_rd (g : Nat) (s : State) : exec (.rd g) s = s.act (isGuest g) (fun m => m.guestRd g) := rfl
theorem wf_rd (g : Nat) : Instr.wf (.rd g) = (isGuest g) := rfl
theorem exec_rdResp (g : Nat) (s : State) : exec (.rdResp g) s = s.act (isGuest g) (fun m => m.sendDue g 0 1 0) := rfl
theorem wf_rdResp (g : Nat) : Instr.wf (.rdResp g) = (isGuest g) := rfl
theorem exec_wr (g : Nat) (s : State) : exec (.wr g) s = s.act (isGuest g) (fun m => m.guestWr g) := rfl
theorem wf_wr (g : Nat) : Instr.wf (.wr g) = (isGuest g) := rfl
theorem exec_wrMasked (g : Nat) (s : State) : exec (.wrMasked g) s = s.act (isGuest g) (fun m => m.guestWrMasked g) := rfl
theorem wf_wrMasked (g : Nat) : Instr.wf (.wrMasked g) = (isGuest g) := rfl
theorem exec_wrAck (g : Nat) (s : State) : exec (.wrAck g) s = s.act (isGuest g) (fun m => m.sendDue g 0 4 0) := rfl
theorem wf_wrAck (g : Nat) : Instr.wf (.wrAck g) = (isGuest g) := rfl
theorem exec_atAdd (g : Nat) (s : State) : exec (.atAdd g) s = s.act (isGuest g) (fun m => m.guestAtAdd g) := rfl
theorem wf_atAdd (g : Nat) : Instr.wf (.atAdd g) = (isGuest g) := rfl
theorem exec_atSwap (g : Nat) (s : State) : exec (.atSwap g) s = s.act (isGuest g) (fun m => m.guestAtSwap g) := rfl
theorem wf_atSwap (g : Nat) : Instr.wf (.atSwap g) = (isGuest g) := rfl
theorem exec_atCas (g : Nat) (s : State) : exec (.atCas g) s = s.act (isGuest g) (fun m => m.guestAtCas g) := rfl
theorem wf_atCas (g : Nat) : Instr.wf (.atCas g) = (isGuest g) := rfl
theorem exec_atResp (g : Nat) (s : State) : exec (.atResp g) s = s.act (isGuest g) (fun m => m.sendDue g 0 8 0) := rfl
theorem wf_atResp (g : Nat) : Instr.wf (.atResp g) = (isGuest g) := rfl
theorem exec_guestCopy (g : Nat) (s : State) : exec (.guestCopy g) s = s.act (isGuest g) (fun m => m.guestCopy g) := rfl
theorem wf_guestCopy (g : Nat) : Instr.wf (.guestCopy g) = (isGuest g) := rfl
theorem exec_rdS (g : Nat) (s : State) : exec (.rdS g) s = s.act (isGuest g) (fun m => m.cohRequest g 0) := rfl
theorem wf_rdS (g : Nat) : Instr.wf (.rdS g) = (isGuest g) := rfl
theorem exec_rdM (g : Nat) (s : State) : exec (.rdM g) s = s.act (isGuest g) (fun m => m.cohRequest g 1) := rfl
theorem wf_rdM (g : Nat) : Instr.wf (.rdM g) = (isGuest g) := rfl
theorem exec_upg (g : Nat) (s : State) : exec (.upg g) s = s.act (isGuest g) (fun m => m.cohRequest g 2) := rfl
theorem wf_upg (g : Nat) : Instr.wf (.upg g) = (isGuest g) := rfl
theorem exec_wbM (g : Nat) (s : State) : exec (.wbM g) s = s.act (isGuest g) (fun m => m.cohWriteBack g) := rfl
theorem wf_wbM (g : Nat) : Instr.wf (.wbM g) = (isGuest g) := rfl
theorem exec_cohEvict (g : Nat) (s : State) : exec (.cohEvict g) s = s.act (isGuest g) (fun m => m.cohEvict g) := rfl
theorem wf_cohEvict (g : Nat) : Instr.wf (.cohEvict g) = (isGuest g) := rfl
theorem exec_cohGrant (g : Nat) (s : State) : exec (.cohGrant g) s = s.act (isGuest g) (fun m => m.sendDue g 1 5 1) := rfl
theorem wf_cohGrant (g : Nat) : Instr.wf (.cohGrant g) = (isGuest g) := rfl
theorem exec_snpInv (g : Nat) (s : State) : exec (.snpInv g) s = s.act (isGuest g) (fun m => m.sendSnoop g true) := rfl
theorem wf_snpInv (g : Nat) : Instr.wf (.snpInv g) = (isGuest g) := rfl
theorem exec_snpS (g : Nat) (s : State) : exec (.snpS g) s = s.act (isGuest g) (fun m => m.sendSnoop g false) := rfl
theorem wf_snpS (g : Nat) : Instr.wf (.snpS g) = (isGuest g) := rfl
theorem exec_snpAck (g : Nat) (s : State) : exec (.snpAck g) s = s.act (isGuest g) (fun m => m.snoopAck g) := rfl
theorem wf_snpAck (g : Nat) : Instr.wf (.snpAck g) = (isGuest g) := rfl
theorem exec_snoopTimeout (g : Nat) (line : Nat) (s : State) : exec (.snoopTimeout g line) s = s.act (isGuest g) (fun m => m.snoopTimeout g line) := rfl
theorem wf_snoopTimeout (g : Nat) (line : Nat) : Instr.wf (.snoopTimeout g line) = (isGuest g) := rfl
theorem exec_event (g : Nat) (s : State) : exec (.event g) s = s.act (isGuest g) (fun m => m.guestEvent g) := rfl
theorem wf_event (g : Nat) : Instr.wf (.event g) = (isGuest g) := rfl
theorem exec_drd (conn : Nat) (s : State) : exec (.drd conn) s = s.act (isConn conn) (fun m => m.dbgRead conn) := rfl
theorem wf_drd (conn : Nat) : Instr.wf (.drd conn) = (isConn conn) := rfl
theorem exec_drdResp (conn : Nat) (s : State) : exec (.drdResp conn) s = s.act (isConn conn) (fun m => m.dbgAnswer conn 1) := rfl
theorem wf_drdResp (conn : Nat) : Instr.wf (.drdResp conn) = (isConn conn) := rfl
theorem exec_dwr (conn : Nat) (s : State) : exec (.dwr conn) s = s.act (isConn conn) (fun m => m.dbgWrite conn) := rfl
theorem wf_dwr (conn : Nat) : Instr.wf (.dwr conn) = (isConn conn) := rfl
theorem exec_dwrAck (conn : Nat) (s : State) : exec (.dwrAck conn) s = s.act (isConn conn) (fun m => m.dbgAnswer conn 3) := rfl
theorem wf_dwrAck (conn : Nat) : Instr.wf (.dwrAck conn) = (isConn conn) := rfl
theorem exec_debugTimeout (s : State) : exec (.debugTimeout) s = s.act (true) (fun m => m.dbgTimeout) := rfl
theorem wf_debugTimeout : Instr.wf (.debugTimeout) = (true) := rfl
theorem exec_dbgGo (write : Bool) (conn : Nat) (s : State) : exec (.dbgGo write conn) s = s.act (below conn 128) (fun m => m.dbgGo write conn) := rfl
theorem wf_dbgGo (write : Bool) (conn : Nat) : Instr.wf (.dbgGo write conn) = (below conn 128) := rfl
theorem exec_unfence (g : Nat) (s : State) : exec (.unfence g) s = s.act (isGuest g) (fun m => m.clr Reg.qlkFwCtl_fenced [g]) := rfl
theorem wf_unfence (g : Nat) : Instr.wf (.unfence g) = (isGuest g) := rfl
theorem exec_clrViol (g : Nat) (s : State) : exec (.clrViol g) s = s.act (isGuest g) (fun m => m.clrViol g) := rfl
theorem wf_clrViol (g : Nat) : Instr.wf (.clrViol g) = (isGuest g) := rfl
theorem exec_winRightsWrite (g : Nat) (w : Nat) (v : Nat) (s : State) : exec (.winRightsWrite g w v) s = s.act (isGuest g && below w 16 && isWord v) (fun m => m.winRights g w v) := rfl
theorem wf_winRightsWrite (g : Nat) (w : Nat) (v : Nat) : Instr.wf (.winRightsWrite g w v) = (isGuest g && below w 16 && isWord v) := rfl
theorem exec_guestOverpower (g : Nat) (mw : Nat) (s : State) : exec (.guestOverpower g mw) s = s.act (isGuest g) (fun m => m.guestPower g mw) := rfl
theorem wf_guestOverpower (g : Nat) (mw : Nat) : Instr.wf (.guestOverpower g mw) = (isGuest g) := rfl
theorem exec_pairForm (e : List Nat) (info : PeerInfo) (s : State) : exec (.pairForm e info) s = s.act (isEntry e) (fun m => m.pairForm e info) := rfl
theorem wf_pairForm (e : List Nat) (info : PeerInfo) : Instr.wf (.pairForm e info) = (isEntry e) := rfl
theorem exec_pairDissolve (e : List Nat) (s : State) : exec (.pairDissolve e) s = s.act (isEntry e) (fun m => m.pairDissolve e) := rfl
theorem wf_pairDissolve (e : List Nat) : Instr.wf (.pairDissolve e) = (isEntry e) := rfl
theorem exec_pairHandover (e : List Nat) (s : State) : exec (.pairHandover e) s = s.act (isEntry e) (fun m => m.pairHandover e) := rfl
theorem wf_pairHandover (e : List Nat) : Instr.wf (.pairHandover e) = (isEntry e) := rfl
theorem exec_autoHandover (s : State) : exec (.autoHandover) s = s.act (true) (fun m => m.autoHandover) := rfl
theorem wf_autoHandover : Instr.wf (.autoHandover) = (true) := rfl
theorem exec_handoverReq (p : Nat) (s : State) : exec (.handoverReq p) s = s.act (isPort p) (fun m => m.handoverReq p) := rfl
theorem wf_handoverReq (p : Nat) : Instr.wf (.handoverReq p) = (isPort p) := rfl
theorem exec_acquire (p : Nat) (s : State) : exec (.acquire p) s = s.act (isPort p) (fun m => m.acquire p) := rfl
theorem wf_acquire (p : Nat) : Instr.wf (.acquire p) = (isPort p) := rfl
theorem exec_leaseGrant (p : Nat) (lists : List HostLists) (s : State) : exec (.leaseGrant p lists) s = s.act (isPort p) (fun m => m.leaseGrant p lists) := rfl
theorem wf_leaseGrant (p : Nat) (lists : List HostLists) : Instr.wf (.leaseGrant p lists) = (isPort p) := rfl
theorem exec_renew (p : Nat) (s : State) : exec (.renew p) s = s.act (isPort p) (fun m => m.renew p) := rfl
theorem wf_renew (p : Nat) : Instr.wf (.renew p) = (isPort p) := rfl
theorem exec_renewPeriod (s : State) : exec (.renewPeriod) s = s.act (true) (fun m => m.renewPeriod) := rfl
theorem wf_renewPeriod : Instr.wf (.renewPeriod) = (true) := rfl
theorem exec_renewAck (p : Nat) (us : Nat) (s : State) : exec (.renewAck p us) s = s.act (isPort p) (fun m => m.renewAck p us) := rfl
theorem wf_renewAck (p : Nat) (us : Nat) : Instr.wf (.renewAck p us) = (isPort p) := rfl
theorem exec_leaseRelease (p : Nat) (s : State) : exec (.leaseRelease p) s = s.act (isPort p) (fun m => m.leaseRelease p) := rfl
theorem wf_leaseRelease (p : Nat) : Instr.wf (.leaseRelease p) = (isPort p) := rfl
theorem exec_leaseQuery (p : Nat) (us : Nat) (s : State) : exec (.leaseQuery p us) s = s.act (isPort p) (fun m => m.leaseQuery p us) := rfl
theorem wf_leaseQuery (p : Nat) (us : Nat) : Instr.wf (.leaseQuery p us) = (isPort p) := rfl
theorem exec_leaseStatus (p : Nat) (s : State) : exec (.leaseStatus p) s = s.act (isPort p) (fun m => m.leaseStatus p) := rfl
theorem wf_leaseStatus (p : Nat) : Instr.wf (.leaseStatus p) = (isPort p) := rfl
theorem exec_deny (p : Nat) (s : State) : exec (.deny p) s = s.act (isPort p) (fun m => m.deny p) := rfl
theorem wf_deny (p : Nat) : Instr.wf (.deny p) = (isPort p) := rfl
theorem exec_failFast (p : Nat) (s : State) : exec (.failFast p) s = s.act (isPort p) (fun m => m.failFastRx p) := rfl
theorem wf_failFast (p : Nat) : Instr.wf (.failFast p) = (isPort p) := rfl
theorem exec_announce (p : Nat) (s : State) : exec (.announce p) s = s.act (isPort p) (fun m => m.announce p) := rfl
theorem wf_announce (p : Nat) : Instr.wf (.announce p) = (isPort p) := rfl
theorem exec_announceRepeat (pkg : Nat) (s : State) : exec (.announceRepeat pkg) s = s.act (below pkg 16384) (fun m => m.announceRepeat pkg) := rfl
theorem wf_announceRepeat (pkg : Nat) : Instr.wf (.announceRepeat pkg) = (below pkg 16384) := rfl
theorem exec_detach (p : Nat) (s : State) : exec (.detach p) s = s.act (isPort p) (fun m => m.detach p) := rfl
theorem wf_detach (p : Nat) : Instr.wf (.detach p) = (isPort p) := rfl
theorem exec_leaseMessageRepeat (index : Nat) (overdue : Bool) (s : State) : exec (.leaseMessageRepeat index overdue) s = s.act (true) (fun m => m.leaseRepeat index overdue) := rfl
theorem wf_leaseMessageRepeat (index : Nat) (overdue : Bool) : Instr.wf (.leaseMessageRepeat index overdue) = (true) := rfl
theorem exec_selfFence (s : State) : exec (.selfFence) s = s.act (true) (fun m => m.selfFence) := rfl
theorem wf_selfFence : Instr.wf (.selfFence) = (true) := rfl
theorem exec_leaseExpiry (s : State) : exec (.leaseExpiry) s = s.act (true) (fun m => m.leaseExpiry) := rfl
theorem wf_leaseExpiry : Instr.wf (.leaseExpiry) = (true) := rfl
theorem exec_witnessLeaseExpiry (pair : Nat) (s : State) : exec (.witnessLeaseExpiry pair) s = s.act (below pair 16384) (fun m => m.witnessExpiry pair) := rfl
theorem wf_witnessLeaseExpiry (pair : Nat) : Instr.wf (.witnessLeaseExpiry pair) = (below pair 16384) := rfl
theorem exec_standbyBindingEnd (s : State) : exec (.standbyBindingEnd) s = s.act (true) (fun m => m.bindingEnd) := rfl
theorem wf_standbyBindingEnd : Instr.wf (.standbyBindingEnd) = (true) := rfl
theorem exec_witnessStartEnd (s : State) : exec (.witnessStartEnd) s = s.act (true) (fun m => m.witnessStarted) := rfl
theorem wf_witnessStartEnd : Instr.wf (.witnessStartEnd) = (true) := rfl
theorem exec_failFastEvent (cls : Nat) (sub : Nat) (detail : List Nat) (s : State) : exec (.failFastEvent cls sub detail) s = s.act (below cls 256 && below sub 65536) (fun m => m.failFastEvent cls sub detail) := rfl
theorem wf_failFastEvent (cls : Nat) (sub : Nat) (detail : List Nat) : Instr.wf (.failFastEvent cls sub detail) = (below cls 256 && below sub 65536) := rfl
theorem exec_kvRecord (p : Nat) (s : State) : exec (.kvRecord p) s = s.act (isPort p) (fun m => m.deltaRecord p 2) := rfl
theorem wf_kvRecord (p : Nat) : Instr.wf (.kvRecord p) = (isPort p) := rfl
theorem exec_outRecord (p : Nat) (s : State) : exec (.outRecord p) s = s.act (isPort p) (fun m => m.deltaRecord p 3) := rfl
theorem wf_outRecord (p : Nat) : Instr.wf (.outRecord p) = (isPort p) := rfl
theorem exec_descRecord (p : Nat) (s : State) : exec (.descRecord p) s = s.act (isPort p) (fun m => m.deltaRecord p 4) := rfl
theorem wf_descRecord (p : Nat) : Instr.wf (.descRecord p) = (isPort p) := rfl
theorem exec_modRecord (p : Nat) (s : State) : exec (.modRecord p) s = s.act (isPort p) (fun m => m.deltaRecord p 5) := rfl
theorem wf_modRecord (p : Nat) : Instr.wf (.modRecord p) = (isPort p) := rfl
theorem exec_reqRecord (p : Nat) (s : State) : exec (.reqRecord p) s = s.act (isPort p) (fun m => m.deltaRecord p 1) := rfl
theorem wf_reqRecord (p : Nat) : Instr.wf (.reqRecord p) = (isPort p) := rfl
theorem exec_closeRecord (p : Nat) (cycle : Nat) (s : State) : exec (.closeRecord p cycle) s = s.act (isPort p && isCycle cycle) (fun m => m.closeRec p cycle) := rfl
theorem wf_closeRecord (p : Nat) (cycle : Nat) : Instr.wf (.closeRecord p cycle) = (isPort p && isCycle cycle) := rfl
theorem exec_checkpointRecord (p : Nat) (s : State) : exec (.checkpointRecord p) s = s.act (isPort p) (fun m => m.ckptRec p) := rfl
theorem wf_checkpointRecord (p : Nat) : Instr.wf (.checkpointRecord p) = (isPort p) := rfl
theorem exec_deltaAck (p : Nat) (s : State) : exec (.deltaAck p) s = s.act (isPort p) (fun m => m.deltaAck p) := rfl
theorem wf_deltaAck (p : Nat) : Instr.wf (.deltaAck p) = (isPort p) := rfl
theorem exec_standbyLoss (s : State) : exec (.standbyLoss) s = s.act (true) (fun m => m.standbyLoss) := rfl
theorem wf_standbyLoss : Instr.wf (.standbyLoss) = (true) := rfl
theorem exec_pairingPortDown (p : Nat) (s : State) : exec (.pairingPortDown p) s = s.act (isPort p) (fun m => m.pairingPortDown p) := rfl
theorem wf_pairingPortDown (p : Nat) : Instr.wf (.pairingPortDown p) = (isPort p) := rfl
theorem exec_closeTimeout (s : State) : exec (.closeTimeout) s = s.act (true) (fun m => m.closeTimeout) := rfl
theorem wf_closeTimeout : Instr.wf (.closeTimeout) = (true) := rfl
theorem exec_switchoverStart (lists : List HostLists) (s : State) : exec (.switchoverStart lists) s = s.act (true) (fun m => m.switchover lists) := rfl
theorem wf_switchoverStart (lists : List HostLists) : Instr.wf (.switchoverStart lists) = (true) := rfl
theorem exec_resyncComplete (kv : List (Nat × List Nat)) (reqs : List (List Nat)) (subs : List Nat) (s : State) : exec (.resyncComplete kv reqs subs) s = s.act (true) (fun m => m.resyncComplete kv reqs subs) := rfl
theorem wf_resyncComplete (kv : List (Nat × List Nat)) (reqs : List (List Nat)) (subs : List Nat) : Instr.wf (.resyncComplete kv reqs subs) = (true) := rfl
theorem exec_pairClrAll (s : State) : exec (.pairClrAll) s = s.act (true) (fun m => m.pairClr) := rfl
theorem wf_pairClrAll : Instr.wf (.pairClrAll) = (true) := rfl
theorem exec_faultPinClr (v : Nat) (s : State) : exec (.faultPinClr v) s = s.act (isWord v) (fun m => m.faultPinClr v) := rfl
theorem wf_faultPinClr (v : Nat) : Instr.wf (.faultPinClr v) = (isWord v) := rfl
theorem exec_safLogLatch (v : Nat) (s : State) : exec (.safLogLatch v) s = s.act (isWord v) (fun m => m.logSel v) := rfl
theorem wf_safLogLatch (v : Nat) : Instr.wf (.safLogLatch v) = (isWord v) := rfl
theorem exec_proofTest (site : Nat) (pass : Bool) (bad : Option Nat) (s : State) : exec (.proofTest site pass bad) s = s.act (isSite site) (fun m => m.proofTest site pass bad) := rfl
theorem wf_proofTest (site : Nat) (pass : Bool) (bad : Option Nat) : Instr.wf (.proofTest site pass bad) = (isSite site) := rfl
theorem exec_moraineWrite (s : State) : exec (.moraineWrite) s = s.act (true) (fun m => m.moraineWrite) := rfl
theorem wf_moraineWrite : Instr.wf (.moraineWrite) = (true) := rfl
theorem exec_snapIn (s : State) : exec (.snapIn) s = s.act (true) (fun m => m.snapIn) := rfl
theorem wf_snapIn : Instr.wf (.snapIn) = (true) := rfl
theorem exec_snapTrigger (v : Nat) (s : State) : exec (.snapTrigger v) s = s.act (isWord v) (fun m => m.snapReg v) := rfl
theorem wf_snapTrigger (v : Nat) : Instr.wf (.snapTrigger v) = (isWord v) := rfl
theorem exec_snapLatch (cycle : Nat) (s : State) : exec (.snapLatch cycle) s = s.act (isCycle cycle) (fun m => m.snapLatch cycle) := rfl
theorem wf_snapLatch (cycle : Nat) : Instr.wf (.snapLatch cycle) = (isCycle cycle) := rfl
theorem exec_snapConfirmTimeout (conn : Nat) (s : State) : exec (.snapConfirmTimeout conn) s = s.act (isConn conn) (fun m => m.snapAbsent conn) := rfl
theorem wf_snapConfirmTimeout (conn : Nat) : Instr.wf (.snapConfirmTimeout conn) = (isConn conn) := rfl
theorem exec_snapRearm (v : Nat) (s : State) : exec (.snapRearm v) s = s.act (isWord v) (fun m => m.snapRearm v) := rfl
theorem wf_snapRearm (v : Nat) : Instr.wf (.snapRearm v) = (isWord v) := rfl
theorem exec_tempSample (ch : Nat) (t : Int) (isOpen : Bool) (stale : Bool) (s : State) : exec (.tempSample ch t isOpen stale) s = s.act (below ch 100) (fun m => m.tempSample ch t isOpen stale) := rfl
theorem wf_tempSample (ch : Nat) (t : Int) (isOpen : Bool) (stale : Bool) : Instr.wf (.tempSample ch t isOpen stale) = (below ch 100) := rfl
theorem exec_thmForceWrite (ch : Nat) (v : Nat) (s : State) : exec (.thmForceWrite ch v) s = s.act (below ch 128 && below v 65536) (fun m => m.thmForceTo ch v) := rfl
theorem wf_thmForceWrite (ch : Nat) (v : Nat) : Instr.wf (.thmForceWrite ch v) = (below ch 128 && below v 65536) := rfl
theorem exec_thmRelease (ch : Nat) (v : Nat) (s : State) : exec (.thmRelease ch v) s = s.act (below ch 128 && below v 65536) (fun m => m.thmReleaseCh ch v) := rfl
theorem wf_thmRelease (ch : Nat) (v : Nat) : Instr.wf (.thmRelease ch v) = (below ch 128 && below v 65536) := rfl
theorem exec_thmRetest (ch : Nat) (v : Nat) (s : State) : exec (.thmRetest ch v) s = s.act (below ch 128 && below v 65536) (fun m => m.thmRetestCh ch v) := rfl
theorem wf_thmRetest (ch : Nat) (v : Nat) : Instr.wf (.thmRetest ch v) = (below ch 128 && below v 65536) := rfl
theorem exec_clearShutdown (ch : Nat) (v : Nat) (s : State) : exec (.clearShutdown ch v) s = s.act (below ch 128 && below v 65536) (fun m => m.clearShutdown ch v) := rfl
theorem wf_clearShutdown (ch : Nat) (v : Nat) : Instr.wf (.clearShutdown ch v) = (below ch 128 && below v 65536) := rfl
theorem exec_thmCurveWrite (index : Nat) (v : Nat) (s : State) : exec (.thmCurveWrite index v) s = s.act (below index 21 && isWord v) (fun m => m.curveWrite index v) := rfl
theorem wf_thmCurveWrite (index : Nat) (v : Nat) : Instr.wf (.thmCurveWrite index v) = (below index 21 && isWord v) := rfl
theorem exec_budgetGrant (conn : Nat) (s : State) : exec (.budgetGrant conn) s = s.act (below conn 88) (fun m => m.budgetGrant conn) := rfl
theorem wf_budgetGrant (conn : Nat) : Instr.wf (.budgetGrant conn) = (below conn 88) := rfl
theorem exec_budgetRequest (conn : Nat) (mw : Nat) (s : State) : exec (.budgetRequest conn mw) s = s.act (below conn 88) (fun m => m.budgetRequest conn mw) := rfl
theorem wf_budgetRequest (conn : Nat) (mw : Nat) : Instr.wf (.budgetRequest conn mw) = (below conn 88) := rfl
theorem exec_budgetReturn (conn : Nat) (mj : Nat) (mw : Nat) (s : State) : exec (.budgetReturn conn mj mw) s = s.act (below conn 88) (fun m => m.budgetReturn conn mj mw) := rfl
theorem wf_budgetReturn (conn : Nat) (mj : Nat) (mw : Nat) : Instr.wf (.budgetReturn conn mj mw) = (below conn 88) := rfl
theorem exec_supplyOutOfWindow (d : Nat) (mv : Nat) (s : State) : exec (.supplyOutOfWindow d mv) s = s.act (below d 170) (fun m => m.supplyOut d mv) := rfl
theorem wf_supplyOutOfWindow (d : Nat) (mv : Nat) : Instr.wf (.supplyOutOfWindow d mv) = (below d 170) := rfl
theorem exec_inputOutOfWindow (cv : Nat) (s : State) : exec (.inputOutOfWindow cv) s = s.act (true) (fun m => m.inputOut cv) := rfl
theorem wf_inputOutOfWindow (cv : Nat) : Instr.wf (.inputOutOfWindow cv) = (true) := rfl
theorem exec_powerFailCommitDone (s : State) : exec (.powerFailCommitDone) s = s.act (true) (fun m => m.powerFailDone) := rfl
theorem wf_powerFailCommitDone : Instr.wf (.powerFailCommitDone) = (true) := rfl
theorem exec_calRun (mask : Nat) (s : State) : exec (.calRun mask) s = s.act (below mask 32) (fun m => m.calRun mask) := rfl
theorem wf_calRun (mask : Nat) : Instr.wf (.calRun mask) = (below mask 32) := rfl
theorem exec_calRunDone (vals : List (Nat × Nat × Nat)) (s : State) : exec (.calRunDone vals) s = s.act (true) (fun m => m.calRunDone vals) := rfl
theorem wf_calRunDone (vals : List (Nat × Nat × Nat)) : Instr.wf (.calRunDone vals) = (true) := rfl
theorem exec_calStoreDone (s : State) : exec (.calStoreDone) s = s.act (true) (fun m => m.calStoreDone) := rfl
theorem wf_calStoreDone : Instr.wf (.calStoreDone) = (true) := rfl
theorem exec_calStoreRetry (s : State) : exec (.calStoreRetry) s = s.act (true) (fun m => m.calStoreRetry) := rfl
theorem wf_calStoreRetry : Instr.wf (.calStoreRetry) = (true) := rfl
theorem exec_calRevert (mask : Nat) (s : State) : exec (.calRevert mask) s = s.act (below mask 32) (fun m => m.calRevert mask) := rfl
theorem wf_calRevert (mask : Nat) : Instr.wf (.calRevert mask) = (below mask 32) := rfl
theorem exec_opsecTick (s : State) : exec (.opsecTick) s = s.act (true) (fun m => m.opsecTick) := rfl
theorem wf_opsecTick : Instr.wf (.opsecTick) = (true) := rfl
theorem exec_opsecRecord (s : State) : exec (.opsecRecord) s = s.act (true) (fun m => m.opsecRecord) := rfl
theorem wf_opsecRecord : Instr.wf (.opsecRecord) = (true) := rfl
theorem exec_powerOnReset (s : State) : exec (.powerOnReset) s = s.act (true) (fun m => m.powerOn) := rfl
theorem wf_powerOnReset : Instr.wf (.powerOnReset) = (true) := rfl
theorem exec_modResetN (s : State) : exec (.modResetN) s = s.act (true) (fun m => m.modReset) := rfl
theorem wf_modResetN : Instr.wf (.modResetN) = (true) := rfl
theorem exec_hubResetModule (v : Nat) (s : State) : exec (.hubResetModule v) s = s.act (isWord v) (fun m => m.hubReset v) := rfl
theorem wf_hubResetModule (v : Nat) : Instr.wf (.hubResetModule v) = (isWord v) := rfl
theorem exec_watchdogExpiry (s : State) : exec (.watchdogExpiry) s = s.act (true) (fun m => m.watchdog) := rfl
theorem wf_watchdogExpiry : Instr.wf (.watchdogExpiry) = (true) := rfl
theorem exec_firmwareVerified (s : State) : exec (.firmwareVerified) s = s.act (true) (fun m => m.firmwareVerified) := rfl
theorem wf_firmwareVerified : Instr.wf (.firmwareVerified) = (true) := rfl
theorem exec_bootDevicesReady (found : BootTest) (s : State) : exec (.bootDevicesReady found) s = s.act (true) (fun m => m.bootDevices found) := rfl
theorem wf_bootDevicesReady (found : BootTest) : Instr.wf (.bootDevicesReady found) = (true) := rfl
theorem exec_bootStructureApplied (s : State) : exec (.bootStructureApplied) s = s.act (true) (fun m => m.bootStructure) := rfl
theorem wf_bootStructureApplied : Instr.wf (.bootStructureApplied) = (true) := rfl
theorem exec_bootReady (s : State) : exec (.bootReady) s = s.act (true) (fun m => m.bootReady) := rfl
theorem wf_bootReady : Instr.wf (.bootReady) = (true) := rfl
theorem exec_recoveryImage (img : FwImage) (s : State) : exec (.recoveryImage img) s = s.act (true) (fun m => m.recoveryImage img) := rfl
theorem wf_recoveryImage (img : FwImage) : Instr.wf (.recoveryImage img) = (true) := rfl
theorem exec_fwUpdate (e : List Nat) (img : Option FwImage) (flashOk : Bool) (s : State) : exec (.fwUpdate e img flashOk) s = s.act (isEntry e) (fun m => m.fwUpdate e img flashOk) := rfl
theorem wf_fwUpdate (e : List Nat) (img : Option FwImage) (flashOk : Bool) : Instr.wf (.fwUpdate e img flashOk) = (isEntry e) := rfl
theorem exec_ownerEnrol (e : List Nat) (block : Option (List Nat)) (flashOk : Bool) (s : State) : exec (.ownerEnrol e block flashOk) s = s.act (isEntry e) (fun m => m.ownerEnrol e block flashOk) := rfl
theorem wf_ownerEnrol (e : List Nat) (block : Option (List Nat)) (flashOk : Bool) : Instr.wf (.ownerEnrol e block flashOk) = (isEntry e) := rfl
theorem exec_ownerUpdate (e : List Nat) (block : Option (List Nat)) (flashOk : Bool) (s : State) : exec (.ownerUpdate e block flashOk) s = s.act (isEntry e) (fun m => m.ownerUpdate e block flashOk) := rfl
theorem wf_ownerUpdate (e : List Nat) (block : Option (List Nat)) (flashOk : Bool) : Instr.wf (.ownerUpdate e block flashOk) = (isEntry e) := rfl
theorem exec_ownerRelease (e : List Nat) (block : Option (List Nat)) (flashOk : Bool) (s : State) : exec (.ownerRelease e block flashOk) s = s.act (isEntry e) (fun m => m.ownerRelease e block flashOk) := rfl
theorem wf_ownerRelease (e : List Nat) (block : Option (List Nat)) (flashOk : Bool) : Instr.wf (.ownerRelease e block flashOk) = (isEntry e) := rfl
theorem exec_secLockSet (v : Nat) (s : State) : exec (.secLockSet v) s = s.act (isWord v) (fun m => m.secLock v) := rfl
theorem wf_secLockSet (v : Nat) : Instr.wf (.secLockSet v) = (isWord v) := rfl
theorem exec_getVersion (transport : Nat) (s : State) : exec (.getVersion transport) s = s.act (below transport 2) (fun m => m.spdmVersion transport) := rfl
theorem wf_getVersion (transport : Nat) : Instr.wf (.getVersion transport) = (below transport 2) := rfl
theorem exec_getCapabilities (transport : Nat) (s : State) : exec (.getCapabilities transport) s = s.act (below transport 2) (fun m => m.spdmCaps transport) := rfl
theorem wf_getCapabilities (transport : Nat) : Instr.wf (.getCapabilities transport) = (below transport 2) := rfl
theorem exec_negotiateAlgorithms (transport : Nat) (req : List Nat) (s : State) : exec (.negotiateAlgorithms transport req) s = s.act (below transport 2 && isBytes req) (fun m => m.spdmAlgs transport req) := rfl
theorem wf_negotiateAlgorithms (transport : Nat) (req : List Nat) : Instr.wf (.negotiateAlgorithms transport req) = (below transport 2 && isBytes req) := rfl
theorem exec_getDigests (transport : Nat) (s : State) : exec (.getDigests transport) s = s.act (below transport 2) (fun m => m.spdmDigests transport) := rfl
theorem wf_getDigests (transport : Nat) : Instr.wf (.getDigests transport) = (below transport 2) := rfl
theorem exec_getCertificate (transport : Nat) (slot : Nat) (off : Nat) (len : Nat) (s : State) : exec (.getCertificate transport slot off len) s = s.act (below transport 2 && below slot 16 && below off 65536 && below len 65536) (fun m => m.spdmCert transport slot off len) := rfl
theorem wf_getCertificate (transport : Nat) (slot : Nat) (off : Nat) (len : Nat) : Instr.wf (.getCertificate transport slot off len) = (below transport 2 && below slot 16 && below off 65536 && below len 65536) := rfl
theorem exec_challenge (transport : Nat) (slot : Nat) (nonce : List Nat) (s : State) : exec (.challenge transport slot nonce) s = s.act (below transport 2 && below slot 256 && isBytes nonce) (fun m => m.spdmChallenge transport slot nonce) := rfl
theorem wf_challenge (transport : Nat) (slot : Nat) (nonce : List Nat) : Instr.wf (.challenge transport slot nonce) = (below transport 2 && below slot 256 && isBytes nonce) := rfl
theorem exec_getMeasurements (transport : Nat) (index : Nat) (nonce : List Nat) (s : State) : exec (.getMeasurements transport index nonce) s = s.act (below transport 2 && below index 256 && isBytes nonce) (fun m => m.spdmMeasure transport index nonce) := rfl
theorem wf_getMeasurements (transport : Nat) (index : Nat) (nonce : List Nat) : Instr.wf (.getMeasurements transport index nonce) = (below transport 2 && below index 256 && isBytes nonce) := rfl
theorem exec_crcGo (e : Nat) (v : Nat) (s : State) : exec (.crcGo e v) s = s.act (below e 4 && isWord v) (fun m => m.crcGo e v) := rfl
theorem wf_crcGo (e : Nat) (v : Nat) : Instr.wf (.crcGo e v) = (below e 4 && isWord v) := rfl
theorem exec_crcRunEnd (e : Nat) (host : Option (List Nat)) (s : State) : exec (.crcRunEnd e host) s = s.act (below e 4) (fun m => m.crcEnd e host) := rfl
theorem wf_crcRunEnd (e : Nat) (host : Option (List Nat)) : Instr.wf (.crcRunEnd e host) = (below e 4) := rfl
theorem exec_ctxLatchView (x : ViewRead) (s : State) : exec (.ctxLatchView x) s = s.act (isWord x.v) (fun m => m.ctxSel x.v x.errs) := rfl
theorem wf_ctxLatchView (x : ViewRead) : Instr.wf (.ctxLatchView x) = (isWord x.v) := rfl
theorem exec_modResetNRelease (s : State) : exec (.modResetNRelease) s = s.act (true) (fun m => m.modRelease) := rfl
theorem wf_modResetNRelease : Instr.wf (.modResetNRelease) = (true) := rfl

/-- Every command acts on the module alone, and only when its operands are valid. -/
theorem exec_act (c : Instr) (s : State) : ∃ f : Module → Module, exec c s = s.act c.wf f :=
  match c with
  | .roundBoundary cv dw mj => ⟨_, by rw [wf_roundBoundary]; exact exec_roundBoundary cv dw mj s⟩
  | .roundMark conn => ⟨_, by rw [wf_roundMark]; exact exec_roundMark conn s⟩
  | .heldWindowExpiry number => ⟨_, by rw [wf_heldWindowExpiry]; exact exec_heldWindowExpiry number s⟩
  | .coalesceTimeout q => ⟨_, by rw [wf_coalesceTimeout]; exact exec_coalesceTimeout q s⟩
  | .hubRoundLoRead => ⟨_, by rw [wf_hubRoundLoRead]; exact exec_hubRoundLoRead s⟩
  | .tineCyclesLoRead site => ⟨_, by rw [wf_tineCyclesLoRead]; exact exec_tineCyclesLoRead site s⟩
  | .tineMatPassesLoRead site => ⟨_, by rw [wf_tineMatPassesLoRead]; exact exec_tineMatPassesLoRead site s⟩
  | .admAcceptedLoRead => ⟨_, by rw [wf_admAcceptedLoRead]; exact exec_admAcceptedLoRead s⟩
  | .calOpsecLoRead => ⟨_, by rw [wf_calOpsecLoRead]; exact exec_calOpsecLoRead s⟩
  | .registerWrite place v => ⟨_, by rw [wf_registerWrite]; exact exec_registerWrite place v s⟩
  | .unsupportedAccess x => ⟨_, by rw [wf_unsupportedAccess]; exact exec_unsupportedAccess x s⟩
  | .refclkLost => ⟨_, by rw [wf_refclkLost]; exact exec_refclkLost s⟩
  | .refclkReturn => ⟨_, by rw [wf_refclkReturn]; exact exec_refclkReturn s⟩
  | .holdoverSlewEnd => ⟨_, by rw [wf_holdoverSlewEnd]; exact exec_holdoverSlewEnd s⟩
  | .rootPllUnlock => ⟨_, by rw [wf_rootPllUnlock]; exact exec_rootPllUnlock s⟩
  | .rootPllLock phases => ⟨_, by rw [wf_rootPllLock]; exact exec_rootPllLock phases s⟩
  | .treeLostAtDie rx => ⟨_, by rw [wf_treeLostAtDie]; exact exec_treeLostAtDie rx s⟩
  | .bothTreesLost rx => ⟨_, by rw [wf_bothTreesLost]; exact exec_bothTreesLost rx s⟩
  | .clockLossNotice rx => ⟨_, by rw [wf_clockLossNotice]; exact exec_clockLossNotice rx s⟩
  | .treeSourceLost tree => ⟨_, by rw [wf_treeSourceLost]; exact exec_treeSourceLost tree s⟩
  | .tload site env => ⟨_, by rw [wf_tload]; exact exec_tload site env s⟩
  | .astage site env => ⟨_, by rw [wf_astage]; exact exec_astage site env s⟩
  | .stream site env => ⟨_, by rw [wf_stream]; exact exec_stream site env s⟩
  | .wset site env => ⟨_, by rw [wf_wset]; exact exec_wset site env s⟩
  | .drain site env => ⟨_, by rw [wf_drain]; exact exec_drain site env s⟩
  | .drainw site env => ⟨_, by rw [wf_drainw]; exact exec_drainw site env s⟩
  | .padd site env => ⟨_, by rw [wf_padd]; exact exec_padd site env s⟩
  | .pdrain site env => ⟨_, by rw [wf_pdrain]; exact exec_pdrain site env s⟩
  | .vadd site env => ⟨_, by rw [wf_vadd]; exact exec_vadd site env s⟩
  | .vsub site env => ⟨_, by rw [wf_vsub]; exact exec_vsub site env s⟩
  | .vmul site env => ⟨_, by rw [wf_vmul]; exact exec_vmul site env s⟩
  | .vfma site env => ⟨_, by rw [wf_vfma]; exact exec_vfma site env s⟩
  | .vmin site env => ⟨_, by rw [wf_vmin]; exact exec_vmin site env s⟩
  | .vmax site env => ⟨_, by rw [wf_vmax]; exact exec_vmax site env s⟩
  | .vlogic site env => ⟨_, by rw [wf_vlogic]; exact exec_vlogic site env s⟩
  | .vshift site env => ⟨_, by rw [wf_vshift]; exact exec_vshift site env s⟩
  | .vcmp site env => ⟨_, by rw [wf_vcmp]; exact exec_vcmp site env s⟩
  | .vsel site env => ⟨_, by rw [wf_vsel]; exact exec_vsel site env s⟩
  | .vreduce site env => ⟨_, by rw [wf_vreduce]; exact exec_vreduce site env s⟩
  | .vgather site env => ⟨_, by rw [wf_vgather]; exact exec_vgather site env s⟩
  | .vscatter site env => ⟨_, by rw [wf_vscatter]; exact exec_vscatter site env s⟩
  | .vfill site env => ⟨_, by rw [wf_vfill]; exact exec_vfill site env s⟩
  | .cload site env => ⟨_, by rw [wf_cload]; exact exec_cload site env s⟩
  | .ceval site env => ⟨_, by rw [wf_ceval]; exact exec_ceval site env s⟩
  | .fdecode site env => ⟨_, by rw [wf_fdecode]; exact exec_fdecode site env s⟩
  | .fencode site env => ⟨_, by rw [wf_fencode]; exact exec_fencode site env s⟩
  | .freblock site env => ⟨_, by rw [wf_freblock]; exact exec_freblock site env s⟩
  | .ftile site env => ⟨_, by rw [wf_ftile]; exact exec_ftile site env s⟩
  | .send site env => ⟨_, by rw [wf_send]; exact exec_send site env s⟩
  | .recv site env => ⟨_, by rw [wf_recv]; exact exec_recv site env s⟩
  | .recvTimeout site slot => ⟨_, by rw [wf_recvTimeout]; exact exec_recvTimeout site slot s⟩
  | .dmard site env => ⟨_, by rw [wf_dmard]; exact exec_dmard site env s⟩
  | .dmawr site env => ⟨_, by rw [wf_dmawr]; exact exec_dmawr site env s⟩
  | .copy site env => ⟨_, by rw [wf_copy]; exact exec_copy site env s⟩
  | .input site env => ⟨_, by rw [wf_input]; exact exec_input site env s⟩
  | .output site env => ⟨_, by rw [wf_output]; exact exec_output site env s⟩
  | .nop site env => ⟨_, by rw [wf_nop]; exact exec_nop site env s⟩
  | .sbegin site env => ⟨_, by rw [wf_sbegin]; exact exec_sbegin site env s⟩
  | .setreg site env => ⟨_, by rw [wf_setreg]; exact exec_setreg site env s⟩
  | .addreg site env => ⟨_, by rw [wf_addreg]; exact exec_addreg site env s⟩
  | .loop site env => ⟨_, by rw [wf_loop]; exact exec_loop site env s⟩
  | .brcnt site env => ⟨_, by rw [wf_brcnt]; exact exec_brcnt site env s⟩
  | .jump site env => ⟨_, by rw [wf_jump]; exact exec_jump site env s⟩
  | .barrier site env => ⟨_, by rw [wf_barrier]; exact exec_barrier site env s⟩
  | .sync site env => ⟨_, by rw [wf_sync]; exact exec_sync site env s⟩
  | .cschk site env => ⟨_, by rw [wf_cschk]; exact exec_cschk site env s⟩
  | .relmark site env => ⟨_, by rw [wf_relmark]; exact exec_relmark site env s⟩
  | .trap site env => ⟨_, by rw [wf_trap]; exact exec_trap site env s⟩
  | .eos site env => ⟨_, by rw [wf_eos]; exact exec_eos site env s⟩
  | .reservedOpcode site env => ⟨_, by rw [wf_reservedOpcode]; exact exec_reservedOpcode site env s⟩
  | .operationComplete site slot => ⟨_, by rw [wf_operationComplete]; exact exec_operationComplete site slot s⟩
  | .stageFaultReport site => ⟨_, by rw [wf_stageFaultReport]; exact exec_stageFaultReport site s⟩
  | .tileChecksumRecheck => ⟨_, by rw [wf_tileChecksumRecheck]; exact exec_tileChecksumRecheck s⟩
  | .stageEndReport site => ⟨_, by rw [wf_stageEndReport]; exact exec_stageEndReport site s⟩
  | .stageDispatch req => ⟨_, by rw [wf_stageDispatch]; exact exec_stageDispatch req s⟩
  | .streamFlit site x => ⟨_, by rw [wf_streamFlit]; exact exec_streamFlit site x s⟩
  | .fillStart fill => ⟨_, by rw [wf_fillStart]; exact exec_fillStart fill s⟩
  | .fillGranule site x => ⟨_, by rw [wf_fillGranule]; exact exec_fillGranule site x s⟩
  | .fillEnd site bank => ⟨_, by rw [wf_fillEnd]; exact exec_fillEnd site bank s⟩
  | .fillAbort site bank => ⟨_, by rw [wf_fillAbort]; exact exec_fillAbort site bank s⟩
  | .bankSwitchEnd site env => ⟨_, by rw [wf_bankSwitchEnd]; exact exec_bankSwitchEnd site env s⟩
  | .spareCalled site => ⟨_, by rw [wf_spareCalled]; exact exec_spareCalled site s⟩
  | .entryTestDone site pass => ⟨_, by rw [wf_entryTestDone]; exact exec_entryTestDone site pass s⟩
  | .parkCommand site => ⟨_, by rw [wf_parkCommand]; exact exec_parkCommand site s⟩
  | .wakeCommand site => ⟨_, by rw [wf_wakeCommand]; exact exec_wakeCommand site s⟩
  | .migrationStart site => ⟨_, by rw [wf_migrationStart]; exact exec_migrationStart site s⟩
  | .migrationDone site => ⟨_, by rw [wf_migrationDone]; exact exec_migrationDone site s⟩
  | .tineCntClrActivity site => ⟨_, by rw [wf_tineCntClrActivity]; exact exec_tineCntClrActivity site s⟩
  | .tineCntClrCheckfield site => ⟨_, by rw [wf_tineCntClrCheckfield]; exact exec_tineCntClrCheckfield site s⟩
  | .tineCntClrCorr site => ⟨_, by rw [wf_tineCntClrCorr]; exact exec_tineCntClrCorr site s⟩
  | .structVerify => ⟨_, by rw [wf_structVerify]; exact exec_structVerify s⟩
  | .structVerified => ⟨_, by rw [wf_structVerified]; exact exec_structVerified s⟩
  | .structCommit => ⟨_, by rw [wf_structCommit]; exact exec_structCommit s⟩
  | .structAbort => ⟨_, by rw [wf_structAbort]; exact exec_structAbort s⟩
  | .quiesceComplete => ⟨_, by rw [wf_quiesceComplete]; exact exec_quiesceComplete s⟩
  | .quiesceTimeout => ⟨_, by rw [wf_quiesceTimeout]; exact exec_quiesceTimeout s⟩
  | .structApplyDone => ⟨_, by rw [wf_structApplyDone]; exact exec_structApplyDone s⟩
  | .structPersist => ⟨_, by rw [wf_structPersist]; exact exec_structPersist s⟩
  | .structPersistDone ok => ⟨_, by rw [wf_structPersistDone]; exact exec_structPersistDone ok s⟩
  | .loadImage q e ins outs param cycle => ⟨_, by rw [wf_loadImage]; exact exec_loadImage q e ins outs param cycle s⟩
  | .loadImageCopied ctx bytes => ⟨_, by rw [wf_loadImageCopied]; exact exec_loadImageCopied ctx bytes s⟩
  | .evict q e ins outs param cycle => ⟨_, by rw [wf_evict]; exact exec_evict q e ins outs param cycle s⟩
  | .pin q e ins outs param cycle => ⟨_, by rw [wf_pin]; exact exec_pin q e ins outs param cycle s⟩
  | .query q e ins outs param cycle => ⟨_, by rw [wf_query]; exact exec_query q e ins outs param cycle s⟩
  | .cancel q e ins outs param cycle => ⟨_, by rw [wf_cancel]; exact exec_cancel q e ins outs param cycle s⟩
  | .invoke q e ins outs param cycle => ⟨_, by rw [wf_invoke]; exact exec_invoke q e ins outs param cycle s⟩
  | .invokeChain q e ins outs param cycle => ⟨_, by rw [wf_invokeChain]; exact exec_invokeChain q e ins outs param cycle s⟩
  | .scrubRead e => ⟨_, by rw [wf_scrubRead]; exact exec_scrubRead e s⟩
  | .gddr7TempRead dev t => ⟨_, by rw [wf_gddr7TempRead]; exact exec_gddr7TempRead dev t s⟩
  | .cxlLinkDown p => ⟨_, by rw [wf_cxlLinkDown]; exact exec_cxlLinkDown p s⟩
  | .cxlRetrainEnd p dev => ⟨_, by rw [wf_cxlRetrainEnd]; exact exec_cxlRetrainEnd p dev s⟩
  | .cxlBringup p dev => ⟨_, by rw [wf_cxlBringup]; exact exec_cxlBringup p dev s⟩
  | .memHostRegionWrite v => ⟨_, by rw [wf_memHostRegionWrite]; exact exec_memHostRegionWrite v s⟩
  | .memCntClrCirque => ⟨_, by rw [wf_memCntClrCirque]; exact exec_memCntClrCirque s⟩
  | .memCntClrDev => ⟨_, by rw [wf_memCntClrDev]; exact exec_memCntClrDev s⟩
  | .bar4Read o n => ⟨_, by rw [wf_bar4Read]; exact exec_bar4Read o n s⟩
  | .bar4Write o bytes => ⟨_, by rw [wf_bar4Write]; exact exec_bar4Write o bytes s⟩
  | .hubApertureBaseWrite v => ⟨_, by rw [wf_hubApertureBaseWrite]; exact exec_hubApertureBaseWrite v s⟩
  | .releaseGateOpen cycle => ⟨_, by rw [wf_releaseGateOpen]; exact exec_releaseGateOpen cycle s⟩
  | .admCntClrPeak => ⟨_, by rw [wf_admCntClrPeak]; exact exec_admCntClrPeak s⟩
  | .admCntClrReasons => ⟨_, by rw [wf_admCntClrReasons]; exact exec_admCntClrReasons s⟩
  | .admCntClrOutcomes => ⟨_, by rw [wf_admCntClrOutcomes]; exact exec_admCntClrOutcomes s⟩
  | .sqTailDoorbell q v => ⟨_, by rw [wf_sqTailDoorbell]; exact exec_sqTailDoorbell q v s⟩
  | .cqHeadDoorbell q v => ⟨_, by rw [wf_cqHeadDoorbell]; exact exec_cqHeadDoorbell q v s⟩
  | .sqEntryFetched q e data cycle => ⟨_, by rw [wf_sqEntryFetched]; exact exec_sqEntryFetched q e data cycle s⟩
  | .sqFetchError q => ⟨_, by rw [wf_sqFetchError]; exact exec_sqFetchError q s⟩
  | .entryTaken q cid data cycle => ⟨_, by rw [wf_entryTaken]; exact exec_entryTaken q cid data cycle s⟩
  | .hostReadFail q cid cycle => ⟨_, by rw [wf_hostReadFail]; exact exec_hostReadFail q cid cycle s⟩
  | .createQueue e => ⟨_, by rw [wf_createQueue]; exact exec_createQueue e s⟩
  | .deleteQueue e => ⟨_, by rw [wf_deleteQueue]; exact exec_deleteQueue e s⟩
  | .queueDrainDone q => ⟨_, by rw [wf_queueDrainDone]; exact exec_queueDrainDone q s⟩
  | .bind e => ⟨_, by rw [wf_bind]; exact exec_bind e s⟩
  | .unbind e => ⟨_, by rw [wf_unbind]; exact exec_unbind e s⟩
  | .queEnable => ⟨_, by rw [wf_queEnable]; exact exec_queEnable s⟩
  | .queue0Enabled => ⟨_, by rw [wf_queue0Enabled]; exact exec_queue0Enabled s⟩
  | .queDisable => ⟨_, by rw [wf_queDisable]; exact exec_queDisable s⟩
  | .pcieReset => ⟨_, by rw [wf_pcieReset]; exact exec_pcieReset s⟩
  | .fabricRequest p vc cycle => ⟨_, by rw [wf_fabricRequest]; exact exec_fabricRequest p vc cycle s⟩
  | .reply p vc => ⟨_, by rw [wf_reply]; exact exec_reply p vc s⟩
  | .quote p number x => ⟨_, by rw [wf_quote]; exact exec_quote p number x s⟩
  | .subreq p vc number cid seed flat outCap data cycle => ⟨_, by rw [wf_subreq]; exact exec_subreq p vc number cid seed flat outCap data cycle s⟩
  | .streamPacket p vc fromSlice => ⟨_, by rw [wf_streamPacket]; exact exec_streamPacket p vc fromSlice s⟩
  | .packetForward p vc => ⟨_, by rw [wf_packetForward]; exact exec_packetForward p vc s⟩
  | .notice p group target down => ⟨_, by rw [wf_notice]; exact exec_notice p group target down s⟩
  | .noticeSend p => ⟨_, by rw [wf_noticeSend]; exact exec_noticeSend p s⟩
  | .messageReassemblyTimeout src tag vc => ⟨_, by rw [wf_messageReassemblyTimeout]; exact exec_messageReassemblyTimeout src tag vc s⟩
  | .fabricJoin e => ⟨_, by rw [wf_fabricJoin]; exact exec_fabricJoin e s⟩
  | .fabricLeave e => ⟨_, by rw [wf_fabricLeave]; exact exec_fabricLeave e s⟩
  | .fabricLeaveDone => ⟨_, by rw [wf_fabricLeaveDone]; exact exec_fabricLeaveDone s⟩
  | .rteCommit => ⟨_, by rw [wf_rteCommit]; exact exec_rteCommit s⟩
  | .shadowTableWrite table index v => ⟨_, by rw [wf_shadowTableWrite]; exact exec_shadowTableWrite table index v s⟩
  | .rteClrAll => ⟨_, by rw [wf_rteClrAll]; exact exec_rteClrAll s⟩
  | .dataFlit p hdr grans late => ⟨_, by rw [wf_dataFlit]; exact exec_dataFlit p hdr grans late s⟩
  | .idleFlit p hdr late => ⟨_, by rw [wf_idleFlit]; exact exec_idleFlit p hdr late s⟩
  | .flitCrcFail p => ⟨_, by rw [wf_flitCrcFail]; exact exec_flitCrcFail p s⟩
  | .ackTimeout p => ⟨_, by rw [wf_ackTimeout]; exact exec_ackTimeout p s⟩
  | .init p pkg port serial role next seen advH advD => ⟨_, by rw [wf_init]; exact exec_init p pkg port serial role next seen advH advD s⟩
  | .retrainReq p hdr late kind => ⟨_, by rw [wf_retrainReq]; exact exec_retrainReq p hdr late kind s⟩
  | .mapPropose p hdr late map x clk passed => ⟨_, by rw [wf_mapPropose]; exact exec_mapPropose p hdr late map x clk passed s⟩
  | .mapRequest p hdr late map x clk passed => ⟨_, by rw [wf_mapRequest]; exact exec_mapRequest p hdr late map x clk passed s⟩
  | .mapAck p hdr late x map => ⟨_, by rw [wf_mapAck]; exact exec_mapAck p hdr late x map s⟩
  | .mapReject p hdr late x reason => ⟨_, by rw [wf_mapReject]; exact exec_mapReject p hdr late x reason s⟩
  | .creditAudit p hdr late counts => ⟨_, by rw [wf_creditAudit]; exact exec_creditAudit p hdr late counts s⟩
  | .loopReq p hdr late => ⟨_, by rw [wf_loopReq]; exact exec_loopReq p hdr late s⟩
  | .mapSwitch p fibre => ⟨_, by rw [wf_mapSwitch]; exact exec_mapSwitch p fibre s⟩
  | .mapRequestTimeout p => ⟨_, by rw [wf_mapRequestTimeout]; exact exec_mapRequestTimeout p s⟩
  | .slotLost p slot => ⟨_, by rw [wf_slotLost]; exact exec_slotLost p slot s⟩
  | .crcFailTimeout p => ⟨_, by rw [wf_crcFailTimeout]; exact exec_crcFailTimeout p s⟩
  | .waveRetry p => ⟨_, by rw [wf_waveRetry]; exact exec_waveRetry p s⟩
  | .linkGrace p => ⟨_, by rw [wf_linkGrace]; exact exec_linkGrace p s⟩
  | .graceExpiry p => ⟨_, by rw [wf_graceExpiry]; exact exec_graceExpiry p s⟩
  | .initRetry p => ⟨_, by rw [wf_initRetry]; exact exec_initRetry p s⟩
  | .phyPortUp p txMap rxMap eyes => ⟨_, by rw [wf_phyPortUp]; exact exec_phyPortUp p txMap rxMap eyes s⟩
  | .flushNow p => ⟨_, by rw [wf_flushNow]; exact exec_flushNow p s⟩
  | .retrainFull p => ⟨_, by rw [wf_retrainFull]; exact exec_retrainFull p s⟩
  | .reinit p => ⟨_, by rw [wf_reinit]; exact exec_reinit p s⟩
  | .fabClrAll p => ⟨_, by rw [wf_fabClrAll]; exact exec_fabClrAll p s⟩
  | .ringLockLoss p slot tx => ⟨_, by rw [wf_ringLockLoss]; exact exec_ringLockLoss p slot tx s⟩
  | .clkLost p => ⟨_, by rw [wf_clkLost]; exact exec_clkLost p s⟩
  | .clockFallbackLock p => ⟨_, by rw [wf_clockFallbackLock]; exact exec_clockFallbackLock p s⟩
  | .fallbackExit p => ⟨_, by rw [wf_fallbackExit]; exact exec_fallbackExit p s⟩
  | .setf e t => ⟨_, by rw [wf_setf]; exact exec_setf e t s⟩
  | .setfs e t => ⟨_, by rw [wf_setfs]; exact exec_setfs e t s⟩
  | .getf e t sensed => ⟨_, by rw [wf_getf]; exact exec_getf e t sensed s⟩
  | .loads e t => ⟨_, by rw [wf_loads]; exact exec_loads e t s⟩
  | .adds e t => ⟨_, by rw [wf_adds]; exact exec_adds e t s⟩
  | .wait e => ⟨_, by rw [wf_wait]; exact exec_wait e s⟩
  | .poll e t sensed => ⟨_, by rw [wf_poll]; exact exec_poll e t sensed s⟩
  | .brs e t => ⟨_, by rw [wf_brs]; exact exec_brs e t s⟩
  | .measure e t res => ⟨_, by rw [wf_measure]; exact exec_measure e t res s⟩
  | .done e one => ⟨_, by rw [wf_done]; exact exec_done e one s⟩
  | .fail e one => ⟨_, by rw [wf_fail]; exact exec_fail e one s⟩
  | .seqLimitExceeded e t => ⟨_, by rw [wf_seqLimitExceeded]; exact exec_seqLimitExceeded e t s⟩
  | .laserLocked bank slot unit => ⟨_, by rw [wf_laserLocked]; exact exec_laserLocked bank slot unit s⟩
  | .laserWarmTimeout bank slot unit => ⟨_, by rw [wf_laserWarmTimeout]; exact exec_laserWarmTimeout bank slot unit s⟩
  | .laserFail bank slot unit => ⟨_, by rw [wf_laserFail]; exact exec_laserFail bank slot unit s⟩
  | .laserOverpower bank slot unit reading => ⟨_, by rw [wf_laserOverpower]; exact exec_laserOverpower bank slot unit reading s⟩
  | .eolWarn bank slot ratio => ⟨_, by rw [wf_eolWarn]; exact exec_eolWarn bank slot ratio s⟩
  | .lasSwap bank slot => ⟨_, by rw [wf_lasSwap]; exact exec_lasSwap bank slot s⟩
  | .plannedSwap bank => ⟨_, by rw [wf_plannedSwap]; exact exec_plannedSwap bank s⟩
  | .swapRemoval bank => ⟨_, by rw [wf_swapRemoval]; exact exec_swapRemoval bank s⟩
  | .swapDeferral bank => ⟨_, by rw [wf_swapDeferral]; exact exec_swapDeferral bank s⟩
  | .swapDone bank => ⟨_, by rw [wf_swapDone]; exact exec_swapDone bank s⟩
  | .fibreOverpower p reading => ⟨_, by rw [wf_fibreOverpower]; exact exec_fibreOverpower p reading s⟩
  | .clearSafety p => ⟨_, by rw [wf_clearSafety]; exact exec_clearSafety p s⟩
  | .fibreDark p => ⟨_, by rw [wf_fibreDark]; exact exec_fibreDark p s⟩
  | .safeProbe p => ⟨_, by rw [wf_safeProbe]; exact exec_safeProbe p s⟩
  | .probeReceived p => ⟨_, by rw [wf_probeReceived]; exact exec_probeReceived p s⟩
  | .firnRetrain p => ⟨_, by rw [wf_firnRetrain]; exact exec_firnRetrain p s⟩
  | .useSpare p => ⟨_, by rw [wf_useSpare]; exact exec_useSpare p s⟩
  | .loopModeWrite p mode pattern => ⟨_, by rw [wf_loopModeWrite]; exact exec_loopModeWrite p mode pattern s⟩
  | .qlkLinkFrame conn b frame late => ⟨_, by rw [wf_qlkLinkFrame]; exact exec_qlkLinkFrame conn b frame late s⟩
  | .qlkGranule conn b d check => ⟨_, by rw [wf_qlkGranule]; exact exec_qlkGranule conn b d check s⟩
  | .qlkAckTimeout conn b => ⟨_, by rw [wf_qlkAckTimeout]; exact exec_qlkAckTimeout conn b s⟩
  | .qlkClockLoss conn b => ⟨_, by rw [wf_qlkClockLoss]; exact exec_qlkClockLoss conn b s⟩
  | .cap conn b major minor lanes mask maxLen retimers credits => ⟨_, by rw [wf_cap]; exact exec_cap conn b major minor lanes mask maxLen retimers credits s⟩
  | .qlkMap conn b rx tx => ⟨_, by rw [wf_qlkMap]; exact exec_qlkMap conn b rx tx s⟩
  | .qlkMapAck conn b rx tx => ⟨_, by rw [wf_qlkMapAck]; exact exec_qlkMapAck conn b rx tx s⟩
  | .testStart conn b failed => ⟨_, by rw [wf_testStart]; exact exec_testStart conn b failed s⟩
  | .testResult conn b failed => ⟨_, by rw [wf_testResult]; exact exec_testResult conn b failed s⟩
  | .qlkRetrainReq conn b => ⟨_, by rw [wf_qlkRetrainReq]; exact exec_qlkRetrainReq conn b s⟩
  | .ready conn b => ⟨_, by rw [wf_ready]; exact exec_ready conn b s⟩
  | .bundleRetrain conn b failed => ⟨_, by rw [wf_bundleRetrain]; exact exec_bundleRetrain conn b failed s⟩
  | .bundleRetire conn b fill stage => ⟨_, by rw [wf_bundleRetire]; exact exec_bundleRetire conn b fill stage s⟩
  | .qlkRetrain conn b => ⟨_, by rw [wf_qlkRetrain]; exact exec_qlkRetrain conn b s⟩
  | .qlkClrAll conn => ⟨_, by rw [wf_qlkClrAll]; exact exec_qlkClrAll conn s⟩
  | .partialReset conn => ⟨_, by rw [wf_partialReset]; exact exec_partialReset conn s⟩
  | .rd g => ⟨_, by rw [wf_rd]; exact exec_rd g s⟩
  | .rdResp g => ⟨_, by rw [wf_rdResp]; exact exec_rdResp g s⟩
  | .wr g => ⟨_, by rw [wf_wr]; exact exec_wr g s⟩
  | .wrMasked g => ⟨_, by rw [wf_wrMasked]; exact exec_wrMasked g s⟩
  | .wrAck g => ⟨_, by rw [wf_wrAck]; exact exec_wrAck g s⟩
  | .atAdd g => ⟨_, by rw [wf_atAdd]; exact exec_atAdd g s⟩
  | .atSwap g => ⟨_, by rw [wf_atSwap]; exact exec_atSwap g s⟩
  | .atCas g => ⟨_, by rw [wf_atCas]; exact exec_atCas g s⟩
  | .atResp g => ⟨_, by rw [wf_atResp]; exact exec_atResp g s⟩
  | .guestCopy g => ⟨_, by rw [wf_guestCopy]; exact exec_guestCopy g s⟩
  | .rdS g => ⟨_, by rw [wf_rdS]; exact exec_rdS g s⟩
  | .rdM g => ⟨_, by rw [wf_rdM]; exact exec_rdM g s⟩
  | .upg g => ⟨_, by rw [wf_upg]; exact exec_upg g s⟩
  | .wbM g => ⟨_, by rw [wf_wbM]; exact exec_wbM g s⟩
  | .cohEvict g => ⟨_, by rw [wf_cohEvict]; exact exec_cohEvict g s⟩
  | .cohGrant g => ⟨_, by rw [wf_cohGrant]; exact exec_cohGrant g s⟩
  | .snpInv g => ⟨_, by rw [wf_snpInv]; exact exec_snpInv g s⟩
  | .snpS g => ⟨_, by rw [wf_snpS]; exact exec_snpS g s⟩
  | .snpAck g => ⟨_, by rw [wf_snpAck]; exact exec_snpAck g s⟩
  | .snoopTimeout g line => ⟨_, by rw [wf_snoopTimeout]; exact exec_snoopTimeout g line s⟩
  | .event g => ⟨_, by rw [wf_event]; exact exec_event g s⟩
  | .drd conn => ⟨_, by rw [wf_drd]; exact exec_drd conn s⟩
  | .drdResp conn => ⟨_, by rw [wf_drdResp]; exact exec_drdResp conn s⟩
  | .dwr conn => ⟨_, by rw [wf_dwr]; exact exec_dwr conn s⟩
  | .dwrAck conn => ⟨_, by rw [wf_dwrAck]; exact exec_dwrAck conn s⟩
  | .debugTimeout => ⟨_, by rw [wf_debugTimeout]; exact exec_debugTimeout s⟩
  | .dbgGo write conn => ⟨_, by rw [wf_dbgGo]; exact exec_dbgGo write conn s⟩
  | .unfence g => ⟨_, by rw [wf_unfence]; exact exec_unfence g s⟩
  | .clrViol g => ⟨_, by rw [wf_clrViol]; exact exec_clrViol g s⟩
  | .winRightsWrite g w v => ⟨_, by rw [wf_winRightsWrite]; exact exec_winRightsWrite g w v s⟩
  | .guestOverpower g mw => ⟨_, by rw [wf_guestOverpower]; exact exec_guestOverpower g mw s⟩
  | .pairForm e info => ⟨_, by rw [wf_pairForm]; exact exec_pairForm e info s⟩
  | .pairDissolve e => ⟨_, by rw [wf_pairDissolve]; exact exec_pairDissolve e s⟩
  | .pairHandover e => ⟨_, by rw [wf_pairHandover]; exact exec_pairHandover e s⟩
  | .autoHandover => ⟨_, by rw [wf_autoHandover]; exact exec_autoHandover s⟩
  | .handoverReq p => ⟨_, by rw [wf_handoverReq]; exact exec_handoverReq p s⟩
  | .acquire p => ⟨_, by rw [wf_acquire]; exact exec_acquire p s⟩
  | .leaseGrant p lists => ⟨_, by rw [wf_leaseGrant]; exact exec_leaseGrant p lists s⟩
  | .renew p => ⟨_, by rw [wf_renew]; exact exec_renew p s⟩
  | .renewPeriod => ⟨_, by rw [wf_renewPeriod]; exact exec_renewPeriod s⟩
  | .renewAck p us => ⟨_, by rw [wf_renewAck]; exact exec_renewAck p us s⟩
  | .leaseRelease p => ⟨_, by rw [wf_leaseRelease]; exact exec_leaseRelease p s⟩
  | .leaseQuery p us => ⟨_, by rw [wf_leaseQuery]; exact exec_leaseQuery p us s⟩
  | .leaseStatus p => ⟨_, by rw [wf_leaseStatus]; exact exec_leaseStatus p s⟩
  | .deny p => ⟨_, by rw [wf_deny]; exact exec_deny p s⟩
  | .failFast p => ⟨_, by rw [wf_failFast]; exact exec_failFast p s⟩
  | .announce p => ⟨_, by rw [wf_announce]; exact exec_announce p s⟩
  | .announceRepeat pkg => ⟨_, by rw [wf_announceRepeat]; exact exec_announceRepeat pkg s⟩
  | .detach p => ⟨_, by rw [wf_detach]; exact exec_detach p s⟩
  | .leaseMessageRepeat index overdue => ⟨_, by rw [wf_leaseMessageRepeat]; exact exec_leaseMessageRepeat index overdue s⟩
  | .selfFence => ⟨_, by rw [wf_selfFence]; exact exec_selfFence s⟩
  | .leaseExpiry => ⟨_, by rw [wf_leaseExpiry]; exact exec_leaseExpiry s⟩
  | .witnessLeaseExpiry pair => ⟨_, by rw [wf_witnessLeaseExpiry]; exact exec_witnessLeaseExpiry pair s⟩
  | .standbyBindingEnd => ⟨_, by rw [wf_standbyBindingEnd]; exact exec_standbyBindingEnd s⟩
  | .witnessStartEnd => ⟨_, by rw [wf_witnessStartEnd]; exact exec_witnessStartEnd s⟩
  | .failFastEvent cls sub detail => ⟨_, by rw [wf_failFastEvent]; exact exec_failFastEvent cls sub detail s⟩
  | .kvRecord p => ⟨_, by rw [wf_kvRecord]; exact exec_kvRecord p s⟩
  | .outRecord p => ⟨_, by rw [wf_outRecord]; exact exec_outRecord p s⟩
  | .descRecord p => ⟨_, by rw [wf_descRecord]; exact exec_descRecord p s⟩
  | .modRecord p => ⟨_, by rw [wf_modRecord]; exact exec_modRecord p s⟩
  | .reqRecord p => ⟨_, by rw [wf_reqRecord]; exact exec_reqRecord p s⟩
  | .closeRecord p cycle => ⟨_, by rw [wf_closeRecord]; exact exec_closeRecord p cycle s⟩
  | .checkpointRecord p => ⟨_, by rw [wf_checkpointRecord]; exact exec_checkpointRecord p s⟩
  | .deltaAck p => ⟨_, by rw [wf_deltaAck]; exact exec_deltaAck p s⟩
  | .standbyLoss => ⟨_, by rw [wf_standbyLoss]; exact exec_standbyLoss s⟩
  | .pairingPortDown p => ⟨_, by rw [wf_pairingPortDown]; exact exec_pairingPortDown p s⟩
  | .closeTimeout => ⟨_, by rw [wf_closeTimeout]; exact exec_closeTimeout s⟩
  | .switchoverStart lists => ⟨_, by rw [wf_switchoverStart]; exact exec_switchoverStart lists s⟩
  | .resyncComplete kv reqs subs => ⟨_, by rw [wf_resyncComplete]; exact exec_resyncComplete kv reqs subs s⟩
  | .pairClrAll => ⟨_, by rw [wf_pairClrAll]; exact exec_pairClrAll s⟩
  | .faultPinClr v => ⟨_, by rw [wf_faultPinClr]; exact exec_faultPinClr v s⟩
  | .safLogLatch v => ⟨_, by rw [wf_safLogLatch]; exact exec_safLogLatch v s⟩
  | .proofTest site pass bad => ⟨_, by rw [wf_proofTest]; exact exec_proofTest site pass bad s⟩
  | .moraineWrite => ⟨_, by rw [wf_moraineWrite]; exact exec_moraineWrite s⟩
  | .snapIn => ⟨_, by rw [wf_snapIn]; exact exec_snapIn s⟩
  | .snapTrigger v => ⟨_, by rw [wf_snapTrigger]; exact exec_snapTrigger v s⟩
  | .snapLatch cycle => ⟨_, by rw [wf_snapLatch]; exact exec_snapLatch cycle s⟩
  | .snapConfirmTimeout conn => ⟨_, by rw [wf_snapConfirmTimeout]; exact exec_snapConfirmTimeout conn s⟩
  | .snapRearm v => ⟨_, by rw [wf_snapRearm]; exact exec_snapRearm v s⟩
  | .tempSample ch t isOpen stale => ⟨_, by rw [wf_tempSample]; exact exec_tempSample ch t isOpen stale s⟩
  | .thmForceWrite ch v => ⟨_, by rw [wf_thmForceWrite]; exact exec_thmForceWrite ch v s⟩
  | .thmRelease ch v => ⟨_, by rw [wf_thmRelease]; exact exec_thmRelease ch v s⟩
  | .thmRetest ch v => ⟨_, by rw [wf_thmRetest]; exact exec_thmRetest ch v s⟩
  | .clearShutdown ch v => ⟨_, by rw [wf_clearShutdown]; exact exec_clearShutdown ch v s⟩
  | .thmCurveWrite index v => ⟨_, by rw [wf_thmCurveWrite]; exact exec_thmCurveWrite index v s⟩
  | .budgetGrant conn => ⟨_, by rw [wf_budgetGrant]; exact exec_budgetGrant conn s⟩
  | .budgetRequest conn mw => ⟨_, by rw [wf_budgetRequest]; exact exec_budgetRequest conn mw s⟩
  | .budgetReturn conn mj mw => ⟨_, by rw [wf_budgetReturn]; exact exec_budgetReturn conn mj mw s⟩
  | .supplyOutOfWindow d mv => ⟨_, by rw [wf_supplyOutOfWindow]; exact exec_supplyOutOfWindow d mv s⟩
  | .inputOutOfWindow cv => ⟨_, by rw [wf_inputOutOfWindow]; exact exec_inputOutOfWindow cv s⟩
  | .powerFailCommitDone => ⟨_, by rw [wf_powerFailCommitDone]; exact exec_powerFailCommitDone s⟩
  | .calRun mask => ⟨_, by rw [wf_calRun]; exact exec_calRun mask s⟩
  | .calRunDone vals => ⟨_, by rw [wf_calRunDone]; exact exec_calRunDone vals s⟩
  | .calStoreDone => ⟨_, by rw [wf_calStoreDone]; exact exec_calStoreDone s⟩
  | .calStoreRetry => ⟨_, by rw [wf_calStoreRetry]; exact exec_calStoreRetry s⟩
  | .calRevert mask => ⟨_, by rw [wf_calRevert]; exact exec_calRevert mask s⟩
  | .opsecTick => ⟨_, by rw [wf_opsecTick]; exact exec_opsecTick s⟩
  | .opsecRecord => ⟨_, by rw [wf_opsecRecord]; exact exec_opsecRecord s⟩
  | .powerOnReset => ⟨_, by rw [wf_powerOnReset]; exact exec_powerOnReset s⟩
  | .modResetN => ⟨_, by rw [wf_modResetN]; exact exec_modResetN s⟩
  | .hubResetModule v => ⟨_, by rw [wf_hubResetModule]; exact exec_hubResetModule v s⟩
  | .watchdogExpiry => ⟨_, by rw [wf_watchdogExpiry]; exact exec_watchdogExpiry s⟩
  | .firmwareVerified => ⟨_, by rw [wf_firmwareVerified]; exact exec_firmwareVerified s⟩
  | .bootDevicesReady found => ⟨_, by rw [wf_bootDevicesReady]; exact exec_bootDevicesReady found s⟩
  | .bootStructureApplied => ⟨_, by rw [wf_bootStructureApplied]; exact exec_bootStructureApplied s⟩
  | .bootReady => ⟨_, by rw [wf_bootReady]; exact exec_bootReady s⟩
  | .recoveryImage img => ⟨_, by rw [wf_recoveryImage]; exact exec_recoveryImage img s⟩
  | .fwUpdate e img flashOk => ⟨_, by rw [wf_fwUpdate]; exact exec_fwUpdate e img flashOk s⟩
  | .ownerEnrol e block flashOk => ⟨_, by rw [wf_ownerEnrol]; exact exec_ownerEnrol e block flashOk s⟩
  | .ownerUpdate e block flashOk => ⟨_, by rw [wf_ownerUpdate]; exact exec_ownerUpdate e block flashOk s⟩
  | .ownerRelease e block flashOk => ⟨_, by rw [wf_ownerRelease]; exact exec_ownerRelease e block flashOk s⟩
  | .secLockSet v => ⟨_, by rw [wf_secLockSet]; exact exec_secLockSet v s⟩
  | .getVersion transport => ⟨_, by rw [wf_getVersion]; exact exec_getVersion transport s⟩
  | .getCapabilities transport => ⟨_, by rw [wf_getCapabilities]; exact exec_getCapabilities transport s⟩
  | .negotiateAlgorithms transport req => ⟨_, by rw [wf_negotiateAlgorithms]; exact exec_negotiateAlgorithms transport req s⟩
  | .getDigests transport => ⟨_, by rw [wf_getDigests]; exact exec_getDigests transport s⟩
  | .getCertificate transport slot off len => ⟨_, by rw [wf_getCertificate]; exact exec_getCertificate transport slot off len s⟩
  | .challenge transport slot nonce => ⟨_, by rw [wf_challenge]; exact exec_challenge transport slot nonce s⟩
  | .getMeasurements transport index nonce => ⟨_, by rw [wf_getMeasurements]; exact exec_getMeasurements transport index nonce s⟩
  | .crcGo e v => ⟨_, by rw [wf_crcGo]; exact exec_crcGo e v s⟩
  | .crcRunEnd e host => ⟨_, by rw [wf_crcRunEnd]; exact exec_crcRunEnd e host s⟩
  | .ctxLatchView x => ⟨_, by rw [wf_ctxLatchView]; exact exec_ctxLatchView x s⟩
  | .modResetNRelease => ⟨_, by rw [wf_modResetNRelease]; exact exec_modResetNRelease s⟩

end Sys2Proof.Machine
end

