-- ==== Sys2Proof/Laws/Maps.lean ====
section
/-! SUPPORT. Finite maps and stores: what a read gives after a write, and that every operation keeps the canonical form. -/

namespace Sys2Proof.Machine

/-! ### Maps -/

section Maps
variable {α : Type}

@[simp] theorem SMap.find?_nil (q : Nat) : SMap.find? ([] : SMap α) q = none := rfl

@[simp] theorem SMap.find?_ins_same (q : Nat) (x : α) (m : SMap α) : SMap.find? (SMap.ins q x m) q = some x := by
  induction m with
  | nil => simp [SMap.ins, SMap.find?]
  | cons p t ih =>
    obtain ⟨k, v⟩ := p
    by_cases h1 : q < k
    · simp [SMap.ins, SMap.find?, h1]
    · by_cases h2 : k = q <;> simp [SMap.ins, SMap.find?, h1, h2, ih]

theorem SMap.find?_ins_other {q r : Nat} (h : r ≠ q) (x : α) (m : SMap α) :
    SMap.find? (SMap.ins q x m) r = SMap.find? m r := by
  induction m with
  | nil => simp [SMap.ins, SMap.find?, Ne.symm h]
  | cons p t ih =>
    obtain ⟨k, v⟩ := p
    by_cases h1 : q < k
    · simp [SMap.ins, SMap.find?, h1, Ne.symm h]
    · by_cases h2 : k = q
      · subst h2; simp [SMap.ins, SMap.find?, Ne.symm h]
      · simp [SMap.ins, SMap.find?, h1, h2, ih]

@[simp] theorem SMap.find?_del_same (q : Nat) (m : SMap α) : SMap.find? (SMap.del q m) q = none := by
  induction m with
  | nil => rfl
  | cons p t ih =>
    obtain ⟨k, v⟩ := p
    by_cases h : k = q <;> simp [SMap.del, SMap.find?, h, ih]

theorem SMap.find?_del_other {q r : Nat} (h : r ≠ q) (m : SMap α) : SMap.find? (SMap.del q m) r = SMap.find? m r := by
  induction m with
  | nil => rfl
  | cons p t ih =>
    obtain ⟨k, v⟩ := p
    by_cases h1 : k = q
    · subst h1; simp [SMap.del, SMap.find?, Ne.symm h, ih]
    · simp [SMap.del, SMap.find?, h1, ih]

/-- What was put at a key is what it holds. -/
@[simp] theorem SMap.get_put_same [DecidableEq α] (d : α) (q : Nat) (x : α) (m : SMap α) :
    SMap.get d (SMap.put d q x m) q = x := by
  by_cases h : x = d <;> simp [SMap.get, SMap.put, h]

/-- A put leaves every other key as it was. -/
theorem SMap.get_put_other [DecidableEq α] {q r : Nat} (h : r ≠ q) (d x : α) (m : SMap α) :
    SMap.get d (SMap.put d q x m) r = SMap.get d m r := by
  by_cases hx : x = d <;> simp [SMap.get, SMap.put, hx, SMap.find?_del_other h, SMap.find?_ins_other h]

@[simp] theorem SMap.get_ins_same (d : α) (q : Nat) (x : α) (m : SMap α) : SMap.get d (SMap.ins q x m) q = x := by
  simp [SMap.get]

theorem SMap.get_ins_other {q r : Nat} (h : r ≠ q) (d x : α) (m : SMap α) :
    SMap.get d (SMap.ins q x m) r = SMap.get d m r := by
  simp [SMap.get, SMap.find?_ins_other h]

section Form
variable [DecidableEq α]

theorem SMap.wfFrom_mono {d : α} {a b : Nat} (h : a ≤ b) {m : SMap α} (hm : SMap.wfFrom d b m = true) : SMap.wfFrom d a m = true := by
  cases m with
  | nil => rfl
  | cons p t =>
    obtain ⟨k, v⟩ := p
    simp only [SMap.wfFrom, Bool.and_eq_true, decide_eq_true_eq] at *
    exact ⟨⟨by omega, hm.1.2⟩, hm.2⟩

theorem SMap.wfFrom_ins {d x : α} (hx : x ≠ d) {q : Nat} {m : SMap α} :
    ∀ {lo : Nat}, lo ≤ q → SMap.wfFrom d lo m = true → SMap.wfFrom d lo (SMap.ins q x m) = true := by
  induction m with
  | nil => intro lo hq _; simp [SMap.ins, SMap.wfFrom, hq, hx]
  | cons p t ih =>
    obtain ⟨k, v⟩ := p
    intro lo hq hm
    simp only [SMap.wfFrom, Bool.and_eq_true, decide_eq_true_eq] at hm
    by_cases h1 : q < k
    · have : SMap.wfFrom d (k + 1) t = true := hm.2
      simp [SMap.ins, SMap.wfFrom, h1, hq, hx, hm.1.2, this]
    · by_cases h2 : k = q
      · subst h2; simp [SMap.ins, SMap.wfFrom, hq, hx, hm.2]
      · have h3 := ih (lo := k + 1) (by omega) hm.2
        simp [SMap.ins, SMap.wfFrom, h1, h2, hm.1.1, hm.1.2, h3]

theorem SMap.wfFrom_del {d : α} {q : Nat} {m : SMap α} :
    ∀ {lo : Nat}, SMap.wfFrom d lo m = true → SMap.wfFrom d lo (SMap.del q m) = true := by
  induction m with
  | nil => intro lo h; exact h
  | cons p t ih =>
    obtain ⟨k, v⟩ := p
    intro lo hm
    simp only [SMap.wfFrom, Bool.and_eq_true, decide_eq_true_eq] at hm
    by_cases h : k = q
    · simp only [SMap.del, h, if_true]
      exact SMap.wfFrom_mono (by omega) (ih hm.2)
    · simp [SMap.del, SMap.wfFrom, h, hm.1.1, hm.1.2, ih hm.2]

/-- A put keeps the canonical form. -/
theorem SMap.wf_put {d : α} (q : Nat) (x : α) {m : SMap α} (h : SMap.wf d m = true) : SMap.wf d (SMap.put d q x m) = true := by
  by_cases hx : x = d
  · simp only [SMap.put, hx, if_true]; exact SMap.wfFrom_del h
  · simp only [SMap.put, hx, if_false]; exact SMap.wfFrom_ins hx (Nat.zero_le _) h

theorem SMap.wfFrom_filter {d : α} (f : Nat × α → Bool) {m : SMap α} :
    ∀ {lo : Nat}, SMap.wfFrom d lo m = true → SMap.wfFrom d lo (List.filter f m) = true := by
  induction m with
  | nil => intro lo h; exact h
  | cons p t ih =>
    obtain ⟨k, v⟩ := p
    intro lo hm
    simp only [SMap.wfFrom, Bool.and_eq_true, decide_eq_true_eq] at hm
    by_cases h : f (k, v) = true
    · rw [List.filter_cons_of_pos h]
      simp [SMap.wfFrom, hm.1.1, hm.1.2, ih hm.2]
    · rw [List.filter_cons_of_neg h]
      exact SMap.wfFrom_mono (by omega) (ih hm.2)

/-- Removing entries keeps the canonical form. -/
theorem SMap.wf_filter {d : α} (f : Nat × α → Bool) {m : SMap α} (h : SMap.wf d m = true) :
    SMap.wf d (List.filter f m) = true := SMap.wfFrom_filter f h

end Form

end Maps

/-! ### Stores -/

@[simp] theorem Store.byte_setByte_same (st : Store) (a : Nat) (b : Byte) : (st.setByte a b).byte a = b := by
  simp [Store.byte, Store.setByte]

theorem Store.byte_setByte_other {a c : Nat} (h : c ≠ a) (st : Store) (b : Byte) : (st.setByte a b).byte c = st.byte c := by
  simp [Store.byte, Store.setByte, SMap.get_put_other h]

@[simp] theorem Store.synd_setByte (st : Store) (a : Nat) (b : Byte) : (st.setByte a b).synd = st.synd := rfl

@[simp] theorem Store.synd_setBytes (l : List Nat) : ∀ (st : Store) (a : Nat), (st.setBytes a l).synd = st.synd := by
  induction l with
  | nil => intro st a; rfl
  | cons b t ih => intro st a; simp [Store.setBytes, ih]

/-- Bytes written leave every byte outside them as it was. -/
theorem Store.byte_setBytes_other (l : List Nat) :
    ∀ (st : Store) (a c : Nat), (c < a ∨ a + l.length ≤ c) → (st.setBytes a l).byte c = st.byte c := by
  induction l with
  | nil => intro st a c _; rfl
  | cons b t ih =>
    intro st a c h
    simp only [List.length_cons] at h
    rw [Store.setBytes, ih _ _ _ (by omega), Store.byte_setByte_other (by omega)]

/-- Bytes written are the bytes read. -/
theorem Store.byte_setBytes_same (l : List Nat) :
    ∀ (st : Store) (a i : Nat) (h : i < l.length), (st.setBytes a l).byte (a + i) = BitVec.ofNat 8 l[i] := by
  induction l with
  | nil => intro st a i h; simp at h
  | cons b t ih =>
    intro st a i h
    cases i with
    | zero => rw [Store.setBytes, Nat.add_zero, Store.byte_setBytes_other _ _ _ _ (by omega)]; simp
    | succ i =>
      simp only [List.length_cons] at h
      have := ih (st.setByte a (BitVec.ofNat 8 b)) (a + 1) i (by omega)
      rw [Store.setBytes, show a + (i + 1) = a + 1 + i by omega, this]; simp

@[simp] theorem Store.syndrome_setGranule_same (st : Store) (g d s : Nat) : (st.setGranule g d s).syndrome g = s := by
  simp [Store.syndrome, Store.setGranule]

theorem Store.syndrome_setGranule_other {g h : Nat} (hn : h ≠ g) (st : Store) (d s : Nat) :
    (st.setGranule g d s).syndrome h = st.syndrome h := by
  simp [Store.syndrome, Store.setGranule, SMap.get_put_other hn]

@[simp] theorem toLe_length (n : Nat) : ∀ x : Nat, (toLe n x).length = n := by
  induction n with
  | zero => intro x; rfl
  | succ n ih => intro x; simp [toLe, ih]

/-- The bytes of a number are the number's digits to base 256. -/
theorem toLe_get (n : Nat) : ∀ (x i : Nat) (h : i < (toLe n x).length), (toLe n x)[i] = x / 256 ^ i % 256 := by
  induction n with
  | zero => intro x i h; simp [toLe] at h
  | succ n ih =>
    intro x i h
    cases i with
    | zero => simp [toLe]
    | succ i =>
      have h' : i < (toLe n (x / 256)).length := by simpa [toLe] using h
      simp only [toLe, List.getElem_cons_succ]
      rw [ih (x / 256) i h', Nat.div_div_eq_div_mul, Nat.pow_succ']

theorem leNat_toLe (n : Nat) : ∀ x : Nat, leNat (toLe n x) = x % 256 ^ n := by
  induction n with
  | zero => intro x; simp [toLe, leNat, Nat.mod_one]
  | succ n ih =>
    intro x
    simp only [toLe, leNat, ih]
    rw [Nat.pow_succ', Nat.mod_mul]

/-- A granule written is the granule read. -/
theorem Store.granule_setGranule_same (st : Store) (g d s : Nat) : (st.setGranule g d s).granule g = d % 2 ^ 128 := by
  have hb : (st.setGranule g d s).bytes (16 * g) 16 = toLe 16 d := by
    apply List.ext_getElem
    · simp [Store.bytes]
    · intro i h1 h2
      simp only [Store.bytes, List.getElem_map, List.getElem_range]
      have hi : i < (toLe 16 d).length := h2
      have hx : (st.setGranule g d s).byte (16 * g + i) = (st.setBytes (16 * g) (toLe 16 d)).byte (16 * g + i) := rfl
      rw [hx, Store.byte_setBytes_same _ _ _ _ hi, toLe_get _ _ _ hi]
      simp
  rw [Store.granule, hb, leNat_toLe, show (256 : Nat) ^ 16 = 2 ^ 128 from rfl]

/-- A granule written leaves every other granule as it was. -/
theorem Store.granule_setGranule_other {g h : Nat} (hn : h ≠ g) (st : Store) (d s : Nat) :
    (st.setGranule g d s).granule h = st.granule h := by
  have hb : (st.setGranule g d s).bytes (16 * h) 16 = st.bytes (16 * h) 16 := by
    apply List.map_congr_left
    intro i hi
    have hi' : i < 16 := by simpa using hi
    have hx : (st.setGranule g d s).byte (16 * h + i) = (st.setBytes (16 * g) (toLe 16 d)).byte (16 * h + i) := rfl
    rw [hx, Store.byte_setBytes_other _ _ _ _ (by simp; omega)]
  rw [Store.granule, hb, Store.granule]

/-! ### Every store operation keeps the canonical form -/

theorem Store.wf_iff (st : Store) : st.wf = true ↔ SMap.wf 0 st.cells = true ∧ SMap.wf 0 st.synd = true := by
  simp [Store.wf]

theorem Store.wf_setByte {st : Store} (h : st.wf = true) (a : Nat) (b : Byte) : (st.setByte a b).wf = true := by
  rw [Store.wf_iff] at *
  exact ⟨SMap.wf_put a b h.1, h.2⟩

theorem Store.wf_setBytes (l : List Nat) : ∀ {st : Store} (_ : st.wf = true) (a : Nat), (st.setBytes a l).wf = true := by
  induction l with
  | nil => intro st h a; exact h
  | cons b t ih => intro st h a; exact ih (Store.wf_setByte h a _) (a + 1)

theorem Store.wf_synd {st : Store} (h : st.wf = true) (g s : Nat) :
    ({ st with synd := SMap.put 0 g s st.synd } : Store).wf = true := by
  rw [Store.wf_iff] at *
  exact ⟨h.1, SMap.wf_put g s h.2⟩

theorem Store.wf_setGranule {st : Store} (h : st.wf = true) (g d s : Nat) : (st.setGranule g d s).wf = true :=
  Store.wf_synd (Store.wf_setBytes _ h _) g s

theorem Store.wf_upset {st : Store} (h : st.wf = true) (g e : Nat) : (st.upset g e).wf = true :=
  Store.wf_synd (Store.wf_setBytes _ h _) g _

theorem Store.wf_upsets (l : List (Nat × Nat)) : ∀ {st : Store} (_ : st.wf = true), (st.upsets l).wf = true := by
  induction l with
  | nil => intro st h; exact h
  | cons p t ih => intro st h; exact ih (Store.wf_upset h p.1 p.2)

theorem Store.wf_zero {st : Store} (h : st.wf = true) (g n : Nat) : (st.zero g n).wf = true := by
  rw [Store.wf_iff] at *
  exact ⟨SMap.wf_filter _ h.1, SMap.wf_filter _ h.2⟩

theorem Store.wf_reset : Store.reset.wf = true := rfl

end Sys2Proof.Machine
end

