-- ==== Sys2Proof/Laws/State.lean ====
section
/-! SUPPORT. What each update of the state leaves alone, field by field, and what registers and records read after a write. -/

namespace Sys2Proof.Machine

/-! ### Registers -/

@[simp] theorem Module.rd_wr_same (m : Module) (f : Fld) (v : Nat) (idx : List Nat) : (m.wr f v idx).rd f idx = v % 2 ^ f.width := by
  simp [Module.rd, Module.wr]

theorem Module.rd_wr_other {f g : Fld} {i j : List Nat} (h : g.key j ≠ f.key i) (m : Module) (v : Nat) :
    (m.wr f v i).rd g j = m.rd g j := by
  simp [Module.rd, Module.wr, SMap.find?_ins_other h]

@[simp] theorem Module.rd_set1_same (m : Module) (f : Fld) (idx : List Nat) : (m.set1 f idx).rd f idx = 1 % 2 ^ f.width := by
  simp [Module.set1]

@[simp] theorem Module.rd_clr_same (m : Module) (f : Fld) (idx : List Nat) : (m.clr f idx).rd f idx = 0 := by
  simp [Module.clr]

theorem Module.rd_set1_other {f g : Fld} {i j : List Nat} (h : g.key j ≠ f.key i) (m : Module) : (m.set1 f i).rd g j = m.rd g j :=
  Module.rd_wr_other h m 1

theorem Module.rd_clr_other {f g : Fld} {i j : List Nat} (h : g.key j ≠ f.key i) (m : Module) : (m.clr f i).rd g j = m.rd g j :=
  Module.rd_wr_other h m 0

/-- A counter raised reads its old value plus n, held at its largest value. -/
@[simp] theorem Module.rd_count_same (m : Module) (f : Fld) (n : Nat) (idx : List Nat) :
    (m.count f n idx).rd f idx = min (m.rd f idx + n) (2 ^ f.width - 1) := by
  have h : 0 < 2 ^ f.width := Nat.two_pow_pos _
  simp only [Module.count, Module.rd_wr_same]
  exact Nat.mod_eq_of_lt (by omega)

theorem Module.rd_count_other {f g : Fld} {i j : List Nat} (h : g.key j ≠ f.key i) (m : Module) (n : Nat) :
    (m.count f n i).rd g j = m.rd g j := Module.rd_wr_other h m _

/-- Every field reads its reset value at reset. -/
theorem Module.rd_reset (f : Fld) (idx : List Nat) : Module.reset.rd f idx = f.resetAt idx := rfl

/-! ### Records of the typed state -/

@[simp] theorem Module.tine_modTine_same (m : Module) (s : Nat) (f : Tine → Tine) : (m.modTine s f).tine s = f (m.tine s) := by
  simp [Module.tine, Module.modTine, Module.setTine]

theorem Module.tine_modTine_other {s r : Nat} (h : r ≠ s) (m : Module) (f : Tine → Tine) : (m.modTine s f).tine r = m.tine r := by
  simp [Module.tine, Module.modTine, Module.setTine, SMap.get_put_other h]

@[simp] theorem Module.tine_modSeq_same (m : Module) (s : Nat) (f : Seqr → Seqr) :
    (m.modSeq s f).tine s = { m.tine s with seq := f (m.tine s).seq } := by
  simp [Module.modSeq]

theorem Module.tine_modSeq_other {s r : Nat} (h : r ≠ s) (m : Module) (f : Seqr → Seqr) : (m.modSeq s f).tine r = m.tine r :=
  Module.tine_modTine_other h m _

@[simp] theorem Module.ctxOf_setCtx_same (m : Module) (c : Nat) (x : Ctx) : (m.setCtx c x).ctxOf c = x := by
  simp [Module.ctxOf, Module.setCtx]

theorem Module.ctxOf_setCtx_other {c d : Nat} (h : d ≠ c) (m : Module) (x : Ctx) : (m.setCtx c x).ctxOf d = m.ctxOf d := by
  simp [Module.ctxOf, Module.setCtx, SMap.get_put_other h]

@[simp] theorem Module.queue_modQueue_same (m : Module) (q : Nat) (f : Queue → Queue) : (m.modQueue q f).queue q = f (m.queue q) := by
  simp [Module.queue, Module.modQueue, Module.setQueue]

theorem Module.queue_modQueue_other {q r : Nat} (h : r ≠ q) (m : Module) (f : Queue → Queue) :
    (m.modQueue q f).queue r = m.queue r := by
  simp [Module.queue, Module.modQueue, Module.setQueue, SMap.get_put_other h]

@[simp] theorem Module.guest_modGuest_same (m : Module) (g : Nat) (f : Guest → Guest) : (m.modGuest g f).guest g = f (m.guest g) := by
  simp [Module.guest, Module.modGuest]

/-! ### What an update leaves alone -/

@[simp] theorem Module.wr_free (m : Module) (f : Fld) (v : Nat) (idx : List Nat) : (m.wr f v idx).free = m.free := rfl
@[simp] theorem Module.wr_out (m : Module) (f : Fld) (v : Nat) (idx : List Nat) : (m.wr f v idx).out = m.out := rfl
@[simp] theorem Module.wr_dev (m : Module) (f : Fld) (v : Nat) (idx : List Nat) : (m.wr f v idx).dev = m.dev := rfl
@[simp] theorem Module.wr_sram (m : Module) (f : Fld) (v : Nat) (idx : List Nat) : (m.wr f v idx).sram = m.sram := rfl
@[simp] theorem Module.wr_scrub (m : Module) (f : Fld) (v : Nat) (idx : List Nat) : (m.wr f v idx).scrub = m.scrub := rfl
@[simp] theorem Module.wr_repairs (m : Module) (f : Fld) (v : Nat) (idx : List Nat) : (m.wr f v idx).repairs = m.repairs := rfl
@[simp] theorem Module.wr_memBand (m : Module) (f : Fld) (v : Nat) (idx : List Nat) : (m.wr f v idx).memBand = m.memBand := rfl
@[simp] theorem Module.wr_hub (m : Module) (f : Fld) (v : Nat) (idx : List Nat) : (m.wr f v idx).hub = m.hub := rfl
@[simp] theorem Module.wr_saf (m : Module) (f : Fld) (v : Nat) (idx : List Nat) : (m.wr f v idx).saf = m.saf := rfl
@[simp] theorem Module.wr_thm (m : Module) (f : Fld) (v : Nat) (idx : List Nat) : (m.wr f v idx).thm = m.thm := rfl
@[simp] theorem Module.wr_pwr (m : Module) (f : Fld) (v : Nat) (idx : List Nat) : (m.wr f v idx).pwr = m.pwr := rfl
@[simp] theorem Module.wr_tines (m : Module) (f : Fld) (v : Nat) (idx : List Nat) : (m.wr f v idx).tines = m.tines := rfl
@[simp] theorem Module.wr_cal (m : Module) (f : Fld) (v : Nat) (idx : List Nat) : (m.wr f v idx).cal = m.cal := rfl
@[simp] theorem Module.wr_flash (m : Module) (f : Fld) (v : Nat) (idx : List Nat) : (m.wr f v idx).flash = m.flash := rfl
@[simp] theorem Module.wr_sec (m : Module) (f : Fld) (v : Nat) (idx : List Nat) : (m.wr f v idx).sec = m.sec := rfl
@[simp] theorem Module.wr_crc (m : Module) (f : Fld) (v : Nat) (idx : List Nat) : (m.wr f v idx).crc = m.crc := rfl
@[simp] theorem Module.wr_mesh (m : Module) (f : Fld) (v : Nat) (idx : List Nat) : (m.wr f v idx).mesh = m.mesh := rfl
@[simp] theorem Module.wr_ctx (m : Module) (f : Fld) (v : Nat) (idx : List Nat) : (m.wr f v idx).ctx = m.ctx := rfl
@[simp] theorem Module.wr_host (m : Module) (f : Fld) (v : Nat) (idx : List Nat) : (m.wr f v idx).host = m.host := rfl
@[simp] theorem Module.wr_adm (m : Module) (f : Fld) (v : Nat) (idx : List Nat) : (m.wr f v idx).adm = m.adm := rfl
@[simp] theorem Module.wr_str (m : Module) (f : Fld) (v : Nat) (idx : List Nat) : (m.wr f v idx).str = m.str := rfl
@[simp] theorem Module.wr_seqs (m : Module) (f : Fld) (v : Nat) (idx : List Nat) : (m.wr f v idx).seqs = m.seqs := rfl
@[simp] theorem Module.wr_seqWait (m : Module) (f : Fld) (v : Nat) (idx : List Nat) : (m.wr f v idx).seqWait = m.seqWait := rfl
@[simp] theorem Module.wr_optics (m : Module) (f : Fld) (v : Nat) (idx : List Nat) : (m.wr f v idx).optics = m.optics := rfl
@[simp] theorem Module.wr_lasers (m : Module) (f : Fld) (v : Nat) (idx : List Nat) : (m.wr f v idx).lasers = m.lasers := rfl
@[simp] theorem Module.wr_links (m : Module) (f : Fld) (v : Nat) (idx : List Nat) : (m.wr f v idx).links = m.links := rfl
@[simp] theorem Module.wr_rte (m : Module) (f : Fld) (v : Nat) (idx : List Nat) : (m.wr f v idx).rte = m.rte := rfl
@[simp] theorem Module.wr_qlk (m : Module) (f : Fld) (v : Nat) (idx : List Nat) : (m.wr f v idx).qlk = m.qlk := rfl
@[simp] theorem Module.wr_pair (m : Module) (f : Fld) (v : Nat) (idx : List Nat) : (m.wr f v idx).pair = m.pair := rfl
@[simp] theorem Module.tine_wr (m : Module) (f : Fld) (v : Nat) (idx : List Nat) (r : Nat) : (m.wr f v idx).tine r = m.tine r := rfl

@[simp] theorem Module.set1_free (m : Module) (f : Fld) (idx : List Nat) : (m.set1 f idx).free = m.free := rfl
@[simp] theorem Module.set1_out (m : Module) (f : Fld) (idx : List Nat) : (m.set1 f idx).out = m.out := rfl
@[simp] theorem Module.set1_dev (m : Module) (f : Fld) (idx : List Nat) : (m.set1 f idx).dev = m.dev := rfl
@[simp] theorem Module.set1_sram (m : Module) (f : Fld) (idx : List Nat) : (m.set1 f idx).sram = m.sram := rfl
@[simp] theorem Module.set1_scrub (m : Module) (f : Fld) (idx : List Nat) : (m.set1 f idx).scrub = m.scrub := rfl
@[simp] theorem Module.set1_repairs (m : Module) (f : Fld) (idx : List Nat) : (m.set1 f idx).repairs = m.repairs := rfl
@[simp] theorem Module.set1_memBand (m : Module) (f : Fld) (idx : List Nat) : (m.set1 f idx).memBand = m.memBand := rfl
@[simp] theorem Module.set1_hub (m : Module) (f : Fld) (idx : List Nat) : (m.set1 f idx).hub = m.hub := rfl
@[simp] theorem Module.set1_saf (m : Module) (f : Fld) (idx : List Nat) : (m.set1 f idx).saf = m.saf := rfl
@[simp] theorem Module.set1_thm (m : Module) (f : Fld) (idx : List Nat) : (m.set1 f idx).thm = m.thm := rfl
@[simp] theorem Module.set1_pwr (m : Module) (f : Fld) (idx : List Nat) : (m.set1 f idx).pwr = m.pwr := rfl
@[simp] theorem Module.set1_tines (m : Module) (f : Fld) (idx : List Nat) : (m.set1 f idx).tines = m.tines := rfl
@[simp] theorem Module.set1_cal (m : Module) (f : Fld) (idx : List Nat) : (m.set1 f idx).cal = m.cal := rfl
@[simp] theorem Module.set1_flash (m : Module) (f : Fld) (idx : List Nat) : (m.set1 f idx).flash = m.flash := rfl
@[simp] theorem Module.set1_sec (m : Module) (f : Fld) (idx : List Nat) : (m.set1 f idx).sec = m.sec := rfl
@[simp] theorem Module.set1_crc (m : Module) (f : Fld) (idx : List Nat) : (m.set1 f idx).crc = m.crc := rfl
@[simp] theorem Module.set1_mesh (m : Module) (f : Fld) (idx : List Nat) : (m.set1 f idx).mesh = m.mesh := rfl
@[simp] theorem Module.set1_ctx (m : Module) (f : Fld) (idx : List Nat) : (m.set1 f idx).ctx = m.ctx := rfl
@[simp] theorem Module.set1_host (m : Module) (f : Fld) (idx : List Nat) : (m.set1 f idx).host = m.host := rfl
@[simp] theorem Module.set1_adm (m : Module) (f : Fld) (idx : List Nat) : (m.set1 f idx).adm = m.adm := rfl
@[simp] theorem Module.set1_str (m : Module) (f : Fld) (idx : List Nat) : (m.set1 f idx).str = m.str := rfl
@[simp] theorem Module.set1_seqs (m : Module) (f : Fld) (idx : List Nat) : (m.set1 f idx).seqs = m.seqs := rfl
@[simp] theorem Module.set1_seqWait (m : Module) (f : Fld) (idx : List Nat) : (m.set1 f idx).seqWait = m.seqWait := rfl
@[simp] theorem Module.set1_optics (m : Module) (f : Fld) (idx : List Nat) : (m.set1 f idx).optics = m.optics := rfl
@[simp] theorem Module.set1_lasers (m : Module) (f : Fld) (idx : List Nat) : (m.set1 f idx).lasers = m.lasers := rfl
@[simp] theorem Module.set1_links (m : Module) (f : Fld) (idx : List Nat) : (m.set1 f idx).links = m.links := rfl
@[simp] theorem Module.set1_rte (m : Module) (f : Fld) (idx : List Nat) : (m.set1 f idx).rte = m.rte := rfl
@[simp] theorem Module.set1_qlk (m : Module) (f : Fld) (idx : List Nat) : (m.set1 f idx).qlk = m.qlk := rfl
@[simp] theorem Module.set1_pair (m : Module) (f : Fld) (idx : List Nat) : (m.set1 f idx).pair = m.pair := rfl
@[simp] theorem Module.tine_set1 (m : Module) (f : Fld) (idx : List Nat) (r : Nat) : (m.set1 f idx).tine r = m.tine r := rfl

@[simp] theorem Module.clr_free (m : Module) (f : Fld) (idx : List Nat) : (m.clr f idx).free = m.free := rfl
@[simp] theorem Module.clr_out (m : Module) (f : Fld) (idx : List Nat) : (m.clr f idx).out = m.out := rfl
@[simp] theorem Module.clr_dev (m : Module) (f : Fld) (idx : List Nat) : (m.clr f idx).dev = m.dev := rfl
@[simp] theorem Module.clr_sram (m : Module) (f : Fld) (idx : List Nat) : (m.clr f idx).sram = m.sram := rfl
@[simp] theorem Module.clr_scrub (m : Module) (f : Fld) (idx : List Nat) : (m.clr f idx).scrub = m.scrub := rfl
@[simp] theorem Module.clr_repairs (m : Module) (f : Fld) (idx : List Nat) : (m.clr f idx).repairs = m.repairs := rfl
@[simp] theorem Module.clr_memBand (m : Module) (f : Fld) (idx : List Nat) : (m.clr f idx).memBand = m.memBand := rfl
@[simp] theorem Module.clr_hub (m : Module) (f : Fld) (idx : List Nat) : (m.clr f idx).hub = m.hub := rfl
@[simp] theorem Module.clr_saf (m : Module) (f : Fld) (idx : List Nat) : (m.clr f idx).saf = m.saf := rfl
@[simp] theorem Module.clr_thm (m : Module) (f : Fld) (idx : List Nat) : (m.clr f idx).thm = m.thm := rfl
@[simp] theorem Module.clr_pwr (m : Module) (f : Fld) (idx : List Nat) : (m.clr f idx).pwr = m.pwr := rfl
@[simp] theorem Module.clr_tines (m : Module) (f : Fld) (idx : List Nat) : (m.clr f idx).tines = m.tines := rfl
@[simp] theorem Module.clr_cal (m : Module) (f : Fld) (idx : List Nat) : (m.clr f idx).cal = m.cal := rfl
@[simp] theorem Module.clr_flash (m : Module) (f : Fld) (idx : List Nat) : (m.clr f idx).flash = m.flash := rfl
@[simp] theorem Module.clr_sec (m : Module) (f : Fld) (idx : List Nat) : (m.clr f idx).sec = m.sec := rfl
@[simp] theorem Module.clr_crc (m : Module) (f : Fld) (idx : List Nat) : (m.clr f idx).crc = m.crc := rfl
@[simp] theorem Module.clr_mesh (m : Module) (f : Fld) (idx : List Nat) : (m.clr f idx).mesh = m.mesh := rfl
@[simp] theorem Module.clr_ctx (m : Module) (f : Fld) (idx : List Nat) : (m.clr f idx).ctx = m.ctx := rfl
@[simp] theorem Module.clr_host (m : Module) (f : Fld) (idx : List Nat) : (m.clr f idx).host = m.host := rfl
@[simp] theorem Module.clr_adm (m : Module) (f : Fld) (idx : List Nat) : (m.clr f idx).adm = m.adm := rfl
@[simp] theorem Module.clr_str (m : Module) (f : Fld) (idx : List Nat) : (m.clr f idx).str = m.str := rfl
@[simp] theorem Module.clr_seqs (m : Module) (f : Fld) (idx : List Nat) : (m.clr f idx).seqs = m.seqs := rfl
@[simp] theorem Module.clr_seqWait (m : Module) (f : Fld) (idx : List Nat) : (m.clr f idx).seqWait = m.seqWait := rfl
@[simp] theorem Module.clr_optics (m : Module) (f : Fld) (idx : List Nat) : (m.clr f idx).optics = m.optics := rfl
@[simp] theorem Module.clr_lasers (m : Module) (f : Fld) (idx : List Nat) : (m.clr f idx).lasers = m.lasers := rfl
@[simp] theorem Module.clr_links (m : Module) (f : Fld) (idx : List Nat) : (m.clr f idx).links = m.links := rfl
@[simp] theorem Module.clr_rte (m : Module) (f : Fld) (idx : List Nat) : (m.clr f idx).rte = m.rte := rfl
@[simp] theorem Module.clr_qlk (m : Module) (f : Fld) (idx : List Nat) : (m.clr f idx).qlk = m.qlk := rfl
@[simp] theorem Module.clr_pair (m : Module) (f : Fld) (idx : List Nat) : (m.clr f idx).pair = m.pair := rfl
@[simp] theorem Module.tine_clr (m : Module) (f : Fld) (idx : List Nat) (r : Nat) : (m.clr f idx).tine r = m.tine r := rfl

@[simp] theorem Module.count_free (m : Module) (f : Fld) (n : Nat) (idx : List Nat) : (m.count f n idx).free = m.free := rfl
@[simp] theorem Module.count_out (m : Module) (f : Fld) (n : Nat) (idx : List Nat) : (m.count f n idx).out = m.out := rfl
@[simp] theorem Module.count_dev (m : Module) (f : Fld) (n : Nat) (idx : List Nat) : (m.count f n idx).dev = m.dev := rfl
@[simp] theorem Module.count_sram (m : Module) (f : Fld) (n : Nat) (idx : List Nat) : (m.count f n idx).sram = m.sram := rfl
@[simp] theorem Module.count_scrub (m : Module) (f : Fld) (n : Nat) (idx : List Nat) : (m.count f n idx).scrub = m.scrub := rfl
@[simp] theorem Module.count_repairs (m : Module) (f : Fld) (n : Nat) (idx : List Nat) : (m.count f n idx).repairs = m.repairs := rfl
@[simp] theorem Module.count_memBand (m : Module) (f : Fld) (n : Nat) (idx : List Nat) : (m.count f n idx).memBand = m.memBand := rfl
@[simp] theorem Module.count_hub (m : Module) (f : Fld) (n : Nat) (idx : List Nat) : (m.count f n idx).hub = m.hub := rfl
@[simp] theorem Module.count_saf (m : Module) (f : Fld) (n : Nat) (idx : List Nat) : (m.count f n idx).saf = m.saf := rfl
@[simp] theorem Module.count_thm (m : Module) (f : Fld) (n : Nat) (idx : List Nat) : (m.count f n idx).thm = m.thm := rfl
@[simp] theorem Module.count_pwr (m : Module) (f : Fld) (n : Nat) (idx : List Nat) : (m.count f n idx).pwr = m.pwr := rfl
@[simp] theorem Module.count_tines (m : Module) (f : Fld) (n : Nat) (idx : List Nat) : (m.count f n idx).tines = m.tines := rfl
@[simp] theorem Module.count_cal (m : Module) (f : Fld) (n : Nat) (idx : List Nat) : (m.count f n idx).cal = m.cal := rfl
@[simp] theorem Module.count_flash (m : Module) (f : Fld) (n : Nat) (idx : List Nat) : (m.count f n idx).flash = m.flash := rfl
@[simp] theorem Module.count_sec (m : Module) (f : Fld) (n : Nat) (idx : List Nat) : (m.count f n idx).sec = m.sec := rfl
@[simp] theorem Module.count_crc (m : Module) (f : Fld) (n : Nat) (idx : List Nat) : (m.count f n idx).crc = m.crc := rfl
@[simp] theorem Module.count_mesh (m : Module) (f : Fld) (n : Nat) (idx : List Nat) : (m.count f n idx).mesh = m.mesh := rfl
@[simp] theorem Module.count_ctx (m : Module) (f : Fld) (n : Nat) (idx : List Nat) : (m.count f n idx).ctx = m.ctx := rfl
@[simp] theorem Module.count_host (m : Module) (f : Fld) (n : Nat) (idx : List Nat) : (m.count f n idx).host = m.host := rfl
@[simp] theorem Module.count_adm (m : Module) (f : Fld) (n : Nat) (idx : List Nat) : (m.count f n idx).adm = m.adm := rfl
@[simp] theorem Module.count_str (m : Module) (f : Fld) (n : Nat) (idx : List Nat) : (m.count f n idx).str = m.str := rfl
@[simp] theorem Module.count_seqs (m : Module) (f : Fld) (n : Nat) (idx : List Nat) : (m.count f n idx).seqs = m.seqs := rfl
@[simp] theorem Module.count_seqWait (m : Module) (f : Fld) (n : Nat) (idx : List Nat) : (m.count f n idx).seqWait = m.seqWait := rfl
@[simp] theorem Module.count_optics (m : Module) (f : Fld) (n : Nat) (idx : List Nat) : (m.count f n idx).optics = m.optics := rfl
@[simp] theorem Module.count_lasers (m : Module) (f : Fld) (n : Nat) (idx : List Nat) : (m.count f n idx).lasers = m.lasers := rfl
@[simp] theorem Module.count_links (m : Module) (f : Fld) (n : Nat) (idx : List Nat) : (m.count f n idx).links = m.links := rfl
@[simp] theorem Module.count_rte (m : Module) (f : Fld) (n : Nat) (idx : List Nat) : (m.count f n idx).rte = m.rte := rfl
@[simp] theorem Module.count_qlk (m : Module) (f : Fld) (n : Nat) (idx : List Nat) : (m.count f n idx).qlk = m.qlk := rfl
@[simp] theorem Module.count_pair (m : Module) (f : Fld) (n : Nat) (idx : List Nat) : (m.count f n idx).pair = m.pair := rfl
@[simp] theorem Module.tine_count (m : Module) (f : Fld) (n : Nat) (idx : List Nat) (r : Nat) : (m.count f n idx).tine r = m.tine r := rfl

@[simp] theorem Module.wrBit_free (m : Module) (f : Fld) (b : Nat) (v : Bool) (idx : List Nat) : (m.wrBit f b v idx).free = m.free := rfl
@[simp] theorem Module.wrBit_out (m : Module) (f : Fld) (b : Nat) (v : Bool) (idx : List Nat) : (m.wrBit f b v idx).out = m.out := rfl
@[simp] theorem Module.wrBit_dev (m : Module) (f : Fld) (b : Nat) (v : Bool) (idx : List Nat) : (m.wrBit f b v idx).dev = m.dev := rfl
@[simp] theorem Module.wrBit_sram (m : Module) (f : Fld) (b : Nat) (v : Bool) (idx : List Nat) : (m.wrBit f b v idx).sram = m.sram := rfl
@[simp] theorem Module.wrBit_scrub (m : Module) (f : Fld) (b : Nat) (v : Bool) (idx : List Nat) : (m.wrBit f b v idx).scrub = m.scrub := rfl
@[simp] theorem Module.wrBit_repairs (m : Module) (f : Fld) (b : Nat) (v : Bool) (idx : List Nat) : (m.wrBit f b v idx).repairs = m.repairs := rfl
@[simp] theorem Module.wrBit_memBand (m : Module) (f : Fld) (b : Nat) (v : Bool) (idx : List Nat) : (m.wrBit f b v idx).memBand = m.memBand := rfl
@[simp] theorem Module.wrBit_hub (m : Module) (f : Fld) (b : Nat) (v : Bool) (idx : List Nat) : (m.wrBit f b v idx).hub = m.hub := rfl
@[simp] theorem Module.wrBit_saf (m : Module) (f : Fld) (b : Nat) (v : Bool) (idx : List Nat) : (m.wrBit f b v idx).saf = m.saf := rfl
@[simp] theorem Module.wrBit_thm (m : Module) (f : Fld) (b : Nat) (v : Bool) (idx : List Nat) : (m.wrBit f b v idx).thm = m.thm := rfl
@[simp] theorem Module.wrBit_pwr (m : Module) (f : Fld) (b : Nat) (v : Bool) (idx : List Nat) : (m.wrBit f b v idx).pwr = m.pwr := rfl
@[simp] theorem Module.wrBit_tines (m : Module) (f : Fld) (b : Nat) (v : Bool) (idx : List Nat) : (m.wrBit f b v idx).tines = m.tines := rfl
@[simp] theorem Module.wrBit_cal (m : Module) (f : Fld) (b : Nat) (v : Bool) (idx : List Nat) : (m.wrBit f b v idx).cal = m.cal := rfl
@[simp] theorem Module.wrBit_flash (m : Module) (f : Fld) (b : Nat) (v : Bool) (idx : List Nat) : (m.wrBit f b v idx).flash = m.flash := rfl
@[simp] theorem Module.wrBit_sec (m : Module) (f : Fld) (b : Nat) (v : Bool) (idx : List Nat) : (m.wrBit f b v idx).sec = m.sec := rfl
@[simp] theorem Module.wrBit_crc (m : Module) (f : Fld) (b : Nat) (v : Bool) (idx : List Nat) : (m.wrBit f b v idx).crc = m.crc := rfl
@[simp] theorem Module.wrBit_mesh (m : Module) (f : Fld) (b : Nat) (v : Bool) (idx : List Nat) : (m.wrBit f b v idx).mesh = m.mesh := rfl
@[simp] theorem Module.wrBit_ctx (m : Module) (f : Fld) (b : Nat) (v : Bool) (idx : List Nat) : (m.wrBit f b v idx).ctx = m.ctx := rfl
@[simp] theorem Module.wrBit_host (m : Module) (f : Fld) (b : Nat) (v : Bool) (idx : List Nat) : (m.wrBit f b v idx).host = m.host := rfl
@[simp] theorem Module.wrBit_adm (m : Module) (f : Fld) (b : Nat) (v : Bool) (idx : List Nat) : (m.wrBit f b v idx).adm = m.adm := rfl
@[simp] theorem Module.wrBit_str (m : Module) (f : Fld) (b : Nat) (v : Bool) (idx : List Nat) : (m.wrBit f b v idx).str = m.str := rfl
@[simp] theorem Module.wrBit_seqs (m : Module) (f : Fld) (b : Nat) (v : Bool) (idx : List Nat) : (m.wrBit f b v idx).seqs = m.seqs := rfl
@[simp] theorem Module.wrBit_seqWait (m : Module) (f : Fld) (b : Nat) (v : Bool) (idx : List Nat) : (m.wrBit f b v idx).seqWait = m.seqWait := rfl
@[simp] theorem Module.wrBit_optics (m : Module) (f : Fld) (b : Nat) (v : Bool) (idx : List Nat) : (m.wrBit f b v idx).optics = m.optics := rfl
@[simp] theorem Module.wrBit_lasers (m : Module) (f : Fld) (b : Nat) (v : Bool) (idx : List Nat) : (m.wrBit f b v idx).lasers = m.lasers := rfl
@[simp] theorem Module.wrBit_links (m : Module) (f : Fld) (b : Nat) (v : Bool) (idx : List Nat) : (m.wrBit f b v idx).links = m.links := rfl
@[simp] theorem Module.wrBit_rte (m : Module) (f : Fld) (b : Nat) (v : Bool) (idx : List Nat) : (m.wrBit f b v idx).rte = m.rte := rfl
@[simp] theorem Module.wrBit_qlk (m : Module) (f : Fld) (b : Nat) (v : Bool) (idx : List Nat) : (m.wrBit f b v idx).qlk = m.qlk := rfl
@[simp] theorem Module.wrBit_pair (m : Module) (f : Fld) (b : Nat) (v : Bool) (idx : List Nat) : (m.wrBit f b v idx).pair = m.pair := rfl
@[simp] theorem Module.tine_wrBit (m : Module) (f : Fld) (b : Nat) (v : Bool) (idx : List Nat) (r : Nat) : (m.wrBit f b v idx).tine r = m.tine r := rfl

@[simp] theorem Module.emit_free (m : Module) (o : Output) : (m.emit o).free = m.free := rfl
@[simp] theorem Module.emit_regs (m : Module) (o : Output) : (m.emit o).regs = m.regs := rfl
@[simp] theorem Module.emit_dev (m : Module) (o : Output) : (m.emit o).dev = m.dev := rfl
@[simp] theorem Module.emit_sram (m : Module) (o : Output) : (m.emit o).sram = m.sram := rfl
@[simp] theorem Module.emit_scrub (m : Module) (o : Output) : (m.emit o).scrub = m.scrub := rfl
@[simp] theorem Module.emit_repairs (m : Module) (o : Output) : (m.emit o).repairs = m.repairs := rfl
@[simp] theorem Module.emit_memBand (m : Module) (o : Output) : (m.emit o).memBand = m.memBand := rfl
@[simp] theorem Module.emit_hub (m : Module) (o : Output) : (m.emit o).hub = m.hub := rfl
@[simp] theorem Module.emit_saf (m : Module) (o : Output) : (m.emit o).saf = m.saf := rfl
@[simp] theorem Module.emit_thm (m : Module) (o : Output) : (m.emit o).thm = m.thm := rfl
@[simp] theorem Module.emit_pwr (m : Module) (o : Output) : (m.emit o).pwr = m.pwr := rfl
@[simp] theorem Module.emit_tines (m : Module) (o : Output) : (m.emit o).tines = m.tines := rfl
@[simp] theorem Module.emit_cal (m : Module) (o : Output) : (m.emit o).cal = m.cal := rfl
@[simp] theorem Module.emit_flash (m : Module) (o : Output) : (m.emit o).flash = m.flash := rfl
@[simp] theorem Module.emit_sec (m : Module) (o : Output) : (m.emit o).sec = m.sec := rfl
@[simp] theorem Module.emit_crc (m : Module) (o : Output) : (m.emit o).crc = m.crc := rfl
@[simp] theorem Module.emit_mesh (m : Module) (o : Output) : (m.emit o).mesh = m.mesh := rfl
@[simp] theorem Module.emit_ctx (m : Module) (o : Output) : (m.emit o).ctx = m.ctx := rfl
@[simp] theorem Module.emit_host (m : Module) (o : Output) : (m.emit o).host = m.host := rfl
@[simp] theorem Module.emit_adm (m : Module) (o : Output) : (m.emit o).adm = m.adm := rfl
@[simp] theorem Module.emit_str (m : Module) (o : Output) : (m.emit o).str = m.str := rfl
@[simp] theorem Module.emit_seqs (m : Module) (o : Output) : (m.emit o).seqs = m.seqs := rfl
@[simp] theorem Module.emit_seqWait (m : Module) (o : Output) : (m.emit o).seqWait = m.seqWait := rfl
@[simp] theorem Module.emit_optics (m : Module) (o : Output) : (m.emit o).optics = m.optics := rfl
@[simp] theorem Module.emit_lasers (m : Module) (o : Output) : (m.emit o).lasers = m.lasers := rfl
@[simp] theorem Module.emit_links (m : Module) (o : Output) : (m.emit o).links = m.links := rfl
@[simp] theorem Module.emit_rte (m : Module) (o : Output) : (m.emit o).rte = m.rte := rfl
@[simp] theorem Module.emit_qlk (m : Module) (o : Output) : (m.emit o).qlk = m.qlk := rfl
@[simp] theorem Module.emit_pair (m : Module) (o : Output) : (m.emit o).pair = m.pair := rfl
@[simp] theorem Module.rd_emit (m : Module) (o : Output) (h : Fld) (j : List Nat) : (m.emit o).rd h j = m.rd h j := rfl
@[simp] theorem Module.tine_emit (m : Module) (o : Output) (r : Nat) : (m.emit o).tine r = m.tine r := rfl

@[simp] theorem Module.modTine_free (m : Module) (s : Nat) (f : Tine → Tine) : (m.modTine s f).free = m.free := rfl
@[simp] theorem Module.modTine_out (m : Module) (s : Nat) (f : Tine → Tine) : (m.modTine s f).out = m.out := rfl
@[simp] theorem Module.modTine_regs (m : Module) (s : Nat) (f : Tine → Tine) : (m.modTine s f).regs = m.regs := rfl
@[simp] theorem Module.modTine_dev (m : Module) (s : Nat) (f : Tine → Tine) : (m.modTine s f).dev = m.dev := rfl
@[simp] theorem Module.modTine_sram (m : Module) (s : Nat) (f : Tine → Tine) : (m.modTine s f).sram = m.sram := rfl
@[simp] theorem Module.modTine_scrub (m : Module) (s : Nat) (f : Tine → Tine) : (m.modTine s f).scrub = m.scrub := rfl
@[simp] theorem Module.modTine_repairs (m : Module) (s : Nat) (f : Tine → Tine) : (m.modTine s f).repairs = m.repairs := rfl
@[simp] theorem Module.modTine_memBand (m : Module) (s : Nat) (f : Tine → Tine) : (m.modTine s f).memBand = m.memBand := rfl
@[simp] theorem Module.modTine_hub (m : Module) (s : Nat) (f : Tine → Tine) : (m.modTine s f).hub = m.hub := rfl
@[simp] theorem Module.modTine_saf (m : Module) (s : Nat) (f : Tine → Tine) : (m.modTine s f).saf = m.saf := rfl
@[simp] theorem Module.modTine_thm (m : Module) (s : Nat) (f : Tine → Tine) : (m.modTine s f).thm = m.thm := rfl
@[simp] theorem Module.modTine_pwr (m : Module) (s : Nat) (f : Tine → Tine) : (m.modTine s f).pwr = m.pwr := rfl
@[simp] theorem Module.modTine_cal (m : Module) (s : Nat) (f : Tine → Tine) : (m.modTine s f).cal = m.cal := rfl
@[simp] theorem Module.modTine_flash (m : Module) (s : Nat) (f : Tine → Tine) : (m.modTine s f).flash = m.flash := rfl
@[simp] theorem Module.modTine_sec (m : Module) (s : Nat) (f : Tine → Tine) : (m.modTine s f).sec = m.sec := rfl
@[simp] theorem Module.modTine_crc (m : Module) (s : Nat) (f : Tine → Tine) : (m.modTine s f).crc = m.crc := rfl
@[simp] theorem Module.modTine_mesh (m : Module) (s : Nat) (f : Tine → Tine) : (m.modTine s f).mesh = m.mesh := rfl
@[simp] theorem Module.modTine_ctx (m : Module) (s : Nat) (f : Tine → Tine) : (m.modTine s f).ctx = m.ctx := rfl
@[simp] theorem Module.modTine_host (m : Module) (s : Nat) (f : Tine → Tine) : (m.modTine s f).host = m.host := rfl
@[simp] theorem Module.modTine_adm (m : Module) (s : Nat) (f : Tine → Tine) : (m.modTine s f).adm = m.adm := rfl
@[simp] theorem Module.modTine_str (m : Module) (s : Nat) (f : Tine → Tine) : (m.modTine s f).str = m.str := rfl
@[simp] theorem Module.modTine_seqs (m : Module) (s : Nat) (f : Tine → Tine) : (m.modTine s f).seqs = m.seqs := rfl
@[simp] theorem Module.modTine_seqWait (m : Module) (s : Nat) (f : Tine → Tine) : (m.modTine s f).seqWait = m.seqWait := rfl
@[simp] theorem Module.modTine_optics (m : Module) (s : Nat) (f : Tine → Tine) : (m.modTine s f).optics = m.optics := rfl
@[simp] theorem Module.modTine_lasers (m : Module) (s : Nat) (f : Tine → Tine) : (m.modTine s f).lasers = m.lasers := rfl
@[simp] theorem Module.modTine_links (m : Module) (s : Nat) (f : Tine → Tine) : (m.modTine s f).links = m.links := rfl
@[simp] theorem Module.modTine_rte (m : Module) (s : Nat) (f : Tine → Tine) : (m.modTine s f).rte = m.rte := rfl
@[simp] theorem Module.modTine_qlk (m : Module) (s : Nat) (f : Tine → Tine) : (m.modTine s f).qlk = m.qlk := rfl
@[simp] theorem Module.modTine_pair (m : Module) (s : Nat) (f : Tine → Tine) : (m.modTine s f).pair = m.pair := rfl
@[simp] theorem Module.rd_modTine (m : Module) (s : Nat) (f : Tine → Tine) (h : Fld) (j : List Nat) : (m.modTine s f).rd h j = m.rd h j := rfl

@[simp] theorem Module.modSeq_free (m : Module) (s : Nat) (f : Seqr → Seqr) : (m.modSeq s f).free = m.free := rfl
@[simp] theorem Module.modSeq_out (m : Module) (s : Nat) (f : Seqr → Seqr) : (m.modSeq s f).out = m.out := rfl
@[simp] theorem Module.modSeq_regs (m : Module) (s : Nat) (f : Seqr → Seqr) : (m.modSeq s f).regs = m.regs := rfl
@[simp] theorem Module.modSeq_dev (m : Module) (s : Nat) (f : Seqr → Seqr) : (m.modSeq s f).dev = m.dev := rfl
@[simp] theorem Module.modSeq_sram (m : Module) (s : Nat) (f : Seqr → Seqr) : (m.modSeq s f).sram = m.sram := rfl
@[simp] theorem Module.modSeq_scrub (m : Module) (s : Nat) (f : Seqr → Seqr) : (m.modSeq s f).scrub = m.scrub := rfl
@[simp] theorem Module.modSeq_repairs (m : Module) (s : Nat) (f : Seqr → Seqr) : (m.modSeq s f).repairs = m.repairs := rfl
@[simp] theorem Module.modSeq_memBand (m : Module) (s : Nat) (f : Seqr → Seqr) : (m.modSeq s f).memBand = m.memBand := rfl
@[simp] theorem Module.modSeq_hub (m : Module) (s : Nat) (f : Seqr → Seqr) : (m.modSeq s f).hub = m.hub := rfl
@[simp] theorem Module.modSeq_saf (m : Module) (s : Nat) (f : Seqr → Seqr) : (m.modSeq s f).saf = m.saf := rfl
@[simp] theorem Module.modSeq_thm (m : Module) (s : Nat) (f : Seqr → Seqr) : (m.modSeq s f).thm = m.thm := rfl
@[simp] theorem Module.modSeq_pwr (m : Module) (s : Nat) (f : Seqr → Seqr) : (m.modSeq s f).pwr = m.pwr := rfl
@[simp] theorem Module.modSeq_cal (m : Module) (s : Nat) (f : Seqr → Seqr) : (m.modSeq s f).cal = m.cal := rfl
@[simp] theorem Module.modSeq_flash (m : Module) (s : Nat) (f : Seqr → Seqr) : (m.modSeq s f).flash = m.flash := rfl
@[simp] theorem Module.modSeq_sec (m : Module) (s : Nat) (f : Seqr → Seqr) : (m.modSeq s f).sec = m.sec := rfl
@[simp] theorem Module.modSeq_crc (m : Module) (s : Nat) (f : Seqr → Seqr) : (m.modSeq s f).crc = m.crc := rfl
@[simp] theorem Module.modSeq_mesh (m : Module) (s : Nat) (f : Seqr → Seqr) : (m.modSeq s f).mesh = m.mesh := rfl
@[simp] theorem Module.modSeq_ctx (m : Module) (s : Nat) (f : Seqr → Seqr) : (m.modSeq s f).ctx = m.ctx := rfl
@[simp] theorem Module.modSeq_host (m : Module) (s : Nat) (f : Seqr → Seqr) : (m.modSeq s f).host = m.host := rfl
@[simp] theorem Module.modSeq_adm (m : Module) (s : Nat) (f : Seqr → Seqr) : (m.modSeq s f).adm = m.adm := rfl
@[simp] theorem Module.modSeq_str (m : Module) (s : Nat) (f : Seqr → Seqr) : (m.modSeq s f).str = m.str := rfl
@[simp] theorem Module.modSeq_seqs (m : Module) (s : Nat) (f : Seqr → Seqr) : (m.modSeq s f).seqs = m.seqs := rfl
@[simp] theorem Module.modSeq_seqWait (m : Module) (s : Nat) (f : Seqr → Seqr) : (m.modSeq s f).seqWait = m.seqWait := rfl
@[simp] theorem Module.modSeq_optics (m : Module) (s : Nat) (f : Seqr → Seqr) : (m.modSeq s f).optics = m.optics := rfl
@[simp] theorem Module.modSeq_lasers (m : Module) (s : Nat) (f : Seqr → Seqr) : (m.modSeq s f).lasers = m.lasers := rfl
@[simp] theorem Module.modSeq_links (m : Module) (s : Nat) (f : Seqr → Seqr) : (m.modSeq s f).links = m.links := rfl
@[simp] theorem Module.modSeq_rte (m : Module) (s : Nat) (f : Seqr → Seqr) : (m.modSeq s f).rte = m.rte := rfl
@[simp] theorem Module.modSeq_qlk (m : Module) (s : Nat) (f : Seqr → Seqr) : (m.modSeq s f).qlk = m.qlk := rfl
@[simp] theorem Module.modSeq_pair (m : Module) (s : Nat) (f : Seqr → Seqr) : (m.modSeq s f).pair = m.pair := rfl
@[simp] theorem Module.rd_modSeq (m : Module) (s : Nat) (f : Seqr → Seqr) (h : Fld) (j : List Nat) : (m.modSeq s f).rd h j = m.rd h j := rfl

@[simp] theorem Module.setCtx_free (m : Module) (c : Nat) (x : Ctx) : (m.setCtx c x).free = m.free := rfl
@[simp] theorem Module.setCtx_out (m : Module) (c : Nat) (x : Ctx) : (m.setCtx c x).out = m.out := rfl
@[simp] theorem Module.setCtx_regs (m : Module) (c : Nat) (x : Ctx) : (m.setCtx c x).regs = m.regs := rfl
@[simp] theorem Module.setCtx_dev (m : Module) (c : Nat) (x : Ctx) : (m.setCtx c x).dev = m.dev := rfl
@[simp] theorem Module.setCtx_sram (m : Module) (c : Nat) (x : Ctx) : (m.setCtx c x).sram = m.sram := rfl
@[simp] theorem Module.setCtx_scrub (m : Module) (c : Nat) (x : Ctx) : (m.setCtx c x).scrub = m.scrub := rfl
@[simp] theorem Module.setCtx_repairs (m : Module) (c : Nat) (x : Ctx) : (m.setCtx c x).repairs = m.repairs := rfl
@[simp] theorem Module.setCtx_memBand (m : Module) (c : Nat) (x : Ctx) : (m.setCtx c x).memBand = m.memBand := rfl
@[simp] theorem Module.setCtx_hub (m : Module) (c : Nat) (x : Ctx) : (m.setCtx c x).hub = m.hub := rfl
@[simp] theorem Module.setCtx_saf (m : Module) (c : Nat) (x : Ctx) : (m.setCtx c x).saf = m.saf := rfl
@[simp] theorem Module.setCtx_thm (m : Module) (c : Nat) (x : Ctx) : (m.setCtx c x).thm = m.thm := rfl
@[simp] theorem Module.setCtx_pwr (m : Module) (c : Nat) (x : Ctx) : (m.setCtx c x).pwr = m.pwr := rfl
@[simp] theorem Module.setCtx_tines (m : Module) (c : Nat) (x : Ctx) : (m.setCtx c x).tines = m.tines := rfl
@[simp] theorem Module.setCtx_cal (m : Module) (c : Nat) (x : Ctx) : (m.setCtx c x).cal = m.cal := rfl
@[simp] theorem Module.setCtx_flash (m : Module) (c : Nat) (x : Ctx) : (m.setCtx c x).flash = m.flash := rfl
@[simp] theorem Module.setCtx_sec (m : Module) (c : Nat) (x : Ctx) : (m.setCtx c x).sec = m.sec := rfl
@[simp] theorem Module.setCtx_crc (m : Module) (c : Nat) (x : Ctx) : (m.setCtx c x).crc = m.crc := rfl
@[simp] theorem Module.setCtx_mesh (m : Module) (c : Nat) (x : Ctx) : (m.setCtx c x).mesh = m.mesh := rfl
@[simp] theorem Module.setCtx_host (m : Module) (c : Nat) (x : Ctx) : (m.setCtx c x).host = m.host := rfl
@[simp] theorem Module.setCtx_adm (m : Module) (c : Nat) (x : Ctx) : (m.setCtx c x).adm = m.adm := rfl
@[simp] theorem Module.setCtx_str (m : Module) (c : Nat) (x : Ctx) : (m.setCtx c x).str = m.str := rfl
@[simp] theorem Module.setCtx_seqs (m : Module) (c : Nat) (x : Ctx) : (m.setCtx c x).seqs = m.seqs := rfl
@[simp] theorem Module.setCtx_seqWait (m : Module) (c : Nat) (x : Ctx) : (m.setCtx c x).seqWait = m.seqWait := rfl
@[simp] theorem Module.setCtx_optics (m : Module) (c : Nat) (x : Ctx) : (m.setCtx c x).optics = m.optics := rfl
@[simp] theorem Module.setCtx_lasers (m : Module) (c : Nat) (x : Ctx) : (m.setCtx c x).lasers = m.lasers := rfl
@[simp] theorem Module.setCtx_links (m : Module) (c : Nat) (x : Ctx) : (m.setCtx c x).links = m.links := rfl
@[simp] theorem Module.setCtx_rte (m : Module) (c : Nat) (x : Ctx) : (m.setCtx c x).rte = m.rte := rfl
@[simp] theorem Module.setCtx_qlk (m : Module) (c : Nat) (x : Ctx) : (m.setCtx c x).qlk = m.qlk := rfl
@[simp] theorem Module.setCtx_pair (m : Module) (c : Nat) (x : Ctx) : (m.setCtx c x).pair = m.pair := rfl
@[simp] theorem Module.rd_setCtx (m : Module) (c : Nat) (x : Ctx) (h : Fld) (j : List Nat) : (m.setCtx c x).rd h j = m.rd h j := rfl
@[simp] theorem Module.tine_setCtx (m : Module) (c : Nat) (x : Ctx) (r : Nat) : (m.setCtx c x).tine r = m.tine r := rfl

@[simp] theorem Module.modQueue_free (m : Module) (q : Nat) (f : Queue → Queue) : (m.modQueue q f).free = m.free := rfl
@[simp] theorem Module.modQueue_out (m : Module) (q : Nat) (f : Queue → Queue) : (m.modQueue q f).out = m.out := rfl
@[simp] theorem Module.modQueue_regs (m : Module) (q : Nat) (f : Queue → Queue) : (m.modQueue q f).regs = m.regs := rfl
@[simp] theorem Module.modQueue_dev (m : Module) (q : Nat) (f : Queue → Queue) : (m.modQueue q f).dev = m.dev := rfl
@[simp] theorem Module.modQueue_sram (m : Module) (q : Nat) (f : Queue → Queue) : (m.modQueue q f).sram = m.sram := rfl
@[simp] theorem Module.modQueue_scrub (m : Module) (q : Nat) (f : Queue → Queue) : (m.modQueue q f).scrub = m.scrub := rfl
@[simp] theorem Module.modQueue_repairs (m : Module) (q : Nat) (f : Queue → Queue) : (m.modQueue q f).repairs = m.repairs := rfl
@[simp] theorem Module.modQueue_memBand (m : Module) (q : Nat) (f : Queue → Queue) : (m.modQueue q f).memBand = m.memBand := rfl
@[simp] theorem Module.modQueue_hub (m : Module) (q : Nat) (f : Queue → Queue) : (m.modQueue q f).hub = m.hub := rfl
@[simp] theorem Module.modQueue_saf (m : Module) (q : Nat) (f : Queue → Queue) : (m.modQueue q f).saf = m.saf := rfl
@[simp] theorem Module.modQueue_thm (m : Module) (q : Nat) (f : Queue → Queue) : (m.modQueue q f).thm = m.thm := rfl
@[simp] theorem Module.modQueue_pwr (m : Module) (q : Nat) (f : Queue → Queue) : (m.modQueue q f).pwr = m.pwr := rfl
@[simp] theorem Module.modQueue_tines (m : Module) (q : Nat) (f : Queue → Queue) : (m.modQueue q f).tines = m.tines := rfl
@[simp] theorem Module.modQueue_cal (m : Module) (q : Nat) (f : Queue → Queue) : (m.modQueue q f).cal = m.cal := rfl
@[simp] theorem Module.modQueue_flash (m : Module) (q : Nat) (f : Queue → Queue) : (m.modQueue q f).flash = m.flash := rfl
@[simp] theorem Module.modQueue_sec (m : Module) (q : Nat) (f : Queue → Queue) : (m.modQueue q f).sec = m.sec := rfl
@[simp] theorem Module.modQueue_crc (m : Module) (q : Nat) (f : Queue → Queue) : (m.modQueue q f).crc = m.crc := rfl
@[simp] theorem Module.modQueue_mesh (m : Module) (q : Nat) (f : Queue → Queue) : (m.modQueue q f).mesh = m.mesh := rfl
@[simp] theorem Module.modQueue_ctx (m : Module) (q : Nat) (f : Queue → Queue) : (m.modQueue q f).ctx = m.ctx := rfl
@[simp] theorem Module.modQueue_adm (m : Module) (q : Nat) (f : Queue → Queue) : (m.modQueue q f).adm = m.adm := rfl
@[simp] theorem Module.modQueue_str (m : Module) (q : Nat) (f : Queue → Queue) : (m.modQueue q f).str = m.str := rfl
@[simp] theorem Module.modQueue_seqs (m : Module) (q : Nat) (f : Queue → Queue) : (m.modQueue q f).seqs = m.seqs := rfl
@[simp] theorem Module.modQueue_seqWait (m : Module) (q : Nat) (f : Queue → Queue) : (m.modQueue q f).seqWait = m.seqWait := rfl
@[simp] theorem Module.modQueue_optics (m : Module) (q : Nat) (f : Queue → Queue) : (m.modQueue q f).optics = m.optics := rfl
@[simp] theorem Module.modQueue_lasers (m : Module) (q : Nat) (f : Queue → Queue) : (m.modQueue q f).lasers = m.lasers := rfl
@[simp] theorem Module.modQueue_links (m : Module) (q : Nat) (f : Queue → Queue) : (m.modQueue q f).links = m.links := rfl
@[simp] theorem Module.modQueue_rte (m : Module) (q : Nat) (f : Queue → Queue) : (m.modQueue q f).rte = m.rte := rfl
@[simp] theorem Module.modQueue_qlk (m : Module) (q : Nat) (f : Queue → Queue) : (m.modQueue q f).qlk = m.qlk := rfl
@[simp] theorem Module.modQueue_pair (m : Module) (q : Nat) (f : Queue → Queue) : (m.modQueue q f).pair = m.pair := rfl
@[simp] theorem Module.rd_modQueue (m : Module) (q : Nat) (f : Queue → Queue) (h : Fld) (j : List Nat) : (m.modQueue q f).rd h j = m.rd h j := rfl
@[simp] theorem Module.tine_modQueue (m : Module) (q : Nat) (f : Queue → Queue) (r : Nat) : (m.modQueue q f).tine r = m.tine r := rfl

@[simp] theorem Module.modGuest_free (m : Module) (g : Nat) (f : Guest → Guest) : (m.modGuest g f).free = m.free := rfl
@[simp] theorem Module.modGuest_out (m : Module) (g : Nat) (f : Guest → Guest) : (m.modGuest g f).out = m.out := rfl
@[simp] theorem Module.modGuest_regs (m : Module) (g : Nat) (f : Guest → Guest) : (m.modGuest g f).regs = m.regs := rfl
@[simp] theorem Module.modGuest_dev (m : Module) (g : Nat) (f : Guest → Guest) : (m.modGuest g f).dev = m.dev := rfl
@[simp] theorem Module.modGuest_sram (m : Module) (g : Nat) (f : Guest → Guest) : (m.modGuest g f).sram = m.sram := rfl
@[simp] theorem Module.modGuest_scrub (m : Module) (g : Nat) (f : Guest → Guest) : (m.modGuest g f).scrub = m.scrub := rfl
@[simp] theorem Module.modGuest_repairs (m : Module) (g : Nat) (f : Guest → Guest) : (m.modGuest g f).repairs = m.repairs := rfl
@[simp] theorem Module.modGuest_memBand (m : Module) (g : Nat) (f : Guest → Guest) : (m.modGuest g f).memBand = m.memBand := rfl
@[simp] theorem Module.modGuest_hub (m : Module) (g : Nat) (f : Guest → Guest) : (m.modGuest g f).hub = m.hub := rfl
@[simp] theorem Module.modGuest_saf (m : Module) (g : Nat) (f : Guest → Guest) : (m.modGuest g f).saf = m.saf := rfl
@[simp] theorem Module.modGuest_thm (m : Module) (g : Nat) (f : Guest → Guest) : (m.modGuest g f).thm = m.thm := rfl
@[simp] theorem Module.modGuest_pwr (m : Module) (g : Nat) (f : Guest → Guest) : (m.modGuest g f).pwr = m.pwr := rfl
@[simp] theorem Module.modGuest_tines (m : Module) (g : Nat) (f : Guest → Guest) : (m.modGuest g f).tines = m.tines := rfl
@[simp] theorem Module.modGuest_cal (m : Module) (g : Nat) (f : Guest → Guest) : (m.modGuest g f).cal = m.cal := rfl
@[simp] theorem Module.modGuest_flash (m : Module) (g : Nat) (f : Guest → Guest) : (m.modGuest g f).flash = m.flash := rfl
@[simp] theorem Module.modGuest_sec (m : Module) (g : Nat) (f : Guest → Guest) : (m.modGuest g f).sec = m.sec := rfl
@[simp] theorem Module.modGuest_crc (m : Module) (g : Nat) (f : Guest → Guest) : (m.modGuest g f).crc = m.crc := rfl
@[simp] theorem Module.modGuest_mesh (m : Module) (g : Nat) (f : Guest → Guest) : (m.modGuest g f).mesh = m.mesh := rfl
@[simp] theorem Module.modGuest_ctx (m : Module) (g : Nat) (f : Guest → Guest) : (m.modGuest g f).ctx = m.ctx := rfl
@[simp] theorem Module.modGuest_host (m : Module) (g : Nat) (f : Guest → Guest) : (m.modGuest g f).host = m.host := rfl
@[simp] theorem Module.modGuest_adm (m : Module) (g : Nat) (f : Guest → Guest) : (m.modGuest g f).adm = m.adm := rfl
@[simp] theorem Module.modGuest_str (m : Module) (g : Nat) (f : Guest → Guest) : (m.modGuest g f).str = m.str := rfl
@[simp] theorem Module.modGuest_seqs (m : Module) (g : Nat) (f : Guest → Guest) : (m.modGuest g f).seqs = m.seqs := rfl
@[simp] theorem Module.modGuest_seqWait (m : Module) (g : Nat) (f : Guest → Guest) : (m.modGuest g f).seqWait = m.seqWait := rfl
@[simp] theorem Module.modGuest_optics (m : Module) (g : Nat) (f : Guest → Guest) : (m.modGuest g f).optics = m.optics := rfl
@[simp] theorem Module.modGuest_lasers (m : Module) (g : Nat) (f : Guest → Guest) : (m.modGuest g f).lasers = m.lasers := rfl
@[simp] theorem Module.modGuest_links (m : Module) (g : Nat) (f : Guest → Guest) : (m.modGuest g f).links = m.links := rfl
@[simp] theorem Module.modGuest_rte (m : Module) (g : Nat) (f : Guest → Guest) : (m.modGuest g f).rte = m.rte := rfl
@[simp] theorem Module.modGuest_pair (m : Module) (g : Nat) (f : Guest → Guest) : (m.modGuest g f).pair = m.pair := rfl
@[simp] theorem Module.rd_modGuest (m : Module) (g : Nat) (f : Guest → Guest) (h : Fld) (j : List Nat) : (m.modGuest g f).rd h j = m.rd h j := rfl
@[simp] theorem Module.tine_modGuest (m : Module) (g : Nat) (f : Guest → Guest) (r : Nat) : (m.modGuest g f).tine r = m.tine r := rfl

/-! ### Commands -/

/-- A command whose operands are valid answers its effect. -/
theorem State.act_ok {s : State} {ok : Bool} (h : ok = true) (f : Module → Module) :
    s.act ok f = .next { s with toModule := f s.toModule } := by
  simp [State.act, h]

/-- A command whose operands name nothing leaves the state as it is. -/
theorem State.act_none {s : State} {ok : Bool} (h : ok = false) (f : Module → Module) : s.act ok f = .next s := by
  simp [State.act, h]

end Sys2Proof.Machine
end

