-- ==== Sys2Proof/Laws/Issue.lean ====
section
/-! SUPPORT. What issuing an operation does, once: the meaning of the word acts on the module with PC and the next index set. -/

namespace Sys2Proof.Machine

/-- A granule that stands correct in SRAM is read as it is, and the read changes nothing. -/
theorem Module.sramGranule_clean {m : Module} {s a : Nat} (h : m.sram.syndrome (sramKey s a / 16) = 0) :
    m.sramGranule s a = (m.sram.granule (sramKey s a / 16), 0, m) := by
  unfold Module.sramGranule
  simp only [h, show codeDecode 0 = CodeRes.clean from rfl]

/-- A site ready for an operation issues it: everything the issue can do from there is what the meaning answers, at once or from
its unit's queue. -/
theorem Module.issue_ready {m : Module} {site op w : Nat} {env : OpEnv} (h : m.readyFor site env op w) {is : Nat → Bool}
    (his : is op = true) (sem : Nat → Module → OpOut) : m.issue site env is sem = (m.issued site).afterOp site w env sem := by
  obtain ⟨h1, h2, h3, h4, h5, h6, h7, h8, h9, h10⟩ := h
  have h8' : ¬(sigOf w ≠ 0 ∧ SMap.get 0 (m.tine site).seq.tokens (sigOf w) ≥ 63) := by
    rintro ⟨a, b⟩; rcases h8 with h | h <;> omega
  have hg := Module.sramGranule_clean h5
  rw [h6] at hg
  subst h7
  have h9' : ¬(0x20 ≤ opOf w ∧ queueFull (m.tine site).seq.pend (opOf w) = true) := by
    rintro ⟨a, b⟩; rw [h9 a] at b; cases b
  have h10' : (if opOf w = 1 then (m.tine site).seq.opened && !m.entryPoint site (m.tine site).seq.nextPc
      else !(m.tine site).seq.opened) = false := by
    by_cases hop : opOf w = 1
    · simp only [hop, if_true] at h10 ⊢; rcases h10 with h | h <;> simp [h]
    · simp only [hop, if_false] at h10 ⊢; simp [h10]
  have hu : ({ m with sram := m.sram.upsets (env.upsets.map (fun (p : Nat × Nat) => (site * 2 ^ 23 + p.1 % 2 ^ 23, p.2))) } : Module) = m := by
    rw [h2]; rfl
  have hn : ¬((m.tine site).seq.nextPc ≥ (m.tine site).seq.disp.words ∨ (m.tine site).seq.nextPc > 4095) := by omega
  unfold Module.issue
  simp only [h1, hu, hg, his, if_neg hn, if_neg h8', if_neg h9', h10', Bool.not_true, Bool.false_eq_true, if_false,
    ne_eq, not_true_eq_false]
  rfl

theorem Module.issueOp_ready {m : Module} {site op w : Nat} {env : OpEnv} (h : m.readyFor site env op w)
    (sem : Nat → Module → OpOut) : m.issueOp site op env sem = (m.issued site).afterOp site w env sem :=
  Module.issue_ready h (by simp) sem

end Sys2Proof.Machine
end

