-- ==== Sys2Proof/Tests/Slice0.lean ====
section
/-! SUPPORT. Tests: ill-formed commands, worked examples of the spec, single commands on small states, and for every statement
with hypotheses a state and operands that meet them. -/

namespace Sys2Proof.Tests

set_option Elab.async false

open Sys2Proof.Machine

/-! ### Helpers -/

/-- The module after one command. -/
def after (c : Instr) (s : State) : Module :=
  match exec c s with
  | .next t => t.toModule
  | _ => Module.reset

/-- A state with nothing waiting. -/
def st (m : Module) : State := { m with pending := [] }

/-- Fields written, each a field, an index and a value, over the reset state. -/
def withRegs (l : List (Fld × List Nat × Nat)) : Module := l.foldl (fun m p => m.wr p.1 p.2.2 p.2.1) Module.reset

/-- Site 71 ready to issue the word w at index 1 of a program of two words; registers C1 = 1 and C2 = 5. -/
def readyAt (w : Nat) : Module :=
  let m := withRegs [(Reg.tineState_siteState, [71], 2), (Reg.tineSeqStatus_stageActive, [71], 1),
    (Reg.tineBankStatus_runningBank, [71], 2)]
  { (m.modTine 71 (fun t => { t with seq := { t.seq with
      nextPc := 1, opened := decide (opOf w ≠ 1), c := [(1, 1), (2, 5)], disp := { t.seq.disp with words := 2 } } })) with
    sram := Store.reset.setGranule (sramKey 71 (progBase 2 + 16) / 16) w 0 }

/-- An operation issued and started, of an opcode and with a token. -/
def pendingOp (op sig : Nat) : Pending :=
  { opcode := op, sig := sig, word := 0, started := true
    cap := { pc := 0, c := [], ab := [], astage := 0, checked := false, round := 0, env := OpEnv.calm, hazards := [], tabs := [] }
    writes := [], devWrites := [], tabs := [], streams := [], recv := none }

/-- An operation word: opcode, SIG, REG, SRC, COND, TARGET, IMM of layout K. -/
def kWord (op sig reg src cond target imm : Nat) : Nat :=
  op * 2 ^ 120 + sig * 2 ^ 116 + reg * 2 ^ 111 + src * 2 ^ 106 + cond * 2 ^ 103 + target * 2 ^ 76 + imm * 2 ^ 44

/-- Every opcode the operation tables define. -/
def opcodes : List Nat :=
  [0, 1, 2, 3, 4, 5, 6, 7, 8, 9, 10, 11, 12, 0x20, 0x21, 0x22, 0x23, 0x24, 0x25, 0x26, 0x27, 0x40, 0x41, 0x42, 0x43, 0x44, 0x45, 0x46,
   0x47, 0x48, 0x49, 0x4A, 0x4B, 0x4C, 0x4D, 0x60, 0x61, 0x80, 0x81, 0x82, 0x83, 0xA0, 0xA1, 0xA2, 0xA3, 0xA4, 0xA5, 0xA6]

/-! ### Ill-formed commands are refused by the check (WellFormed) -/

theorem test_wf_site : Instr.wf (.tload 72 OpEnv.calm) = false := by decide +kernel
theorem test_wf_below : Instr.wf (.bothTreesLost 88) = false := by decide +kernel
theorem test_wf_word : Instr.wf (.secLockSet (2 ^ 32)) = false := by decide +kernel
theorem test_wf_gran : Instr.wf (.idleFlit 0 (2 ^ 128) false) = false := by decide +kernel
theorem test_wf_bytes : Instr.wf (.bar4Write 0 [256]) = false := by decide +kernel
theorem test_wf_entry : Instr.wf (.createQueue [0]) = false := by decide +kernel
theorem test_wf_cycle : Instr.wf (.releaseGateOpen 8192) = false := by decide +kernel
theorem test_wf_bank : Instr.wf (.fillEnd 0 0) = false ∧ Instr.wf (.fillEnd 0 3) = false := by decide +kernel
theorem test_wf_port : Instr.wf (.packetForward 64 0) = false := by decide +kernel
theorem test_wf_vc : Instr.wf (.packetForward 63 8) = false := by decide +kernel
theorem test_wf_conn : Instr.wf (.roundMark 90) = false := by decide +kernel
theorem test_wf_bundle : Instr.wf (.ready 71 10) = false ∧ Instr.wf (.ready 87 16) = false ∧ Instr.wf (.ready 89 4) = false := by decide +kernel
theorem test_wf_guest : Instr.wf (.rd 2) = false := by decide +kernel
theorem test_wf_queue : Instr.wf (.sqFetchError 16384) = false := by decide +kernel
theorem test_wf_engine : Instr.wf (.loads 21 0) = false := by decide +kernel
theorem test_wf_slot : Instr.wf (.laserFail 0 17 0) = false := by decide +kernel
theorem test_wf_good : Instr.wf (.ready 89 3) = true ∧ Instr.wf (.sqTailDoorbell 16383 (2 ^ 32 - 1)) = true := by decide +kernel

/-! ### Worked examples of the spec -/

/-- R194: device-physical address 0x0000_1234_5670. -/
theorem test_gddr_map : gddrDevice 0x12345670 = 11 ∧ gddrPage 0x12345670 = (14202, 23) := by decide +kernel
/-- R190: the granule with byte 0 = 0x21 and byte 8 = 0x40, and the reads of it. -/
theorem test_code_example : codeCheck (0x21 + 0x40 * 2 ^ 64) = 0x0147 ∧ codeDecode 0x0244 = .data 70 ∧ codeDecode 0x000F = .uncorr ∧
    codeDecode 0x0040 = .check ∧ codeDecode 0x0303 = .uncorr := by decide +kernel
/-- R470: the CRC of the nine digits under both parameter sets. -/
theorem test_crc_example : crc32c [0x31, 0x32, 0x33, 0x34, 0x35, 0x36, 0x37, 0x38, 0x39] = 0xE3069283 ∧
    crc16 [0x31, 0x32, 0x33, 0x34, 0x35, 0x36, 0x37, 0x38, 0x39] = 0x29B1 := by decide +kernel
/-- R49: a sum below the window's least exponent is cut toward zero and flagged. -/
theorem test_contribution : (Acc.contribute ⟨0, 0, 0⟩ 2 (-7) 0 false) = ⟨-1, 1, 1⟩ := by decide +kernel
/-- R458: a module reset needs its key. -/
theorem test_reset_key : (after (.hubResetModule 0x80000972) State.reset).rd Reg.hubBootStatus_lastReset = 2 ∧
    (after (.hubResetModule 0x80000973) State.reset).rd Reg.hubBootStatus_lastReset = 0 := by decide +kernel
/-- R266: an SQ_TAIL of the depth itself is out of range. -/
theorem test_doorbell_range :
    (after (.sqTailDoorbell 5 8) (st (withRegs [(Reg.queStatus_state, [5], 1), (Reg.queCfg_sqDepthLog2, [5], 3)]))).rd Reg.queStatus_err [5] = 2 ∧
    ((after (.sqTailDoorbell 5 7) (st (withRegs [(Reg.queStatus_state, [5], 1), (Reg.queCfg_sqDepthLog2, [5], 3)]))).queue 5).sqTail = 7 := by
  decide +kernel
/-- R115: LOOP takes one off and jumps while something is left. -/
theorem test_loop :
    ((after (.loop 71 OpEnv.calm) (st (readyAt (kWord 4 0 2 0 0 9 0)))).tine 71).seq.nextPc = 9 ∧
    ((after (.loop 71 OpEnv.calm) (st (readyAt (kWord 4 0 1 0 0 9 0)))).tine 71).seq.nextPc = 2 ∧
    ((after (.loop 71 OpEnv.calm) (st (readyAt (kWord 4 0 2 0 0 9 0)))).tine 71).seq.reg 2 = 4 := by decide +kernel
/-- R115: SETREG adds IMM to SRC, modulo 2^32. -/
theorem test_setreg :
    ((after (.setreg 71 OpEnv.calm) (st (readyAt (kWord 2 0 3 2 0 0 (2 ^ 32 - 1))))).tine 71).seq.reg 3 = 4 := by decide +kernel
/-- R115, R118: TRAP ends the stage with its code. -/
theorem test_trap :
    (after (.trap 71 OpEnv.calm) (st (readyAt (kWord 11 0 0 0 0 0 0x1234)))).rd Reg.tineFault_programFault [71] = 1 := by decide +kernel
/-- R244: a write to a reserved location changes nothing. -/
theorem test_reserved_write : (after (.registerWrite ⟨0, 0x28⟩ 7) State.reset).regs = [] := by decide +kernel
/-- R11: a field of type RW takes the bits that fall on it. -/
theorem test_rw_write : (after (.registerWrite ⟨0, 0x208⟩ 0xFFFFFFFF) State.reset).rd Reg.hubStructLen_len = 2 ^ 21 - 1 := by decide +kernel

/-! ### Hypotheses of the statements are met -/

theorem test_witness_StepIdlesOnAnEmptyQueue : State.reset.pending = [] := rfl
theorem test_witness_OperandsThatNameNothingChangeNothing : Instr.wf (.roundMark 90) = false := by decide
theorem test_witness_MemoryKeepsItsForm :
    State.reset.memOk ∧ (∃ t, step { State.reset with pending := [.opsecTick] } = .next t) ∧
    (after (.scrubRead 1) (st (withRegs [(Reg.memStatus_ready, [], 1)]))).dev.wf = true :=
  ⟨⟨rfl, rfl⟩, ⟨_, rfl⟩, by decide +kernel⟩
theorem test_witness_FieldsTakeWritesByType :
    Reg.hubStructLen_len.ty = .rw ∧ 0 < Reg.hubStructLen_len.width ∧ Reg.qlkFwWinBaseLo_addr.ty = .rwl ∧ Reg.hubClkEvents_refLost.ty = .w1c ∧
    Reg.hubId_part.ty = .ro ∧ Reg.hubResetCtl_key.ty = .wo ∧ Reg.hubStructLen_len.key [] ≠ Reg.hubId_part.key [] := by decide
theorem test_witness_HostAccessesAreAnsweredByKind :
    isWord 7 = true ∧ 1 % 4 ≠ 0 ∧ regAt 0x28 = none ∧ 0x28 < 2 ^ 26 ∧ 0x28 % 4 = 0 ∧ 0xFFFFC < 2 ^ 20 ∧ 0xFFFFC % 4 = 0 ∧
    (∃ id, [Config.aliowellVid, 0x0972, 0, 0x120000, Config.aliowellVid, 0, 1][6]? = some id) ∧
    4 ≤ (withRegs [(Reg.hubBootStatus_stage, [], 4)]).rd Reg.hubBootStatus_stage ∧ Module.reset.rd Reg.hubBootStatus_stage < 4 :=
  ⟨by decide, by decide, by decide +kernel, by decide, by decide, by decide, by decide, ⟨_, rfl⟩, by decide +kernel, by decide +kernel⟩
theorem test_witness_LatchingReadsLatchTheHighWord : isSite 0 = true ∧ isSite 71 = true := by decide
theorem test_witness_ReferenceClockIsLostAndReturns :
    (withRegs [(Reg.hubClkStatus_refPresent, [], 1), (Reg.hubClkStatus_rootLock, [], 1)]).rd Reg.hubClkStatus_refPresent ≠ 0 ∧
    (withRegs [(Reg.hubClkStatus_refPresent, [], 1), (Reg.hubClkStatus_rootLock, [], 1)]).rd Reg.hubClkStatus_rootLock ≠ 0 ∧
    (withRegs [(Reg.hubClkStatus_holdover, [], 1)]).rd Reg.hubClkStatus_holdover ≠ 0 ∧
    (withRegs [(Reg.hubClkStatus_holdover, [], 1)]).rd Reg.hubClkStatus_refPresent = 0 ∧
    ({ Module.reset.hub with slewing := true } : Hub).slewing = true := by decide +kernel
theorem test_witness_RoundMarksAreAuthoritative :
    isConn 0 = true ∧ isConn 89 = true ∧ SMap.find? ({ Module.reset.hub with marks := [(89, 65535)] } : Hub).marks 89 = some 65535 := by decide
theorem test_witness_OperationsIssue : ∀ op ∈ opcodes, (readyAt (kWord op 15 0 0 0 0 0)).readyFor 71 OpEnv.calm op (kWord op 15 0 0 0 0 0) := by
  unfold Module.readyFor; decide +kernel
theorem test_witness_ReservedOpcodeIssues :
    opDefined 0xFF = false ∧ (readyAt (kWord 0xFF 0 0 0 0 0 0)).readyFor 71 OpEnv.calm 0xFF (kWord 0xFF 0 0 0 0 0 0) := by
  unfold Module.readyFor; decide +kernel
theorem test_witness_ControlOperationsMoveTheSequencer :
    1 ≤ kReg (kWord 4 0 15 0 0 0 0) ∧ kReg (kWord 4 0 15 0 0 0 0) < 16 ∧ ((readyAt (kWord 4 0 1 0 0 0 0)).tine 71).seq.reg 1 < 2 ^ 32 := by
  decide +kernel
theorem test_witness_IssuePastTheProgramEndsTheStage :
    let m := (readyAt 0).modSeq 71 (fun q => { q with nextPc := 2 })
    isSite 71 = true ∧ m.issuing 71 = true ∧ OpEnv.calm.upsets = [] ∧ (m.tine 71).seq.disp.words ≤ (m.tine 71).seq.nextPc := by
  decide +kernel
theorem test_witness_TokensCountPendingOperations :
    let m := (readyAt 0).modSeq 71 (fun q => { q with pend := [pendingOp 0x40 3] })
    (m.tine 71).seq.pend[0]? = some (pendingOp 0x40 3) ∧ (pendingOp 0x40 3).started = true ∧ (pendingOp 0x40 3).recv = none ∧
    (∀ x ∈ (m.tine 71).seq.pend, x.started = true) ∧ (m.tine 71).seq.wait = .run ∧
    ({ pendingOp 0x40 3 with started := false } : Pending).started = false ∧
    (({ pendingOp 0xA1 3 with recv := some (0, 0, 0, 1, 0, 1) } : Pending).recv.map (fun r => r.2.2.2.1)).getD 0 = 1 := by decide +kernel
/-- VFILL of one INT8 slot at the start of the working store. -/
def fillAt : Module × Nat :=
  ((readyAt 0).modSeq 71 (fun q => { q with ab := [(1, 0x4000000)], wsFirst := 0, wsCount := 1 }),
    0x4D * 2 ^ 120 + 2 ^ 20 * 2 ^ 93 + 0x10 * 2 ^ 39 + 2 ^ 15)
theorem test_witness_OperationsWriteOnlyWhatTheyDeclare :
    (fillAt.1.vfill 71 fillAt.2).faults = [] ∧ (fillAt.1.vfill 71 fillAt.2).writes = [(0x4000000, 128)] ∧
    ((readyAt 0).vfill 71 fillAt.2).faults ≠ [] ∧ sramKey 71 0x400007F / 16 ≠ sramKey 71 0x4000080 / 16 := by decide +kernel
theorem test_witness_SingleUpsetsOfMemoryAreCorrected : gddrEnd - 16 < gddrEnd ∧ (gddrEnd - 16) % 16 = 0 ∧ 143 < 144 ∧ Module.reset.dev.syndrome ((gddrEnd - 16) / 16) = 0 := by
  decide +kernel
theorem test_witness_MemoryReadsWhatWasWritten : 0 < gddrEnd ∧ 0 % 16 = 0 ∧ 2 ^ 128 - 1 < 2 ^ 128 := by decide +kernel
theorem test_witness_CodePagesLayTheDevicesOut : gddrEnd - 16 < gddrEnd ∧ (gddrEnd - 16) % 16 = 0 ∧ 1 < 2 := by decide +kernel
/-- R194: the example address 0x0000_1234_5670 lies on device 11 at offset 2,048 * 14202 + 16 * 23. -/
theorem test_page_example :
    ({ Module.reset with dev := Module.reset.dev.setGranule (0x12345670 / 16) 0x21 0 } : Module).gddrByte 11 (2048 * 14202 + 16 * 23) = 0x21 := by
  decide +kernel
theorem test_witness_HostRegionAndApertureTakeValidSizes :
    isWord 33 = true ∧ 32 % 64 ≤ 32 ∧ (∀ p ∈ Module.reset.ctx.table, p.1 = 0xFFFF ∨ p.2.state = 0) ∧ 32 < 33 % 64 ∧ 16 % 32 ≤ 16 ∧ 16 < 17 % 32 ∧
    (∃ p ∈ [(3, { Ctx.blank with state := 3 })], p.1 ≠ 0xFFFF ∧ p.2.state ≠ 0) := by decide +kernel
theorem test_witness_EntryTestsDecideASite :
    Module.reset.siteState 71 = 0 ∧ (withRegs [(Reg.tineState_siteState, [71], 1)]).siteState 71 = 1 ∧
    (withRegs [(Reg.tineState_siteState, [71], 5)]).siteState 71 ≠ 0 := by decide +kernel
theorem test_witness_StructureCommandsMoveTheBlock :
    (withRegs [(Reg.hubStructStatus_state, [], 2), (Reg.pairStatus_state, [], 3)]).structState = 2 ∧
    (withRegs [(Reg.hubStructStatus_state, [], 2), (Reg.pairStatus_state, [], 3)]).pairState ≠ 0 ∧
    (withRegs [(Reg.hubStructStatus_state, [], 2)]).structState = 2 ∧ (withRegs [(Reg.hubStructStatus_state, [], 2)]).pairState = 0 ∧
    (withRegs [(Reg.hubStructStatus_state, [], 3)]).structState = 3 ∧ Module.reset.structState ≠ 3 ∧
    (withRegs [(Reg.hubStructStatus_state, [], 6)]).structState ∈ [1, 3, 4, 6] ∧ Module.reset.structState = 0 ∧
    (withRegs [(Reg.hubStructStatus_state, [], 5)]).structState = 5 := by decide +kernel
theorem test_witness_DoorbellsMoveQueues :
    let m := (withRegs [(Reg.queStatus_state, [16383], 1), (Reg.queCfg_sqDepthLog2, [16383], 16), (Reg.queCfg_cqDepthLog2, [16383], 1)]).modQueue
      16383 (fun x => { x with posted := 1 })
    isQueue 16383 = true ∧ isWord 65536 = true ∧ Module.reset.qState 16383 ≠ 1 ∧ m.qState 16383 = 1 ∧ m.sqDepth 16383 ≤ 65536 ∧
    65535 < m.sqDepth 16383 ∧ m.cqDepth 16383 ≤ 2 ∧ 1 < m.cqDepth 16383 ∧
    (1 + m.cqDepth 16383 - (m.queue 16383).cqHead) % m.cqDepth 16383 ≤ (m.queue 16383).posted ∧
    (Module.reset.queue 16383).posted < (1 + m.cqDepth 16383 - (Module.reset.queue 16383).cqHead) % m.cqDepth 16383 := by decide +kernel
theorem test_witness_DoorbellsMoveQueues_full :
    let m := (withRegs [(Reg.queStatus_state, [16383], 1), (Reg.queCfg_cqDepthLog2, [16383], 1)]).modQueue 16383 (fun x => { x with posted := 2 })
    m.qState 16383 = 1 ∧ 0 < m.cqDepth 16383 ∧ (m.queue 16383).cqHead = 0 ∧ (m.queue 16383).posted = m.cqDepth 16383 ∧
    ((m.cqHead 16383 0).queue 16383).posted = 0 := by decide +kernel
theorem test_witness_QueueZeroIsEnabledAndTakenDown :
    let m := (withRegs [(Reg.hubBootStatus_ready, [], 1)]).modQueue 0 (fun x => { x with enabling := true })
    m.qState 0 = 0 ∧ (m.queue 0).enabling = true ∧ m.rd Reg.hubBootStatus_ready ≠ 0 ∧
    (withRegs [(Reg.queStatus_state, [0], 1)]).qState 0 = 1 ∧ (withRegs [(Reg.queStatus_state, [0], 3)]).qState 0 = 3 ∧
    (withRegs [(Reg.queStatus_state, [0], 2)]).qState 0 = 2 := by decide +kernel
theorem test_witness_ShadowTablesWaitForACommit :
    isWord (2 ^ 32 - 1) = true ∧ (0 = 0 ∧ 511 < 512) ∧ (1 = 1 ∧ 31 < 32) ∧ (2 ≤ 3 ∧ 3 < 4 ∧ 1023 < 1024) ∧
    (withRegs [(Reg.rteStatus_commitPending, [], 1)]).rd Reg.rteStatus_commitPending ≠ 0 ∧ Module.reset.rd Reg.rteStatus_commitPending = 0 := by
  decide +kernel
theorem test_witness_SequenceStepsActOnTheInstance :
    ∀ op ∈ [4, 5, 6, 8],
      let p : SeqStep := { op := op, cond := 3, scr := 7, field := 0, value := 5, next := 0xFFFF, alt := 9, time := 4 }
      let i : SeqInst := { table := { kind := 1, entry := 0, stepLimit := 1, timeLimit := 4, steps := [p] }, job := 0, pc := 0, scr := [],
                           steps := 0, time := 0, target := 0, slots := 0, fields := [] }
      isEngine 20 = true ∧ ({ Module.reset with seqs := [(20, i)] } : Module).seqAt 20 = some (i, p) ∧ i.steps < i.table.stepLimit ∧
        i.time + (if p.op = 6 then p.time else 4) ≤ i.table.timeLimit := by decide +kernel
theorem test_witness_LaserUnitsFollowTheirTable :
    (withRegs [(Reg.lasSlotStatus_sState, [3, 16], 1)]).unitState 3 16 1 = 1 ∧ (withRegs [(Reg.lasSlotStatus_pState, [3, 16], 3)]).unitState 3 16 0 = 3 ∧
    (withRegs [(Reg.lasSlotStatus_pState, [3, 16], 4)]).unitState 3 16 0 = 4 ∧ Module.reset.unitState 0 0 0 ≠ 1 := by decide +kernel
theorem test_witness_FirewallWindowsStayWhereTheyMay :
    isWord 15 = true ∧ Module.reset.rd Reg.secStatus_secLock = 0 ∧ (withRegs [(Reg.secStatus_secLock, [], 1)]).rd Reg.secStatus_secLock ≠ 0 ∧
    ((withRegs [(Reg.qlkFwWinBaseLo_addr, [1, 15], 2 ^ 12 - 1), (Reg.qlkFwWinSize_sizeMib, [1, 15], 1)]).rangeOk
      ((withRegs [(Reg.qlkFwWinBaseLo_addr, [1, 15], 2 ^ 12 - 1), (Reg.qlkFwWinSize_sizeMib, [1, 15], 1)]).fwWindow 1 15).1 (2 ^ 20) = true) ∧
    fwArea < (gddrEnd - 2 ^ 20) + 2 ^ 20 ∧ gddrEnd - 2 ^ 20 < gddrEnd := by decide +kernel
/-- A guest message that the reset firewall, not enabled, refuses. -/
def guestMessage (op : Nat) : QMsg := { cls := 0, op := op, status := 0, tag := 1, aux := 0, addr := 0, payload := [] }
theorem test_witness_RefusedGuestWritesLeaveMemory :
    ∀ op ∈ [0, 2, 3, 5, 6, 7, 9],
      let m := Module.reset.modGuest 1 (fun y => { y with inbox := [guestMessage op] })
      (m.guest 1).inbox = guestMessage op :: [] ∧ (m.modGuest 1 (fun y => { y with inbox := [] })).fwCheck 1 (guestMessage op) ≠ 0 := by
  decide +kernel
theorem test_witness_GuestStoresLeaveOtherMemory :
    ∀ op ∈ [2, 3, 5, 6, 7], ((Module.reset.modGuest 1 (fun y => { y with inbox := [guestMessage op] })).guest 1).inbox = guestMessage op :: [] ∧
      (guestMessage op).cls = 0 ∧ (guestMessage op).op = op ∧ (guestMessage op).addr / 16 + 1 ≤ 1 := by decide +kernel
theorem test_witness_SelfFencingAndTheEndOfTheLease :
    (withRegs [(Reg.pairStatus_state, [], 3)]).pairState = 3 ∧ (withRegs [(Reg.pairStatus_state, [], 4)]).pairState = 4 ∧
    Module.reset.pair.fenced = false ∧ ({ Module.reset.pair with fenced := true } : Pair).fenced = true ∧
    Module.reset.pairState ≠ 3 ∧ Module.reset.pairState ≠ 4 := by decide +kernel
/-- The newest unread record of a log that holds it. -/
def logged : Module :=
  { withRegs [(Reg.safStatus_unread, [], 1), (Reg.safLogWr_wr, [], 1)] with
    saf := { Module.reset.saf with log := [(0, LogRec.of 9 0 sevRecovered 0 0)], nextSeq := 1 } }
theorem test_witness_RecordsAreKeptInOrder :
    Module.reset.rd Reg.safStatus_unread ≤ 1024 ∧ (LogRec.of 9 0 sevRecovered 0 0).severity < 2 ∧ (LogRec.of 9 0 sevRecovered 0 0).pin = false ∧
    Module.reset.recSnaps (LogRec.of 9 0 sevRecovered 0 0) = false ∧ Module.reset.newestSlot = none ∧
    (withRegs [(Reg.safStatus_unread, [], 1024)]).rd Reg.safStatus_unread = 1024 ∧ logged.newestSlot = some 0 ∧
    (SMap.get LogRec.blank logged.saf.log 0).event ≠ (LogRec.of 9 1 sevRecovered 0 0).event ∧
    (SMap.get LogRec.blank logged.saf.log 0).cls = (LogRec.of 9 0 sevRecovered 0 0).cls ∧
    (SMap.get LogRec.blank logged.saf.log 0).round = logged.hub.round % 2 ^ 48 := by decide +kernel
theorem test_witness_FatalRecordsFailFast :
    (LogRec.of 0x10 4 sevFatal 0x76 0).severity = sevFatal ∧ Module.reset.rd Reg.safStatus_faultPin = 0 := by decide +kernel
theorem test_witness_SnapshotTriggersAreHeldBack :
    isWord (2 ^ 31) = true ∧ bitB (2 ^ 31) 31 = true ∧ bitB (2 ^ 31) 30 = false ∧ Module.reset.rd Reg.snapStatus_held = 0 ∧
    Module.reset.saf.snapTrig = none ∧ (withRegs [(Reg.snapStatus_held, [], 1)]).rd Reg.snapStatus_held ≠ 0 ∧ isWord (2 ^ 30) = true ∧
    bitB (2 ^ 30) 30 = true := by decide +kernel
/-- Channel 88 of a unit of laser bank 0 at 30 degrees. -/
def warmBank (t : Int) : Module := { Module.reset with cal := { Module.reset.cal with temps := [(88, t)] } }
theorem test_witness_CalibratedValuesFollowTheTemperature :
    SMap.get 0 (warmBank 1920).cal.temps (calChannel 0 0) = 1920 ∧ (64 * (25 + 10 * (0 : Int)) ≤ 1920 ∧ 1920 ≤ 64 * (35 + 10 * (0 : Int))) ∧
    SMap.get 0 (warmBank 1600).cal.temps (calChannel 0 0) ≤ 64 * 25 ∧ 64 * 95 ≤ SMap.get 0 (warmBank 6080).cal.temps (calChannel 0 0) ∧
    tapBand 1919 1919 7 0 = 0 ∧ tapBand 1920 1920 7 0 = 1 ∧ tapBand 1792 1792 7 1 = 1 ∧ tapBand 1791 1791 7 1 = 0 ∧
    tapBand 6000 6000 7 0 = 7 := by decide +kernel
theorem test_witness_CalibrationRunsOneAtATime :
    31 < 32 ∧ Module.reset.rd Reg.calStatus_state = 0 ∧ (withRegs [(Reg.calStatus_state, [], 2)]).rd Reg.calStatus_state ≠ 0 ∧
    Module.reset.cal.prev = none := by decide +kernel
theorem test_witness_OperatingSecondsAndBudgetsAreKept :
    87 < 88 ∧ (withRegs [(Reg.pwrDomain_state, [165], 2)]).domain 165 = 2 ∧ Module.reset.domain 165 ≠ 2 := by decide +kernel
theorem test_witness_ModuleResetKeepsWhatItShould :
    isWord 0x80000972 = true ∧ bitB 0x80000972 31 = true ∧ 0x80000972 % 65536 = 0x0972 ∧ bitB 0x0972 31 = false ∧ 0x80000971 % 65536 ≠ 0x0972 := by
  decide +kernel
theorem test_witness_SecLockIsSetAndHolds :
    isWord 1 = true ∧ 87 < 88 ∧ bitB 1 0 = true ∧ bitB 2 0 = false ∧ (withRegs [(Reg.secStatus_secLock, [], 1)]).rd Reg.secStatus_secLock ≠ 0 ∧
    ({ Module.reset.qlk with dbg := some ⟨87, true, 0, 0, none⟩ } : Quinhorn).dbg = some ⟨87, true, 0, 0, none⟩ := by decide +kernel
theorem test_witness_CheckValueRunsStartOnce :
    isWord (2 ^ 31) = true ∧ bitB (2 ^ 31) 31 = true ∧ (withRegs [(Reg.crcStatus_busy, [3], 1)]).rd Reg.crcStatus_busy [3] ≠ 0 ∧
    Module.reset.rd Reg.crcStatus_busy [3] = 0 ∧
    SMap.find? [(3, (⟨false, false, false, 65, 0, 0, 0, 0, 0, []⟩ : CrcRun))] 3 = some ⟨false, false, false, 65, 0, 0, 0, 0, 0, []⟩ := by
  decide +kernel
/-- Operands that the completion statements of the families ask for: every check holds at its largest value. -/
theorem test_witness_CommandsComplete :
    isSite 71 = true ∧ isConn 89 = true ∧ isQueue 16383 = true ∧ isWord (2 ^ 32 - 1) = true ∧ isPort 63 = true ∧ isVc 7 = true ∧
    isCycle 8191 = true ∧ isBank 1 = true ∧ isBank 2 = true ∧ isGuest 1 = true ∧ isEngine 20 = true ∧ isGran (2 ^ 128 - 1) = true ∧
    isEntry (List.replicate 64 255) = true ∧ isBytes [0, 255] = true ∧ isBundle 71 9 = true ∧ isBundle 87 15 = true ∧ isBundle 89 3 = true := by
  decide +kernel

end Sys2Proof.Tests
end

section
/-! PROOFS. Register fields written by their access type (R11), and the reset state. -/

namespace Sys2Proof.Machine

/-! ### Frames -/

/-- A module that is not changed meets every frame. -/
theorem Frame.refl (ks : List Kind) (m : Module) : Frame ks m m := by
  intro k _
  cases k <;> rfl

/-- A field set changes the register file alone. -/
theorem Module.frame_wr (m : Module) (f : Fld) (v : Nat) (idx : List Nat) : Frame [.regs] m (m.wr f v idx) := by
  intro k hk
  cases k with
  | regs => exact absurd (List.mem_singleton_self Kind.regs) hk
  | _ => rfl

/-! ### The bits of a written word -/

/-- The bits of a word that fall on a field fit in the field. -/
theorem Fld.part_lt {f : Fld} (hw : 0 < f.width) (v : Nat) : f.part v < 2 ^ f.width := by
  have hspan : f.lo + f.width - 1 + 1 - f.lo = f.width := by omega
  rw [Fld.part, bitsOf, hspan]
  exact Nat.mod_lt _ (Nat.two_pow_pos _)

/-- A field set to the bits that fall on it reads them uncut. -/
theorem Module.rd_wr_part {f : Fld} (hw : 0 < f.width) (m : Module) (idx : List Nat) (v : Nat) :
    (m.wr f (f.part v) idx).rd f idx = f.part v := by
  rw [Module.rd_wr_same, Nat.mod_eq_of_lt (Fld.part_lt hw v)]

/-! ### A field written, by its access type -/

section Written
variable {f : Fld} (m : Module) (idx : List Nat) (v : Nat)

theorem Module.writeField_rw (h : f.ty = .rw) : m.writeField f idx v = m.wr f (f.part v) idx := by
  simp [Module.writeField, h]

theorem Module.writeField_rwl (h : f.ty = .rwl) :
    m.writeField f idx v = if m.rd Reg.secStatus_secLock = 0 then m.wr f (f.part v) idx else m := by
  by_cases hl : m.rd Reg.secStatus_secLock = 0 <;> simp [Module.writeField, Module.rdB, h, hl]

theorem Module.writeField_w1c (h : f.ty = .w1c) :
    m.writeField f idx v = m.wr f (m.rd f idx &&& (2 ^ f.width - 1 - f.part v)) idx := by
  simp [Module.writeField, h]

theorem Module.writeField_ro_wo (h : f.ty = .ro ∨ f.ty = .wo) : m.writeField f idx v = m := by
  rcases h with h | h <;> simp [Module.writeField, h]

/-- All that a written field can do: nothing, or one set of that field. -/
theorem Module.writeField_cases (f : Fld) : m.writeField f idx v = m ∨ ∃ x, m.writeField f idx v = m.wr f x idx := by
  cases h : f.ty with
  | rw => exact .inr ⟨_, m.writeField_rw idx v h⟩
  | w1c => exact .inr ⟨_, m.writeField_w1c idx v h⟩
  | ro => exact .inl (m.writeField_ro_wo idx v (.inl h))
  | wo => exact .inl (m.writeField_ro_wo idx v (.inr h))
  | rwl =>
    rw [m.writeField_rwl idx v h]
    split
    · exact .inr ⟨_, rfl⟩
    · exact .inl rfl

theorem Module.rd_writeField_rwl (hw : 0 < f.width) (h : f.ty = .rwl) :
    (m.writeField f idx v).rd f idx = if m.rd Reg.secStatus_secLock = 0 then f.part v else m.rd f idx := by
  rw [m.writeField_rwl idx v h]
  split
  · exact m.rd_wr_part hw idx v
  · rfl

theorem Module.rd_writeField_other {g : Fld} {jdx : List Nat} (h : g.key jdx ≠ f.key idx) :
    (m.writeField f idx v).rd g jdx = m.rd g jdx := by
  rcases m.writeField_cases idx v f with he | ⟨x, he⟩ <;> rw [he]
  exact Module.rd_wr_other h m x

theorem Module.frame_writeField (f : Fld) : Frame [.regs] m (m.writeField f idx v) := by
  rcases m.writeField_cases idx v f with he | ⟨x, he⟩ <;> rw [he]
  · exact Frame.refl _ m
  · exact m.frame_wr f x idx

end Written

/-- Settles O8, case by case of the access type; the frame and the other fields by `Module.writeField_cases`. -/
theorem fieldsTakeWritesByType : Obligations.FieldsTakeWritesByType := by
  intro m f idx v hw
  refine ⟨fun h => ?rw, m.rd_writeField_rwl idx v hw, fun h => ?w1c, m.writeField_ro_wo idx v,
    fun _ _ => m.rd_writeField_other idx v, m.frame_writeField idx v f⟩
  case rw => rw [m.writeField_rw idx v h, m.rd_wr_part hw]
  case w1c => rw [m.writeField_w1c idx v h, Module.rd_wr_same]

/-! ### The reset state -/

/-- A field whose reset value is one number resets to it at every index, cut to its width. -/
theorem Fld.resetAt_const {f : Fld} {n : Nat} (h : f.reset = .const n) (idx : List Nat) : f.resetAt idx = n % 2 ^ f.width := by
  simp [Fld.resetAt, h]

/-- Device memory and SRAM are in canonical form at reset. -/
theorem Module.memOk_reset : Module.reset.memOk := ⟨Store.wf_reset, Store.wf_reset⟩

/-- Settles O7. Register fields read their reset values (R11); the empty queue, the empty memory and the state that no register
shows are log entries 1, 8 and 10. -/
theorem theResetState : Obligations.TheResetState := by
  refine ⟨Module.rd_reset, Module.memOk_reset, rfl, rfl, rfl, rfl, rfl, rfl, ?fatal, ?part⟩
  case fatal => exact Fld.resetAt_const (f := Reg.safStatus_fatalLatched) (n := 0) rfl []
  case part => exact Fld.resetAt_const (f := Reg.hubId_part) (n := 0x0972) rfl []

end Sys2Proof.Machine
end

section
/-! PROOFS. Frames: how they compose, and what an update of one kind of state leaves alone. -/

namespace Sys2Proof.Machine

/-! ### Composing frames -/

section Compose
variable {ks ls : List Kind} {a b c : Module}

protected theorem Frame.rfl : Frame [] a a := Frame.refl [] a

/-- A frame widens to any list that holds its kinds. -/
theorem Frame.mono (hs : ls ⊆ ks) (h : Frame ls a b) : Frame ks a b := fun k hk => h k (fun hl => hk (hs hl))

theorem Frame.trans (h : Frame ks a b) (h' : Frame ks b c) : Frame ks a c := by
  intro k hk
  have hab := h k hk
  have hbc := h' k hk
  cases k <;> exact Eq.trans hbc hab

/-- One step after another changes what either changes. -/
theorem Frame.step (h : Frame ls a b) (h' : Frame ks b c) : Frame (ls ++ ks) a c :=
  (h.mono (List.subset_append_left ls ks)).trans (h'.mono (List.subset_append_right ls ks))

theorem Frame.ite {p : Prop} [Decidable p] (hb : Frame ks a b) (hc : Frame ks a c) : Frame ks a (if p then b else c) := by
  split
  · exact hb
  · exact hc

/-- A branch changes what either side changes. -/
theorem Frame.either {p : Prop} [Decidable p] (hb : Frame ls a b) (hc : Frame ks a c) : Frame (ls ++ ks) a (if p then b else c) :=
  .ite (hb.mono (List.subset_append_left ls ks)) (hc.mono (List.subset_append_right ls ks))

theorem Frame.foldl {α : Type} {f : Module → α → Module} {l : List α} (h : ∀ m x, Frame ks m (f m x)) :
    Frame ks a (l.foldl f a) :=
  List.foldlRecOn l f (Frame.refl ks a) (fun m hm x _ => hm.trans (h m x))

theorem Frame.iter {f : Nat → Module → Module} {n : Nat} (h : ∀ i m, Frame ks m (f i m)) : Frame ks a (iter n f a) :=
  Frame.foldl (fun m i => h i m)

/-- A module that goes on only when there is a round, and with the module booked for it. -/
theorem Frame.matchBooked {o : Option (Nat × Module)} {f : Nat → Module → Module} (h : ∀ k m, Frame ks a (f k m)) :
    Frame ks a (match o with | none => a | some (k, m) => f k m) := by
  rcases o with _ | ⟨k, m⟩
  · exact Frame.refl ks a
  · exact h k m

/-- An operation that may have no result, its frame shown for each result it has. -/
theorem Frame.getD {o : Option Module} (h : ∀ b, o = some b → Frame ks a b) : Frame ks a (o.getD a) := by
  cases o with
  | none => exact Frame.refl ks a
  | some b => exact h b rfl

/-- A step that changes one kind of state alone. -/
theorem Frame.single {k₀ : Kind} (h : ∀ k, k ≠ k₀ → Module.sameIn k a b) : Frame [k₀] a b :=
  fun k hk => h k (fun he => hk (he ▸ List.mem_singleton_self k₀))

/-- A step that changes two kinds of state alone. -/
theorem Frame.double {k₀ k₁ : Kind} (h : ∀ k, k ≠ k₀ → k ≠ k₁ → Module.sameIn k a b) : Frame [k₀, k₁] a b :=
  fun k hk => h k (fun he => hk (by simp [he])) (fun he => hk (by simp [he]))

end Compose

/-! ### Updates of one kind of state, or of two at once -/

section Updates
variable {m : Module} {f : Fld} {v : Nat} {idx : List Nat} {o : Output}

theorem Module.frame_free {x : Nat} : Frame [.free] m { m with free := x } := .single fun k h => by cases k <;> trivial
theorem Module.frame_out {x : List Output} : Frame [.out] m { m with out := x } := .single fun k h => by cases k <;> trivial
theorem Module.frame_dev {x : Store} : Frame [.dev] m { m with dev := x } := .single fun k h => by cases k <;> trivial
theorem Module.frame_hub {x : Hub} : Frame [.hub] m { m with hub := x } := .single fun k h => by cases k <;> trivial
theorem Module.frame_saf {x : Safety} : Frame [.saf] m { m with saf := x } := .single fun k h => by cases k <;> trivial
theorem Module.frame_pwr {x : Power} : Frame [.pwr] m { m with pwr := x } := .single fun k h => by cases k <;> trivial
theorem Module.frame_tines {x : SMap Tine} : Frame [.tines] m { m with tines := x } := .single fun k h => by cases k <;> trivial
theorem Module.frame_cal {x : Calib} : Frame [.cal] m { m with cal := x } := .single fun k h => by cases k <;> trivial
theorem Module.frame_ctx {x : CtxTable} : Frame [.ctx] m { m with ctx := x } := .single fun k h => by cases k <;> trivial
theorem Module.frame_host {x : HostIf} : Frame [.host] m { m with host := x } := .single fun k h => by cases k <;> trivial
theorem Module.frame_adm {x : Adm} : Frame [.adm] m { m with adm := x } := .single fun k h => by cases k <;> trivial
theorem Module.frame_str {x : Struct} : Frame [.str] m { m with str := x } := .single fun k h => by cases k <;> trivial
theorem Module.frame_seqs {x : SMap SeqInst} : Frame [.seqs] m { m with seqs := x } := .single fun k h => by cases k <;> trivial
theorem Module.frame_seqWait {x : SMap (List SeqJob)} : Frame [.seqWait] m { m with seqWait := x } := .single fun k h => by cases k <;> trivial
theorem Module.frame_optics {x : SMap OptPort} : Frame [.optics] m { m with optics := x } := .single fun k h => by cases k <;> trivial
theorem Module.frame_lasers {x : SMap LaserBank} : Frame [.lasers] m { m with lasers := x } := .single fun k h => by cases k <;> trivial
theorem Module.frame_links {x : SMap Link} : Frame [.links] m { m with links := x } := .single fun k h => by cases k <;> trivial
theorem Module.frame_rte {x : Router} : Frame [.rte] m { m with rte := x } := .single fun k h => by cases k <;> trivial
theorem Module.frame_qlk {x : Quinhorn} : Frame [.qlk] m { m with qlk := x } := .single fun k h => by cases k <;> trivial
theorem Module.frame_pair {x : Pair} : Frame [.pair] m { m with pair := x } := .single fun k h => by cases k <;> trivial

theorem Module.frame_saf_ctx {x : Safety} {y : CtxTable} : Frame [.saf, .ctx] m { m with saf := x, ctx := y } :=
  .double fun k h h' => by cases k <;> trivial
theorem Module.frame_tines_mesh {x : SMap Tine} {y : List Flit} : Frame [.tines, .mesh] m { m with tines := x, mesh := y } :=
  .double fun k h h' => by cases k <;> trivial
theorem Module.frame_ctx_host {x : CtxTable} {y : HostIf} : Frame [.ctx, .host] m { m with ctx := x, host := y } :=
  .double fun k h h' => by cases k <;> trivial
theorem Module.frame_host_adm {x : HostIf} {y : Adm} : Frame [.host, .adm] m { m with host := x, adm := y } :=
  .double fun k h h' => by cases k <;> trivial
theorem Module.frame_hub_host {x : Hub} {y : HostIf} : Frame [.hub, .host] m { m with hub := x, host := y } :=
  .double fun k h h' => by cases k <;> trivial
theorem Module.frame_ctx_pair {x : CtxTable} {y : Pair} : Frame [.ctx, .pair] m { m with ctx := x, pair := y } :=
  .double fun k h h' => by cases k <;> trivial

theorem Module.frame_reg : Frame [.regs] m (m.wr f v idx) := m.frame_wr f v idx
theorem Module.frame_emit : Frame [.out] m (m.emit o) := frame_out
theorem Module.frame_emits {os : List Output} : Frame [.out] m (m.emits os) := frame_out

end Updates

/-! ### Registers that a step leaves alone -/

/-- From module `a` to module `b` no register field changes whose key lies in the range from `lo` to below `hi`. -/
def RegsKept (lo hi : Nat) (a b : Module) : Prop := ∀ q, lo ≤ q → q < hi → SMap.find? b.regs q = SMap.find? a.regs q

section Kept
variable {lo hi : Nat} {a b c : Module} {f : Fld} {idx : List Nat}

theorem RegsKept.refl (a : Module) : RegsKept lo hi a a := fun _ _ _ => rfl

theorem RegsKept.trans (h : RegsKept lo hi a b) (h' : RegsKept lo hi b c) : RegsKept lo hi a c :=
  fun q hl hh => (h' q hl hh).trans (h q hl hh)

/-- A step outside the register file changes no register. -/
theorem RegsKept.of_regs (h : b.regs = a.regs) : RegsKept lo hi a b := fun _ _ _ => by rw [h]

/-- A field set below the range or above it changes none in it. -/
theorem RegsKept.wr (v : Nat) (h : f.key idx < lo ∨ hi ≤ f.key idx) : RegsKept lo hi a (a.wr f v idx) :=
  fun q hl hh => SMap.find?_ins_other (by omega) _ _

theorem RegsKept.rd (h : RegsKept lo hi a b) (hl : lo ≤ f.key idx) (hh : f.key idx < hi) : b.rd f idx = a.rd f idx := by
  rw [Module.rd, Module.rd, h _ hl hh]

end Kept

/-- A field's key is not below that of its register. -/
theorem Fld.base_le_key (f : Fld) (idx : List Nat) : f.base * 32 ≤ f.key idx := by
  rw [Fld.key]
  omega

/-- What every single move of a kind keeps, a chain of such moves keeps. -/
theorem frame_of_moves {R : Module → Module → Prop} {ks : List Kind} (h : ∀ a b, R a b → Frame ks a b) {a b : Module}
    (hs : Relation.ReflTransGen R a b) : Frame ks a b := by
  induction hs with
  | refl => exact Frame.refl ks _
  | tail _ hmove ih => exact ih.trans (h _ _ hmove)

theorem regsKept_of_moves {R : Module → Module → Prop} {lo hi : Nat} (h : ∀ a b, R a b → RegsKept lo hi a b) {a b : Module}
    (hs : Relation.ReflTransGen R a b) : RegsKept lo hi a b := by
  induction hs with
  | refl => exact RegsKept.refl a
  | tail _ hmove ih => exact ih.trans (h _ _ hmove)

end Sys2Proof.Machine
end

section
/-! PROOFS. Faults and the error log (R406 to R420): all that a record can do, the requests a fault is charged to, and alerts. -/

namespace Sys2Proof.Machine

/-! ### Chains of moves -/

section Moves
variable {R : Module → Module → Prop} {a b c : Module}

theorem moves_ite {p : Prop} [Decidable p] (hb : Relation.ReflTransGen R a b) (hc : Relation.ReflTransGen R a c) :
    Relation.ReflTransGen R a (if p then b else c) := by
  split
  · exact hb
  · exact hc

theorem moves_iter {f : Nat → Module → Module} {n : Nat} (h : ∀ i m, i < n → Relation.ReflTransGen R m (f i m)) :
    Relation.ReflTransGen R a (iter n f a) :=
  List.foldlRecOn (List.range n) (fun a i => f i a) .refl (fun m hm i hi => hm.trans (h i m (List.mem_range.mp hi)))

end Moves

/-! ### A record -/

/-- One move of a record on its way: the safety block's own state, an output, or a field of the interrupt table's pending bits or of
a register above it (no clock, boot or pool register lies there). -/
inductive LogMove : Module → Module → Prop where
  | saf (m : Module) (x : Safety) : LogMove m { m with saf := x }
  | out (m : Module) (o : Output) : LogMove m (m.emit o)
  | reg (m : Module) (f : Fld) (v : Nat) (idx : List Nat) (h : 0x10000 ≤ f.base) : LogMove m (m.wr f v idx)

/-- A record, or a part of its way, is a chain of such moves. -/
abbrev LogMoves : Module → Module → Prop := Relation.ReflTransGen LogMove

section Log
variable {a b m : Module} {f : Fld} {v seq : Nat} {idx : List Nat} {o : Output} {r : LogRec}

theorem LogMoves.frame (h : LogMoves a b) : Frame [.out, .regs, .saf] a b :=
  frame_of_moves (fun _ _ hm => match hm with
    | .saf _ _ => .mono (by decide) Module.frame_saf
    | .out _ _ => .mono (by decide) Module.frame_emit
    | .reg _ _ _ _ _ => .mono (by decide) Module.frame_reg) h

/-- A record changes no register below the interrupt table's pending bits. -/
theorem LogMoves.regsKept (h : LogMoves a b) : RegsKept 0 (0x10000 * 32) a b :=
  regsKept_of_moves (fun _ _ hm => match hm with
    | .saf _ _ => .of_regs rfl
    | .out _ _ => .of_regs rfl
    | .reg _ f v idx hf => .wr v (.inr (le_trans (Nat.mul_le_mul_right 32 hf) (f.base_le_key idx)))) h

theorem Module.logMoves_saf {x : Safety} : LogMoves m { m with saf := x } := .single (.saf m x)
theorem Module.logMoves_out : LogMoves m (m.emit o) := .single (.out m o)
theorem Module.logMoves_reg (h : 0x10000 ≤ f.base) : LogMoves m (m.wr f v idx) := .single (.reg m f v idx h)

theorem Module.logMoves_msix : LogMoves m (m.msix v) := moves_ite .refl <| moves_ite (logMoves_reg (by decide)) logMoves_out

theorem Module.logMoves_faultPin : LogMoves m m.faultPin := moves_ite .refl <| .trans (logMoves_reg (by decide)) logMoves_out

theorem Module.logMoves_failFast : LogMoves m m.failFast := .trans (logMoves_reg (by decide)) <| .trans (logMoves_reg (by decide)) logMoves_faultPin

theorem Module.logMoves_snapTrigger : LogMoves m (m.snapTrigger v seq) := moves_ite (logMoves_reg (by decide)) <| logMoves_saf.trans logMoves_out

theorem Module.logMoves_recSignal : LogMoves m (m.recSignal v) :=
  moves_ite .refl <| moves_ite logMoves_msix <| moves_ite logMoves_saf .refl

/-- A record that is stored signals and, where it asks for one, triggers a snapshot. -/
theorem Module.logMoves_signal {snaps : Prop} [Decidable snaps] :
    LogMoves m (if snaps then (m.recSignal v).snapTrigger 3 seq else m.recSignal v) :=
  moves_ite (logMoves_recSignal.trans logMoves_snapTrigger) logMoves_recSignal

/-- The pin and the fail-fast of a record, after it has been stored, suppressed or counted as lost. -/
theorem Module.logMoves_pinned {m₁ : Module} (h : LogMoves m m₁) :
    LogMoves m (if r.severity = sevFatal then (if r.pin then m₁.faultPin else m₁).failFast else if r.pin then m₁.faultPin else m₁) := by
  have hpin : LogMoves m (if r.pin then m₁.faultPin else m₁) := moves_ite (h.trans logMoves_faultPin) h
  exact moves_ite (hpin.trans logMoves_failFast) hpin

theorem Module.logMoves_logRec : LogMoves m (m.logRec r) := by
  refine logMoves_pinned ?_
  split
  case h_1 => exact logMoves_saf
  case h_2 =>
    refine moves_ite ?stored (moves_ite (logMoves_reg (by decide)) ?full)
    case stored => exact logMoves_saf.trans <| .trans (logMoves_reg (by decide)) <| .trans (logMoves_reg (by decide)) logMoves_signal
    case full =>
      split
      · exact logMoves_saf.trans logMoves_signal
      · exact logMoves_reg (by decide)

end Log

/-! ### Frames of faults and records -/

section Faults
variable {m : Module} {r : LogRec} {v s c f a n ev sev sub detail kind left lim : Nat} {uses : Nat → Req → Bool}

theorem Module.frame_msix : Frame [.out, .regs] m (m.msix v) := .mono (by decide) <| .either .rfl <| .either frame_reg frame_emit

theorem Module.frame_newFault : Frame [.saf] m m.newFault.2 := frame_saf

theorem Module.frame_charge : Frame [.host] m (m.charge f uses) := frame_host

theorem Module.frame_logRec : Frame [.out, .regs, .saf] m (m.logRec r) := logMoves_logRec.frame

theorem Module.frame_clockRec : Frame [.out, .regs, .saf] m (m.clockRec f ev sev sub detail) := frame_logRec

theorem Module.frame_report : Frame [.out, .regs, .saf] m (m.report r) := .mono (by decide) <| frame_newFault.step frame_logRec

theorem Module.frame_bankEvent : Frame [.out, .regs, .saf] m (m.bankEvent s v ev c) := frame_report

theorem Module.frame_addrInvalid : Frame [.out, .regs, .saf] m (m.addrInvalid v a n) := frame_report

theorem Module.frame_thermRec {t : Int} : Frame [.out, .regs, .saf, .host] m (m.thermRec c ev sev t) :=
  .mono (by decide) <| .either (frame_report.step frame_charge) frame_report

theorem Module.frame_pairEvent {g : Fld} : Frame [.out, .regs, .saf] m (m.pairEvent g) := .mono (by decide) <| frame_reg.step frame_report

theorem Module.frame_alertKind : Frame [.out, .regs, .saf] m (m.alertKind kind left lim) := by
  have halert {x : Safety} {q : LogRec} : Frame [.out, .regs, .saf] m (({ m with saf := x } : Module).report q) :=
    .mono (by decide) <| frame_saf.step frame_report
  unfold Module.alertKind
  split
  · exact .mono (by decide) <| .either halert .rfl
  · exact .mono (by decide) <| .either halert .rfl

theorem Module.frame_alerts : Frame [.out, .regs, .saf] m m.alerts :=
  .mono (by decide) <| frame_alertKind.step <| frame_alertKind.step <| frame_alertKind.step frame_alertKind

end Faults

end Sys2Proof.Machine
end

section
/-! PROOFS. Sending on a fabric link (R296 to R326): all that a port's sender can do, and the frames of packets and messages. -/

namespace Sys2Proof.Machine

/-! ### The registers of a port -/

/-- The keys of the register block of port `p`. -/
def isPortKey (p q : Nat) : Prop := (0xa40000 + 0x4000 * p) * 32 ≤ q ∧ q < (0xa40000 + 0x4000 * (p + 1)) * 32

theorem Fld.portKey {f : Fld} (p : Nat)
    (hf : f.strides = [(0x4000, 64)] ∧ 0xa40000 ≤ f.base ∧ f.base < 0xa44000 ∧ f.lo < 32) : isPortKey p (f.key [p]) := by
  obtain ⟨hs, hlo, hhi, hbit⟩ := hf
  simp only [isPortKey, Fld.key, hs, strideOff]
  omega

/-- A register of a virtual channel of a port. -/
theorem Fld.portKey_vc {f : Fld} (p : Nat) {v : Nat} (hv : v < 8)
    (hf : f.strides = [(0x4000, 64), (0x8, 8)] ∧ 0xa40000 ≤ f.base ∧ f.base < 0xa43000 ∧ f.lo < 32) :
    isPortKey p (f.key [p, v]) := by
  obtain ⟨hs, hlo, hhi, hbit⟩ := hf
  simp only [isPortKey, Fld.key, hs, strideOff]
  omega

/-! ### A port's sender -/

/-- One move of the sender of port `p`: its link, an output, or a field of the port's registers. -/
inductive LinkMove (p : Nat) : Module → Module → Prop where
  | link (m : Module) (g : Link → Link) : LinkMove p m (m.modLink p g)
  | out (m : Module) (o : Output) : LinkMove p m (m.emit o)
  | reg (m : Module) (f : Fld) (v : Nat) (idx : List Nat) (h : isPortKey p (f.key idx)) : LinkMove p m (m.wr f v idx)

/-- What the sender of port `p` does is a chain of such moves. -/
abbrev LinkMoves (p : Nat) : Module → Module → Prop := Relation.ReflTransGen (LinkMove p)

section Sender
variable {a b m : Module} {p : Nat} {g : Link → Link} {o : Output} {f : Fld} {v : Nat} {idx : List Nat} {x : TxFlit}

theorem Module.frame_modLink : Frame [.links] m (m.modLink p g) := frame_links

theorem LinkMoves.frame (h : LinkMoves p a b) : Frame [.out, .regs, .links] a b :=
  frame_of_moves (fun _ _ hm => match hm with
    | .link _ _ => .mono (by decide) Module.frame_modLink
    | .out _ _ => .mono (by decide) Module.frame_emit
    | .reg _ _ _ _ _ => .mono (by decide) Module.frame_reg) h

/-- A port's sender changes no register above the fabric block. -/
theorem LinkMoves.regsKept {hi : Nat} (h : LinkMoves p a b) (hp : p < 64) : RegsKept (0xb40000 * 32) hi a b :=
  regsKept_of_moves (fun _ _ hm => match hm with
    | .link _ _ => .of_regs rfl
    | .out _ _ => .of_regs rfl
    | .reg _ _ v _ hk => .wr v (.inl (lt_of_lt_of_le hk.2 (by omega)))) h

theorem Module.linkMoves_link : LinkMoves p m (m.modLink p g) := .single (.link m g)
theorem Module.linkMoves_out : LinkMoves p m (m.emit o) := .single (.out m o)
theorem Module.linkMoves_reg (h : isPortKey p (f.key idx)) : LinkMoves p m (m.wr f v idx) := .single (.reg m f v idx h)

theorem Module.linkMoves_showLink : LinkMoves p m (m.showLink p) :=
  .trans (moves_iter fun _ _ hv => .trans (linkMoves_reg (Fld.portKey_vc p hv (by decide))) (linkMoves_reg (Fld.portKey_vc p hv (by decide))))
    (linkMoves_reg (Fld.portKey p (by decide)))

theorem Module.linkMoves_putFlit {seq ftype vc start : Nat} {gs : List (Nat × Nat)} :
    LinkMoves p m (m.putFlit p seq ftype vc start gs) := by
  have hnak : LinkMoves p m (if m.rdB Reg.fabSeqRx_nakActive [p] then m.count Reg.fabNakSent_count 1 [p] else m) :=
    moves_ite (linkMoves_reg (Fld.portKey p (by decide))) .refl
  unfold Module.putFlit
  exact hnak.trans <| linkMoves_out.trans linkMoves_link

theorem Module.linkMoves_putTx : LinkMoves p m (m.putTx p x) := by
  unfold Module.putTx
  split
  · exact linkMoves_putFlit
  · exact linkMoves_out.trans linkMoves_link

theorem Module.linkMoves_sendSeq : LinkMoves p m (m.sendSeq p x) :=
  linkMoves_link.trans <| .trans (linkMoves_reg (Fld.portKey p (by decide))) linkMoves_putTx

theorem Module.linkMoves_sendData : LinkMoves p m (m.sendData p v) := by
  unfold Module.sendData
  exact linkMoves_link.trans linkMoves_sendSeq

theorem Module.linkMoves_pumpN (n : Nat) : ∀ m : Module, LinkMoves p m (m.pumpN p n) := by
  induction n with
  | zero => exact fun _ => .refl
  | succ n ih =>
    intro m
    rw [Module.pumpN]
    refine moves_ite ?_ .refl
    split
    · exact linkMoves_link.trans <| linkMoves_sendSeq.trans (ih _)
    · split
      · exact linkMoves_sendData.trans (ih _)
      · exact .refl

theorem Module.linkMoves_pump : LinkMoves p m (m.pump p) := (linkMoves_pumpN 4096 m).trans linkMoves_showLink

theorem Module.linkMoves_sendCtl {msg : Nat} {fields : List Nat} : LinkMoves p m (m.sendCtl p msg fields) :=
  moves_ite .refl <| moves_ite (linkMoves_sendSeq.trans linkMoves_showLink) linkMoves_link

theorem Module.linkMoves_sendAudit : LinkMoves p m (m.sendAudit p) := linkMoves_sendCtl

/-- The round passes at a port: its share counters run down, and an up link sends its audit (R314). -/
theorem Module.linkMoves_roundPasses {n : Nat} :
    LinkMoves p m (let m₁ := iter n (fun _ m => m.shareRound p) m; if m₁.linkState p = 2 then (m₁.sendAudit p).pump p else m₁) := by
  have hshare : LinkMoves p m (iter n (fun _ m => m.shareRound p) m) := moves_iter fun _ _ _ => linkMoves_link
  exact hshare.trans <| moves_ite (linkMoves_sendAudit.trans linkMoves_pump) .refl

end Sender

/-! ### Packets and messages -/

section Packets
variable {m b : Module} {p pkg op vc c tag rem : Nat} {k : Pkt} {own : Bool} {fields bytes : List Nat} {req : Option Nat}

theorem Module.frame_pump : Frame [.out, .regs, .links] m (m.pump p) := linkMoves_pump.frame

theorem Module.frame_enqueue : Frame [.out, .regs, .links] m (m.enqueue p k) := by
  have hlate {q : Prop} [Decidable q] : Frame [.regs] m (if q then m.count Reg.fabBudgetZero_count 1 [p] else m) :=
    .either frame_reg .rfl
  unfold Module.enqueue
  exact .mono (by decide) <| .either frame_reg <| hlate.step <| frame_modLink.step frame_pump

theorem Module.frame_routePkt (h : m.routePkt k own = some b) : Frame [.out, .regs, .links, .rte] m b := by
  have hdet {q : Prop} [Decidable q] : Frame [.regs] m (if q then m.count Reg.rteDetoured_count else m) :=
    .either frame_reg .rfl
  unfold Module.routePkt at h
  extract_lets d known at h
  split at h
  split at h
  · cases h
  · cases h
    exact .mono (by decide) <| hdet.step <| frame_rte.step frame_enqueue

theorem Module.frame_sendMsg {dstTine srcTine len : Nat} {gs : List (Nat × Nat)}
    (h : m.sendMsg pkg dstTine srcTine op vc c tag rem len gs req = some b) : Frame [.out, .regs, .links, .rte] m b := by
  unfold Module.sendMsg at h
  split at h
  extract_lets base at h
  split at h
  · cases h
    exact .refl _ _
  · refine List.foldlRecOn (motive := fun o => ∀ b, o = some b → Frame [.out, .regs, .links, .rte] m b) _ _ ?start ?next b h
    case start => exact fun b h => Option.some.inj h ▸ .refl _ m
    case next =>
      intro o ho k _ b h
      cases o with
      | none => cases h
      | some x => exact .mono (by decide) <| (ho x rfl).step (frame_routePkt h)

theorem Module.frame_newTag : Frame [.rte] m m.newTag.2 := frame_rte

theorem Module.frame_sendOn : Frame [.out, .regs, .links] m (m.sendOn p op vc tag bytes) := frame_enqueue

theorem Module.frame_sendFields : Frame [.out, .regs, .links, .rte] m (m.sendFields pkg op vc c tag rem fields req) := by
  unfold Module.sendFields
  extract_lets bs
  split
  · next h => exact frame_sendMsg h
  · exact .mono (by decide) <| frame_reg

theorem Module.frame_sendNotice {group down : Bool} {target : Nat} :
    Frame [.out, .regs, .links, .rte] m (m.sendNotice group target down) := by
  unfold Module.sendNotice
  exact .mono (by decide) <| .either .rfl <| .step (.foldl fun _ _ => .either .rfl (frame_newTag.step frame_sendFields)) frame_rte

theorem Module.frame_copyOut {round : Nat} : Frame [.out, .regs, .links, .rte] m (m.copyOut round bytes) := by
  unfold Module.copyOut
  exact .mono (by decide) <| .either .rfl <| frame_newTag.step <| .foldl fun _ _ => frame_enqueue

end Packets

end Sys2Proof.Machine
end

section
/-! PROOFS. Frames of the operations on Tines, contexts, queues and requests (R76 to R118, R208 to R240, R246 to R275). -/

namespace Sys2Proof.Machine

/-! ### Tines -/

section Tines
variable {m : Module} {s b cause f id : Nat} {t : Tine → Tine}

theorem Module.frame_modTine : Frame [.tines] m (m.modTine s t) := frame_tines

theorem Module.frame_leaveService : Frame [.saf, .ctx] m (m.leaveService s) := frame_saf_ctx

theorem Module.frame_retired : Frame [.regs, .saf] m (m.retired s cause) :=
  .mono (by decide) <| frame_reg.step <| frame_reg.step <| frame_reg.step <| frame_reg.step <| frame_reg.step frame_saf

theorem Module.frame_retireNow : Frame [.out, .regs, .saf, .tines, .ctx] m (m.retireNow s cause f) := by
  have hleave {used : Bool} : Frame [.saf, .ctx] m (if used then m.leaveService s else m) := .either frame_leaveService .rfl
  unfold Module.retireNow
  exact .mono (by decide) <| .either .rfl <| hleave.step <| frame_modTine.step <| frame_retired.step frame_logRec

theorem Module.frame_startSwitch : Frame [.out, .regs, .saf, .tines] m (m.startSwitch s b) :=
  .mono (by decide) <| .either (frame_modTine.step <| frame_reg.step frame_modTine) (frame_modTine.step frame_bankEvent)

theorem Module.frame_takeHeld : Frame [.out, .regs, .saf, .tines] m (m.takeHeld s) := .mono (by decide) <| .either .rfl frame_startSwitch

theorem Module.frame_stopStage : Frame [.out, .regs, .saf, .tines] m (m.stopStage s) :=
  .mono (by decide) <| frame_reg.step <| frame_modTine.step frame_takeHeld

theorem Module.frame_stopAll : Frame [.out, .regs, .saf, .tines, .mesh] m (m.stopAll id) := by
  unfold Module.stopAll
  extract_lets m₁
  have hsites : Frame [.out, .regs, .saf, .tines, .mesh] m m₁ := .foldl fun m s => by
    extract_lets t here held m₂
    have hheld : Frame [.out, .regs, .saf, .tines, .mesh] m m₂ := .mono (by decide) <| .either frame_modTine .rfl
    exact .mono (by decide) <| .either (hheld.step frame_stopStage) hheld
  exact .mono (by decide) <| hsites.step <| frame_tines_mesh

end Tines

/-! ### Queues and completions -/

section Queues
variable {m : Module} {q cid low c kind v idx id : Nat} {g : Queue → Queue} {x : Compl} {final nf : Bool} {r : Req} {h : Req → Req}

theorem Module.frame_draw : Frame [.free] m (m.draw v).2 := frame_free

theorem Module.frame_modQueue : Frame [.host] m (m.modQueue q g) := frame_host

theorem Module.frame_modReq : Frame [.host] m (m.modReq id h) := by
  unfold Module.modReq
  split
  · exact frame_host
  · exact .refl _ _

theorem Module.frame_coalesce : Frame [.out, .regs, .host] m (m.coalesce q) :=
  .mono (by decide) <| .either (frame_modQueue.step frame_msix) frame_modQueue

theorem Module.frame_modEntry : Frame [.pair] m (m.modEntry kind q idx) := .mono (by decide) <| .either frame_pair .rfl

theorem Module.frame_posted : Frame [.pair] m (m.posted q cid) := by
  unfold Module.posted
  split
  · exact .refl _ _
  · exact .mono (by decide) <| frame_pair.step frame_modEntry

theorem Module.frame_post : Frame [.out, .regs, .host, .pair] m (m.post q cid low x final) := by
  have hposted : Frame [.pair] m (if final then m.posted (q % 2 ^ 16) cid else m) := .either frame_posted .rfl
  have hcount {b : Module} {f : Fld} {v : Nat} {idx : List Nat} : Frame [.regs] b (if final then b.wr f v idx else b) :=
    .either frame_reg .rfl
  unfold Module.post
  exact .mono (by decide) <| .either hposted <| hposted.step <| frame_emit.step <| frame_reg.step <|
    frame_modQueue.step <| hcount.step frame_coalesce

theorem Module.frame_finish : Frame [.out, .regs, .host, .pair] m (m.finish q cid x) := frame_post

theorem Module.frame_finishQuery : Frame [.out, .regs, .host, .pair] m (m.finishQuery q cid nf x) := frame_post

theorem Module.frame_replyWith : Frame [.free, .out, .regs, .links, .rte] m (m.replyWith r low x) := by
  unfold Module.replyWith
  dsimp only [Module.draw]
  split
  · next hs => exact .mono (by decide) <| frame_free.step (frame_sendMsg hs)
  · exact .mono (by decide) <| frame_free.step frame_reg

end Queues

end Sys2Proof.Machine
end

section
/-! PROOFS. Frames of device reads, contexts and completions (R185 to R206, R208 to R222, R246 to R275). -/

namespace Sys2Proof.Machine

/-! ### Device memory -/

section Device
variable {m : Module} {a s src sev f n dst : Nat} {pl : Place}

theorem Module.frame_lastUncorr : Frame [.regs] m (m.lastUncorr a s src) :=
  .mono (by decide) <| frame_reg.step <| frame_reg.step <| frame_reg.step frame_reg

theorem Module.frame_memRec : Frame [.out, .regs, .saf, .host] m (m.memRec a s src sev) :=
  .mono (by decide) <| frame_lastUncorr.step <| frame_report.step frame_charge

theorem Module.frame_devUncorr : Frame [.out, .regs, .dev, .saf, .host] m (m.devUncorr a src sev) := by
  unfold Module.devUncorr
  extract_lets g s m₁ m₂
  have hcount : Frame [.regs] m₁ m₂ := by
    unfold m₂
    split
    · exact .mono (by decide) <| .either frame_reg frame_reg
    · exact frame_reg
    · exact .refl _ _
  exact .mono (by decide) <| frame_dev.step <| hcount.step frame_memRec

theorem Frame.ite_read {p : Prop} [Decidable p] {ks : List Kind} {x y : Nat × Bool × Module} (hx : Frame ks m x.2.2)
    (hy : Frame ks m y.2.2) : Frame ks m (if p then x else y).2.2 := by
  split
  · exact hx
  · exact hy

theorem Module.frame_devRead : Frame [.out, .regs, .dev, .saf, .host] m (m.devRead a src sev).2.2 := by
  unfold Module.devRead
  refine .ite_read (.refl _ _) <| .ite_read (.mono (by decide) frame_addrInvalid) ?_
  generalize codeDecode (m.dev.syndrome (a / 16)) = r
  have hcorr {x : Store} {g : Fld} {idx : List Nat} :
      Frame [.out, .regs, .dev, .saf, .host] m (({ m with dev := x } : Module).count g 1 idx) :=
    .mono (by decide) <| frame_dev.step frame_reg
  cases r with
  | clean => exact .refl _ _
  | data b =>
    cases m.place a with
    | gddr => exact .mono (by decide) <| .either hcorr hcorr
    | cxl p => exact hcorr
    | none => exact .mono (by decide) <| frame_dev
  | check =>
    cases m.place a with
    | gddr => exact hcorr
    | cxl p => exact hcorr
    | none => exact .mono (by decide) <| frame_dev
  | poison =>
    cases m.place a with
    | gddr => exact .mono (by decide) <| frame_reg
    | cxl p => exact .refl _ _
    | none => exact .refl _ _
  | uncorr => exact frame_devUncorr

end Device

/-! ### Contexts -/

section Contexts
variable {m b : Module} {c s bank v q cid n tier level src dst t r mask : Nat} {x : Ctx} {l : List Nat} {again : Bool} {p : Fill → Bool}

theorem Module.frame_setCtx : Frame [.ctx] m (m.setCtx c x) := frame_ctx

theorem Module.frame_setBank : Frame [.regs] m (m.setBank s bank v) := .mono (by decide) <| .either frame_reg frame_reg

theorem Module.frame_setBinds : Frame [.ctx, .host] m (m.setBinds q l) := .mono (by decide) <| .either frame_ctx frame_modQueue

theorem Module.frame_unbindAll : Frame [.ctx, .host] m (m.unbindAll c) := frame_ctx_host

theorem Module.frame_dropCaches : Frame [.ctx] m (m.dropCaches n) := by
  unfold Module.dropCaches
  refine .foldl fun m p => ?_
  split
  · exact .refl _ _
  · exact .mono (by decide) <| .either frame_setCtx .rfl

theorem Module.frame_allocOr : Frame [.ctx] m (m.allocOr tier n).2 := by
  unfold Module.allocOr
  split
  · exact .refl _ _
  · split
    · extract_lets m₁
      split
      · exact frame_dropCaches
      · exact .refl _ _
    · exact .refl _ _

theorem Module.frame_copyImage : Frame [.out, .regs, .dev, .saf, .host] m (m.copyImage src dst n) := by
  unfold Module.copyImage
  exact .mono (by decide) <| .either frame_dev <| .step (.foldl fun _ _ => frame_devRead) frame_dev

theorem Module.frame_refresh : Frame [.ctx] m (m.refresh c) := .mono (by decide) <| .either frame_setCtx .rfl

theorem Module.frame_askFills : Frame [.ctx] m (m.askFills c) := .mono (by decide) <| .either frame_ctx .rfl

theorem Module.frame_placeAt : Frame [.ctx] m (m.placeAt c t r mask) := .mono (by decide) <| frame_setCtx.step frame_askFills

theorem Module.frame_place? (h : m.place? c = some b) : Frame [.ctx] m b := by
  unfold Module.place? at h
  extract_lets x at h
  split at h
  · cases h
    exact .refl _ _
  · split at h
    · cases h
      exact frame_placeAt
    · cases h

/-- A placement that may fail: it leaves the module as it was, or places the context. -/
theorem Module.frame_placed : Frame [.ctx] m ((m.place? c).getD m) := .getD fun _ h => frame_place? h

theorem Module.frame_dropFills : Frame [.regs, .ctx] m (m.dropFills p) := by
  unfold Module.dropFills
  exact .mono (by decide) <| .step (.foldl fun _ _ => .either frame_setBank .rfl) frame_ctx

theorem Module.frame_freeBanks : Frame [.regs, .ctx] m (m.freeBanks c again) := .mono (by decide) <| frame_dropFills.step frame_setCtx

theorem Module.frame_dropCtx : Frame [.regs, .ctx, .host] m (m.dropCtx c) := by
  unfold Module.dropCtx
  exact .mono (by decide) <| frame_freeBanks.step <| frame_setCtx.step <| frame_unbindAll.step frame_ctx

theorem Module.frame_evictNow : Frame [.regs, .ctx, .host] m (m.evictNow c level) :=
  .mono (by decide) <| .either frame_dropCtx <| frame_freeBanks.step frame_setCtx

theorem Module.frame_pokeWaiters : Frame [.out, .regs, .ctx, .host, .pair] m m.pokeWaiters := by
  unfold Module.pokeWaiters
  refine .foldl fun m w => ?_
  extract_lets x drop
  have hdrop : Frame [.ctx] m (drop m) := frame_ctx
  have hfinish {q cid : Nat} {k : Compl} : Frame [.out, .regs, .ctx, .host, .pair] m ((drop m).finish q cid k) :=
    .mono (by decide) <| hdrop.step frame_finish
  have hevict {b : Nat} : Frame [.out, .regs, .ctx, .host, .pair] m (((drop m).evictNow w.ctx b).finish w.queue w.cid Compl.done) :=
    .mono (by decide) <| hdrop.step <| frame_evictNow.step frame_finish
  have hpin {y : Ctx} : Frame [.out, .regs, .ctx, .host, .pair] m (((drop m).setCtx w.ctx y).finish w.queue w.cid Compl.done) :=
    .mono (by decide) <| hdrop.step <| frame_setCtx.step frame_finish
  refine .ite (.ite hevict (.refl _ m)) <| .ite hfinish <| .ite hpin <| .ite hfinish ?_
  split
  · exact hfinish
  · split
    · exact .refl _ _
    · next h => exact .mono (by decide) <| .either hfinish (frame_place? h)

theorem Module.frame_ctxDone : Frame [.out, .regs, .ctx, .host, .pair] m (m.ctxDone c) :=
  .mono (by decide) <| frame_setCtx.step <| frame_refresh.step frame_pokeWaiters

end Contexts

/-! ### Completions and commands of a queue -/

section Completions
variable {m b : Module} {c q cid id level kind flags addr target line skip a n : Nat} {x : Compl} {l : List Nat} {inv : Bool}

theorem Module.frame_complete : Frame [.free, .out, .regs, .ctx, .host, .adm, .links, .rte, .pair] m (m.complete id x) := by
  unfold Module.complete
  split
  · exact .refl _ _
  · next r _ =>
    have hanswer {m₁ : Module} (h : Frame [.host, .adm] m m₁) :
        Frame [.free, .out, .regs, .ctx, .host, .adm, .links, .rte, .pair] m
          (if r.origin = 0 then m₁.post r.queue r.cid r.low x true else m₁.sendReply r x) :=
      .mono (by decide) <| h.step <| .either frame_post frame_replyWith
    exact .mono (by decide) <| .either ((hanswer frame_host_adm).step <| .foldl fun _ _ => frame_ctxDone) (hanswer frame_host_adm)

theorem Module.frame_snoopLine : Frame [.qlk] m (m.snoopLine line inv skip) := frame_qlk

theorem Module.frame_snoopRange : Frame [.qlk] m (m.snoopRange a n inv) := .foldl fun _ _ => frame_snoopLine

theorem Module.frame_evict : Frame [.out, .regs, .ctx, .host, .pair] m (m.evict q cid c level) := by
  have hfinish {k : Compl} : Frame [.out, .regs, .ctx, .host, .pair] m (m.finish q cid k) := .mono (by decide) frame_finish
  have hwait {y : Ctx} {z : CtxTable} : Frame [.out, .regs, .ctx, .host, .pair] m { m.setCtx c y with ctx := z } :=
    .mono (by decide) <| frame_setCtx.step frame_ctx
  have hevict : Frame [.out, .regs, .ctx, .host, .pair] m ((m.evictNow c level).finish q cid Compl.done) :=
    .mono (by decide) <| frame_evictNow.step frame_finish
  unfold Module.evict
  refine .ite hfinish <| .ite hfinish <| .ite hfinish <| .ite ?_ <| .ite hfinish <| .ite hfinish <| .ite hwait hevict
  split
  · exact .mono (by decide) <| frame_dropCtx.step <| frame_finish.step frame_finish
  · exact .mono (by decide) <| frame_dropCtx.step frame_finish

theorem Module.frame_pinCopy (h : m.pinCopy c = .ok b) : Frame [.out, .regs, .dev, .saf, .ctx, .host] m b := by
  unfold Module.pinCopy at h
  extract_lets x at h
  split at h
  · cases h
    exact .refl _ _
  · have halloc : Frame [.ctx] m (m.allocOr 0 (16 * x.imageGranules)).2 := frame_allocOr
    generalize m.allocOr 0 (16 * x.imageGranules) = y at h halloc
    obtain ⟨_ | a, m₁⟩ := y
    · cases h
    · cases h
      exact .mono (by decide) <| halloc.step <| frame_copyImage.step frame_setCtx

theorem Module.frame_pin : Frame [.out, .regs, .dev, .saf, .ctx, .host, .pair] m (m.pin q cid c level) := by
  have hfinish {m : Module} {k : Compl} : Frame [.out, .regs, .dev, .saf, .ctx, .host, .pair] m (m.finish q cid k) :=
    .mono (by decide) frame_finish
  have hpin {m : Module} {y : Ctx} {k : Compl} : Frame [.out, .regs, .dev, .saf, .ctx, .host, .pair] m ((m.setCtx c y).finish q cid k) :=
    .mono (by decide) <| frame_setCtx.step frame_finish
  unfold Module.pin
  refine .ite hfinish <| .ite hfinish <| .ite hfinish <| .ite hfinish <| .ite hpin ?_
  split
  · exact hfinish
  · next m₁ h =>
    have hcopy : Frame [.out, .regs, .dev, .saf, .ctx, .host, .pair] m m₁ := .mono (by decide) <| frame_pinCopy h
    refine hcopy.trans <| .ite hpin ?_
    split
    · exact hfinish
    · exact .mono (by decide) <| .either hfinish <| frame_placed.step <| frame_ctx.step frame_pokeWaiters

theorem Module.frame_query : Frame [.out, .regs, .host, .pair] m (m.query q cid c kind flags addr) :=
  .mono (by decide) <| .either frame_finishQuery <| .either frame_finishQuery <| .either frame_finishQuery <|
    .either (frame_emit.step frame_finishQuery) frame_host

theorem Module.frame_cancelReq : Frame [.host] m (m.cancelReq id) := frame_modReq

theorem Module.frame_cancel : Frame [.out, .regs, .host, .pair] m (m.cancel q cid target) := by
  unfold Module.cancel
  split
  · exact frame_finish
  · exact .mono (by decide) <| frame_host.step frame_cancelReq

theorem Module.frame_loadImage : Frame [.out, .regs, .ctx, .host, .pair] m (m.loadImage q cid l) := by
  have hfinish {m : Module} {q cid : Nat} {k : Compl} : Frame [.out, .regs, .ctx, .host, .pair] m (m.finish q cid k) :=
    .mono (by decide) frame_finish
  unfold Module.loadImage
  extract_lets want b₂ tier pairing key id? len gr
  split
  case h_1 => exact hfinish
  case h_2 =>
  clear_value id?
  cases id? with
  | none => exact hfinish
  | some c =>
    refine .ite hfinish <| .ite hfinish <| .ite hfinish <| .ite hfinish ?_
    extract_lets m₀ base m₁ fail ld
    have hfail {v e : Nat} : Frame [.out, .regs, .ctx, .host, .pair] m (fail v e) :=
      .mono (by decide) <| frame_dropCtx.step <| frame_setCtx.step frame_finish
    have hbase : Frame [.regs, .ctx] m m₁ := .mono (by decide) <| .step (.either frame_freeBanks .rfl) frame_setCtx
    have halloc : Frame [.ctx] m₁ (m₁.allocOr (if tier = 0 then 0 else 1) len).2 := frame_allocOr
    generalize m₁.allocOr (if tier = 0 then 0 else 1) len = y at halloc ⊢
    split
    next a₁ m₂ =>
    split
    · exact hfail
    · next addr =>
      extract_lets m₃
      have hcopy : Frame [.ctx] m₃ (if tier = 2 then m₃.allocOr 0 len else (.ok addr, m₃)).2 := by
        split
        · exact frame_allocOr
        · exact .refl _ _
      generalize (if tier = 2 then m₃.allocOr 0 len else (.ok addr, m₃)) = z at hcopy ⊢
      split
      next a₂ m₄ =>
      split
      · exact hfail
      · extract_lets m₅ m₆
        have hbinds : Frame [.ctx, .host] m₅ m₆ := .mono (by decide) <| .either .rfl frame_setBinds
        exact .mono (by decide) <| hbase.step <| halloc.step <| frame_setCtx.step <| hcopy.step <| frame_setCtx.step <|
          hbinds.step frame_ctx

end Completions

end Sys2Proof.Machine
end

section
/-! PROOFS. Frames of what a die's loss sets off: sequences, lasers and clock trees, ports and connections, Tines (R27 to R29, R144,
R278 to R295, R342 to R346). -/

namespace Sys2Proof.Machine

/-! ### Sequences -/

section Sequences
variable {m : Module} {e s p slot kind target slots : Nat} {j : SeqJob}

theorem Module.frame_presetRing : Frame [.regs] m (m.presetRing p slot) := by
  unfold Module.presetRing
  extract_lets m₁
  have htx : Frame [.regs] m m₁ := by
    unfold m₁
    split
    · exact frame_reg
    · exact .refl _ _
  split
  · exact .mono (by decide) <| htx.step frame_reg
  · exact htx

theorem Module.frame_seqBegin : Frame [.regs, .seqs] m (m.seqBegin e j) := by
  unfold Module.seqBegin
  split
  · exact .refl _ _
  · exact .mono (by decide) <| .either (frame_seqs.step <| .foldl fun _ _ => frame_presetRing) frame_seqs

theorem Module.frame_seqTake : Frame [.regs, .seqs, .seqWait] m (m.seqTake e) := by
  unfold Module.seqTake
  split
  · exact .refl _ _
  · split
    · exact .refl _ _
    · exact .mono (by decide) <| frame_seqWait.step frame_seqBegin

theorem Module.frame_seqStart : Frame [.regs, .seqs, .seqWait] m (m.seqStart e kind target slots) :=
  .mono (by decide) <| frame_seqWait.step frame_seqTake

theorem Module.frame_siteOff : Frame [.regs, .seqs, .seqWait] m (m.siteOff s) := .mono (by decide) <| frame_seqStart.step frame_seqStart

end Sequences

/-! ### Clock trees and lasers -/

section Trees
variable {m : Module} {b s u st r t f p ev sev : Nat} {g : LaserBank → LaserBank}

theorem Module.frame_modBank : Frame [.lasers] m (m.modBank b g) := frame_lasers

theorem Module.frame_setTree : Frame [.regs] m (m.setTree r t) := .mono (by decide) <| .either frame_reg <| .either frame_reg frame_reg

theorem Module.frame_switchTree : Frame [.out, .regs, .hub, .saf] m (m.switchTree r f) :=
  .mono (by decide) <| frame_hub.step <| frame_setTree.step <| frame_reg.step frame_clockRec

theorem Module.frame_useTree : Frame [.out, .regs, .hub, .saf] m (m.useTree t) :=
  .mono (by decide) <| .either .rfl <| frame_newFault.step <| .foldl fun _ _ => frame_switchTree

theorem Module.frame_treeFail : Frame [.out, .regs, .hub, .saf, .host] m (m.treeFail t f) := by
  have hevent {p : Prop} [Decidable p] {a b c d : Fld} :
      Frame [.regs] m (if p then (m.clr a).set1 b else (m.clr c).set1 d) :=
    .mono (by decide) <| .either (frame_reg.step frame_reg) (frame_reg.step frame_reg)
  unfold Module.treeFail
  extract_lets up m₁ m₂ other
  have hfail : Frame [.out, .regs, .hub, .saf, .host] m m₂ := .mono (by decide) <| hevent.step <| frame_clockRec.step frame_charge
  exact .mono (by decide) <| .either .rfl <| .either hfail <| hfail.step <| .foldl fun _ _ => .either frame_switchTree .rfl

theorem Module.frame_showBank : Frame [.regs] m (m.showBank b) := .mono (by decide) <| frame_reg.step frame_reg

theorem Module.frame_carrierUp : Frame [.regs] m (m.carrierUp b) := .mono (by decide) <| .either frame_reg <| .either frame_reg .rfl

theorem Module.frame_setUnit : Frame [.regs, .saf] m (m.setUnit b s u st) := by
  have hpool {m : Module} {x : Safety} : Frame [.saf] m (if st = 4 then { m with saf := x } else m) := .either frame_saf .rfl
  have hcarrier {m : Module} : Frame [.regs] m (if st = 3 ∧ s = 16 then m.carrierUp b else m) := .either frame_carrierUp .rfl
  unfold Module.setUnit
  extract_lets m₁ m₂
  have hstate : Frame [.regs] m m₁ := .ite frame_reg frame_reg
  have hunit : Frame [.regs] m₁ m₂ := .either frame_reg .rfl
  exact .mono (by decide) <| hstate.step <| hunit.step <| hpool.step <| hcarrier.step frame_showBank

theorem Module.frame_laserRec : Frame [.out, .regs, .saf] m (m.laserRec b s u ev sev) := frame_report

theorem Module.frame_endSwap : Frame [.regs, .seqs, .seqWait, .lasers] m (m.endSwap b) :=
  .mono (by decide) <| frame_modBank.step <| frame_reg.step frame_seqTake

theorem Module.frame_swapStep : Frame [.out, .regs, .hub, .saf, .seqs, .seqWait, .lasers] m (m.swapStep b) := by
  unfold Module.swapStep
  split
  · exact .refl _ _
  · next w _ =>
    extract_lets s m₁ m₂
    have hold : Frame [.out, .regs, .hub, .saf, .seqs, .seqWait, .lasers] m m₁ := .mono (by decide) <| .either frame_setUnit .rfl
    have hend : Frame [.out, .regs, .hub, .saf, .seqs, .seqWait, .lasers] m m₂ :=
      .mono (by decide) <| frame_endSwap.step <| frame_reg.step frame_laserRec
    exact .mono (by decide) <| .either .rfl <|
      .either (hold.step <| frame_setUnit.step <| frame_modBank.step frame_alerts) <|
      .either (.either (hend.step frame_useTree) <| .either (hend.step frame_useTree) hend) .rfl

theorem Module.frame_swapAgreed : Frame [.out, .regs, .hub, .saf, .seqs, .seqWait, .lasers] m (m.swapAgreed p) :=
  .mono (by decide) <| .either (frame_modBank.step frame_swapStep) .rfl

end Trees

/-! ### Ports, connections and engines -/

section Ports
variable {m : Module} {p st c b e f s cause id : Nat} {narrow : Bool} {l : List Nat} {g : OptPort → OptPort} {q : QBundle → QBundle}

theorem Module.frame_modOpt : Frame [.optics] m (m.modOpt p g) := frame_optics

theorem Module.frame_modQb : Frame [.qlk] m (m.modQb c b q) := frame_qlk

theorem Module.frame_portFault : Frame [.saf, .links] m (m.portFault p).2 := by
  unfold Module.portFault
  split
  · exact .refl _ _
  · exact .mono (by decide) <| frame_newFault.step frame_modLink

theorem Module.frame_toGrace : Frame [.regs, .links, .rte] m (m.toGrace p narrow) :=
  .mono (by decide) <| .either (frame_reg.step <| frame_modLink.step frame_rte) .rfl

theorem Module.frame_leaveUp :
    Frame [.out, .regs, .hub, .saf, .seqs, .seqWait, .lasers, .links, .rte] m (m.leaveUp p narrow) := by
  unfold Module.leaveUp
  exact .mono (by decide) <| .either (frame_toGrace.step <| frame_sendNotice.step frame_swapAgreed) .rfl

theorem Module.frame_portLost :
    Frame [.out, .regs, .hub, .saf, .host, .seqs, .seqWait, .lasers, .links, .rte] m (m.portLost p narrow) := by
  unfold Module.portLost
  exact .mono (by decide) <| .either (frame_portFault.step <| frame_charge.step frame_leaveUp) .rfl

theorem Module.frame_showFirn : Frame [.regs] m (m.showFirn p) := .mono (by decide) <| frame_reg.step frame_reg

theorem Module.frame_setFirn : Frame [.regs] m (m.setFirn p st) := .mono (by decide) <| .either .rfl <| frame_reg.step frame_showFirn

theorem Module.frame_portDown :
    Frame [.out, .regs, .hub, .saf, .host, .seqs, .seqWait, .optics, .lasers, .links, .rte] m (m.portDown p) :=
  .mono (by decide) <| frame_modOpt.step <| frame_setFirn.step frame_portLost

theorem Module.frame_asFault : Frame [.links] m (m.asFault e f) := .mono (by decide) <| .foldl fun _ _ => .either frame_modLink .rfl

theorem Module.frame_showConn : Frame [.regs] m (m.showConn c) := by
  unfold Module.showConn
  extract_lets bs up half retired anyUp m₁
  have hlink : Frame [.regs] m m₁ := .mono (by decide) <| frame_reg.step <| frame_reg.step <| frame_reg.step frame_reg
  exact .mono (by decide) <| .either (hlink.step <| frame_reg.step frame_reg) hlink

theorem Module.frame_connDown : Frame [.regs, .qlk] m (m.connDown c) :=
  .mono (by decide) <| .step (.foldl fun _ _ => .either .rfl <| frame_modQb.step frame_reg) frame_showConn

theorem Module.frame_engineDown :
    Frame [.out, .regs, .hub, .saf, .host, .seqs, .seqWait, .optics, .lasers, .links, .rte, .qlk] m (m.engineDown f) := by
  unfold Module.engineDown
  exact .mono (by decide) <| frame_reg.step <| .step (.foldl fun _ _ => frame_portDown) frame_connDown

theorem Module.frame_restart : Frame [.out, .regs, .saf, .tines, .mesh, .host] m (m.restart id) :=
  .mono (by decide) <| frame_stopAll.step frame_modReq

theorem Module.frame_tineLost : Frame [.out, .regs, .saf, .tines, .mesh, .ctx, .host, .qlk] m (m.tineLost s cause f) := by
  unfold Module.tineLost
  extract_lets d m₁ m₂ m₃
  have hrestart : Frame [.out, .regs, .saf, .tines, .mesh, .ctx, .host, .qlk] m₁ m₂ := by
    unfold m₂
    split
    · exact .mono (by decide) <| .either (frame_restart.step frame_reg) .rfl
    · exact .refl _ _
  have hcause : Frame [.regs] m₂ m₃ := .mono (by decide) <| .either frame_reg frame_reg
  exact .mono (by decide) <| frame_charge.step <| hrestart.step <| hcause.step <| frame_retireNow.step <| frame_connDown.step frame_alerts

end Ports

end Sys2Proof.Machine
end

section
/-! PROOFS. Frames of admission, arbitration, pairing and power at a round boundary (R30, R223 to R240, R275, R379 to R405, R431 to
R453). -/

namespace Sys2Proof.Machine

/-! ### Admission -/

section Admission
variable {m : Module} {id reason c pkg there t len h stages : Nat} {r : Req} {b : Block} {q : Nat × Nat × Nat}

theorem Module.frame_countReject : Frame [.regs] m (m.countReject reason) := frame_reg.trans frame_reg

theorem Module.frame_remBudget : Frame [.free] m (m.remBudget id).2 := by
  unfold Module.remBudget
  split
  · exact .refl _ _
  · exact frame_draw (v := 13)

theorem Module.frame_sendSub : Frame [.free, .out, .regs, .links, .rte] m (m.sendSub id r q) :=
  .mono (by decide) <| frame_remBudget.step frame_sendFields

theorem Module.frame_admitReq {cls : Nat} {claims : List (Nat × Nat × Nat)} :
    Frame [.free, .out, .regs, .ctx, .host, .adm, .links, .rte] m (m.admitReq id r b cls claims) := by
  unfold Module.admitReq
  extract_lets _ m₁ m₂ m₃ peak
  have hplace : Frame [.ctx] m₁ m₂ := .foldl fun _ _ => frame_setCtx.trans frame_placed
  exact .mono (by decide) <| frame_adm.step <| hplace.step <| frame_modReq.step <| frame_reg.step <| .foldl fun _ _ => frame_sendSub

theorem Module.frame_decideReq : Frame [.free, .out, .regs, .ctx, .host, .adm, .links, .rte, .pair] m (m.decideReq id) := by
  unfold Module.decideReq
  split
  · exact .refl _ m
  · split
    · exact frame_complete
    · split
      · exact frame_complete
      · exact .mono (by decide) <| frame_countReject.step frame_complete
      · exact .mono (by decide) <| frame_adm.step frame_admitReq

theorem Module.frame_decideAll : Frame [.free, .out, .regs, .ctx, .host, .adm, .links, .rte, .pair] m m.decideAll :=
  .foldl fun m _ => .ite frame_decideReq (.refl _ m)

theorem Module.frame_answerQueries : Frame [.out, .regs, .host, .pair] m m.answerQueries := by
  have hanswer (m : Module) (q : Query1) : Frame [.out, .regs, .host, .pair] m
      (match m.decide_ 0 [q.ctx] q.noFailover m.hub.round 0 0 with
        | .done c => m.finishQuery q.queue q.cid q.noFailover c
        | .refuse reason b => m.finishQuery q.queue q.cid q.noFailover (Compl.of 0 0 (b % 2 ^ 24 + 2 ^ 24 * reason) 0)
        | .accept _ _ _ _ => m.finishQuery q.queue q.cid q.noFailover Compl.done) := by
    split
    · exact frame_finishQuery
    · exact frame_finishQuery
    · exact frame_finishQuery
  exact .mono (by decide) <| frame_host.step <| .foldl hanswer

theorem Module.frame_placeWaiting : Frame [.ctx] m m.placeWaiting := by
  unfold Module.placeWaiting
  extract_lets m₁
  have hchains : Frame [.ctx] m m₁ := .foldl fun m _ => .ite (.foldl fun _ _ => frame_placed) (.refl _ m)
  exact hchains.trans <| .foldl fun m _ => .ite frame_placed (.refl _ m)

theorem Module.frame_settleReqs :
    Frame [.free, .out, .regs, .saf, .tines, .mesh, .ctx, .host, .adm, .links, .rte, .pair] m m.settleReqs := by
  unfold Module.settleReqs
  refine .foldl fun m p => ?_
  split
  · exact .mono (by decide) <| .either (frame_stopAll.step frame_complete) .rfl
  · exact .refl _ m

theorem Module.frame_cancelReqs :
    Frame [.free, .out, .regs, .saf, .tines, .mesh, .ctx, .host, .adm, .links, .rte, .pair] m m.cancelReqs := by
  unfold Module.cancelReqs
  extract_lets hits _ m₀ m₁ overdue _ m₂
  have hcancel : Frame [.free, .out, .regs, .saf, .tines, .mesh, .ctx, .host, .adm, .links, .rte, .pair] m₀ m₁ :=
    .foldl fun _ _ => .mono (by decide) <| .either .rfl <| .either (frame_stopAll.step frame_complete) frame_modReq
  exact .mono (by decide) <| frame_host.step <| hcancel.step <| frame_host.step <| .foldl fun _ _ => frame_finish

theorem Module.frame_holdQuote {sites ds : List Nat} {place : Nat × Nat × Nat} :
    Frame [.out, .regs, .adm, .links, .rte] m (m.holdQuote c pkg there t len sites ds place) :=
  .mono (by decide) <| frame_adm.step <| frame_newTag.step frame_sendFields

theorem Module.frame_quoteFor : Frame [.out, .regs, .adm, .links, .rte] m (m.quoteFor c pkg there h stages) := by
  unfold Module.quoteFor
  refine .matchBooked fun rPlace m₁ => .matchBooked fun rFill m₂ => ?_
  extract_lets -underBinder x len from_
  split
  · exact .refl _ m
  · exact .mono (by decide) <| frame_adm.step frame_holdQuote

theorem Module.frame_sendQuote : Frame [.out, .regs, .adm, .links, .rte] m (m.sendQuote c pkg there) := by
  unfold Module.sendQuote
  split
  · exact frame_quoteFor
  · exact .mono (by decide) frame_reg
  · exact .refl _ m

theorem Module.frame_sendQuotes : Frame [.out, .regs, .adm, .links, .rte] m m.sendQuotes := by
  unfold Module.sendQuotes
  exact .ite (.refl _ m) <| .foldl fun m _ => .ite (.foldl fun _ _ => frame_sendQuote) (.refl _ m)

theorem Module.frame_bookProofs : Frame [.adm] m m.bookProofs := by
  unfold Module.bookProofs
  refine .ite (.refl _ m) <| .foldl fun m s => .ite (.refl _ m) ?_
  extract_lets -underBinder from_
  split
  · exact .refl _ m
  · exact frame_adm

theorem Module.frame_pruneBooks : Frame [.adm] m m.pruneBooks := frame_adm

theorem Module.frame_admResume : Frame [.regs] m m.admResume := .mono (by decide) <| frame_reg.step <| .either .rfl frame_reg

theorem Module.frame_resumeDue : Frame [.regs, .str] m m.resumeDue := .mono (by decide) <| .either (frame_str.step frame_admResume) .rfl

theorem Module.frame_countPair {s : Nat} : Frame [.regs] m (m.countPair s) := by
  unfold Module.countPair
  exact frame_reg.trans frame_reg

theorem Module.frame_countPairs : Frame [.regs] m m.countPairs := .foldl fun _ _ => frame_countPair

end Admission

/-! ### Arbitration -/

section Arbitration
variable {m : Module} {q cid cycle n : Nat} {f : Fetched} {r : Req}

theorem Module.frame_takeEntry : Frame [.regs, .pair] m (m.takeEntry q cid) :=
  .mono (by decide) <| frame_reg.step <| frame_reg.step <| frame_pair.step frame_modEntry

theorem Module.frame_actEntry : Frame [.out, .regs, .dev, .saf, .ctx, .host, .qlk, .pair] m (m.actEntry q f) := by
  unfold Module.actEntry
  extract_lets e cid c src m₁
  split
  · have hsnoop : Frame [.qlk] m m₁ := .either frame_snoopRange .rfl
    split
    · exact .mono (by decide) frame_finish
    · exact .mono (by decide) <| hsnoop.step frame_loadImage
  · exact .mono (by decide) frame_evict
  · exact .mono (by decide) frame_pin
  · exact .mono (by decide) frame_query
  · exact .mono (by decide) frame_cancel
  · exact .mono (by decide) frame_finish

theorem Module.frame_acceptReq : Frame [.host, .adm] m (m.acceptReq r cycle) := by
  unfold Module.acceptReq
  extract_lets r' _ m₁ id
  have hcount : Frame [.host] m m₁ := .either .rfl frame_host
  exact .mono (by decide) <| hcount.step frame_host_adm

theorem Module.frame_takeHead : Frame [.out, .regs, .dev, .saf, .ctx, .host, .adm, .qlk, .pair] m (m.takeHead q cycle) := by
  unfold Module.takeHead
  split
  · exact .refl _ m
  · extract_lets m₁ m₂
    have htake : Frame [.regs, .pair] m₁ m₂ := .either .rfl frame_takeEntry
    exact .mono (by decide) <| frame_modQueue.step <| htake.step <| .either frame_acceptReq frame_actEntry

theorem Module.frame_takeIngress : Frame [.host, .adm] m (m.takeIngress cycle) := by
  unfold Module.takeIngress
  split
  · exact .refl _ m
  · exact .mono (by decide) <| frame_host.step frame_acceptReq

theorem Module.frame_arbiter (n : Nat) :
    ∀ m : Module, Frame [.out, .regs, .dev, .saf, .ctx, .host, .adm, .qlk, .pair] m (m.arbiter cycle n) := by
  induction n with
  | zero => exact fun m => .refl _ m
  | succ n ih =>
    intro m
    have hingress : Frame [.out, .regs, .dev, .saf, .ctx, .host, .adm, .qlk, .pair] m ((m.takeIngress cycle).arbiter cycle n) :=
      .mono (by decide) <| frame_takeIngress.step (ih _)
    rw [Module.arbiter]
    refine .ite (.refl _ m) <| .ite hingress ?_
    split
    · exact .mono (by decide) <| frame_host.step <| frame_takeHead.step (ih _)
    · exact .ite hingress (.refl _ m)

theorem Module.frame_arbitrate : Frame [.out, .regs, .dev, .saf, .ctx, .host, .adm, .qlk, .pair] m (m.arbitrate cycle) :=
  frame_arbiter _ m

end Arbitration

/-! ### Power, temperature and calibration -/

section Power
variable {m : Module} {s v item cv dw mj : Nat}

theorem Module.frame_setCap : Frame [.regs] m (m.setCap s v) := frame_reg.trans frame_reg

theorem Module.frame_capUp (n : Nat) : ∀ m : Module, Frame [.regs] m (m.capUp n) := by
  induction n with
  | zero => exact fun m => .refl _ m
  | succ n ih =>
    intro m
    rw [Module.capUp]
    refine .ite (.refl _ m) ?_
    split
    · exact .refl _ m
    · exact frame_setCap.trans (ih _)

theorem Module.frame_capDown : Frame [.regs] m m.capDown := by
  unfold Module.capDown
  exact .ite (.foldl fun m _ => .ite frame_setCap (.refl _ m)) (.refl _ m)

theorem Module.frame_dtCheck : Frame [.out, .regs, .saf, .pwr, .host] m m.dtCheck := by
  unfold Module.dtCheck
  extract_lets cir now m₁ m₂
  have hover : Frame [.out, .regs, .saf, .host] m m₁ := .foldl fun _ _ => .mono (by decide) <| frame_reg.step frame_thermRec
  have hcap : Frame [.regs] m₁ m₂ := .foldl fun _ _ => frame_setCap
  exact .mono (by decide) <| hover.step <| hcap.step frame_pwr

theorem Module.frame_powerRound : Frame [.out, .regs, .saf, .pwr, .host] m m.powerRound := by
  unfold Module.powerRound
  extract_lets lim _ m₀ tooMuch m₁ m₂ want heldNow m₃ m₄
  have hcap : Frame [.regs] m₀ m₁ := .ite (frame_capUp _ _) frame_capDown
  have hdt : Frame [.out, .regs, .saf, .pwr, .host] m₁ m₂ := .ite frame_dtCheck (.refl _ _)
  have hheld : Frame [.out, .regs, .saf, .host] m₃ m₄ := .foldl fun m _ => .ite (.refl _ m) frame_thermRec
  exact .mono (by decide) <| frame_pwr.step <| hcap.step <| hdt.step <| frame_reg.step <| hheld.step <| frame_pwr.step <|
    frame_reg.step <| frame_emits.step frame_pwr

theorem Module.frame_deskewStep : Frame [.regs, .cal] m (m.deskewStep item v) := by
  unfold Module.deskewStep
  exact .mono (by decide) <| .either (frame_reg.step <| frame_reg.step frame_cal) (frame_reg.step frame_reg)

theorem Module.frame_calRound : Frame [.regs, .cal] m m.calRound := by
  unfold Module.calRound
  exact .mono (by decide) <| frame_cal.step <| .foldl fun _ _ => frame_deskewStep

theorem Module.frame_bandRound : Frame [.regs] m m.bandRound := frame_reg

theorem Module.frame_sensed : Frame [.regs] m (m.sensed cv dw mj) := frame_reg.trans <| frame_reg.trans <| frame_reg.trans frame_reg

end Power

/-! ### Pairing -/

section Pairing
variable {m : Module} {st dst msg value succ k h : Nat} {keep : List Nat} {left : Option Nat} {b : Lease}

theorem Module.frame_setPair : Frame [.regs] m (m.setPair st) := frame_reg

theorem Module.frame_showFormed : Frame [.regs] m m.showFormed := frame_reg

theorem Module.frame_dropLease : Frame [.regs, .pair] m m.dropLease := .mono (by decide) <| frame_pair.step frame_reg

theorem Module.frame_sendLease : Frame [.out, .regs, .links, .rte] m (m.sendLease dst b) := by
  unfold Module.sendLease
  refine .ite (.refl _ m) ?_
  split
  · exact .mono (by decide) <| frame_newTag.step frame_sendOn
  · split
    · next hs => exact .mono (by decide) <| frame_newTag.step (frame_sendMsg hs)
    · exact .mono (by decide) <| frame_newTag.step frame_reg

theorem Module.frame_leaseRep : Frame [.out, .regs, .links, .rte, .pair] m (m.leaseRep dst msg value succ left) :=
  .mono (by decide) <| frame_pair.step <| frame_sendLease.step frame_pair

theorem Module.frame_dropQueued : Frame [.links] m (m.dropQueued keep) := frame_links

theorem Module.frame_discardWork :
    Frame [.free, .out, .regs, .saf, .tines, .mesh, .ctx, .host, .adm, .links, .rte, .pair] m m.discardWork := by
  unfold Module.discardWork
  exact .mono (by decide) <| .step (.foldl fun _ _ => frame_stopAll.step frame_complete) frame_host

theorem Module.frame_sendDelta : Frame [.out, .regs, .links, .rte, .pair] m (m.sendDelta k) := by
  unfold Module.sendDelta
  refine .ite (.refl _ m) ?_
  extract_lets outs descs subs recs bytes m₁ old m₂
  have hold : Frame [.out, .regs, .links, .rte] m₁ m₂ := .foldl fun _ _ => .mono (by decide) <| frame_copyOut.step frame_reg
  exact .mono (by decide) <| frame_copyOut.step <| hold.step frame_pair

theorem Module.frame_handOver :
    Frame [.free, .out, .regs, .saf, .tines, .mesh, .ctx, .host, .adm, .links, .rte, .pair] m (m.handOver h) := by
  unfold Module.handOver
  extract_lets m₁ k m₂
  have hleave : Frame [.free, .out, .regs, .saf, .tines, .mesh, .ctx, .host, .adm, .links, .rte, .pair] m₁ m₂ :=
    .mono (by decide) <| frame_dropLease.step <| frame_setPair.step <| frame_dropQueued.step frame_discardWork
  exact .mono (by decide) <| .either (frame_leaseRep.step <| hleave.step <| frame_pair.step frame_pairEvent)
    (frame_pair.step frame_sendDelta)

theorem Module.frame_pairBoundary :
    Frame [.free, .out, .regs, .saf, .tines, .mesh, .ctx, .host, .adm, .links, .rte, .pair] m m.pairBoundary := by
  unfold Module.pairBoundary
  extract_lets r due m₁ _ _ m₃ recent m₄
  have hdelta : Frame [.free, .out, .regs, .saf, .tines, .mesh, .ctx, .host, .adm, .links, .rte, .pair] m m₁ :=
    .mono (by decide) <| .either frame_handOver frame_sendDelta
  have hsynced : Frame [.out, .regs, .saf] m₃ m₄ :=
    .mono (by decide) <| .either (frame_setPair.step frame_pairEvent) <| .either frame_setPair .rfl
  exact .mono (by decide) <| hdelta.step <| frame_ctx_pair.step <| hsynced.step frame_showFormed

end Pairing

/-! ### The round boundary (R30) -/

section Boundary
variable {m : Module} {src dst : Fld} {n cv dw mj : Nat}

theorem Module.frame_copyField : Frame [.regs] m (m.copyField src dst n) := .iter fun _ _ => frame_reg

theorem Module.frame_routesChanged : Frame [.host] m m.routesChanged := frame_host

theorem Module.frame_commitTables : Frame [.regs, .saf, .host] m m.commitTables := by
  unfold Module.commitTables
  extract_lets m₁ hit
  have htables : Frame [.regs, .host] m m₁ := .mono (by decide) <| frame_copyField.step <| frame_copyField.step <|
    frame_copyField.step <| frame_copyField.step <| frame_reg.step frame_routesChanged
  exact .mono (by decide) <| .either (.either htables <| htables.step <| frame_newFault.step frame_charge) .rfl

theorem Module.frame_takeWidths : Frame [.optics] m m.takeWidths := .foldl fun _ _ => frame_modOpt

theorem Module.frame_clearRound : Frame [.qlk] m m.clearRound := frame_qlk

theorem Module.frame_logSignal : Frame [.out, .regs, .saf] m m.logSignal :=
  .mono (by decide) <| .either (frame_saf.step frame_msix) .rfl

theorem Module.frame_sendMarks : Frame [.out] m m.sendMarks := frame_emits

theorem Module.frame_nextRound : Frame [.hub, .host] m m.nextRound := frame_hub_host

theorem Module.frame_boundaryStart :
    Frame [.free, .out, .regs, .hub, .saf, .tines, .cal, .mesh, .ctx, .host, .adm, .optics, .links, .rte, .qlk, .pair] m
      (m.boundaryStart cv dw mj) :=
  .mono (by decide) <| frame_nextRound.step <| frame_sensed.step <| frame_sendMarks.step <| frame_calRound.step <|
    frame_pairBoundary.step <| frame_takeWidths.step <| frame_commitTables.step <| frame_clearRound.step <|
    frame_bandRound.step frame_pruneBooks

theorem Module.frame_boundaryDecide :
    Frame [.free, .out, .regs, .saf, .pwr, .tines, .mesh, .ctx, .host, .adm, .str, .links, .rte, .pair] m m.boundaryDecide :=
  .mono (by decide) <| frame_powerRound.step <| frame_countPairs.step <| frame_resumeDue.step <| frame_cancelReqs.step <|
    frame_settleReqs.step <| frame_decideAll.step <| frame_answerQueries.step frame_placeWaiting

theorem Module.frame_roundBoundary :
    Frame [.free, .out, .regs, .dev, .hub, .saf, .pwr, .tines, .cal, .mesh, .ctx, .host, .adm, .str, .optics, .links, .rte, .qlk, .pair]
      m (m.roundBoundary cv dw mj) := by
  unfold Module.roundBoundary
  exact .mono (by decide) <| .either .rfl <| frame_boundaryStart.step <| frame_boundaryDecide.step <| frame_sendQuotes.step <|
    frame_bookProofs.step <| frame_logSignal.step frame_arbitrate

end Boundary

end Sys2Proof.Machine
end

section
/-! PROOFS. Clocks and rounds (R23 to R31): loss and return of REFCLK, the round mark, and the reads that latch a high word. -/

namespace Sys2Proof.Machine

/-! ### Completion -/

section Complete
variable {ks : List Kind} {c : Instr} {s : State} {ok : Bool} {f : Module → Module}

/-- A command whose operands are valid completes with its effect. -/
theorem completes_of_act (he : exec c s = s.act ok f) (h : ok = true) : Completes c s (f s.toModule) :=
  he.trans (State.act_ok h f)

theorem completesIn_of_act (he : exec c s = s.act ok f) (h : ok = true) (hf : Frame ks s.toModule (f s.toModule)) :
    CompletesIn ks c s (f s.toModule) := ⟨completes_of_act he h, hf⟩

/-- A command whose effect changes nothing answers the same state. -/
theorem exec_of_act_same (he : exec c s = s.act ok f) (h : f s.toModule = s.toModule) : exec c s = .next s := by
  rw [he, State.act, h, ite_self]

end Complete

/-! ### Loss and return of REFCLK (R29) -/

section Refclk
variable {m : Module} {f g : Fld} {sev : Nat} {idx : List Nat}

theorem Module.frame_clockEvent : Frame [.out, .regs, .saf, .host] m (m.clockEvent f sev) :=
  .mono (by decide) <| frame_newFault.step <| frame_reg.step <| frame_clockRec.step frame_charge

/-- Below the interrupt table's pending bits a clock event sets its own field and no other. -/
theorem Module.rd_clockEvent (h : g.key idx < 0x10000 * 32) : (m.clockEvent f sev).rd g idx = (m.set1 f).rd g idx :=
  (logMoves_logRec.regsKept.trans (.of_regs rfl)).rd (Nat.zero_le _) h

theorem Module.frame_refclkLost : Frame [.out, .regs, .hub, .saf, .host] m m.refclkLost :=
  .mono (by decide) <| .either (frame_reg.step <| frame_reg.step <| frame_reg.step <| frame_hub.step frame_clockEvent) .rfl

theorem Module.frame_refclkReturn : Frame [.regs, .hub] m m.refclkReturn := .mono (by decide) <| .either (frame_reg.step frame_hub) .rfl

theorem Module.frame_slewEnd : Frame [.regs, .hub] m m.slewEnd :=
  .mono (by decide) <| .either (frame_reg.step <| frame_reg.step frame_hub) .rfl

/-- REFCLK lost: the module in holdover, its PHY PLLs fed by the substitute, before the event is recorded. -/
def Module.inHoldover (m : Module) : Module :=
  let m₁ := ((m.clr Reg.hubClkStatus_refPresent).set1 Reg.hubClkStatus_holdover).set1 Reg.hubClkStatus_refSubstitute
  { m₁ with hub := { m₁.hub with slewing := false } }

theorem Module.rd_inHoldover : m.inHoldover.rd g idx =
    (((m.clr Reg.hubClkStatus_refPresent).set1 Reg.hubClkStatus_holdover).set1 Reg.hubClkStatus_refSubstitute).rd g idx := rfl

theorem Module.refclkLost_present (hp : m.rd Reg.hubClkStatus_refPresent ≠ 0) (hl : m.rd Reg.hubClkStatus_rootLock ≠ 0) :
    m.refclkLost = m.inHoldover.clockEvent Reg.hubClkEvents_refLost sevRecovered := by
  rw [Module.refclkLost, if_pos (by simp [Module.rdB, hp, hl])]
  rfl

theorem Module.refclkLost_idle (h : m.rd Reg.hubClkStatus_refPresent = 0 ∨ m.rd Reg.hubClkStatus_rootLock = 0) :
    m.refclkLost = m := by
  rw [Module.refclkLost, if_neg (by rcases h with h | h <;> simp [Module.rdB, h])]

/-- What the clock registers read after REFCLK has been lost. -/
theorem Module.rd_refclkLost (hp : m.rd Reg.hubClkStatus_refPresent ≠ 0) (hl : m.rd Reg.hubClkStatus_rootLock ≠ 0) :
    m.refclkLost.rd Reg.hubClkStatus_holdover = 1 ∧ m.refclkLost.rd Reg.hubClkStatus_refSubstitute = 1 ∧
    m.refclkLost.rd Reg.hubClkStatus_refPresent = 0 ∧ m.refclkLost.rd Reg.hubClkEvents_refLost = 1 ∧
    m.refclkLost.rd Reg.hubClkStatus_rootLock = m.rd Reg.hubClkStatus_rootLock ∧ m.refclkLost.hub.round = m.hub.round := by
  have hhub : (m.inHoldover.clockEvent Reg.hubClkEvents_refLost sevRecovered).hub = m.inHoldover.hub :=
    frame_clockEvent .hub (by decide)
  rw [refclkLost_present hp hl, hhub]
  simp (disch := decide) only [rd_clockEvent, rd_inHoldover, Module.rd_set1_other, Module.rd_clr_other, Module.rd_set1_same,
    Module.rd_clr_same]
  exact ⟨rfl, rfl, trivial, rfl, trivial, rfl⟩

theorem Module.refclkReturn_idle (h : m.rd Reg.hubClkStatus_holdover = 0 ∨ m.rd Reg.hubClkStatus_refPresent ≠ 0) :
    m.refclkReturn = m := by
  rw [Module.refclkReturn, if_neg (by rcases h with h | h <;> simp [Module.rdB, h])]

theorem Module.rd_refclkReturn (hh : m.rd Reg.hubClkStatus_holdover ≠ 0) (hp : m.rd Reg.hubClkStatus_refPresent = 0) :
    m.refclkReturn.rd Reg.hubClkStatus_refPresent = 1 ∧ m.refclkReturn.hub.slewing = true ∧
    m.refclkReturn.rd Reg.hubClkStatus_holdover = m.rd Reg.hubClkStatus_holdover := by
  rw [Module.refclkReturn, if_pos (by simp [Module.rdB, hh, hp])]
  exact ⟨Module.rd_set1_same m _ [], rfl, Module.rd_set1_other (by decide) m⟩

theorem Module.slewEnd_idle (h : m.hub.slewing = false) : m.slewEnd = m := by
  rw [Module.slewEnd, h]
  rfl

theorem Module.rd_slewEnd (h : m.hub.slewing = true) :
    m.slewEnd.rd Reg.hubClkStatus_holdover = 0 ∧ m.slewEnd.rd Reg.hubClkStatus_refSubstitute = 0 ∧ m.slewEnd.hub.slewing = false := by
  rw [Module.slewEnd, if_pos h]
  exact ⟨(Module.rd_clr_other (by decide) _).trans (Module.rd_clr_same m _ []), Module.rd_clr_same _ _ [], rfl⟩

/-- Settles O11. The commands that find nothing to do answer the same state: log entry 4. -/
theorem referenceClockIsLostAndReturns : Obligations.ReferenceClockIsLostAndReturns := by
  intro s
  refine ⟨fun hp hl => ?lost, fun hh hp => ?back, fun hs => ?slewed, fun h => ?noLoss, fun h => ?noReturn, fun h => ?noSlew⟩
  case lost => exact ⟨_, completesIn_of_act (exec_refclkLost s) rfl Module.frame_refclkLost, Module.rd_refclkLost hp hl⟩
  case back => exact ⟨_, completesIn_of_act (exec_refclkReturn s) rfl Module.frame_refclkReturn, Module.rd_refclkReturn hh hp⟩
  case slewed => exact ⟨_, completesIn_of_act (exec_holdoverSlewEnd s) rfl Module.frame_slewEnd, Module.rd_slewEnd hs⟩
  case noLoss => exact exec_of_act_same (exec_refclkLost s) (Module.refclkLost_idle h)
  case noReturn => exact exec_of_act_same (exec_refclkReturn s) (Module.refclkReturn_idle h)
  case noSlew => exact exec_of_act_same (exec_holdoverSlewEnd s) (Module.slewEnd_idle h)

end Refclk

/-! ### Reads that latch a high word (R31, R95, R227, R453) -/

/-- Settles O10: each read completes with its meaning, which is the latch of the high word and the answer of the low one. -/
theorem latchingReadsLatchTheHighWord : Obligations.LatchingReadsLatchTheHighWord := fun s site h =>
  ⟨completes_of_act (exec_hubRoundLoRead s) rfl, completes_of_act (exec_tineCyclesLoRead site s) h,
    completes_of_act (exec_tineMatPassesLoRead site s) h, completes_of_act (exec_admAcceptedLoRead s) rfl,
    completes_of_act (exec_calOpsecLoRead s) rfl⟩

end Sys2Proof.Machine
end

section
/-! PROOFS. The round mark (R31), and the frames of the clock and round commands (R26 to R31, R95, R238, R268). -/

namespace Sys2Proof.Machine

/-! ### The round mark -/

section Marks
variable {a b d m : Module} {c p v : Nat} {f : Fld} {idx : List Nat}

/-- The rounds a connection's mark is behind, modulo 2^16: 0 when it holds this round's mark, and 1 when it holds none. -/
def Module.markGap (m : Module) (c : Nat) : Nat :=
  match SMap.find? m.hub.marks c with
  | some k => (m.hub.round % 65536 + 65536 - k % 65536) % 65536
  | none => 1

/-- The mark taken, and the marks missed counted. -/
def Module.marked (m : Module) (c : Nat) : Module :=
  let m₀ : Module := { m with hub := { m.hub with marks := SMap.ins c (m.hub.round % 65536) m.hub.marks } }
  if 1 < m.markGap c then m₀.count Reg.qlkFrameErr_count (m.markGap c - 1) [c] else m₀

/-- What the die does with a mark it has taken keeps the marks, and every register of a connection. -/
def AfterMark (a b : Module) : Prop :=
  Frame [.free, .out, .regs, .tines, .links] a b ∧ RegsKept (0xb40000 * 32) (0xc20000 * 32) a b

theorem AfterMark.refl (a : Module) : AfterMark a a := ⟨.refl _ a, .refl a⟩

theorem AfterMark.trans (h : AfterMark a b) (h' : AfterMark b d) : AfterMark a d := ⟨h.1.trans h'.1, h.2.trans h'.2⟩

theorem AfterMark.free {x : Nat} : AfterMark a { a with free := x } := ⟨.mono (by decide) Module.frame_free, .of_regs rfl⟩

theorem AfterMark.modTine {g : Tine → Tine} : AfterMark a (a.modTine c g) := ⟨.mono (by decide) Module.frame_modTine, .of_regs rfl⟩

theorem AfterMark.wr (h : f.key idx < 0xb40000 * 32 ∨ 0xc20000 * 32 ≤ f.key idx) : AfterMark a (a.wr f v idx) :=
  ⟨.mono (by decide) Module.frame_reg, .wr v h⟩

theorem LinkMoves.afterMark (h : LinkMoves p a b) (hp : p < 64) : AfterMark a b := ⟨.mono (by decide) h.frame, h.regsKept hp⟩

/-- The registers of a Tine's clock lie below those of the fabric. -/
theorem Fld.tineKey_lt (hc : c < 72) (hf : f.strides = [(0x10000, 72)] ∧ f.base < 0x410000 ∧ f.lo < 32) : f.key [c] < 0xb40000 * 32 := by
  obtain ⟨hs, hbase, hbit⟩ := hf
  simp only [Fld.key, hs, strideOff]
  omega

theorem lt_of_isConn (h : isConn c = true) : c < 90 := of_decide_eq_true h

theorem Module.roundMark_same (h : m.markGap c = 0) : m.roundMark c = m :=
  ite_eq_left_iff.mpr fun _ => if_pos h

theorem Module.roundMark_taken (hc : c < 90) (hgap : m.markGap c ≠ 0) : AfterMark (m.marked c) (m.roundMark c) := by
  unfold Module.roundMark
  rw [if_neg (by omega : ¬ 90 ≤ c)]
  extract_lets now gap _ m₀ m₁ n k m₂ n' m₃
  rw [if_neg (show gap ≠ 0 from hgap)]
  change AfterMark m₁ _
  split
  · exact .refl m₁
  · split
    · exact .refl m₁
    · split
      · exact List.foldlRecOn _ _ (.refl m₁) fun m hm l hl =>
          hm.trans <| linkMoves_roundPasses.afterMark (by simp at hl; omega)
      · have hclock : AfterMark m₁ m₃ :=
          .trans .modTine <| .trans (.wr (.inl (Fld.tineKey_lt (by omega) (by decide)))) (.wr (.inl (Fld.tineKey_lt (by omega) (by decide))))
        split
        · exact hclock
        · exact hclock.trans <| .trans .free <| .wr (.inr (by rw [Fld.key]; simp only [Reg.pwrDomain_vmeasMv]; omega))

theorem Module.frame_marked : Frame [.regs, .hub] m (m.marked c) := .mono (by decide) <| frame_hub.step <| .either frame_reg .rfl

theorem Module.frame_roundMark (hc : c < 90) : Frame [.free, .out, .regs, .hub, .tines, .links] m (m.roundMark c) := by
  by_cases hgap : m.markGap c = 0
  · rw [roundMark_same hgap]
    exact .refl _ m
  · exact .mono (by decide) <| frame_marked.step (roundMark_taken hc hgap).1

theorem Module.markGap_of_mark {k : Nat} (h : SMap.find? m.hub.marks c = some k) :
    m.markGap c = (m.hub.round % 65536 + 65536 - k % 65536) % 65536 := by
  rw [markGap, h]

/-- A connection that has taken this round's mark holds its number. -/
theorem Module.mark_of_markGap_eq_zero (h : m.markGap c = 0) :
    ∃ k, SMap.find? m.hub.marks c = some k ∧ k % 65536 = m.hub.round % 65536 := by
  cases hk : SMap.find? m.hub.marks c with
  | none =>
    rw [markGap, hk] at h
    cases h
  | some k =>
    rw [markGap_of_mark hk] at h
    exact ⟨k, rfl, by omega⟩

theorem Module.hub_marked : (m.marked c).hub = { m.hub with marks := SMap.ins c (m.hub.round % 65536) m.hub.marks } := by
  unfold marked
  split
  · rfl
  · rfl

theorem Module.rd_marked : (m.marked c).rd Reg.qlkFrameErr_count [c] =
    if m.markGap c ≤ 1 then m.rd Reg.qlkFrameErr_count [c]
    else min (m.rd Reg.qlkFrameErr_count [c] + (m.markGap c - 1)) (2 ^ Reg.qlkFrameErr_count.width - 1) := by
  unfold marked
  split
  · next h => rw [if_neg (by omega), rd_count_same]; rfl
  · next h => rw [if_pos (by omega)]; rfl

/-- What the hub and the connection's frame-error count hold after a mark that was due. -/
theorem Module.hub_roundMark (hc : c < 90) (hgap : m.markGap c ≠ 0) :
    (m.roundMark c).hub = { m.hub with marks := SMap.ins c (m.hub.round % 65536) m.hub.marks } :=
  ((roundMark_taken hc hgap).1 .hub (by decide)).trans hub_marked

theorem Module.rd_roundMark (hc : c < 90) (hgap : m.markGap c ≠ 0) :
    (m.roundMark c).rd Reg.qlkFrameErr_count [c] = (m.marked c).rd Reg.qlkFrameErr_count [c] := by
  refine (roundMark_taken hc hgap).2.rd ?_ ?_
  all_goals
    rw [Fld.key]
    simp only [Reg.qlkFrameErr_count, strideOff]
    omega

/-- Settles O12. That the marks a connection missed count as frame errors is log entry 49. -/
theorem roundMarksAreAuthoritative : Obligations.RoundMarksAreAuthoritative := by
  intro s c hconn
  have hc : c < 90 := lt_of_isConn hconn
  have hrun : Completes (.roundMark c) s (s.toModule.roundMark c) := completes_of_act (exec_roundMark c s) hconn
  refine ⟨_, hrun, ?_⟩
  by_cases hgap : s.toModule.markGap c = 0
  case pos =>
    rw [Module.roundMark_same hgap]
    refine ⟨Module.mark_of_markGap_eq_zero hgap, rfl, fun _ _ => rfl, fun k hk => ?_⟩
    rw [← Module.markGap_of_mark hk, hgap]
    rfl
  case neg =>
    rw [Module.hub_roundMark hc hgap, Module.rd_roundMark hc hgap, Module.rd_marked]
    refine ⟨⟨_, SMap.find?_ins_same _ _ _, Nat.mod_mod _ _⟩, rfl, fun d hd => SMap.find?_ins_other hd _ _, fun k hk => ?_⟩
    rw [Module.markGap_of_mark hk]

end Marks

/-! ### The clock commands -/

section Clock
variable {m : Module} {n q s r t : Nat} {phases : List Nat}

theorem Module.frame_windowExpiry : Frame [.adm] m (m.windowExpiry n) := by
  unfold Module.windowExpiry
  split
  · exact .refl _ m
  · exact .ite frame_adm <| .ite (.refl _ m) frame_adm

theorem Module.frame_coalesceTimeout : Frame [.out, .regs, .host] m (m.coalesceTimeout q) :=
  .mono (by decide) <| .either (frame_modQueue.step frame_msix) .rfl

/-- A read of a low word sets the high word and answers. -/
theorem Module.frame_latch {f : Fld} {v : Nat} {idx : List Nat} {o : Output} : Frame [.out, .regs] m ((m.wr f v idx).emit o) :=
  .mono (by decide) <| frame_reg.step frame_emit

theorem Module.frame_readRoundLo : Frame [.out, .regs] m m.readRoundLo := frame_latch
theorem Module.frame_readCyclesLo : Frame [.out, .regs] m (m.readCyclesLo s) := frame_latch
theorem Module.frame_readPassesLo : Frame [.out, .regs] m (m.readPassesLo s) := frame_latch
theorem Module.frame_readAcceptedLo : Frame [.out, .regs] m m.readAcceptedLo := frame_latch
theorem Module.frame_readOpsecLo : Frame [.out, .regs] m m.readOpsecLo := frame_latch

theorem Module.frame_rootUnlock : Frame [.out, .regs, .hub, .saf, .host] m m.rootUnlock :=
  .mono (by decide) <| .either (frame_reg.step <| frame_hub.step frame_clockEvent) .rfl

theorem Module.frame_rootLock : Frame [.regs, .hub] m (m.rootLock phases) := by
  unfold Module.rootLock
  exact .mono (by decide) <| .either .rfl <| frame_reg.step <| frame_reg.step <| frame_reg.step <| frame_reg.step <|
    frame_reg.step frame_hub

theorem Module.frame_bothTreesLost : Frame [.hub] m (m.bothTreesLost r) := .ite frame_hub (.refl _ m)

theorem Module.frame_treeLostAtDie : Frame [.out, .regs, .hub, .saf, .host] m (m.treeLostAtDie r) := by
  unfold Module.treeLostAtDie
  exact .mono (by decide) <| .either .rfl <| .either (frame_newFault.step <| frame_switchTree.step frame_charge) frame_bothTreesLost

theorem Module.frame_clockLossNotice :
    Frame [.out, .regs, .hub, .saf, .tines, .mesh, .ctx, .host, .seqs, .seqWait, .optics, .lasers, .links, .rte, .qlk] m
      (m.clockLossNotice r) := by
  unfold Module.clockLossNotice
  exact .mono (by decide) <| .either (frame_hub.step <| frame_newFault.step <| frame_reg.step <| frame_clockRec.step <|
    .either (frame_tineLost.step frame_siteOff) (frame_asFault.step frame_engineDown)) .rfl

theorem Module.frame_treeSourceLost : Frame [.out, .regs, .hub, .saf, .host] m (m.treeSourceLost t) := by
  unfold Module.treeSourceLost
  extract_lets t' b lit _ m₁
  have hmod : Frame [.hub] m m₁ := .ite frame_hub (.refl _ m)
  exact .mono (by decide) <| hmod.step <| frame_newFault.step frame_treeFail

end Clock

/-- Settles O47, each command by its equation and the frame of its meaning. -/
theorem clockCommandsComplete : Obligations.ClockCommandsComplete := fun s =>
  ⟨fun cv dw mj => (completesIn_of_act (exec_roundBoundary cv dw mj s) rfl Module.frame_roundBoundary :),
    fun c h => completesIn_of_act (exec_roundMark c s) h (Module.frame_roundMark (lt_of_isConn h)),
    fun n h => completesIn_of_act (exec_heldWindowExpiry n s) h Module.frame_windowExpiry,
    fun q h => completesIn_of_act (exec_coalesceTimeout q s) h Module.frame_coalesceTimeout,
    completesIn_of_act (exec_hubRoundLoRead s) rfl Module.frame_readRoundLo,
    fun site h => completesIn_of_act (exec_tineCyclesLoRead site s) h Module.frame_readCyclesLo,
    fun site h => completesIn_of_act (exec_tineMatPassesLoRead site s) h Module.frame_readPassesLo,
    completesIn_of_act (exec_admAcceptedLoRead s) rfl Module.frame_readAcceptedLo,
    completesIn_of_act (exec_calOpsecLoRead s) rfl Module.frame_readOpsecLo,
    fun place v h => completes_of_act (exec_registerWrite place v s) h,
    fun x h => completes_of_act (exec_unsupportedAccess x s) h,
    completesIn_of_act (exec_refclkLost s) rfl Module.frame_refclkLost,
    completesIn_of_act (exec_refclkReturn s) rfl Module.frame_refclkReturn,
    completesIn_of_act (exec_holdoverSlewEnd s) rfl Module.frame_slewEnd,
    completesIn_of_act (exec_rootPllUnlock s) rfl Module.frame_rootUnlock,
    fun phases => completesIn_of_act (exec_rootPllLock phases s) rfl Module.frame_rootLock,
    fun rx h => completesIn_of_act (exec_treeLostAtDie rx s) h Module.frame_treeLostAtDie,
    fun rx h => completesIn_of_act (exec_bothTreesLost rx s) h Module.frame_bothTreesLost,
    fun rx h => completesIn_of_act (exec_clockLossNotice rx s) h Module.frame_clockLossNotice,
    fun tree h => completesIn_of_act (exec_treeSourceLost tree s) h Module.frame_treeSourceLost⟩

end Sys2Proof.Machine
end

section
/-! PROOFS. The contribution rule of window accumulation (R49). -/

namespace Sys2Proof.Machine

section Contribution
variable {a : Acc} {l s c t : Int}

/-- A term outside the window becomes the window's largest value of its sign (R49, step 2). -/
def clampTerm (t : Int) : Int := if 2 ^ 111 ≤ t.natAbs then (if t < 0 then -(2 ^ 111 - 1) else 2 ^ 111 - 1) else t

/-- A term t, with the flags f its shift raised, checked for range and added (R49, steps 2 and 3). -/
def Acc.enter (a : Acc) (t : Int) (f : Nat) : Acc where
  x := a.x + clampTerm t
  count := a.count + 1
  flags := a.flags ||| f ||| if 2 ^ 111 ≤ t.natAbs then flagRange else 0

/-- The model's range check, which writes the clamp as a sign times the bound, gives the clamped term and its flag. -/
theorem rangeCheck_eq :
    (if t.natAbs < 2 ^ 111 then (t, 0) else ((if t < 0 then -1 else 1) * ((2 ^ 111 - 1 : Nat) : Int), flagRange)) =
      (clampTerm t, if 2 ^ 111 ≤ t.natAbs then flagRange else 0) := by
  rcases lt_or_ge t.natAbs (2 ^ 111) with hin | hbig
  · simp only [clampTerm, if_pos hin, if_neg (not_le.mpr hin)]
  · simp only [clampTerm, if_pos hbig, if_neg (not_lt.mpr hbig)]
    split <;> rfl

theorem Acc.enter_zero : a.enter 0 0 = { a with count := a.count + 1 } := by
  simp [Acc.enter, clampTerm]

/-- A truncated quotient times its divisor gives the dividend back just when no remainder is lost. -/
theorem truncDiv_mul_eq_self_iff {n : Nat} : truncDiv s n * n = s ↔ s.tmod n = 0 := by
  have hsplit : truncDiv s n * n + s.tmod n = s := Int.tdiv_mul_add_tmod s n
  omega

/-- R49, step 1: a sum whose exponent lies in the window is scaled up. -/
theorem Acc.contribute_of_le (h : l ≤ c) : a.contribute l s c false = a.enter (s * 2 ^ (c - l).toNat) 0 := by
  simp only [Acc.contribute, if_pos h, rangeCheck_eq]
  simp [scaleUp, Acc.enter]

/-- R49, step 1: a sum below the window is truncated, and a remainder raises INEXACT_LOW. -/
theorem Acc.contribute_of_lt (h : c < l) : a.contribute l s c false =
    a.enter (s.tdiv (2 ^ (l - c).toNat)) (if s.tmod (2 ^ (l - c).toNat) = 0 then 0 else 1) := by
  simp only [Acc.contribute, if_neg (not_le.mpr h), truncDiv_mul_eq_self_iff, rangeCheck_eq]
  simp [truncDiv, Acc.enter]

/-- R49, step 3: a sum of zero still counts, and sets no flag. -/
theorem Acc.contribute_zero : a.contribute l 0 c false = { a with count := a.count + 1 } := by
  rcases le_or_gt l c with h | h
  · rw [Acc.contribute_of_le h, zero_mul, Acc.enter_zero]
  · rw [Acc.contribute_of_lt h, Int.zero_tdiv, Int.zero_tmod, if_pos rfl, Acc.enter_zero]

end Contribution

/-- Settles O18, by the two equations of step 1: the sum's exponent in the window, or below it. -/
theorem contributionsEnterTheWindow : Obligations.ContributionsEnterTheWindow := by
  intro a L S C t lost big r
  have hzero : S = 0 → r.x = a.x ∧ r.flags = a.flags := by
    rintro rfl
    simp only [r, Acc.contribute_zero, and_self]
  have hr : r = a.enter t (if lost then 1 else 0) := by
    rcases le_or_gt L C with h | h
    · simp [r, t, lost, not_lt.mpr h, h, Acc.contribute_of_le h]
    · simp [r, t, lost, not_le.mpr h, h, Acc.contribute_of_lt h]
  simp only [big, decide_eq_true_eq]
  exact ⟨congrArg Acc.x hr, congrArg Acc.count hr, congrArg Acc.flags hr, hzero⟩

end Sys2Proof.Machine
end

section
/-! PROOFS. Operations that issue (R76, R100 to R118): a site that stands ready for an operation completes it by its meaning. -/

namespace Sys2Proof.Machine

section Ready
variable {c : Instr} {s : State} {site op w : Nat} {env : OpEnv} {sem : Nat → Module → OpOut} {is : Nat → Bool}

/-- A command that issues an operation completes with the operation's meaning on a site that stands ready for it. -/
theorem completes_of_ready_is (he : exec c s = s.act (isSite site) (fun m => m.issue site env is sem)) (h : isSite site = true)
    (his : is op = true) (hr : s.toModule.readyFor site env op w) :
    Completes c s ((s.toModule.issued site).afterOp site w env sem) := by
  have hrun : Completes c s (s.toModule.issue site env is sem) := completes_of_act he h
  rwa [Module.issue_ready hr his] at hrun

theorem completes_of_ready (he : exec c s = s.act (isSite site) (fun m => m.issueOp site op env sem)) (h : isSite site = true)
    (hr : s.toModule.readyFor site env op w) : Completes c s ((s.toModule.issued site).afterOp site w env sem) :=
  completes_of_ready_is he h (by simp) hr

end Ready

/-- Settles O13, each operation by its equation. That it acts when it starts, waits in a queue and has its tables read once are log
entries 17 and 85. -/
theorem matrixAndVectorOperationsIssue : Obligations.MatrixAndVectorOperationsIssue := fun s site env _ h =>
  ⟨completes_of_ready (exec_tload site env s) h,
    completes_of_ready (exec_astage site env s) h,
    completes_of_ready (exec_stream site env s) h,
    completes_of_ready (exec_wset site env s) h,
    completes_of_ready (exec_drain site env s) h,
    completes_of_ready (exec_drainw site env s) h,
    completes_of_ready (exec_padd site env s) h,
    completes_of_ready (exec_pdrain site env s) h,
    completes_of_ready (exec_vadd site env s) h,
    completes_of_ready (exec_vsub site env s) h,
    completes_of_ready (exec_vmul site env s) h,
    completes_of_ready (exec_vfma site env s) h,
    completes_of_ready (exec_vmin site env s) h,
    completes_of_ready (exec_vmax site env s) h,
    completes_of_ready (exec_vlogic site env s) h,
    completes_of_ready (exec_vshift site env s) h,
    completes_of_ready (exec_vcmp site env s) h,
    completes_of_ready (exec_vsel site env s) h,
    completes_of_ready (exec_vreduce site env s) h,
    completes_of_ready (exec_vgather site env s) h,
    completes_of_ready (exec_vscatter site env s) h,
    completes_of_ready (exec_vfill site env s) h,
    completes_of_ready (exec_cload site env s) h,
    completes_of_ready (exec_ceval site env s) h,
    completes_of_ready (exec_fdecode site env s) h,
    completes_of_ready (exec_fencode site env s) h,
    completes_of_ready (exec_freblock site env s) h,
    completes_of_ready (exec_ftile site env s) h⟩

/-- Settles O14, each operation by its equation; when it acts and how it waits are log entries 17 and 85. -/
theorem controlAndMovementOperationsIssue : Obligations.ControlAndMovementOperationsIssue := fun s site env _ h =>
  ⟨completes_of_ready (exec_send site env s) h,
    completes_of_ready (exec_recv site env s) h,
    completes_of_ready (exec_dmard site env s) h,
    completes_of_ready (exec_dmawr site env s) h,
    completes_of_ready (exec_copy site env s) h,
    completes_of_ready (exec_input site env s) h,
    completes_of_ready (exec_output site env s) h,
    completes_of_ready (exec_nop site env s) h,
    completes_of_ready (exec_sbegin site env s) h,
    completes_of_ready (exec_setreg site env s) h,
    completes_of_ready (exec_addreg site env s) h,
    completes_of_ready (exec_loop site env s) h,
    completes_of_ready (exec_brcnt site env s) h,
    completes_of_ready (exec_jump site env s) h,
    completes_of_ready (exec_barrier site env s) h,
    completes_of_ready (exec_sync site env s) h,
    completes_of_ready (exec_cschk site env s) h,
    completes_of_ready (exec_relmark site env s) h,
    completes_of_ready (exec_trap site env s) h,
    completes_of_ready (exec_eos site env s) h,
    fun op hop => completes_of_ready_is (op := op) (exec_reservedOpcode site env s) h (by rw [hop]; rfl)⟩

end Sys2Proof.Machine
end

section
/-! PROOFS. What the operations of a Tine share: reads and writes of its SRAM (R77, R80 to R94), and the ranges they may name (R98). -/

namespace Sys2Proof.Machine

/-! ### SRAM outside some ranges of a site -/

/-- The granule `g` of SRAM holds no byte of the ranges `ws` of site `s`. -/
def Outside (s : Nat) (ws : List (Nat × Nat)) (g : Nat) : Prop :=
  ∀ r ∈ ws, ∀ a, r.1 ≤ a → a < r.1 + r.2 → sramKey s a / 16 ≠ g

/-- From module `a` to module `b` nothing changes outside the kinds `ks` and, in SRAM, outside the ranges `ws` of site `s`. -/
structure WritesIn (ks : List Kind) (s : Nat) (ws : List (Nat × Nat)) (a b : Module) : Prop where
  frame : Frame ks a b
  sram : ∀ g, Outside s ws g → b.sram.granule g = a.sram.granule g ∧ b.sram.syndrome g = a.sram.syndrome g

section WritesIn
variable {ks ls : List Kind} {s n x y : Nat} {ws vs : List (Nat × Nat)} {a b c : Module}

theorem Outside.mono (h : vs ⊆ ws) {g : Nat} (ho : Outside s ws g) : Outside s vs g := fun r hr => ho r (h hr)

/-- What lies outside a range lies outside each part of it. -/
theorem Outside.part {g : Nat} (h : Outside s [(x, n)] g) {k : Nat} (hx : x ≤ y) (hn : y + k ≤ x + n) : Outside s [(y, k)] g := by
  intro r hr a hlo hhi
  obtain rfl := List.mem_singleton.mp hr
  exact h _ (List.mem_singleton_self _) a (le_trans hx hlo) (lt_of_lt_of_le hhi hn)

theorem WritesIn.refl (ks : List Kind) (s : Nat) (ws : List (Nat × Nat)) (a : Module) : WritesIn ks s ws a a :=
  ⟨.refl ks a, fun _ _ => ⟨rfl, rfl⟩⟩

theorem WritesIn.trans (h : WritesIn ks s ws a b) (h' : WritesIn ks s ws b c) : WritesIn ks s ws a c :=
  ⟨h.frame.trans h'.frame, fun g hg => ⟨(h'.sram g hg).1.trans (h.sram g hg).1, (h'.sram g hg).2.trans (h.sram g hg).2⟩⟩

/-- A step that changes fewer kinds of state, and less of SRAM. -/
theorem WritesIn.mono (h : WritesIn ls s vs a b) (hk : ls ⊆ ks) (hw : ∀ g, Outside s ws g → Outside s vs g) : WritesIn ks s ws a b :=
  ⟨h.frame.mono hk, fun g hg => h.sram g (hw g hg)⟩

/-- A step that leaves SRAM alone. -/
theorem WritesIn.of_frame (hk : ls ⊆ ks.filter (· ≠ .sram)) (h : Frame ls a b) : WritesIn ks s ws a b := by
  have hsram : b.sram = a.sram := h .sram fun hs => by simpa using hk hs
  exact ⟨h.mono fun k hl => (List.mem_filter.mp (hk hl)).1, fun g _ => by rw [hsram]; exact ⟨rfl, rfl⟩⟩

theorem WritesIn.foldl {α : Type} {f : Module → α → Module} {l : List α} (h : ∀ m, ∀ x ∈ l, WritesIn ks s ws m (f m x)) :
    WritesIn ks s ws a (l.foldl f a) :=
  List.foldlRecOn l f (.refl ks s ws a) (fun m hm x hx => hm.trans (h m x hx))

theorem WritesIn.iter {f : Nat → Module → Module} {k : Nat} (h : ∀ i m, i < k → WritesIn ks s ws m (f i m)) :
    WritesIn ks s ws a (iter k f a) :=
  .foldl fun m i hi => h i m (List.mem_range.mp hi)

theorem WritesIn.ite {p : Prop} [Decidable p] (hb : WritesIn ks s ws a b) (hc : WritesIn ks s ws a c) :
    WritesIn ks s ws a (if p then b else c) := by
  split
  · exact hb
  · exact hc

/-- One granule set that lies in a range. -/
theorem WritesIn.setGranule {g d y : Nat} (h : ¬ Outside s ws g) :
    WritesIn [.sram] s ws a { a with sram := a.sram.setGranule g d y } := by
  refine ⟨.single fun k hk => by cases k <;> trivial, fun g' hg' => ?_⟩
  have hne : g' ≠ g := fun he => h (he ▸ hg')
  exact ⟨Store.granule_setGranule_other hne _ _ _, Store.syndrome_setGranule_other hne _ _ _⟩

/-- The granule of a byte of a range is not outside the range. -/
theorem not_outside (hx : x ≤ y) (hy : y < x + n) : ¬ Outside s [(x, n)] (sramKey s y / 16) :=
  fun h => h (x, n) (List.mem_singleton_self _) y hx hy rfl

end WritesIn

/-! ### Writes of SRAM -/

section Write
variable {m : Module} {s a n i d y : Nat} {l : List Nat} {fl : List Flit} {line : Bool}

theorem Module.frame_sram {x : Store} : Frame [.sram] m { m with sram := x } := .single fun k h => by cases k <;> trivial

theorem Module.frame_modSeq {f : Seqr → Seqr} : Frame [.tines] m (m.modSeq s f) := frame_modTine

/-- A granule that a write of n bytes at address a touches holds one of the bytes, where the run does not leave the site's
address space. -/
theorem touched_not_outside (hfit : a % 2 ^ 27 + n ≤ 2 ^ 27) (hn : n ≠ 0) (hi : i < ceilDiv (a % 16 + n) 16) :
    ¬ Outside s [(a, n)] (sramKey s (a - a % 16) / 16 + i) := by
  have hend : a % 16 + n > 16 * i := by
    rw [ceilDiv] at hi
    omega
  have hkey : sramKey s (a - a % 16) / 16 + i = sramKey s (max a (a - a % 16 + 16 * i)) / 16 := by
    simp only [sramKey]
    omega
  rw [hkey]
  exact not_outside (by omega) (by omega)

/-- What a write of SRAM does: it sets granules it touches, draws the bytes of those that hold nothing, and keeps the site's notes
of its rows. A relation that each of these steps keeps holds over the write. -/
theorem Module.twrite_rel {R : Module → Module → Prop} (hrefl : ∀ m, R m m) (htrans : ∀ {a b c}, R a b → R b c → R a c)
    (hset : ∀ m i d y, i < ceilDiv (a % 16 + l.length) 16 → l ≠ [] → R m { m with sram := m.sram.setGranule (sramKey s (a - a % 16) / 16 + i) d y })
    (hdraw : ∀ m, R m (m.draw 128).2) (htine : ∀ m f, R m (m.modTine s f)) : R m (m.twrite s a l) := by
  unfold Module.twrite
  split
  · exact hrefl m
  next hl =>
  extract_lets o n lost m₁ lines
  have hgranules : R m m₁ := by
    refine List.foldlRecOn (motive := R m) _ _ (hrefl m) fun x hx i hi => htrans hx ?_
    have hi := List.mem_range.mp hi
    beta_reduce
    extract_lets g lo up r gone
    split
    · exact hset _ _ _ _ hi hl
    · have hold : R x (if gone then x.draw 128 else (codeData (x.sram.granule g) r, x)).2 := by
        split
        · exact hdraw x
        · exact hrefl x
      exact htrans hold <| hset _ _ _ _ hi hl
  exact htrans hgranules (htine _ _)

theorem Module.frame_twrite : Frame [.free, .sram, .tines] m (m.twrite s a l) :=
  twrite_rel (.refl _) .trans (fun _ _ _ _ _ _ => frame_sram.mono (by decide)) (fun _ => frame_draw.mono (by decide))
    fun _ _ => frame_modTine.mono (by decide)

theorem Module.writesIn_twrite (hfit : a % 2 ^ 27 + l.length ≤ 2 ^ 27) :
    WritesIn [.free, .sram, .tines] s [(a, l.length)] m (m.twrite s a l) :=
  twrite_rel (.refl _ _ _) .trans
    (fun _ _ _ _ hi hl => (WritesIn.setGranule (touched_not_outside hfit (by simpa using hl) hi)).mono (by decide) fun _ h => h)
    (fun _ => .of_frame (by decide) frame_draw) fun _ _ => .of_frame (by decide) frame_modTine

/-- A write that stays within a declared range of the site. -/
theorem Module.writesIn_twrite_in (hfit : a % 2 ^ 27 + n ≤ 2 ^ 27) (hl : l.length ≤ n) :
    WritesIn [.free, .sram, .tines] s [(a, n)] m (m.twrite s a l) :=
  (writesIn_twrite (le_trans (Nat.add_le_add_left hl _) hfit)).mono (List.Subset.refl _) (fun _ h => h.part le_rfl (Nat.add_le_add_left hl _))

theorem Module.writesIn_putGranule (hfit : a % 2 ^ 27 + 16 ≤ 2 ^ 27) :
    WritesIn [.free, .sram, .tines] s [(a, 16)] m (m.putGranule s a d y) := by
  have hwrite : WritesIn [.free, .sram, .tines] s [(a, 16)] m (m.twrite s a (toLe 16 d)) :=
    writesIn_twrite_in hfit (toLe_length 16 d).le
  unfold Module.putGranule
  exact .ite hwrite <| hwrite.trans <| (WritesIn.setGranule (not_outside le_rfl (by omega))).mono (by decide) (fun _ h => h)

theorem Module.frame_putGranule : Frame [.free, .sram, .tines] m (m.putGranule s a d y) := by
  unfold Module.putGranule
  exact .ite frame_twrite <| frame_twrite.trans <| frame_sram.mono (by decide)

/-- The i-th granule of a run that fits its site. -/
theorem Module.writesIn_putGranule_at (hfit : a % 2 ^ 27 + 16 * n ≤ 2 ^ 27) (hi : i < n) :
    WritesIn [.free, .sram, .tines] s [(a, 16 * n)] m (m.putGranule s (a + 16 * i) d y) :=
  (writesIn_putGranule (by omega)).mono (List.Subset.refl _) (fun _ h => h.part (by omega) (by omega))

theorem Module.writesIn_putFlits (hfit : a % 2 ^ 27 + 16 * n ≤ 2 ^ 27) (hl : fl.length ≤ n) :
    WritesIn [.free, .sram, .tines] s [(a, 16 * n)] m (m.putFlits s a fl) := by
  refine .iter fun i m hi => ?_
  split
  · exact writesIn_putGranule_at hfit (lt_of_lt_of_le hi hl)
  · exact .refl _ _ _ _

/-! ### Ranges an operand may name (R98) -/

/-- A destination without a fault lies in the working store, within the site's address space. -/
theorem Module.fits_of_dstFaults (h : m.dstFaults s a n line = []) : a % 2 ^ 27 + n ≤ 2 ^ 27 := by
  have hok : m.writeFault s a n = 0 := by
    unfold Module.dstFaults at h
    split at h
    · assumption
    · simp at h
  have hws : within a (max n 1) (m.tine s).wsRange.1 (m.tine s).wsRange.2 = true := by
    by_contra hout
    change (if within a (max n 1) (m.tine s).wsRange.1 (m.tine s).wsRange.2 = true then 0 else _) = 0 at hok
    rw [if_neg hout] at hok
    split at hok <;> simp at hok
  simp only [within, Bool.and_eq_true, decide_eq_true_eq] at hws
  have hend : (m.tine s).wsRange.2 ≤ 0x4800000 := min_le_left _ _
  omega

theorem Module.aligned_of_dstFaults (h : m.dstFaults s a n true = []) : a % 128 = 0 := by
  unfold Module.dstFaults at h
  simpa [lineAligned] using (List.append_eq_nil_iff.mp h).2

end Write

/-! ### Reads of SRAM -/

/-- The kinds of state that a read of a site's SRAM may change: counts, marked rows, a Tine that retires, free values. -/
abbrev readKinds : List Kind := [.free, .out, .regs, .saf, .tines, .ctx]

section Read
variable {m : Module} {s a n c f : Nat} {l : List Nat} {busy : List (Nat × Nat)}

theorem Module.frame_retire : Frame [.out, .regs, .saf, .tines, .ctx] m (m.retire s c f) := by
  unfold Module.retire
  exact .mono (by decide) <| .either (frame_reg.step <| frame_modTine.step <| frame_leaveService.step frame_logRec) .rfl

theorem Module.frame_markRow : Frame [.out, .regs, .saf, .tines, .ctx] m (m.markRow s a) := by
  unfold Module.markRow
  split
  · exact .refl _ m
  · exact .mono (by decide) <| .either (frame_modTine.step <| frame_newFault.step frame_retire) frame_modTine

theorem Module.frame_rowError : Frame [.out, .regs, .saf, .tines, .ctx] m (m.rowError s a) :=
  .mono (by decide) <| .either frame_markRow frame_modTine

theorem Module.frame_sramGranule : Frame readKinds m (m.sramGranule s a).2.2 := by
  unfold Module.sramGranule
  dsimp only
  split
  · exact .refl _ m
  · exact .mono (by decide) <| frame_reg.step frame_rowError
  · exact .mono (by decide) <| frame_reg.step frame_rowError
  · exact .mono (by decide) <| frame_reg.step frame_markRow

theorem Module.frame_sramGranules (n : Nat) : ∀ (m : Module) (a : Nat), Frame readKinds m (m.sramGranules s n a).2.2 := by
  induction n with
  | zero => exact fun m _ => .refl _ m
  | succ n ih => exact fun m a => frame_sramGranule.trans (ih _ _)

theorem Module.frame_overlay (l : List Nat) : ∀ (m : Module) (a : Nat), Frame [.free] m (m.overlay busy a l).2 := by
  induction l with
  | nil => exact fun m _ => .refl _ m
  | cons d t ih =>
    intro m a
    rw [Module.overlay]
    split
    · exact frame_draw.trans (ih _ _)
    · exact ih m _

theorem Module.frame_tread : Frame readKinds m (m.tread s a n).2.2 := by
  unfold Module.tread
  split
  · exact .refl _ m
  · exact (frame_sramGranules _ _ _).trans <| (frame_overlay _ _ _).mono (by decide)

theorem Module.tread_length : (m.tread s a n).1.length ≤ n := by
  unfold Module.tread
  split
  · exact Nat.zero_le n
  · exact List.length_take_le _ _

theorem Module.frame_readTables (l : List Nat) : ∀ m : Module, Frame readKinds m (m.readTables s l).2 := by
  induction l with
  | nil => exact fun m => .refl _ m
  | cons sel t ih =>
    intro m
    rw [Module.readTables]
    split
    · exact ih m
    · next a _ =>
      have hread : Frame readKinds m (m.tread s a 32).2.2 := frame_tread
      exact hread.trans (ih _)

end Read

end Sys2Proof.Machine
end

section
/-! PROOFS. What an operation's meaning may change: it declares the ranges of SRAM it writes, and a fault writes none (R77, R98, R118). -/

namespace Sys2Proof.Machine

/-! ### Lengths of what is written -/

section Lengths
variable {α β : Type} {d : α} {i n k : Nat} {l : List α} {f : Fmt} {t : Int} {seed i₀ : Nat} {xs : List Num} {old : List Nat}

theorem slice_length : (slice d l i n).length = n := by
  have hle : ((l.drop i).take n).length ≤ n := List.length_take_le _ _
  simp only [slice, List.length_append, List.length_replicate]
  omega

/-- Runs of k entries each, one after another. -/
theorem length_flatten_map {g : β → List α} {js : List β} (h : ∀ j ∈ js, (g j).length = k) :
    (js.map g).flatten.length = js.length * k := by
  induction js with
  | nil => simp
  | cons j js ih =>
    rw [List.map_cons, List.flatten_cons, List.length_append, h j List.mem_cons_self,
      ih fun j hj => h j (List.mem_cons_of_mem _ hj), List.length_cons, Nat.succ_mul, Nat.add_comm]

theorem Fmt.encSlot_length : (f.encSlot t seed i₀ xs).1.length = f.slotBytes := by
  unfold Fmt.encSlot
  dsimp only
  split
  · exact slice_length
  · exact slice_length

theorem Fmt.length_of_encRun {vs : List (List Num)} {b : List Nat} {fl : Nat} (h : f.encRun t seed i₀ vs = (b, fl)) :
    b.length = vs.length * f.slotBytes := by
  have hb : (f.encRun t seed i₀ vs).1 = b := congrArg Prod.fst h
  rw [← hb]
  simp only [Fmt.encRun, List.map_map, Function.comp_def]
  rw [length_flatten_map fun _ _ => encSlot_length, List.length_range]

theorem Fmt.patchSlot_length {new : List (Option Num)} (h : old.length = f.slotBytes) :
    (f.patchSlot t seed i₀ old new).1.length = f.slotBytes := by
  unfold Fmt.patchSlot
  dsimp only
  split
  · exact h
  · split
    · split
      · exact encSlot_length
      · exact slice_length
    · exact slice_length

theorem partialBytes_length {a : Acc} : (partialBytes a t).length = 32 := by
  simp [partialBytes]

theorem bumpLanes_length {env : OpEnv} {vs : List (List Num)} : (bumpLanes env vs).length = vs.length := by
  unfold bumpLanes
  split
  · rfl
  · simp

end Lengths

/-! ### Operations that declare what they write -/

/-- The kinds of state that an operation of a Tine alone may change. -/
abbrev opKinds : List Kind := [.free, .out, .regs, .sram, .saf, .tines, .ctx]

/-- The operation that answers `o` from module `m` changes only the kinds `ks` and, in SRAM, only the ranges of site `s` it declares;
one that faults declares none. -/
structure OpOut.Declared (ks : List Kind) (s : Nat) (m : Module) (o : OpOut) : Prop where
  moved : WritesIn ks s o.writes m o.m
  still : o.faults ≠ [] → o.writes = []

section Declared
variable {ks ls js : List Kind} {s a n : Nat} {m m₁ m₂ : Module} {o : OpOut} {fs : List StageFault} {l : List Nat}
  {ws vs : List (Nat × Nat)}

theorem OpOut.Declared.mono (h : o.Declared ls s m) (hk : ls ⊆ ks) : o.Declared ks s m :=
  ⟨h.moved.mono hk (fun _ ho => ho), h.still⟩

theorem OpOut.Declared.frame (h : o.Declared ks s m) : Frame ks m o.m := h.moved.frame

/-- An operation that faults, after reads that leave SRAM alone. -/
theorem OpOut.Declared.bad (hk : ls ⊆ ks.filter (· ≠ .sram)) (h : Frame ls m m₁) : (OpOut.bad m₁ fs).Declared ks s m :=
  ⟨.of_frame hk h, fun _ => rfl⟩

theorem OpOut.Declared.badHere : (OpOut.bad m fs).Declared ks s m := .bad (List.nil_subset _) .rfl

/-- An operation that writes no SRAM. -/
theorem OpOut.Declared.ok (hk : ls ⊆ ks.filter (· ≠ .sram)) (h : Frame ls m m₁) : (OpOut.ok m₁ ws).Declared ks s m :=
  ⟨.of_frame hk h, fun h => absurd rfl h⟩

theorem OpOut.Declared.wrote (h : WritesIn ks s ws m m₁) : (OpOut.ok m₁ ws).Declared ks s m := ⟨h, fun h => absurd rfl h⟩

/-- Operand checks: they fault, or the operation goes on. -/
theorem OpOut.Declared.checked [Decidable (fs ≠ [])] (hk : ls ⊆ ks.filter (· ≠ .sram)) (h : Frame ls m m₁) (ho : fs = [] → o.Declared ks s m) :
    (if fs ≠ [] then OpOut.bad m₁ fs else o).Declared ks s m := by
  split
  · exact .bad hk h
  next hfs => exact ho (not_not.mp hfs)

theorem OpOut.Declared.checkedHere [Decidable (fs ≠ [])] (ho : fs = [] → o.Declared ks s m) :
    (if fs ≠ [] then OpOut.bad m fs else o).Declared ks s m :=
  .checked (List.nil_subset _) .rfl ho

/-- What a run of bytes read leaves of the frame so far. -/
theorem Module.frame_of_tread {x : List Nat} (he : m₁.tread s a n = (x, fs, m₂)) (h : Frame readKinds m m₁) : Frame readKinds m m₂ := by
  have hread : Frame readKinds m₁ (m₁.tread s a n).2.2 := frame_tread
  rw [he] at hread
  exact h.trans hread

theorem Module.length_of_tread {x : List Nat} (he : m₁.tread s a n = (x, fs, m₂)) : x.length ≤ n := by
  have hlen : (m₁.tread s a n).1.length ≤ n := tread_length
  rwa [he] at hlen

/-- What lies outside a declared range, which an operation of no length leaves out, lies outside the range. -/
theorem Outside.of_declared {p : Prop} [Decidable p] (hp : p → n = 0) {g : Nat} (h : Outside s (if p then [] else [(a, n)]) g) :
    Outside s [(a, n)] g := by
  split at h
  next hempty =>
    intro r hr x hlo hhi
    obtain rfl := List.mem_singleton.mp hr
    rw [hp hempty] at hhi
    omega
  · exact h

/-- A destination run of n bytes written after reads. -/
theorem WritesIn.afterReads {p : Prop} [Decidable p] (h : Frame readKinds m m₁) (hfit : a % 2 ^ 27 + n ≤ 2 ^ 27) (hl : l.length ≤ n)
    (hp : p → n = 0) : WritesIn opKinds s (if p then [] else [(a, n)]) m (m₁.twrite s a l) :=
  (WritesIn.of_frame (by decide) h).trans <| (Module.writesIn_twrite_in hfit hl).mono (by decide) (fun _ ho => ho.of_declared hp)

theorem Module.frame_addFlags {f : Nat} : Frame [.tines] m (m.addFlags s f) := frame_modSeq

/-- A destination run written, and the flags joined to the stage's. -/
theorem OpOut.Declared.written {p : Prop} [Decidable p] {f : Nat} (h : Frame readKinds m m₁) (hfit : a % 2 ^ 27 + n ≤ 2 ^ 27)
    (hl : l.length ≤ n) (hp : p → n = 0) :
    (OpOut.ok ((m₁.twrite s a l).addFlags s f) (if p then [] else [(a, n)])).Declared opKinds s m :=
  .wrote <| (WritesIn.afterReads h hfit hl hp).trans <| .of_frame (by decide) Module.frame_addFlags

end Declared

end Sys2Proof.Machine
end

section
/-! PROOFS. The matrix operations declare what they write (R104, R105). -/

namespace Sys2Proof.Machine

section Matrix
variable {m : Module} {s w e : Nat} {env : OpEnv}

theorem Module.frame_modEngine {f : Engine → Engine} : Frame [.tines] m (m.modEngine s e f) := frame_modTine

theorem Module.frame_loadTile {a : Nat} {f : Fmt} : Frame readKinds m (m.loadTile s a f).2.2 := by
  unfold Module.loadTile
  extract_lets blank pre
  split
  · exact .refl _ m
  · split
    next h fs₀ m₁ hread =>
      have h₁ : Frame readKinds m m₁ := frame_of_tread hread (.refl _ m)
      extract_lets n fs
      split
      · exact h₁
      · exact h₁.trans frame_tread

theorem Module.declared_tload : (m.tload s w).Declared opKinds s m := by
  unfold Module.tload
  extract_lets base
  split
  · exact .badHere
  next f _ =>
    generalize hload : List.foldl _ (0, [], m, []) (enginesOf w) = loaded
    have hread : Frame readKinds m loaded.2.2.1 := by
      rw [← hload]
      exact List.foldlRecOn (motive := fun (x : Nat × List StageFault × Module × List (Nat × Tile)) => Frame readKinds m x.2.2.1) _ _
        (.refl _ m) (fun x hx e _ => hx.trans frame_loadTile)
    obtain ⟨r, fs, m₁, put⟩ := loaded
    refine .checked (by decide) hread fun _ => .ok (by decide) (ls := readKinds) (hread.trans ?_)
    exact .mono (by decide) <| .foldl fun _ _ => frame_modEngine

theorem Module.declared_astage : (m.astage s w).Declared opKinds s m := by
  unfold Module.astage
  extract_lets rows a
  split
  · exact .badHere
  next f _ =>
    refine .checkedHere fun _ => ?_
    split
    next b fs m₁ hread =>
      have h₁ : Frame readKinds m m₁ := frame_of_tread hread (.refl _ m)
      refine .checked (by decide) h₁ fun _ => .ok (by decide) (ls := readKinds) (h₁.trans ?_)
      exact .mono (ls := [.tines]) (by decide) <| .foldl fun _ _ => frame_modEngine

theorem Module.declared_wset : (m.wset s w).Declared opKinds s m := by
  have hframe : Frame [.tines] m (m.wset s w).m := .foldl fun _ _ => frame_modEngine
  exact .ok (by decide) hframe

theorem Module.declared_stream : (m.stream s w env).Declared opKinds s m := by
  unfold Module.stream
  extract_lets rows es pre rs fs m₁
  have hframe : Frame [.tines] m (m₁.modTine s (fun t => { t with passes := (t.passes + rows * es.length) % 2 ^ 64 })) :=
    .trans (.foldl fun _ _ => frame_modEngine) frame_modTine
  have hok : (OpOut.ok (m₁.modTine s (fun t => { t with passes := (t.passes + rows * es.length) % 2 ^ 64 })) []).Declared opKinds s m :=
    .ok (by decide) hframe
  exact .checkedHere fun _ => .checkedHere fun _ => ⟨hok.moved, hok.still⟩

theorem length_cells {α β : Type} {js : List α} {ks : List β} : ((js.map fun j => ks.map fun k => (j, k)).flatten).length = js.length * ks.length :=
  length_flatten_map fun _ _ => by simp

theorem Engine.drainSlot_length {x : Engine} {f : Fmt} {t : Int} {seed i₀ r : Nat} :
    (x.drainSlot f t seed i₀ e r env).1.length = f.slotBytes := Fmt.encSlot_length

theorem Module.declared_drain : (m.drain s w env).Declared opKinds s m := by
  unfold Module.drain
  extract_lets rows es t a cells fs
  split
  · exact .badHere
  next f _ =>
    extract_lets ln total pre outs m₁
    refine .checkedHere fun hpre => .checkedHere fun _ => .written (.refl _ m) (fits_of_dstFaults (List.append_eq_nil_iff.mp hpre).2) ?_ id
    have hcells : cells.length = rows * es.length := by
      simp only [cells, length_cells, List.length_range]
    simp only [outs, List.map_map, Function.comp_def]
    rw [length_flatten_map (k := ln) fun _ _ => Engine.drainSlot_length, hcells]

theorem Module.declared_drainw : (m.drainw s w env).Declared opKinds s m := by
  unfold Module.drainw
  extract_lets rows es t a total pre cells fs b
  refine .checkedHere fun hpre => .checkedHere fun _ => .wrote <|
    .afterReads (.refl _ m) (fits_of_dstFaults (List.append_eq_nil_iff.mp hpre).2) ?_ id
  have hcells : cells.length = rows * es.length := by
    simp only [cells, length_cells, List.length_range]
  have hline (c : Nat × Nat) : ((List.range 64).map fun j =>
      partialBytes ((t.engine c.2).accAt env c.2 c.1 j) (t.engine c.2).wlsb).flatten.length = 2048 := by
    rw [length_flatten_map fun _ _ => partialBytes_length, List.length_range]
  exact (length_flatten_map fun c _ => hline c).trans (by rw [hcells]) |>.le

theorem Module.declared_padd : (m.padd s w env).Declared opKinds s m := by
  unfold Module.padd
  extract_lets rows t a b n pre
  refine .checkedHere fun hpre => ?_
  split
  next xa f₁ m₁ hreadA =>
  split
  next xb f₂ m₂ hreadB =>
  have h₂ : Frame readKinds m m₂ := frame_of_tread hreadB <| frame_of_tread hreadA <| .refl _ m
  extract_lets pa pb z fs out
  refine .checked (by decide) h₂ fun _ => .wrote <| .afterReads h₂ (fits_of_dstFaults (List.append_eq_nil_iff.mp hpre).2) ?_ id
  simp only [out]
  rw [length_flatten_map fun _ _ => partialBytes_length]
  simp only [z, n, List.length_map, List.length_range]
  omega

theorem Module.declared_pdrain : (m.pdrain s w).Declared opKinds s m := by
  unfold Module.pdrain
  extract_lets rows t a b
  split
  · exact .badHere
  next f _ =>
    extract_lets ln pre
    refine .checkedHere fun hpre => ?_
    split
    next x f₁ m₁ hread =>
    have h₁ : Frame readKinds m m₁ := frame_of_tread hread (.refl _ m)
    extract_lets ps fs outs m₂
    refine .checked (by decide) h₁ fun _ => .written h₁ (fits_of_dstFaults (List.append_eq_nil_iff.mp hpre).2) ?_ fun h => by rw [h, Nat.mul_zero]
    simp only [outs, List.map_map, Function.comp_def]
    rw [length_flatten_map (k := ln) fun _ _ => Fmt.encSlot_length, List.length_range, Nat.mul_comm]

end Matrix

end Sys2Proof.Machine
end

section
/-! PROOFS. The vector, curve and format operations declare what they write (R107 to R109). -/

namespace Sys2Proof.Machine

section Lanes
variable {m : Module} {s w : Nat} {env : OpEnv} {src dst : Option Fmt} {two third : Bool} {guard : Option Nat}
  {fn : Num → Num → Num → Num}

/-- Lanes read in usable formats: their destination fits the site. -/
theorem Module.fits_of_laneOperands (h : m.laneOperands s w src dst two = []) :
    (m.tine s).local (vOpd w) % 2 ^ 27 + vNvec w * slotSize dst ≤ 2 ^ 27 :=
  fits_of_dstFaults (List.append_eq_nil_iff.mp h).2

theorem Module.declared_lanes : (m.lanes s w env src dst two third guard fn).Declared opKinds s m := by
  unfold Module.lanes
  extract_lets pre t n d
  generalize hpre : pre = faults
  split
  case h_2 => exact .badHere
  next fs fd =>
  split
  next xa f₁ m₁ hreadA =>
  split
  next xb f₂ m₂ hreadB =>
  split
  next xd f₃ m₃ hreadD =>
  have h₁ : Frame readKinds m m₁ := frame_of_tread hreadA (.refl _ m)
  have h₂ : Frame readKinds m m₂ := by
    split at hreadB
    · exact frame_of_tread hreadB h₁
    · cases hreadB
      exact h₁
  have h₃ : Frame readKinds m m₃ := by
    split at hreadD
    · exact frame_of_tread hreadD h₂
    · cases hreadD
      exact h₂
  extract_lets va vb vd rs fs'
  refine .checked (by decide) h₃ fun _ => ?_
  split
  next bytes fl henc =>
  refine .written h₃ (fits_of_laneOperands hpre) ?_ fun h => by rw [h, Nat.zero_mul]
  have hlen : bytes.length = n * fd.slotBytes := by
    rw [Fmt.length_of_encRun henc, bumpLanes_length, List.length_map, List.length_range]
  exact hlen.le

theorem Module.declared_vec2 {fn : Num → Num → Num} : (m.vec2 s w env guard fn).Declared opKinds s m := declared_lanes

theorem Module.declared_vfma : (m.vfma s w env).Declared opKinds s m := declared_lanes

theorem Module.declared_vlogic : (m.vlogic s w env).Declared opKinds s m := by
  unfold Module.vlogic
  split
  · exact .badHere
  · exact declared_lanes

theorem Module.declared_vshift : (m.vshift s w env).Declared opKinds s m := by
  unfold Module.vshift
  exact declared_lanes

theorem Module.declared_fdecode : (m.fdecode s w).Declared opKinds s m := declared_lanes

theorem Module.declared_fencode : (m.fencode s w).Declared opKinds s m := declared_lanes

end Lanes

section Vector
variable {m : Module} {s w x : Nat} {env : OpEnv} {f : Fmt} {ls : List Nat}

theorem Module.declared_vcmp : (m.vcmp s w).Declared opKinds s m := by
  unfold Module.vcmp
  extract_lets fmt t n a b d pre
  generalize hfmt : fmt = f₀, hpre : pre = faults
  split
  case h_2 => exact .badHere
  next f =>
  split
  next xa f₁ m₁ hreadA =>
  split
  next xb f₂ m₂ hreadB =>
  have h₂ : Frame readKinds m m₂ := frame_of_tread hreadB <| frame_of_tread hreadA <| .refl _ m
  refine .checked (by decide) h₂ fun _ => ?_
  extract_lets va vb out
  refine .wrote <| .afterReads h₂ (fits_of_dstFaults (List.append_eq_nil_iff.mp hpre).2) ?_ fun h => by rw [h]
  rw [length_flatten_map fun _ _ => slice_length, List.length_range, Nat.mul_comm]

theorem Module.declared_vsel : (m.vsel s w).Declared opKinds s m := by
  unfold Module.vsel
  extract_lets src dst t n a b d pre
  generalize hsrc : src = fs₀, hdst : dst = fd₀, hpre : pre = faults
  split
  case h_2 => exact .badHere
  next fs fd =>
  split
  next xa f₁ m₁ hreadA =>
  split
  next xb f₂ m₂ hreadB =>
  split
  next xd f₃ m₃ hreadD =>
  have h₃ : Frame readKinds m m₃ := frame_of_tread hreadD <| frame_of_tread hreadB <| frame_of_tread hreadA <| .refl _ m
  refine .checked (by decide) h₃ fun _ => ?_
  extract_lets va rs
  have hfit := fits_of_dstFaults (List.append_eq_nil_iff.mp hpre).2
  rw [hdst] at hfit
  refine .written h₃ hfit ?_ fun h => by rw [h, Nat.zero_mul]
  simp only [rs, List.map_map, Function.comp_def]
  rw [length_flatten_map fun _ _ => Fmt.patchSlot_length slice_length, List.length_range]

theorem Module.declared_vreduce : (m.vreduce s w env).Declared opKinds s m := by
  unfold Module.vreduce
  extract_lets src dst t n func a d nOut pre
  generalize hsrc : src = fs₀, hdst : dst = fd₀, hpre : pre = faults
  split
  case h_2 => exact .badHere
  next fs fd =>
  split
  next xa f₁ m₁ hreadA =>
  have h₁ : Frame readKinds m m₁ := frame_of_tread hreadA (.refl _ m)
  extract_lets va res rs f2
  refine .checked (by decide) h₁ fun _ => ?_
  split
  next bytes fl henc =>
  have hfit := fits_of_dstFaults (List.append_eq_nil_iff.mp hpre).2
  rw [hdst] at hfit
  refine .written h₁ hfit ?_ fun h => by rw [h, Nat.zero_mul]
  have hlen : bytes.length = nOut * fd.slotBytes := by
    rw [Fmt.length_of_encRun henc, bumpLanes_length, List.length_map, List.length_range]
  exact hlen.le

theorem Module.frame_readLines : Frame readKinds m (m.readLines s x f ls).2.2 := by
  refine List.foldlRecOn (motive := fun (st : List Nat × List StageFault × Module) => Frame readKinds m st.2.2) _ _ (.refl _ m) ?_
  intro st hst l _
  split
  · exact hst.trans (frame_tread (s := s) (a := x + 128 * l) (n := 128))
  · exact hst

theorem Module.declared_vgather : (m.vgather s w).Declared opKinds s m := by
  unfold Module.vgather
  extract_lets src dst t n a b d pre
  generalize hsrc : src = fs₀, hdst : dst = fd₀, hpre : pre = faults
  split
  case h_2 => exact .badHere
  next fs fd =>
  split
  next xb f₁ m₁ hreadB =>
  have h₁ : Frame readKinds m m₁ := frame_of_tread hreadB (.refl _ m)
  extract_lets idx places slots f2
  refine .checked (by decide) h₁ fun _ => ?_
  generalize hgather : List.foldl _ ([], [], m₁) slots = gathered
  have hslots : Frame readKinds m gathered.2.2 := by
    rw [← hgather]
    exact List.foldlRecOn (motive := fun (st : SMap (List Num) × List StageFault × Module) => Frame readKinds m st.2.2) _ _ h₁
      (fun st hst x _ => hst.trans frame_readLines)
  obtain ⟨tab, f₃, m₂⟩ := gathered
  refine .checked (by decide) hslots fun _ => ?_
  extract_lets vals
  split
  next bytes fl henc =>
  have hfit := fits_of_dstFaults (List.append_eq_nil_iff.mp hpre).2
  rw [hdst] at hfit
  refine .written hslots hfit ?_ fun h => by rw [h, Nat.zero_mul]
  have hlen : bytes.length = n * fd.slotBytes := by
    rw [Fmt.length_of_encRun henc, List.length_map, List.length_range]
  exact hlen.le

theorem Module.declared_vfill : (m.vfill s w).Declared opKinds s m := by
  unfold Module.vfill
  extract_lets dst t n d pre c
  generalize hdst : dst = fd₀, hpre : pre = faults
  split
  case h_2 => exact .badHere
  next fd =>
  extract_lets x
  split
  next bytes fl henc =>
  have hfit := fits_of_dstFaults (List.append_eq_nil_iff.mp hpre).2
  rw [hdst] at hfit
  refine .written (.refl _ m) hfit ?_ fun h => by rw [h, Nat.zero_mul]
  have hlen : bytes.length = n * fd.slotBytes := by
    rw [Fmt.length_of_encRun henc, List.length_replicate]
  exact hlen.le

theorem Module.declared_cload : (m.cload s w).Declared opKinds s m := by
  unfold Module.cload
  extract_lets a
  split
  next b fs m₁ hread =>
  have h₁ : Frame readKinds m m₁ := frame_of_tread hread (.refl _ m)
  extract_lets c fs'
  refine .checked (by decide) h₁ fun _ => ?_
  have hok : (OpOut.ok (m₁.modTine s (fun t => { t with curves := SMap.ins (vFunc w % 8) c t.curves })) []).Declared opKinds s m :=
    .ok (by decide) (h₁.trans (.mono (by decide) frame_modTine))
  exact ⟨hok.moved, hok.still⟩

theorem Module.frame_drawNums (n : Nat) : ∀ m : Module, Frame [.free] m (m.drawNums n).2 := by
  induction n with
  | zero => exact fun m => .refl _ m
  | succ n ih => exact fun m => (frame_draw (v := 32)).trans (ih _)

theorem Module.frame_drawBytes (n : Nat) : ∀ m : Module, Frame [.free] m (m.drawBytes n).2 := by
  induction n with
  | zero => exact fun m => .refl _ m
  | succ n ih => exact fun m => (frame_draw (v := 8)).trans (ih _)

theorem Module.drawBytes_length (n : Nat) : ∀ m : Module, (m.drawBytes n).1.length = n := by
  induction n with
  | zero => exact fun _ => rfl
  | succ n ih => exact fun m => congrArg Nat.succ (ih _)

theorem Module.declared_freblock : (m.freblock s w).Declared opKinds s m := by
  unfold Module.freblock
  extract_lets src dst pre t n k d
  generalize hsrc : src = fs₀, hdst : dst = fd₀, hpre : pre = faults
  split
  case h_2 => exact .badHere
  next fs fd =>
  split
  next xa f₁ m₁ hreadA =>
  have h₁ : Frame readKinds m m₁ := frame_of_tread hreadA (.refl _ m)
  refine .checked (by decide) h₁ fun _ => ?_
  split
  next tail m₂ hdraw =>
  have h₂ : Frame readKinds m m₂ := by
    obtain rfl : _ = m₂ := congrArg Prod.snd hdraw
    exact h₁.trans <| .mono (by decide) <| frame_drawNums _ _
  extract_lets vals
  split
  next bytes fl henc =>
  have hfit := fits_of_laneOperands hpre
  rw [hdst] at hfit
  refine .written h₂ hfit ?_ fun h => by rw [h, Nat.zero_mul]
  have hlen : bytes.length = n * fd.slotBytes := by
    rw [Fmt.length_of_encRun henc, List.length_map, List.length_range]
  exact hlen.le

theorem Module.declared_ftile : (m.ftile s w env).Declared opKinds s m := by
  unfold Module.ftile
  extract_lets n t a d
  split
  · exact .badHere
  next f hf =>
  extract_lets size okFmt pre
  refine .checkedHere fun hpre => ?_
  split
  · exact .ok (by decide) (ls := []) .rfl
  next hn =>
  split
  next x f₁ m₁ hread =>
  have h₁ : Frame readKinds m m₁ := frame_of_tread hread (.refl _ m)
  extract_lets slots
  split
  next cols te fl hcols =>
  extract_lets t₀ t₁ row f2 f3 sums bytes
  refine .checked (by decide) h₁ fun _ => ?_
  have hfit := fits_of_dstFaults (List.append_eq_nil_iff.mp hpre).2
  rw [if_neg hn] at hfit
  have hlen : bytes.length ≤ size := by
    have hrow : (sums.map fun v => toLe 6 (toBits 48 v)).flatten.length = 384 := by
      rw [length_flatten_map fun _ _ => toLe_length _ _, List.length_map, List.length_range]
    have hsize : size = 16 + f.elemPlane + f.cbPlane false + f.scalePlane + 384 := rfl
    rw [List.length_append, hrow, List.length_take]
    omega
  exact .written (p := False) h₁ hfit hlen False.elim

end Vector

end Sys2Proof.Machine
end

section
/-! PROOFS. CEVAL and VSCATTER declare what they write (R108, R109). -/

namespace Sys2Proof.Machine

/-! ### CEVAL -/

section Ceval
variable {m : Module} {s w : Nat} {env : OpEnv} {src dst : Option Fmt} {two third : Bool} {guard : Option Nat}
  {fn : Num → Num → Num → Num} {o : OpOut}

theorem Module.formats_of_laneOperands (h : m.laneOperands s w src dst two = []) :
    ∃ fs fd, src = some fs ∧ dst = some fd := by
  have hfmt : m.fmtFault s [src, dst] = [] := by
    simp only [Module.laneOperands, List.append_eq_nil_iff] at h
    exact h.1.1.1
  cases src <;> cases dst <;> simp [Module.fmtFault] at hfmt ⊢

/-- An operation over lanes faults, or it declares its destination, which fits the site. -/
theorem Module.writes_of_lanes : (m.lanes s w env src dst two third guard fn).faults ≠ [] ∨
    (m.laneOperands s w src dst two = [] ∧ (m.lanes s w env src dst two third guard fn).writes =
      if vNvec w = 0 then [] else [((m.tine s).local (vOpd w), vNvec w * slotSize dst)]) := by
  unfold Module.lanes
  extract_lets pre t n d
  generalize hpre : pre = faults
  split
  case h_2 hbad =>
    refine .inl fun hnone => ?_
    obtain ⟨fs, fd, hsrc, hdst⟩ := formats_of_laneOperands (hpre.trans hnone)
    exact hbad fs fd hsrc hdst hnone
  next fs fd =>
  split
  split
  split
  extract_lets va vb vd rs fs'
  split
  next hfaults => exact .inl hfaults
  next => exact .inr ⟨hpre, rfl⟩

theorem Module.declared_ceval : (m.ceval s w env).Declared opKinds s m := by
  unfold Module.ceval
  extract_lets fs fd r n
  split
  · exact .badHere
  next c _ =>
  generalize ho : m.lanes s w env fs fd false false (some 1) (fun x _ _ => c.eval x) = o
  have hlanes : o.Declared opKinds s m := ho ▸ declared_lanes
  extract_lets o'
  split
  case isFalse => exact hlanes
  next hfree =>
  have hok : o.faults = [] := of_decide_eq_true ((Bool.and_eq_true _ _).mp hfree).2
  obtain ⟨hpre, hwrites⟩ := (ho ▸ writes_of_lanes (m := m)).resolve_left (not_not.mpr hok)
  split
  next b m₁ hbytes =>
  split
  next fl m₂ hflags =>
  obtain rfl : (o.m.drawBytes n).2 = m₁ := congrArg Prod.snd hbytes
  obtain rfl : ((o.m.drawBytes n).2.draw 3).2 = m₂ := congrArg Prod.snd hflags
  have hb : b.length = n := (congrArg (fun p => p.1.length) hbytes).symm.trans (drawBytes_length _ _)
  have hdraws : Frame readKinds o.m ((o.m.drawBytes n).2.draw 3).2 := .mono (by decide) <| (frame_drawBytes _ _).trans frame_draw
  have hwrite := WritesIn.afterReads (s := s) (p := vNvec w = 0) hdraws
    (fits_of_laneOperands hpre) hb.le (fun h => by rw [h, Nat.zero_mul])
  rw [← hwrites] at hwrite
  exact ⟨hlanes.moved.trans <| hwrite.trans <| .of_frame (by decide) frame_addFlags, hlanes.still⟩

end Ceval

/-! ### VSCATTER -/

section Vscatter
variable {m : Module} {s w x d : Nat} {f : Fmt} {ls : List Nat} {b : Nat → List Nat} {idx : Int}

/-- The slots of an operand at a line's address start at a line's address. -/
theorem slotOf_aligned (hd : d % 128 = 0) (hx : (slotOf d f idx).1 = some x) : x % 128 = 0 := by
  rw [slotOf] at hx
  simp only at hx
  rw [Option.ite_none_left_eq_some] at hx
  obtain ⟨hpos, hval⟩ := hx
  have hmul : (f.slotBytes : Int) * (idx / 64) = 128 * ((f.slotLines : Int) * (idx / 64)) := by
    rw [Fmt.slotBytes]
    push_cast
    rw [mul_assoc]
  rw [hmul] at hval hpos
  have hx := Option.some.inj hval
  omega

/-- Whole lines written from a line's address on. -/
theorem Module.writesIn_lines (hx : x % 128 = 0) (hb : ∀ l, (b l).length = 128) :
    WritesIn [.free, .sram, .tines] s (ls.map fun l => (x + 128 * l, 128)) m (ls.foldl (fun m l => m.twrite s (x + 128 * l) (b l)) m) := by
  refine .foldl fun m l hl => (writesIn_twrite_in (n := 128) (by omega) (hb l).le).mono (List.Subset.refl _) fun g hg => ?_
  refine hg.mono fun r hr => ?_
  obtain rfl := List.mem_singleton.mp hr
  exact List.mem_map_of_mem hl

theorem Module.declared_vscatter : (m.vscatter s w).Declared opKinds s m := by
  unfold Module.vscatter
  extract_lets src dst t n a b d pre
  generalize hsrc : src = fs₀, hdst : dst = fd₀, hpre : pre = faults
  split
  case h_2 => exact .badHere
  next fs fd =>
  split
  next xa f₁ m₁ hreadA =>
  split
  next xb f₂ m₂ hreadB =>
  have h₂ : Frame readKinds m m₂ := frame_of_tread hreadB <| frame_of_tread hreadA <| .refl _ m
  have hd : d % 128 = 0 := aligned_of_dstFaults (List.append_eq_nil_iff.mp hpre).2
  extract_lets vals places codes f3 slots hits
  refine .checked (by decide) h₂ fun _ => ?_
  generalize hscatter : List.foldl _ (m₂, [], 0, []) slots = scattered
  have hslots : WritesIn opKinds s scattered.2.2.2 m scattered.1 := by
    rw [← hscatter]
    refine List.foldlRecOn (motive := fun (st : Module × List StageFault × Nat × List (Nat × Nat)) => WritesIn opKinds s st.2.2.2 m st.1)
      _ _ (.of_frame (by decide) h₂) fun st hst x hx => ?_
    extract_lets lines
    split
    next old f m' hread =>
    split
    next y fl hpatch =>
    have hlines : Frame readKinds st.1 m' := by
      obtain rfl : _ = m' := congrArg (fun p => p.2.2) hread
      exact frame_readLines
    have hline : x % 128 = 0 := by
      obtain ⟨p, hp, hpx⟩ := List.mem_filterMap.mp (List.mem_eraseDups.mp hx)
      obtain ⟨idx, -, rfl⟩ := List.mem_map.mp hp
      exact slotOf_aligned hd hpx
    have hold : WritesIn opKinds s (st.2.2.2 ++ lines.map fun l => (x + 128 * l, 128)) m st.1 :=
      hst.mono (List.Subset.refl _) fun g hg => hg.mono (List.subset_append_left _ _)
    refine hold.trans <| (WritesIn.of_frame (by decide) hlines).trans <| (writesIn_lines hline fun _ => slice_length).mono (by decide) fun g hg => ?_
    exact hg.mono (List.subset_append_right _ _)
  obtain ⟨m₃, f₄, fl, ws⟩ := scattered
  exact .checked (by decide) h₂ fun _ => .wrote <| hslots.trans <| .of_frame (by decide) frame_addFlags

end Vscatter

end Sys2Proof.Machine
end

section
/-! PROOFS. The movement operations declare what they write (R110 to R113). -/

namespace Sys2Proof.Machine

/-! ### Redirections and streams to another package -/

section Redirect
variable {m : Module} {i old new epoch pkg s c vc chan req : Nat} {b : Module} {gs : List (Nat × Nat)}

theorem Module.frame_setRedirect : Frame [.regs] m (m.setRedirect i old new epoch) :=
  .mono (by decide) <| frame_reg.step <| frame_reg.step <| frame_reg.step frame_reg

theorem Module.frame_writeRedirect : Frame [.regs] m (m.writeRedirect old new epoch) := by
  unfold Module.writeRedirect
  extract_lets ix m₁
  have hclear : Frame [.regs] m m₁ := .foldl fun m i => .ite frame_reg (.refl _ m)
  refine hclear.trans ?_
  split
  · exact .ite frame_setRedirect (.refl _ m₁)
  · split
    · exact frame_setRedirect
    · exact frame_setRedirect

theorem Module.frame_learnRedirect (h : m.learnRedirect pkg = some b) : Frame [.regs] m b := by
  unfold Module.learnRedirect at h
  split at h
  · split at h
    · exact Option.some.inj h ▸ frame_writeRedirect
    · cases h
  · cases h

theorem Module.frame_sendStream : Frame [.free, .out, .regs, .links, .rte] m (m.sendStream s pkg c vc chan req gs) := by
  unfold Module.sendStream
  split
  next rem m₀ hrem =>
  split
  next dst m₁ hdst =>
  have h₁ : Frame [.free] m m₁ := by
    obtain rfl : (m.remBudget req).2 = m₀ := congrArg Prod.snd hrem
    obtain rfl : ((m.remBudget req).2.draw 6).2 = m₁ := congrArg Prod.snd hdst
    exact frame_remBudget.trans frame_draw
  extract_lets go
  have hgo {a b : Module} (h : go a = some b) : Frame [.out, .regs, .links, .rte] a b := frame_sendMsg h
  refine .mono (ks := [.free, .out, .regs, .links, .rte]) (ls := [.free] ++ [.out, .regs, .links, .rte]) (by decide) <| h₁.step ?_
  split
  next m₂ hsent =>
    cases hfirst : go m₁ with
    | some m' =>
      obtain rfl : m' = m₂ := by simpa [hfirst] using hsent
      exact .mono (by decide) <| hgo hfirst
    | none =>
      obtain ⟨m', hlearn, hgo'⟩ := Option.bind_eq_some_iff.mp (by simpa [hfirst] using hsent)
      exact .mono (by decide) <| (frame_learnRedirect hlearn).step (hgo hgo')
  · exact .mono (by decide) frame_reg

end Redirect

/-! ### Device memory over the mesh -/

section Mesh
variable {m : Module} {a d src sev p r c : Nat} {bad latch : Bool} {f : MemFault} {h : Nat × Nat × Nat} {g : Nat × Nat}
  {hits : List (Nat × Nat × Nat)}

theorem Module.frame_meshNode : Frame [.out, .regs, .saf, .host] m (m.meshNode h g).2 := by
  unfold Module.meshNode
  extract_lets d s m₁
  split
  · exact .refl _ m
  · exact .refl _ m
  · exact .mono (by decide) <| frame_reg.step <| frame_report.step frame_charge
  · exact .mono (by decide) frame_reg

theorem Module.frame_meshPath : Frame [.out, .regs, .saf, .host] m (m.meshPath hits g).2 :=
  List.foldlRecOn (motive := fun (a : (Nat × Nat) × Module) => Frame [.out, .regs, .saf, .host] m a.2) _ _ (.refl _ m)
    (fun _ ha _ _ => ha.trans frame_meshNode)

theorem Module.frame_devReadVia : Frame [.out, .regs, .dev, .saf, .host] m (m.devReadVia a src sev f).2.2 := by
  unfold Module.devReadVia
  extract_lets d
  split
  next d₁ bad m₁ hread =>
  have h₁ : Frame [.out, .regs, .dev, .saf, .host] m m₁ := by
    obtain rfl : _ = m₁ := congrArg (fun p => p.2.2) hread
    split
    · exact .ite_read (.mono (by decide) frame_memRec) frame_devRead
    · exact .ite_read (.mono (by decide) <| frame_reg.step frame_memRec) frame_devRead
    · exact frame_devRead
  exact h₁.trans <| .mono (by decide) frame_meshPath

theorem Module.frame_dropWrite : Frame [.out, .regs, .saf] m (m.dropWrite p a) := frame_report

theorem Module.frame_devWrite : Frame [.out, .regs, .dev, .saf] m (m.devWrite a d bad) := by
  unfold Module.devWrite
  split
  · exact .mono (by decide) <| .either frame_dev frame_dropWrite
  · exact .mono (by decide) frame_dev
  · exact .mono (by decide) frame_addrInvalid

theorem Module.frame_devWriteVia : Frame [.out, .regs, .dev, .saf, .host] m (m.devWriteVia a d bad f) := by
  have hpath : Frame [.out, .regs, .saf, .host] m (m.meshPath f.mesh (d, if bad then poisonSynd else 0)).2 := frame_meshPath
  exact .mono (by decide) <| (hpath.step frame_devWrite).step <| .either frame_memRec .rfl

theorem Module.frame_poisonReq : Frame [.ctx, .host] m (m.poisonReq r latch c) := by
  unfold Module.poisonReq
  exact .mono (by decide) <| .either (frame_modReq.step frame_setCtx) frame_modReq

theorem Module.frame_sendKv : Frame [.out, .regs, .ctx, .links, .rte] m m.sendKv := by
  unfold Module.sendKv
  exact .mono (by decide) <| .either .rfl <| frame_ctx.step frame_copyOut

end Mesh

/-! ### The operations -/

section Movement
variable {m : Module} {s w : Nat} {env : OpEnv}

/-- At most n flits are taken. -/
theorem takeFlits_length (src chan req : Nat) : ∀ (n : Nat) (l : List Flit), (takeFlits src chan req n l).1.length ≤ n
  | n, [] => by simp [takeFlits]
  | n, f :: t => by
    rw [takeFlits]
    split
    next h =>
      have ih := takeFlits_length src chan req (n - 1) t
      simp only [List.length_cons]
      omega
    · exact takeFlits_length src chan req n t

theorem Module.fits_of_granDst {a n : Nat} (h : m.granDst s a n = []) : a % 2 ^ 27 + 16 * n ≤ 2 ^ 27 :=
  fits_of_dstFaults h

/-- The kinds of state that SEND may change. -/
abbrev sendKinds : List Kind := [.free, .out, .regs, .sram, .saf, .tines, .mesh, .ctx, .links, .rte]

theorem Module.declared_send : (m.send s w).Declared sendKinds s m := by
  unfold Module.send
  extract_lets t a n d pre
  refine .checkedHere fun _ => ?_
  split
  next b fs m₁ hread =>
  have h₁ : Frame readKinds m m₁ := frame_of_tread hread (.refl _ m)
  refine .checked (by decide) h₁ fun _ => ?_
  split
  · exact .ok (by decide) h₁
  next p _ =>
  extract_lets gs
  split
  · exact .ok (by decide) (ls := readKinds ++ [.mesh]) <| h₁.step <| .single fun k hk => by cases k <;> trivial
  · split
    next pkg rc _ =>
    exact .ok (by decide) (ls := readKinds ++ ([] ++ [.free, .out, .regs, .links, .rte])) <| h₁.step <| .either .rfl frame_sendStream

theorem Module.declared_recv : (m.recv s w).Declared opKinds s m := by
  unfold Module.recv
  extract_lets t a n pre _
  split
  · exact .badHere
  next p _ =>
  refine .checkedHere fun hpre => ?_
  split
  next got rest hgot =>
  extract_lets left m₁ _
  split
  · exact .badHere
  have hlen : got.length ≤ n := by
    have htake := takeFlits_length p.key (xChan w) t.seq.disp.req n t.inbound
    rwa [hgot] at htake
  have hmoved : WritesIn opKinds s (if n = 0 then [] else [(a, 16 * n)]) m m₁ :=
    (WritesIn.of_frame (by decide) (ls := [.tines]) frame_modTine).trans <|
      (writesIn_putFlits (fits_of_granDst hpre) hlen).mono (by decide) fun g hg => hg.of_declared fun h => by rw [h]
  exact ⟨hmoved, fun h => absurd rfl h⟩

/-- The kinds of state that DMARD may change. -/
abbrev dmardKinds : List Kind := [.free, .out, .regs, .dev, .sram, .saf, .tines, .ctx, .host]

/-- A run of granules written one after another, its range declared unless it is empty. -/
theorem WritesIn.granuleRun {ks : List Kind} {a n : Nat} {f : Nat → Module → Module} {b : Module}
    (h : ∀ i m, i < n → WritesIn ks s [(a, 16 * n)] m (f i m)) : WritesIn ks s (if n = 0 then [] else [(a, 16 * n)]) b (Sys2Proof.Machine.iter n f b) :=
  .iter fun i m hi => (h i m hi).mono (List.Subset.refl _) fun g hg => hg.of_declared fun hn => by rw [hn]

theorem Module.declared_dmard : (m.dmard s w env).Declared dmardKinds s m := by
  unfold Module.dmard
  extract_lets t a n d c off size pre base busy there m₀ m₁ m₂
  refine .checkedHere fun hpre => .wrote ?_
  have hfit := fits_of_granDst (List.append_eq_nil_iff.mp hpre).2
  have h₀ : Frame [.out, .regs, .saf] m m₀ := .ite (.refl _ m) frame_addrInvalid
  have h₁ : WritesIn dmardKinds s (if n = 0 then [] else [(a, 16 * n)]) m₀ m₁ := by
    refine .granuleRun fun i m hi => ?_
    split
    next g₀ bad m' hread =>
    split
    next g m'' hdraw =>
    have hread' : Frame [.out, .regs, .dev, .saf, .host] m m' := by
      obtain rfl : _ = m' := congrArg (fun p => p.2.2) hread
      exact .ite_read frame_devReadVia (.refl _ m)
    have hdraw' : Frame [.free] m' m'' := by
      obtain rfl : _ = m'' := congrArg Prod.snd hdraw
      split
      · exact frame_draw
      · exact .refl _ m'
    extract_lets m₃
    have hput : WritesIn dmardKinds s [(a, 16 * n)] m'' m₃ := (writesIn_putGranule_at hfit hi).mono (by decide) fun _ h => h
    exact (WritesIn.of_frame (by decide) (hread'.step hdraw')).trans <| hput.trans <| .ite (.of_frame (by decide) frame_poisonReq) (.refl _ _ _ _)
  have h₂ : WritesIn dmardKinds s (if n = 0 then [] else [(a, 16 * n)]) m₁ m₂ :=
    .ite (.of_frame (by decide) frame_modTine) (.refl _ _ _ _)
  exact (WritesIn.of_frame (by decide) h₀).trans <| h₁.trans h₂

/-- The kinds of state that DMAWR may change. -/
abbrev dmawrKinds : List Kind := [.free, .out, .regs, .dev, .sram, .saf, .tines, .ctx, .host, .links, .rte]

theorem Module.declared_dmawr : (m.dmawr s w env).Declared dmawrKinds s m := by
  unfold Module.dmawr
  extract_lets t a n d c off size pre
  refine .checkedHere fun _ => ?_
  split
  next b fs m₁ hread =>
  have h₁ : Frame readKinds m m₁ := frame_of_tread hread (.refl _ m)
  refine .checked (by decide) h₁ fun _ => ?_
  extract_lets gs m₂ log
  have hwrite : Frame [.out, .regs, .dev, .saf, .host] m₁ m₂ := .iter fun _ _ => frame_devWriteVia
  have hsent : Frame [.out, .regs, .ctx, .links, .rte] m₂
      (if c.pairing = 1 then ({ m₂ with ctx := { m₂.ctx with kvWrites := log.reverse ++ m₂.ctx.kvWrites } } : Module).sendKv else m₂) :=
    .mono (by decide) <| .either (frame_ctx.step frame_sendKv) .rfl
  have hok := OpOut.Declared.ok (by decide) (ks := dmawrKinds) (s := s) (ws := []) ((h₁.step hwrite).step hsent)
  exact ⟨hok.moved, hok.still⟩

theorem Module.declared_copyOp : (m.copyOp s w).Declared opKinds s m := by
  unfold Module.copyOp
  extract_lets t a b n pre
  refine .checkedHere fun hpre => ?_
  split
  next x fs m₁ hread =>
  have h₁ : Frame readKinds m m₁ := frame_of_tread hread (.refl _ m)
  refine .checked (by decide) h₁ fun _ => ?_
  refine .wrote <| (WritesIn.afterReads h₁ (fits_of_granDst (List.append_eq_nil_iff.mp hpre).2) (length_of_tread hread)
    fun h => by rw [h]).trans <| .of_frame (by decide) frame_modTine

theorem Module.declared_input : (m.input s w).Declared opKinds s m := by
  unfold Module.input
  extract_lets t a n d off size pre bytes
  refine .checkedHere fun hpre => .wrote <| .afterReads (.refl _ m) (fits_of_granDst (List.append_eq_nil_iff.mp hpre).2) ?_ fun h => by rw [h]
  unfold bytes
  split
  · exact slice_length.le
  · exact (List.length_replicate).le

/-- The kinds of state that OUTPUT may change. -/
abbrev outputKinds : List Kind := [.free, .out, .regs, .sram, .saf, .tines, .ctx, .host]

theorem Module.declared_output : (m.output s w).Declared outputKinds s m := by
  unfold Module.output
  extract_lets t a n d off pre
  refine .checkedHere fun _ => ?_
  split
  next b fs m₁ hread =>
  have h₁ : Frame readKinds m m₁ := frame_of_tread hread (.refl _ m)
  refine .checked (by decide) h₁ fun _ => ?_
  split
  · exact .ok (by decide) h₁
  · exact .ok (by decide) (h₁.step frame_modReq)

end Movement

end Sys2Proof.Machine
end

section
/-! PROOFS. Operations write only what they declare (R80, R98, R118). -/

namespace Sys2Proof.Machine

/-- What it means that an operation declares the SRAM it writes, granule by granule. -/
theorem OpOut.Declared.writesOnly {ks : List Kind} {s : Nat} {m : Module} {o : OpOut} (h : o.Declared ks s m) :
    (o.faults ≠ [] → o.writes = []) ∧
    ∀ g, Outside s o.writes g → o.m.sram.granule g = m.sram.granule g ∧ o.m.sram.syndrome g = m.sram.syndrome g :=
  ⟨h.still, h.moved.sram⟩

/-- Settles O15, each operation by the ranges it declares. That one that faults changes no SRAM is log entry 16. -/
theorem operationsWriteOnlyWhatTheyDeclare : Obligations.OperationsWriteOnlyWhatTheyDeclare := by
  intro m site env w _
  simp only [List.forall_mem_cons]
  exact ⟨Module.declared_tload.writesOnly,
    Module.declared_astage.writesOnly,
    Module.declared_stream.writesOnly,
    Module.declared_wset.writesOnly,
    Module.declared_drain.writesOnly,
    Module.declared_drainw.writesOnly,
    Module.declared_padd.writesOnly,
    Module.declared_pdrain.writesOnly,
    Module.declared_vec2.writesOnly,
    Module.declared_vec2.writesOnly,
    Module.declared_vec2.writesOnly,
    Module.declared_vfma.writesOnly,
    Module.declared_vec2.writesOnly,
    Module.declared_vec2.writesOnly,
    Module.declared_vlogic.writesOnly,
    Module.declared_vshift.writesOnly,
    Module.declared_vcmp.writesOnly,
    Module.declared_vsel.writesOnly,
    Module.declared_vreduce.writesOnly,
    Module.declared_vgather.writesOnly,
    Module.declared_vscatter.writesOnly,
    Module.declared_vfill.writesOnly,
    Module.declared_cload.writesOnly,
    Module.declared_ceval.writesOnly,
    Module.declared_fdecode.writesOnly,
    Module.declared_fencode.writesOnly,
    Module.declared_freblock.writesOnly,
    Module.declared_ftile.writesOnly,
    Module.declared_send.writesOnly,
    Module.declared_recv.writesOnly,
    Module.declared_dmard.writesOnly,
    Module.declared_dmawr.writesOnly,
    Module.declared_copyOp.writesOnly,
    Module.declared_input.writesOnly,
    Module.declared_output.writesOnly,
    List.forall_mem_nil _⟩

end Sys2Proof.Machine
end

section
/-! PROOFS. Frames of an operation's issue, start and end (R76, R93, R100, R101, R118). -/

namespace Sys2Proof.Machine

section Issue
variable {m : Module} {s i w slot : Nat} {env : OpEnv} {f : StageFault} {fs : List StageFault} {started : Bool} {o : OpOut} {ks : List Kind}
  {is : Nat → Bool} {sem : Nat → Module → OpOut} {k : Module → OpOut} {mean : OpEnv → Nat → Module → OpOut}

theorem Module.frame_stageFault : Frame [.out, .regs, .saf, .tines] m (m.stageFault s f) := by
  unfold Module.stageFault
  extract_lets m₁ b m₂
  have h₁ : Frame [.regs] m m₁ :=
    .ite frame_reg <| .ite frame_reg <| .ite frame_reg <| .ite frame_reg <| .ite frame_reg <| .ite frame_reg (.refl _ m)
  have h₂ : Frame [.regs] m₁ m₂ := .ite (.refl _ m₁) <| .ite (frame_setBank.trans frame_reg) frame_setBank
  exact .mono (by decide) <| h₁.step <| h₂.step <| frame_reg.step <| frame_modTine.step <| frame_emit.step frame_takeHeld

theorem Module.frame_pend : Frame [.tines] m (m.pend s w env started o) := frame_modSeq

theorem Module.frame_withFormats (hk : ∀ m, Frame ks m (k m).m) (hs : opKinds ⊆ ks) : Frame ks m (m.withFormats s w k).m := by
  have hread : Frame readKinds m (m.readTables s (fmtSels w)).2 := frame_readTables _ m
  have hread' := hread.mono (List.Subset.trans (by decide) hs)
  unfold Module.withFormats
  split
  next m₁ he =>
    rw [he] at hread'
    exact hread'.trans (hk m₁)
  next m₁ _ he =>
    rw [he] at hread'
    exact hread'

theorem Module.frame_queueOp (hsem : ∀ w m, Frame ks m (sem w m).m) (hs : opKinds ⊆ ks) : Frame ks m (m.queueOp s w env sem) := by
  have hmeans : Frame ks m (m.withFormats s w (sem w)).m := frame_withFormats (hsem w) hs
  have hpend {m : Module} {started : Bool} {o : OpOut} : Frame ks m (m.pend s w env started o) :=
    frame_pend.mono (List.Subset.trans (by decide) hs)
  unfold Module.queueOp
  extract_lets q o
  split
  · split
    · exact hmeans.trans <| frame_stageFault.mono (List.Subset.trans (by decide) hs)
    · exact hmeans.trans hpend
  · exact hpend

/-- An operation changes what its meaning may change, whatever it issues to. -/
theorem Module.frame_issue (hsem : ∀ w m, Frame ks m (sem w m).m) (hs : opKinds ⊆ ks) : Frame ks m (m.issue s env is sem) := by
  have hfault {m : Module} {f : StageFault} : Frame ks m (m.stageFault s f) := frame_stageFault.mono (List.Subset.trans (by decide) hs)
  unfold Module.issue
  extract_lets m₀ q
  have h₀ : Frame ks m m₀ := frame_sram.mono (List.Subset.trans (by decide) hs)
  refine .ite (.refl _ m) <| .ite (h₀.trans hfault) ?_
  split
  next w bad m₁ hread =>
  have h₁ : Frame ks m m₁ := by
    have hgran : Frame readKinds m₀ (m₀.sramGranule s (progBase (m₀.runBank s) + 16 * q.nextPc)).2.2 := frame_sramGranule
    rw [hread] at hgran
    exact h₀.trans <| hgran.mono (List.Subset.trans (by decide) hs)
  extract_lets m₂ _ m₃
  have h₂ : Frame ks m m₂ := h₁.trans <| frame_reg.mono (List.Subset.trans (by decide) hs)
  have h₃ : Frame ks m m₃ := h₂.trans <| frame_modSeq.mono (List.Subset.trans (by decide) hs)
  have hsem₃ : Frame ks m (sem w m₃).m := h₃.trans (hsem w m₃)
  refine .ite (h₂.trans hfault) <| .ite (.refl _ m) <| .ite (.refl _ m) <| .ite (.refl _ m) <| .ite (h₂.trans hfault) <|
    .ite ?control (h₃.trans (frame_queueOp hsem hs))
  split
  · exact hsem₃.trans hfault
  · exact hsem₃

/-! ### Control operations -/

theorem Module.frame_ctrl {g : Seqr → Seqr} : Frame [.tines] m (m.ctrl s g).m := frame_modSeq

theorem Module.frame_sbegin : Frame [.regs, .tines] m (m.sbegin s w).m := .mono (by decide) <| frame_reg.step frame_modTine

theorem Module.frame_releasePoint {fin : Bool} : Frame [.host] m (m.releasePoint s fin) := frame_modReq

theorem Module.frame_settle : Frame [.out, .regs, .saf, .tines, .host] m (m.settle s) := by
  have hseq {m : Module} {g : Seqr → Seqr} : Frame [.out, .regs, .saf, .tines, .host] m (m.modSeq s g) := .mono (by decide) frame_modSeq
  have hpoint {m : Module} {fin : Bool} : Frame [.out, .regs, .saf, .tines, .host] m (m.releasePoint s fin) :=
    .mono (by decide) frame_releasePoint
  unfold Module.settle
  extract_lets q
  split
  · exact .refl _ m
  · exact .ite hseq (.refl _ m)
  · exact .ite hseq (.refl _ m)
  · exact .ite (.refl _ m) hseq
  · exact .ite (.refl _ m) (hpoint.trans hseq)
  · extract_lets m₁ m₂
    have h₁ : Frame [.out, .regs, .saf, .tines, .host] m m₁ := .ite hpoint (.refl _ m)
    refine .ite (.refl _ m) <| h₁.trans ?_
    exact .mono (by decide) <| frame_reg.step <| frame_modTine.step <| frame_emit.step frame_takeHeld

theorem Module.frame_waitFor {k : SeqWait} : Frame [.out, .regs, .saf, .tines, .host] m (m.waitFor s k).m :=
  .mono (by decide) <| frame_modSeq.step frame_settle

theorem Module.frame_eos : Frame [.out, .regs, .saf, .tines, .host] m (m.eos s w).m := by
  unfold Module.eos
  extract_lets d limit used
  split
  · exact .refl _ m
  · exact frame_waitFor

theorem Module.frame_recvTimeout : Frame [.out, .regs, .saf, .tines] m (m.recvTimeout s i) := by
  unfold Module.recvTimeout
  split
  · exact .refl _ m
  · extract_lets late
    split
    · exact .ite frame_stageFault (.refl _ m)
    · split
      · exact .ite frame_stageFault (.refl _ m)
      · exact .refl _ m

/-! ### Operations that waited -/

/-- The kinds of state that an operation of any unit may change. -/
abbrev allOpKinds : List Kind := [.free, .out, .regs, .dev, .sram, .saf, .tines, .mesh, .ctx, .host, .links, .rte]

theorem Module.declared_opMeaning : (Module.opMeaning s env w m).Declared allOpKinds s m := by
  unfold Module.opMeaning
  split
  · exact declared_tload.mono (by decide)
  · exact declared_astage.mono (by decide)
  · exact declared_stream.mono (by decide)
  · exact declared_wset.mono (by decide)
  · exact declared_drain.mono (by decide)
  · exact declared_drainw.mono (by decide)
  · exact declared_padd.mono (by decide)
  · exact declared_pdrain.mono (by decide)
  · exact declared_vec2.mono (by decide)
  · exact declared_vec2.mono (by decide)
  · exact declared_vec2.mono (by decide)
  · exact declared_vfma.mono (by decide)
  · exact declared_vec2.mono (by decide)
  · exact declared_vec2.mono (by decide)
  · exact declared_vlogic.mono (by decide)
  · exact declared_vshift.mono (by decide)
  · exact declared_vcmp.mono (by decide)
  · exact declared_vsel.mono (by decide)
  · exact declared_vreduce.mono (by decide)
  · exact declared_vgather.mono (by decide)
  · exact declared_vscatter.mono (by decide)
  · exact declared_vfill.mono (by decide)
  · exact declared_cload.mono (by decide)
  · exact declared_ceval.mono (by decide)
  · exact declared_fdecode.mono (by decide)
  · exact declared_fencode.mono (by decide)
  · exact declared_freblock.mono (by decide)
  · exact declared_ftile.mono (by decide)
  · exact declared_send.mono (by decide)
  · exact declared_recv.mono (by decide)
  · exact declared_dmard.mono (by decide)
  · exact declared_dmawr.mono (by decide)
  · exact declared_copyOp.mono (by decide)
  · exact declared_input.mono (by decide)
  · exact declared_output.mono (by decide)

theorem Module.frame_startOp (hsem : ∀ env w m, Frame ks m (mean env w m).m) (hs : opKinds ⊆ ks) : Frame ks m (m.startOp s i mean) := by
  have hseq {m : Module} {g : Seqr → Seqr} : Frame ks m (m.modSeq s g) := frame_modSeq.mono (List.Subset.trans (by decide) hs)
  unfold Module.startOp
  extract_lets q
  split
  · exact .refl _ m
  next p _ =>
  extract_lets self seen o p' m₁
  have h₁ : Frame ks m m₁ := hseq.trans <| (frame_withFormats (hsem _ _) hs).trans hseq
  refine .ite (.refl _ m) ?_
  split
  · exact h₁.trans <| frame_stageFault.mono (List.Subset.trans (by decide) hs)
  · exact h₁

theorem Module.frame_startOps : Frame allOpKinds m (m.startOps s) :=
  .iter fun _ _ => frame_startOp (fun _ _ _ => declared_opMeaning.frame) (by decide)

theorem Module.frame_opComplete : Frame allOpKinds m (m.opComplete s i) := by
  unfold Module.opComplete
  extract_lets q
  split
  · exact .refl _ m
  next p _ =>
  extract_lets waits
  exact .ite (.refl _ m) <| .mono (by decide) <| frame_modSeq.step <| frame_startOps.step frame_settle

end Issue

end Sys2Proof.Machine
end

section
/-! PROOFS. The Tine commands complete within their kinds of state. -/

namespace Sys2Proof.Machine

/-- A command answers the state that its effect gives, named as the statements name it. -/
theorem completesIn_of_frame {c : Instr} {s : State} {ks : List Kind} {ok : Bool} {f : Module → Module} {b : Module}
    (he : exec c s = s.act ok f) (hb : f s.toModule = b) (h : ok = true) (hf : Frame ks s.toModule b) : CompletesIn ks c s b := by
  subst hb
  exact completesIn_of_act he h hf

section Meaning
variable {m : Module} {s op : Nat} {env : OpEnv} {sem : Nat → Module → OpOut} {ks ls : List Kind}

/-- An operation that declares what it writes issues within its kinds. -/
theorem Module.frame_issueOp_of_declared (hs : opKinds ⊆ ks) (h : ∀ w m, (sem w m).Declared ks s m) :
    Frame ks m (m.issueOp s op env sem) :=
  frame_issue (fun w m => (h w m).frame) hs

/-- A control operation issues within the kinds that every operation may change. -/
theorem Module.frame_issueOp_of_control (hs : ls ++ opKinds ⊆ ks) (h : ∀ w m, Frame ls m (sem w m).m) :
    Frame ks m (m.issueOp s op env sem) :=
  frame_issue (fun w m => (h w m).mono (List.Subset.trans (List.subset_append_left _ _) hs)) (List.Subset.trans (List.subset_append_right _ _) hs)

end Meaning

open Sys2Proof.Machine.Module in
/-- Settles O48, each command by the frame of its operation; commands that change nothing are log entry 4. -/
theorem tineCommandsComplete : Obligations.TineCommandsComplete := fun s =>
  ⟨fun site env h => completesIn_of_frame (exec_tload site env s) rfl h (frame_issueOp_of_declared (by decide) fun _ _ => declared_tload),
    fun site env h => completesIn_of_frame (exec_astage site env s) rfl h (frame_issueOp_of_declared (by decide) fun _ _ => declared_astage),
    fun site env h => completesIn_of_frame (exec_stream site env s) rfl h (frame_issueOp_of_declared (by decide) fun _ _ => declared_stream),
    fun site env h => completesIn_of_frame (exec_wset site env s) rfl h (frame_issueOp_of_declared (by decide) fun _ _ => declared_wset),
    fun site env h => completesIn_of_frame (exec_drain site env s) rfl h (frame_issueOp_of_declared (by decide) fun _ _ => declared_drain),
    fun site env h => completesIn_of_frame (exec_drainw site env s) rfl h (frame_issueOp_of_declared (by decide) fun _ _ => declared_drainw),
    fun site env h => completesIn_of_frame (exec_padd site env s) rfl h (frame_issueOp_of_declared (by decide) fun _ _ => declared_padd),
    fun site env h => completesIn_of_frame (exec_pdrain site env s) rfl h (frame_issueOp_of_declared (by decide) fun _ _ => declared_pdrain),
    fun site env h => completesIn_of_frame (exec_vadd site env s) rfl h (frame_issueOp_of_declared (by decide) fun _ _ => declared_vec2),
    fun site env h => completesIn_of_frame (exec_vsub site env s) rfl h (frame_issueOp_of_declared (by decide) fun _ _ => declared_vec2),
    fun site env h => completesIn_of_frame (exec_vmul site env s) rfl h (frame_issueOp_of_declared (by decide) fun _ _ => declared_vec2),
    fun site env h => completesIn_of_frame (exec_vfma site env s) rfl h (frame_issueOp_of_declared (by decide) fun _ _ => declared_vfma),
    fun site env h => completesIn_of_frame (exec_vmin site env s) rfl h (frame_issueOp_of_declared (by decide) fun _ _ => declared_vec2),
    fun site env h => completesIn_of_frame (exec_vmax site env s) rfl h (frame_issueOp_of_declared (by decide) fun _ _ => declared_vec2),
    fun site env h => completesIn_of_frame (exec_vlogic site env s) rfl h (frame_issueOp_of_declared (by decide) fun _ _ => declared_vlogic),
    fun site env h => completesIn_of_frame (exec_vshift site env s) rfl h (frame_issueOp_of_declared (by decide) fun _ _ => declared_vshift),
    fun site env h => completesIn_of_frame (exec_vcmp site env s) rfl h (frame_issueOp_of_declared (by decide) fun _ _ => declared_vcmp),
    fun site env h => completesIn_of_frame (exec_vsel site env s) rfl h (frame_issueOp_of_declared (by decide) fun _ _ => declared_vsel),
    fun site env h => completesIn_of_frame (exec_vreduce site env s) rfl h (frame_issueOp_of_declared (by decide) fun _ _ => declared_vreduce),
    fun site env h => completesIn_of_frame (exec_vgather site env s) rfl h (frame_issueOp_of_declared (by decide) fun _ _ => declared_vgather),
    fun site env h => completesIn_of_frame (exec_vscatter site env s) rfl h (frame_issueOp_of_declared (by decide) fun _ _ => declared_vscatter),
    fun site env h => completesIn_of_frame (exec_vfill site env s) rfl h (frame_issueOp_of_declared (by decide) fun _ _ => declared_vfill),
    fun site env h => completesIn_of_frame (exec_cload site env s) rfl h (frame_issueOp_of_declared (by decide) fun _ _ => declared_cload),
    fun site env h => completesIn_of_frame (exec_ceval site env s) rfl h (frame_issueOp_of_declared (by decide) fun _ _ => declared_ceval),
    fun site env h => completesIn_of_frame (exec_fdecode site env s) rfl h (frame_issueOp_of_declared (by decide) fun _ _ => declared_fdecode),
    fun site env h => completesIn_of_frame (exec_fencode site env s) rfl h (frame_issueOp_of_declared (by decide) fun _ _ => declared_fencode),
    fun site env h => completesIn_of_frame (exec_freblock site env s) rfl h (frame_issueOp_of_declared (by decide) fun _ _ => declared_freblock),
    fun site env h => completesIn_of_frame (exec_ftile site env s) rfl h (frame_issueOp_of_declared (by decide) fun _ _ => declared_ftile),
    fun site env h => completesIn_of_frame (exec_send site env s) rfl h (frame_issueOp_of_declared (by decide) fun _ _ => declared_send),
    fun site env h => completesIn_of_frame (exec_recv site env s) rfl h (frame_issueOp_of_declared (by decide) fun _ _ => declared_recv),
    fun site slot h => completesIn_of_frame (exec_recvTimeout site slot s) rfl h frame_recvTimeout,
    fun site env h => completesIn_of_frame (exec_dmard site env s) rfl h (frame_issueOp_of_declared (by decide) fun _ _ => declared_dmard),
    fun site env h => completesIn_of_frame (exec_dmawr site env s) rfl h (frame_issueOp_of_declared (by decide) fun _ _ => declared_dmawr),
    fun site env h => completesIn_of_frame (exec_copy site env s) rfl h (frame_issueOp_of_declared (by decide) fun _ _ => declared_copyOp),
    fun site env h => completesIn_of_frame (exec_input site env s) rfl h (frame_issueOp_of_declared (by decide) fun _ _ => declared_input),
    fun site env h => completesIn_of_frame (exec_output site env s) rfl h (frame_issueOp_of_declared (by decide) fun _ _ => declared_output),
    fun site env h => completesIn_of_frame (exec_nop site env s) rfl h (frame_issueOp_of_control (by decide) fun _ _ => .rfl),
    fun site env h => completesIn_of_frame (exec_sbegin site env s) rfl h (frame_issueOp_of_control (by decide) fun _ _ => frame_sbegin),
    fun site env h => completesIn_of_frame (exec_setreg site env s) rfl h (frame_issueOp_of_control (by decide) fun _ _ => frame_ctrl),
    fun site env h => completesIn_of_frame (exec_addreg site env s) rfl h (frame_issueOp_of_control (by decide) fun _ _ => frame_ctrl),
    fun site env h => completesIn_of_frame (exec_loop site env s) rfl h (frame_issueOp_of_control (by decide) fun _ _ => frame_ctrl),
    fun site env h => completesIn_of_frame (exec_brcnt site env s) rfl h (frame_issueOp_of_control (by decide) fun _ _ => frame_ctrl),
    fun site env h => completesIn_of_frame (exec_jump site env s) rfl h (frame_issueOp_of_control (by decide) fun _ _ => frame_ctrl),
    fun site env h => completesIn_of_frame (exec_barrier site env s) rfl h (frame_issueOp_of_control (by decide) fun _ _ => frame_waitFor),
    fun site env h => completesIn_of_frame (exec_sync site env s) rfl h (frame_issueOp_of_control (by decide) fun _ _ => frame_waitFor),
    fun site env h => completesIn_of_frame (exec_cschk site env s) rfl h (frame_issueOp_of_control (by decide) fun _ _ => frame_waitFor),
    fun site env h => completesIn_of_frame (exec_relmark site env s) rfl h (frame_issueOp_of_control (by decide) fun _ _ => frame_waitFor),
    fun site env h => completesIn_of_frame (exec_trap site env s) rfl h (frame_issueOp_of_control (by decide) fun _ _ => .rfl),
    fun site env h => completesIn_of_frame (exec_eos site env s) rfl h (frame_issueOp_of_control (by decide) fun _ _ => frame_eos),
    fun site env h => completesIn_of_frame (exec_reservedOpcode site env s) rfl h (frame_issue (fun _ _ => .refl _ _) (by decide)),
    fun site slot h => completesIn_of_frame (exec_operationComplete site slot s) rfl h frame_opComplete⟩

end Sys2Proof.Machine
end

section
/-! PROOFS. Frames of stage reports, fills, bank switches and site commands (R86, R88, R91, R95, R162, R219, R409 to R413). -/

namespace Sys2Proof.Machine

/-! ### Recovery from a fault of a stage -/

section Recovery
variable {m : Module} {s s' b c i id g n f bit fid pkg status detail value2 src sev a : Nat} {sel : Nat → Bool} {d : Dispatch}
  {flt : StageFault} {again : Bool} {x : Compl}

theorem Module.frame_moveRow (n : Nat) : ∀ (m : Module) (g : Nat), Frame [.free, .sram] m (m.moveRow g n) := by
  induction n with
  | zero => exact fun m _ => .refl _ m
  | succ n ih =>
    intro m g
    rw [Module.moveRow]
    refine Frame.trans ?_ (ih _ _)
    generalize codeDecode (m.sram.syndrome g) = r
    cases r with
    | clean => exact .refl _ m
    | poison => exact .refl _ m
    | uncorr => exact .mono (by decide) <| (frame_draw (v := 128)).step frame_sram
    | _ => exact .mono (by decide) frame_sram

/-- The kinds of state that a remap of a site's rows may change. -/
abbrev remapKinds : List Kind := [.free, .out, .regs, .sram, .saf, .tines, .ctx]

theorem Module.frame_remap : Frame remapKinds m (m.remap s sel) := by
  unfold Module.remap
  extract_lets rows
  refine .foldl fun m p => ?_
  split
  · exact .refl _ m
  next k _ =>
  extract_lets used _ _ m₀ m₁ m₂ m₃
  have h₀ : Frame [.saf] m m₀ := frame_saf
  have h₃ : Frame [.free, .regs, .sram, .saf, .tines] m m₃ :=
    .mono (by decide) <| h₀.step <| (frame_moveRow _ _ _).step <| frame_modTine.step <| frame_reg.step frame_reg
  split
  · exact .mono (by decide) <| frame_newFault.step frame_retire
  · exact .mono (by decide) <| h₃.step <| .either (frame_reg.step frame_reg) .rfl

theorem Module.frame_refill : Frame [.ctx] m (m.refill c i s b) := .mono (by decide) <| .either .rfl frame_ctx

/-- The kinds of state that a request that ends, with its stage stopped, may change. -/
abbrev endKinds : List Kind := [.free, .out, .regs, .saf, .tines, .mesh, .ctx, .host, .adm, .links, .rte, .pair]

theorem Module.frame_ended : Frame endKinds m ((m.stopAll id).complete s x) := .mono (by decide) <| frame_stopAll.step frame_complete

theorem Module.frame_failReq : Frame endKinds m (m.failReq id status detail value2) := by
  unfold Module.failReq
  split
  · exact .refl _ m
  · exact frame_ended

theorem Module.frame_failUnreachable : Frame endKinds m (m.failUnreachable id pkg) := frame_ended

/-- The kinds of state that recovery from a fault of a stage may change. -/
abbrev recoverKinds : List Kind := [.free, .out, .regs, .sram, .saf, .tines, .mesh, .ctx, .host, .adm, .links, .rte, .pair]

theorem Module.frame_recover : Frame recoverKinds m (m.recover id s fid d flt again) := by
  unfold Module.recover
  extract_lets x src reexec sender remote
  have hre {m : Module} : Frame [.out, .regs, .saf, .tines, .mesh, .host] m (reexec m) :=
    .mono (by decide) <| frame_restart.step frame_reg
  have hagain : Frame recoverKinds m (reexec m) := hre.mono (by decide)
  have hunreachable {p : Nat} : Frame recoverKinds m (m.failUnreachable id p) := frame_failUnreachable.mono (by decide)
  have hretire {m : Module} {s c f : Nat} : Frame recoverKinds m (m.retire s c f) := frame_retire.mono (by decide)
  have hcharge {m : Module} {u : Nat → Req → Bool} : Frame recoverKinds m (m.charge fid u) := frame_charge.mono (by decide)
  have hrefill {m : Module} {c i s b : Nat} : Frame recoverKinds m (m.refill c i s b) := frame_refill.mono (by decide)
  have hmod {m : Module} {g : Req → Req} : Frame recoverKinds m (m.modReq id g) := frame_modReq.mono (by decide)
  generalize sender = o
  split
  · split
    · split
      · exact .ite (hagain.trans <| hcharge.trans hretire) (hagain.trans hcharge)
      · exact hagain
    · exact .ite hunreachable (hagain.trans hcharge)
  · refine .ite (frame_failReq.mono (by decide)) <|
      .ite (.ite (hagain.trans hretire) <| .ite (hagain.trans hrefill) <| .ite (hagain.trans hrefill) hagain) <|
      .ite (hagain.trans <| frame_remap.mono (by decide)) <| .ite (.ite ?_ hagain) <| .ite (.ite hunreachable (hagain.trans hmod)) hagain
    exact .mono (by decide) <| frame_restart.step <| frame_modReq.step frame_ctx

theorem Module.frame_faultReport : Frame recoverKinds m (m.faultReport s) := by
  unfold Module.faultReport
  extract_lets t d m₀
  split
  case h_2 => exact .refl _ m
  next flt _ =>
  have h₀ : Frame recoverKinds m m₀ := frame_modTine.mono (by decide)
  have hlone {r : LogRec} : Frame recoverKinds m (m₀.report r) := h₀.trans <| frame_report.mono (by decide)
  split
  · exact hlone
  next r _ =>
  refine .ite hlone ?_
  extract_lets again
  split
  next fid m₁ hfid =>
  have h₁ : Frame recoverKinds m m₁ := by
    refine h₀.trans ?_
    split at hfid
    · cases hfid
      exact .refl _ _
    · split at hfid
      · cases hfid
        exact .refl _ _
      · obtain rfl : m₀.newFault.2 = m₁ := congrArg Prod.snd hfid
        exact frame_newFault.mono (by decide)
  extract_lets m₂ m₃
  have h₂ : Frame recoverKinds m m₂ := h₁.trans <| frame_logRec.mono (by decide)
  have h₃ : Frame recoverKinds m m₃ :=
    h₂.trans <| (Frame.ite (.refl _ m₂) (frame_charge.mono (by decide))).trans <| frame_modReq.mono (by decide)
  exact h₃.trans frame_recover

/-! ### A tile rechecked -/

theorem Module.frame_devReads (n : Nat) : ∀ (m : Module) (a : Nat), Frame [.out, .regs, .dev, .saf, .host] m (m.devReads src sev n a).2.2 := by
  induction n with
  | zero => exact fun m _ => .refl _ m
  | succ n ih => exact fun m a => (frame_devRead (a := a) (src := src) (sev := sev)).trans (ih _ _)

theorem Module.frame_devBytes : Frame [.out, .regs, .dev, .saf, .host] m (m.devBytes src a n).2.2 := frame_devReads _ _ _

/-- The kinds of state that a recheck of a tile may change. -/
abbrev recheckKinds : List Kind := [.free, .out, .regs, .dev, .saf, .tines, .mesh, .ctx, .host, .adm, .links, .rte, .pair]

theorem Module.frame_recheckTile : Frame recheckKinds m m.recheckTile := by
  unfold Module.recheckTile
  split
  · exact .refl _ m
  next id s i org _ =>
  extract_lets _ m₀
  have h₀ : Frame recheckKinds m m₀ := frame_ctx.mono (by decide)
  split
  · exact h₀
  next r _ =>
  extract_lets x
  split
  next sound m₁ hread =>
  have h₁ : Frame recheckKinds m m₁ := by
    refine h₀.trans ?_
    split at hread
    · cases hread
      exact .refl _ _
    · obtain rfl := congrArg Prod.snd hread
      exact frame_devBytes.mono (by decide)
  extract_lets fid
  split
  · exact h₁.trans <| .mono (by decide) <| frame_modReq.step <| frame_reg.step frame_retire
  · exact h₁.trans <| .mono (by decide) <| frame_setCtx.step frame_failReq

end Recovery

/-! ### Stages that start and end -/

section Stages
variable {m : Module} {s c f fid bit id i : Nat} {r : Req} {d : Dispatch} {hits : List (Nat × Nat × Nat)} {flit : Flit}

theorem Module.frame_transient : Frame [.out, .regs, .saf, .tines, .ctx] m (m.transient s fid bit) := by
  unfold Module.transient
  extract_lets rnd l m₁
  exact .mono (by decide) <| (frame_saf.step frame_reg).step <| .either frame_retire .rfl

theorem Module.frame_stageDone : Frame endKinds m (m.stageDone id) := by
  unfold Module.stageDone
  split
  · exact .refl _ m
  next r _ =>
  split
  next o tg _ =>
  extract_lets agree tooLong m₀ m₁ count
  have h₀ : Frame endKinds m m₀ := by
    unfold m₀
    split
    · exact .ite (frame_transient.mono (by decide)) (.refl _ m)
    · exact .refl _ m
  have h₁ : Frame endKinds m m₁ := h₀.trans <| frame_modReq.mono (by decide)
  have hmod {g : Req → Req} : Frame endKinds m (m₁.modReq id g) := h₁.trans <| frame_modReq.mono (by decide)
  have hfails : Frame endKinds m (m₁.failReq id 0x07 0x19 0) := h₁.trans frame_failReq
  refine .ite hfails ?_
  split
  · exact h₁.trans frame_ended
  · exact .ite (h₁.trans frame_ended) <| .ite hmod <| .ite hmod <| .ite hmod hfails

theorem Module.frame_endReport : Frame endKinds m (m.endReport s) := by
  unfold Module.endReport
  extract_lets t d m₀
  split
  case h_2 => exact .refl _ m
  have h₀ : Frame endKinds m m₀ := frame_modTine.mono (by decide)
  split
  · exact h₀
  next r _ =>
  extract_lets m₁
  have h₁ : Frame endKinds m m₁ := h₀.trans <| frame_modReq.mono (by decide)
  exact .ite h₀ <| .ite (h₁.trans frame_stageDone) h₁

theorem Module.frame_startStage : Frame [.regs, .tines] m (m.startStage s d) := .mono (by decide) <| frame_reg.step frame_modTine

theorem Module.frame_dispatchSlice : Frame [.out, .regs, .saf, .tines] m (m.dispatchSlice r id i s) := by
  unfold Module.dispatchSlice
  extract_lets c x b d m₁ m₂
  have h₂ : Frame ([.out] ++ [.tines] ++ [.out]) m m₂ := (frame_emit.step frame_modTine).step frame_emit
  exact .ite (.mono (by decide) <| frame_emit.step frame_startStage) <| .mono (by decide) <| h₂.step <| .either frame_modTine frame_startSwitch

theorem Module.frame_dispatchStage : Frame [.out, .regs, .saf, .tines, .ctx, .host] m (m.dispatchStage id) := by
  unfold Module.dispatchStage
  split
  · exact .refl _ m
  extract_lets ss x stopped go m₁
  have h₁ : Frame [.out, .regs, .saf, .tines] m m₁ := .foldl fun _ _ => frame_dispatchSlice
  exact .ite (.mono (by decide) <| h₁.step <| frame_setCtx.step frame_modReq) (.refl _ m)

theorem Module.frame_deliver : Frame [.free, .sram, .tines] m (m.deliver s flit) := by
  unfold Module.deliver
  extract_lets q here
  split
  · exact .mono (by decide) <| frame_putGranule.step frame_modSeq
  · exact .mono (by decide) frame_modTine

theorem Module.frame_streamFlit : Frame [.free, .out, .regs, .sram, .saf, .tines, .mesh, .host] m (m.streamFlit s i hits) := by
  unfold Module.streamFlit
  split
  · exact .refl _ m
  extract_lets earlier t mine
  refine .ite (.refl _ m) ?_
  split
  next g m₁ hpath =>
  have h₁ : Frame [.out, .regs, .saf, .mesh, .host] m m₁ := by
    obtain rfl : _ = m₁ := congrArg Prod.snd hpath
    exact .mono (by decide) <| (Frame.single (k₀ := .mesh) fun k hk => by cases k <;> trivial).step frame_meshPath
  exact .mono (by decide) <| h₁.step frame_deliver

end Stages

end Sys2Proof.Machine
end

section
/-! PROOFS. Frames of fills, bank switches and site commands (R86, R88, R91, R95, R174 to R176). -/

namespace Sys2Proof.Machine

/-! ### Bank fills -/

section Fills
variable {m : Module} {s b c i a n src rate : Nat} {f : Fill} {next : List Fill} {e : MemFault} {g : Fill → Fill} {env : OpEnv}

theorem Module.frame_loseRange : Frame [.sram, .tines] m (m.loseRange s a n) := .mono (by decide) <| frame_sram.step frame_modTine

theorem Module.frame_bookStart : Frame [.adm] m (m.bookStart f src rate) := by
  unfold Module.bookStart
  exact .mono (by decide) <| .either .rfl frame_adm

theorem Module.frame_modFill : Frame [.ctx] m (m.modFill i g) := frame_ctx

theorem Module.frame_refreshAll : Frame [.ctx] m m.refreshAll := .foldl fun _ _ => frame_refresh

theorem Module.frame_fillStart : Frame [.free, .out, .regs, .sram, .saf, .tines, .ctx, .adm] m (m.fillStart i) := by
  unfold Module.fillStart
  split
  · exact .refl _ m
  next f _ =>
  extract_lets x rate behind st m₁ m₂ m₃
  split
  next src addr _ =>
  have h₂ : Frame remapKinds m m₂ :=
    .mono (by decide) <| frame_remap.step <| (frame_setBank.step frame_reg).step frame_reg
  refine .ite (.refl _ m) <| .ite (.mono (by decide) frame_bankEvent) ?_
  exact .mono (by decide) <| (h₂.step <| frame_loseRange.step frame_loseRange).step <| frame_bookStart.step <| frame_modFill.step frame_refreshAll

theorem Module.frame_latch_ctx : Frame [.ctx, .host] m (Module.latch m c) := by
  unfold Module.latch
  extract_lets _ m₁
  have h₁ : Frame [.ctx] m m₁ := frame_setCtx
  exact (h₁.mono (by decide)).trans <| .foldl fun m p => .ite (frame_modReq.mono (by decide)) (.refl _ m)

theorem Module.frame_fillFails : Frame [.regs, .ctx] m (m.fillFails f next) :=
  .mono (by decide) <| (frame_setBank.step frame_reg).step frame_ctx

theorem Module.frame_fillPoisoned : Frame [.regs, .ctx, .host] m (m.fillPoisoned f) := by
  have hlatch : Frame [.regs, .ctx, .host] m (Module.latch (m.fillFails f []) f.ctx) :=
    .mono (by decide) <| frame_fillFails.step frame_latch_ctx
  unfold Module.fillPoisoned
  split
  · exact .ite hlatch (frame_fillFails.mono (by decide))
  · exact hlatch

theorem Module.frame_fillStep : Frame [.free, .out, .regs, .dev, .sram, .saf, .tines, .ctx, .host] m (m.fillStep s b e) := by
  unfold Module.fillStep
  split
  · exact .refl _ m
  next i _ =>
  split
  · exact .refl _ m
  next f _ =>
  extract_lets x sl
  refine .ite (.refl _ m) ?_
  split
  next a from_ _ =>
  split
  next d bad m₁ hread =>
  have h₁ : Frame [.out, .regs, .dev, .saf, .host] m m₁ := by
    obtain rfl : _ = m₁ := congrArg (fun p => p.2.2) hread
    split
    · exact frame_meshPath.mono (by decide)
    · exact frame_devReadVia
  extract_lets m₂ m₃
  have h₃ : Frame [.free, .regs, .sram, .tines] m₁ m₃ := .mono (by decide) <| frame_twrite.step <| .either frame_reg .rfl
  exact .ite (.mono (by decide) <| h₁.step frame_fillPoisoned) (.mono (by decide) <| h₁.step <| h₃.step frame_modFill)

theorem Module.frame_recache : Frame [.out, .regs, .dev, .saf, .ctx, .host] m (m.recache c src) := by
  unfold Module.recache
  extract_lets x
  split
  · split
    · exact .mono (by decide) <| frame_copyImage.step frame_setCtx
    · exact .refl _ m
  · exact .refl _ m

theorem Module.frame_fillFaulted : Frame [.out, .regs, .saf, .tines, .ctx] m (m.fillFaulted f) := by
  unfold Module.fillFaulted
  split
  · exact .mono (by decide) <| frame_fillFails.step <| frame_newFault.step frame_retire
  · exact frame_fillFails.mono (by decide)

theorem Module.frame_fillEnd : Frame [.out, .regs, .dev, .saf, .tines, .ctx, .host, .pair] m (m.fillEnd s b) := by
  unfold Module.fillEnd
  split
  · exact .refl _ m
  next i _ =>
  split
  · exact .refl _ m
  next f _ =>
  extract_lets x tag m₁ _ m₂ m₃
  have h₁ : Frame [.regs, .tines] m m₁ := .mono (by decide) <| (frame_setBank.step frame_reg).step frame_modTine
  have h₂ : Frame [.ctx] m₁ m₂ := frame_ctx
  have h₃ : Frame [.regs] m₂ m₃ := .ite frame_reg (.refl _ m₂)
  refine .ite ?_ (.mono (by decide) <| (frame_bankEvent.step frame_fillFaulted).step frame_refreshAll)
  exact .mono (by decide) <| (h₁.step <| h₂.step h₃).step <| (frame_recache.step frame_refreshAll).step frame_pokeWaiters

theorem Module.frame_fillAbort : Frame [.regs, .ctx] m (m.fillAbort s b) := by
  unfold Module.fillAbort
  exact .mono (by decide) <| .either (frame_dropFills.step frame_refreshAll) .rfl

/-! ### Bank switches -/

theorem Module.frame_of_sramGranules {m₁ : Module} {x : List Nat} {fs : List (Nat × Nat)} (h : m.sramGranules s n a = (x, fs, m₁)) :
    Frame readKinds m m₁ := by
  have hread := frame_sramGranules (s := s) n m a
  rwa [h] at hread

theorem Module.frame_switchEnd : Frame remapKinds m (m.switchEnd s env) := by
  unfold Module.switchEnd
  refine .ite (.refl _ m) ?_
  extract_lets m₀ b old
  have h₀ : Frame [.sram] m m₀ := frame_sram
  split
  next h f₁ m₁ hread₁ =>
  split
  next w f₂ m₂ hread₂ =>
  have h₂ : Frame remapKinds m m₂ :=
    .mono (by decide) <| h₀.step <| frame_remap.step <| (frame_of_sramGranules hread₁).step (frame_of_sramGranules hread₂)
  extract_lets m₃ ok m₄ m₅ m₆ m₇
  have h₃ : Frame [.sram, .tines] m₂ m₃ := frame_loseRange
  have hbanks : Frame [.regs] m₃ m₄ := (Frame.ite (.refl _ m₃) frame_setBank).trans frame_reg
  have h₅ : Frame remapKinds m m₅ := h₂.trans <| .mono (by decide) <| h₃.step <| hbanks.step frame_modTine
  have hbank {v r : Nat} : Frame [.regs] m₅ ((m₅.setBank s b v).wr Reg.tineBankStatus_runningBank r [s]) :=
    frame_setBank.trans frame_reg
  have h₆ : Frame remapKinds m m₆ := h₅.trans <| hbank.mono (by decide)
  have h₇ : Frame remapKinds m m₇ := h₅.trans <| hbank.mono (by decide)
  split
  · split
    · exact h₆.trans <| frame_startStage.mono (by decide)
    · exact h₆
  · split
    split
    · exact h₇.trans <| .mono (by decide) <| frame_modTine.step <| frame_stageFault.step frame_refreshAll
    · exact h₇.trans <| frame_refreshAll.mono (by decide)

end Fills

end Sys2Proof.Machine
end

section
/-! PROOFS. Frames of the site commands (R86, R91, R95), and their completion. -/

namespace Sys2Proof.Machine

section Sites
variable {m : Module} {s t : Nat} {pass : Bool}

theorem Module.frame_siteOn : Frame [.regs, .seqs, .seqWait] m (m.siteOn s) := frame_seqStart.trans frame_seqStart

theorem Module.frame_startTest : Frame [.regs, .tines, .seqs, .seqWait] m (m.startTest s) :=
  .mono (by decide) <| (frame_reg.step frame_modTine).step frame_siteOn

theorem Module.frame_spareCalled : Frame [.out, .regs, .saf, .tines, .seqs, .seqWait] m (m.spareCalled s) := by
  unfold Module.spareCalled
  exact .mono (by decide) <| .either (frame_startTest.step frame_alerts) .rfl

theorem Module.frame_siteReturns : Frame [.out, .regs, .saf] m (m.siteReturns s) := .mono (by decide) <| frame_saf.step frame_report

theorem Module.frame_writeFormats : Frame [.sram] m (m.writeFormats s) := .iter fun _ _ => frame_sram

theorem Module.frame_siteActive : Frame [.regs, .sram, .tines] m (m.siteActive s) := by
  unfold Module.siteActive
  extract_lets m₁
  have h₁ : Frame [.regs] m m₁ := ((frame_reg.trans frame_reg).trans frame_reg).trans frame_reg
  exact .mono (by decide) <| h₁.step <| frame_modTine.step frame_writeFormats

theorem Module.frame_swapMember : Frame [.str] m (m.swapMember s t) := frame_str

theorem Module.frame_freeAll {l : List Nat} : Frame [.regs, .ctx] m ((l.foldl (fun m c => m.freeBanks c true) m).refreshAll) :=
  .mono (by decide) <| (Frame.foldl (ks := [.regs, .ctx]) fun _ _ => frame_freeBanks).step frame_refreshAll

theorem Module.frame_retarget : Frame [.regs, .saf, .ctx, .str] m (m.retarget s) := by
  unfold Module.retarget
  refine .foldl fun m p => ?_
  extract_lets t hit migs fills _ _ _ m₁ m₂
  have h₁ : Frame [.saf, .ctx] m m₁ := frame_saf_ctx
  have h₂ : Frame [.saf, .ctx, .str] m m₂ := .mono (by decide) <| h₁.step frame_swapMember
  exact .ite (.mono (by decide) <| h₂.step frame_refreshAll) (.mono (by decide) <| h₂.step frame_freeAll)

theorem Module.frame_entryTest : Frame [.out, .regs, .sram, .saf, .tines, .ctx, .str, .seqs, .seqWait] m (m.entryTest s pass) := by
  unfold Module.entryTest
  extract_lets back m₁
  have h₁ : Frame [.out, .regs, .saf] m m₁ := .ite frame_siteReturns (.refl _ m)
  refine .ite (.refl _ m) <| .ite (.ite (.mono (by decide) <| h₁.step frame_siteActive) ?spare) ?failed
  case spare => exact .mono (by decide) <| h₁.step <| (frame_reg.step frame_modTine).step frame_siteOff
  case failed =>
    have hfault : Frame [.regs, .saf] m (m.set1 Reg.tineFault_entryTestFail [s]).newFault.2 := frame_reg.step frame_newFault
    exact .mono (by decide) <| hfault.step <| (frame_retireNow.step frame_siteOff).step <| frame_retarget.step frame_alerts

theorem Module.frame_park : Frame [.regs, .seqs, .seqWait] m (m.park s) := by
  unfold Module.park
  exact .mono (by decide) <| .either (frame_reg.step frame_seqStart) .rfl

theorem Module.frame_clearWork : Frame [.sram, .tines] m (m.clearWork s) := .mono (by decide) <| frame_sram.step frame_modTine

theorem Module.frame_wake : Frame [.regs, .sram, .tines, .seqs, .seqWait] m (m.wake s) := by
  unfold Module.wake
  exact .mono (by decide) <| .either ((frame_reg.step frame_modTine).step <| frame_clearWork.step frame_seqStart) .rfl

theorem Module.frame_migrate : Frame [.regs, .ctx, .str] m (m.migrate s) := by
  unfold Module.migrate
  split
  · exact .refl _ m
  next g _ =>
  extract_lets hit first m₁ _ m₂ fills
  have h₁ : Frame [.regs, .ctx, .str] m m₁ := .mono (by decide) <| frame_dropFills.step frame_swapMember
  have h₂ : Frame [.regs, .ctx, .str] m m₂ := h₁.trans <| frame_ctx.mono (by decide)
  exact .ite (h₂.trans <| frame_freeAll.mono (by decide)) (h₂.trans <| .mono (by decide) <| frame_ctx.step frame_refreshAll)

theorem Module.frame_uncover : Frame [.host] m (m.uncover s) := frame_host

theorem Module.frame_migrationStart : Frame [.out, .regs, .saf, .tines, .mesh, .ctx, .host, .str] m (m.migrationStart s) := by
  unfold Module.migrationStart
  refine .ite ?_ (.refl _ m)
  refine .trans (.mono (by decide) <| (frame_migrate.step frame_charge).step frame_uncover) <| .foldl fun m id => ?_
  exact .mono (by decide) <| frame_restart.step frame_reg

theorem Module.frame_migrated : Frame [.regs, .saf, .ctx] m (m.migrated s) := by
  unfold Module.migrated
  split
  · exact .refl _ m
  extract_lets _ m₁
  have h₁ : Frame [.ctx] m m₁ := frame_ctx
  exact .ite (.refl _ m) <| .mono (by decide) <| h₁.step <| .either frame_retired .rfl

theorem Module.frame_migrationDone : Frame [.out, .regs, .saf, .ctx, .seqs, .seqWait] m (m.migrationDone s) := by
  have h₁ : Frame [.regs, .saf, .ctx] m (m.migrated s) := frame_migrated
  exact .mono (by decide) <| h₁.step <| .either (frame_siteOff.step frame_alerts) .rfl

end Sites

/-- Settles O49, each command by the frame of its operation; commands that change nothing are log entry 4. -/
theorem siteAndBankCommandsComplete : Obligations.SiteAndBankCommandsComplete := fun s =>
  ⟨fun site h => completesIn_of_frame (exec_stageFaultReport site s) rfl h Module.frame_faultReport,
    completesIn_of_frame (exec_tileChecksumRecheck s) rfl rfl Module.frame_recheckTile,
    fun site h => completesIn_of_frame (exec_stageEndReport site s) rfl h Module.frame_endReport,
    fun req => completesIn_of_frame (exec_stageDispatch req s) rfl rfl Module.frame_dispatchStage,
    fun site x h => completesIn_of_frame (exec_streamFlit site x s) rfl h Module.frame_streamFlit,
    fun fill => completesIn_of_frame (exec_fillStart fill s) rfl rfl Module.frame_fillStart,
    fun site x h => completesIn_of_frame (exec_fillGranule site x s) rfl h Module.frame_fillStep,
    fun site bank h => completesIn_of_frame (exec_fillEnd site bank s) rfl h Module.frame_fillEnd,
    fun site bank h => completesIn_of_frame (exec_fillAbort site bank s) rfl h Module.frame_fillAbort,
    fun site env h => completesIn_of_frame (exec_bankSwitchEnd site env s) rfl h Module.frame_switchEnd,
    fun site h => completesIn_of_frame (exec_spareCalled site s) rfl h Module.frame_spareCalled,
    fun site pass h => completesIn_of_frame (exec_entryTestDone site pass s) rfl h Module.frame_entryTest,
    fun site h => completesIn_of_frame (exec_parkCommand site s) rfl h Module.frame_park,
    fun site h => completesIn_of_frame (exec_wakeCommand site s) rfl h Module.frame_wake,
    fun site h => completesIn_of_frame (exec_migrationStart site s) rfl h Module.frame_migrationStart,
    fun site h => completesIn_of_frame (exec_migrationDone site s) rfl h Module.frame_migrationDone,
    fun site h => completesIn_of_frame (exec_tineCntClrActivity site s) rfl h Module.frame_modTine,
    fun site h => completesIn_of_frame (exec_tineCntClrCheckfield site s) rfl h Module.frame_reg,
    fun site h => completesIn_of_frame (exec_tineCntClrCorr site s) rfl h Module.frame_reg⟩

end Sys2Proof.Machine
end

section
/-! PROOFS. The Tine registers that records, sequences and switches leave alone (R88, R91, R407). -/

namespace Sys2Proof.Machine

/-! ### Keys of the fields of a Tine's page -/

section Keys
variable {base lo width s : Nat} {ty : Access} {reset : ResetVal}

/-- Tine pages are 0x10000 bytes apart (R95). -/
theorem Fld.key_site : Fld.key ⟨base, [(0x10000, 72)], lo, width, ty, reset⟩ [s] = base * 32 + lo + 0x200000 * s := by
  simp only [Fld.key, strideOff]
  omega

theorem key_siteState : Reg.tineState_siteState.key [s] = 0x8000080 + 0x200000 * s := Fld.key_site
theorem key_stageActive : Reg.tineSeqStatus_stageActive.key [s] = 0x800041F + 0x200000 * s := Fld.key_site
theorem key_programFault : Reg.tineFault_programFault.key [s] = 0x8000606 + 0x200000 * s := Fld.key_site
theorem key_entryTestFail : Reg.tineFault_entryTestFail.key [s] = 0x8000600 + 0x200000 * s := Fld.key_site
theorem key_switching : Reg.tineBankStatus_switching.key [s] = 0x8000209 + 0x200000 * s := Fld.key_site
theorem key_runningBank : Reg.tineBankStatus_runningBank.key [s] = 0x8000206 + 0x200000 * s := Fld.key_site
theorem key_bankBState : Reg.tineBankStatus_bankBState.key [s] = 0x8000203 + 0x200000 * s := Fld.key_site
theorem key_bankAState : Reg.tineBankStatus_bankAState.key [s] = 0x8000200 + 0x200000 * s := Fld.key_site

end Keys

/-! ### Records and sequences -/

section TineRegs
variable {a b m : Module} {lo hi q s c v e kind target slots p slot left lim : Nat} {f : Fld} {idx : List Nat} {r : LogRec} {j : SeqJob}

theorem RegsKept.narrow {lo' hi' : Nat} (h : RegsKept lo hi a b) (hl : lo ≤ lo') (hh : hi' ≤ hi) : RegsKept lo' hi' a b :=
  fun q hq hq' => h q (le_trans hl hq) (lt_of_lt_of_le hq' hh)

theorem RegsKept.ite {p : Prop} [Decidable p] (hb : RegsKept lo hi m a) (hc : RegsKept lo hi m b) :
    RegsKept lo hi m (if p then a else b) := by
  split
  · exact hb
  · exact hc

theorem RegsKept.foldl {α : Type} {g : Module → α → Module} {l : List α} (h : ∀ m x, RegsKept lo hi m (g m x)) :
    RegsKept lo hi a (l.foldl g a) :=
  List.foldlRecOn l g (.refl a) fun m hm x _ => hm.trans (h m x)

/-- A field of a register above the range, set. -/
theorem RegsKept.above (h : hi ≤ f.base * 32) : RegsKept lo hi m (m.wr f v idx) := .wr v (.inr (le_trans h (f.base_le_key idx)))

/-- A step changes no register of a Tine's page (R95). -/
abbrev TineRegsKept : Module → Module → Prop := RegsKept (0x400000 * 32) (0x880000 * 32)

theorem Module.tineRegsKept_msix : TineRegsKept m (m.msix 0) :=
  .ite (.refl m) <| .ite (.wr _ (.inl (by decide))) (.of_regs rfl)

theorem Module.tineRegsKept_faultPin : TineRegsKept m m.faultPin := .ite (.refl m) <| .trans (.above (by decide)) (.of_regs rfl)

theorem Module.tineRegsKept_failFast : TineRegsKept m m.failFast :=
  (RegsKept.above (by decide)).trans <| .trans (.above (by decide)) tineRegsKept_faultPin

theorem Module.tineRegsKept_snapTrigger {seq : Nat} : TineRegsKept m (m.snapTrigger v seq) := .ite (.above (by decide)) (.of_regs rfl)

theorem Module.tineRegsKept_recSignal : TineRegsKept m (m.recSignal v) :=
  .ite (.refl m) <| .ite tineRegsKept_msix <| .ite (.of_regs rfl) (.refl m)

theorem Module.tineRegsKept_signal {snaps : Prop} [Decidable snaps] {seq : Nat} :
    TineRegsKept m (if snaps then (m.recSignal v).snapTrigger 3 seq else m.recSignal v) :=
  .ite (tineRegsKept_recSignal.trans tineRegsKept_snapTrigger) tineRegsKept_recSignal

theorem Module.tineRegsKept_pinned (h : TineRegsKept m a) :
    TineRegsKept m (if r.severity = sevFatal then (if r.pin then a.faultPin else a).failFast else if r.pin then a.faultPin else a) := by
  have hpin : TineRegsKept m (if r.pin then a.faultPin else a) := .ite (h.trans tineRegsKept_faultPin) h
  exact .ite (hpin.trans tineRegsKept_failFast) hpin

/-- A record lies outside the Tines' pages: its registers are those of the log, the pins and the interrupt table. -/
theorem Module.tineRegsKept_logRec : TineRegsKept m (m.logRec r) := by
  refine tineRegsKept_pinned ?_
  split
  · exact .of_regs rfl
  · refine .ite ?stored (.ite (.above (by decide)) ?full)
    case stored =>
      exact (RegsKept.of_regs (b := m.storeRec _ _) rfl).trans <| .trans (.above (by decide)) <| .trans (.above (by decide)) tineRegsKept_signal
    case full =>
      split
      · exact (RegsKept.of_regs (b := m.storeRec _ _) rfl).trans tineRegsKept_signal
      · exact .above (by decide)

theorem Module.tineRegsKept_report : TineRegsKept m (m.report r) := (RegsKept.of_regs rfl).trans tineRegsKept_logRec

theorem Module.tineRegsKept_alertKind : TineRegsKept m (m.alertKind kind left lim) := by
  unfold Module.alertKind
  split
  · exact .ite ((RegsKept.of_regs rfl).trans tineRegsKept_report) (.refl m)
  · exact .ite ((RegsKept.of_regs rfl).trans tineRegsKept_report) (.refl m)

theorem Module.tineRegsKept_alerts : TineRegsKept m m.alerts :=
  tineRegsKept_alertKind.trans <| tineRegsKept_alertKind.trans <| tineRegsKept_alertKind.trans tineRegsKept_alertKind

/-! ### Sequences -/

theorem Module.tineRegsKept_presetRing : TineRegsKept m (m.presetRing p slot) := by
  unfold Module.presetRing
  extract_lets m₁
  have htx : TineRegsKept m m₁ := by
    unfold m₁
    split
    · exact .above (by decide)
    · exact .refl m
  split
  · exact htx.trans (.above (by decide))
  · exact htx

theorem Module.tineRegsKept_seqBegin : TineRegsKept m (m.seqBegin e j) := by
  unfold Module.seqBegin
  split
  · exact .refl m
  · exact .ite ((RegsKept.of_regs rfl).trans <| .foldl fun _ _ => tineRegsKept_presetRing) (.of_regs rfl)

theorem Module.tineRegsKept_seqTake : TineRegsKept m (m.seqTake e) := by
  unfold Module.seqTake
  split
  · exact .refl _
  · split
    · exact .refl _
    · exact (RegsKept.of_regs rfl).trans tineRegsKept_seqBegin

theorem Module.tineRegsKept_seqStart : TineRegsKept m (m.seqStart e kind target slots) := (RegsKept.of_regs rfl).trans tineRegsKept_seqTake

theorem Module.tineRegsKept_siteOn : TineRegsKept m (m.siteOn s) := tineRegsKept_seqStart.trans tineRegsKept_seqStart

theorem Module.tineRegsKept_siteOff : TineRegsKept m (m.siteOff s) := tineRegsKept_seqStart.trans tineRegsKept_seqStart

end TineRegs

end Sys2Proof.Machine
end

section
/-! PROOFS. Issue past the end of the program (R88, R93, R115, R118). -/

namespace Sys2Proof.Machine

/-! ### The switch that a stage held -/

section Held
variable {m : Module} {s b d q : Nat} {f : StageFault} {t : Tine}

/-- A Tine whose stage a fault has ended (R93): nothing is accumulated, staged or pending, and the fault is to be reported. That tile
registers, tokens and pending operations go too is the model's choice. -/
structure Tine.Discarded (f : StageFault) (t : Tine) : Prop where
  pend : t.seq.pend = []
  tokens : t.seq.tokens = []
  report : t.report = some (.fault f)
  engines : ∀ e ∈ t.engines, e.2.acc = [] ∧ e.2.buf0 = none ∧ e.2.buf1 = none ∧ e.2.active = none ∧ e.2.shadow = none

theorem discardEngines_spec {l : SMap Engine} : ∀ e ∈ discardEngines l,
    e.2.acc = [] ∧ e.2.buf0 = none ∧ e.2.buf1 = none ∧ e.2.active = none ∧ e.2.shadow = none := by
  intro e he
  obtain ⟨p, -, rfl⟩ := List.mem_map.mp he
  exact ⟨rfl, rfl, rfl, rfl, rfl⟩

/-- A bank event leaves every Tine alone. -/
theorem Module.tine_bankEvent {v ev c : Nat} : (m.bankEvent s v ev c).tine d = m.tine d := by
  have htines : (m.bankEvent s v ev c).tines = m.tines := Module.frame_bankEvent .tines (by decide)
  rw [Module.tine, Module.tine, htines]

/-- A switch that starts discards no less, and is held no longer. -/
theorem Module.discarded_startSwitch (h : (m.tine s).Discarded f) :
    ((m.startSwitch s b).tine s).Discarded f ∧ ((m.startSwitch s b).tine s).heldSwitch = 0 := by
  obtain ⟨hpend, htokens, hreport, hengines⟩ := h
  unfold Module.startSwitch
  split
  · simp only [tine_modTine_same, tine_set1]
    refine ⟨⟨hpend, htokens, hreport, fun e he => ?_⟩, trivial⟩
    obtain ⟨p, hp, rfl⟩ := List.mem_map.mp he
    exact ⟨(hengines p hp).1, rfl, rfl, rfl, rfl⟩
  · simp only [tine_bankEvent, tine_modTine_same]
    exact ⟨⟨hpend, htokens, hreport, hengines⟩, trivial⟩

theorem Module.discarded_takeHeld (h : (m.tine s).Discarded f) :
    ((m.takeHeld s).tine s).Discarded f ∧ ((m.takeHeld s).tine s).heldSwitch = 0 := by
  unfold Module.takeHeld
  split
  next hnone => exact ⟨h, hnone⟩
  · exact discarded_startSwitch h

theorem Module.tine_startSwitch_other (h : d ≠ s) : (m.startSwitch s b).tine d = m.tine d := by
  unfold Module.startSwitch
  split
  · rw [tine_modTine_other h, tine_set1, tine_modTine_other h]
  · rw [tine_bankEvent, tine_modTine_other h]

theorem Module.tine_takeHeld_other (h : d ≠ s) : (m.takeHeld s).tine d = m.tine d := by
  unfold Module.takeHeld
  split
  · rfl
  · exact tine_startSwitch_other h

/-- Of a Tine's page, a switch taken changes SWITCHING alone. -/
theorem Module.regsKept_takeHeld (hl : 0x400000 * 32 ≤ q) (hh : q < 0x880000 * 32) (hq : q ≠ Reg.tineBankStatus_switching.key [s]) :
    RegsKept q (q + 1) m (m.takeHeld s) := by
  have hswitching {m : Module} : RegsKept q (q + 1) m (m.set1 Reg.tineBankStatus_switching [s]) := .wr _ (by omega)
  unfold Module.takeHeld Module.startSwitch
  refine .ite (.refl m) (.ite ?_ ?_)
  · exact (RegsKept.of_regs rfl).trans <| hswitching.trans (.of_regs rfl)
  · exact (RegsKept.of_regs rfl).trans <| tineRegsKept_report.narrow hl (by omega)

end Held

/-! ### A fault of the program -/

section Past
variable {m : Module} {s d op : Nat} {f : StageFault} {env : OpEnv} {is : Nat → Bool} {sem : Nat → Module → OpOut}

/-- A fault of the program strikes no bank. -/
theorem Module.struckBank_of_program (h : f.code < 0x100) : m.struckBank s f = 0 := by
  simp only [Module.struckBank, if_neg (show f.code ≠ 0x100 by omega), if_neg (show f.code ≠ 0x101 by omega), ne_eq, not_true,
    false_and, if_false]

/-- What a fault of the program does before a held switch is taken. -/
def Module.programFault (m : Module) (s : Nat) (f : StageFault) : Module :=
  (((m.set1 Reg.tineFault_programFault [s]).clr Reg.tineSeqStatus_stageActive [s]).modTine s (fun t =>
    { t with engines := discardEngines t.engines, seq := { t.seq with pend := [], wait := .run, opened := false, tokens := [] },
             report := some (.fault f) })).emit (.tineReport s 1 f.code)

theorem Module.stageFault_of_program (h : f.code < 0x100) : m.stageFault s f = (m.programFault s f).takeHeld s := by
  simp only [Module.stageFault, if_pos h, struckBank_of_program h, if_true]
  rfl

theorem Module.issue_past (hi : m.issuing s = true) (hu : env.upsets = [])
    (hp : (m.tine s).seq.disp.words ≤ (m.tine s).seq.nextPc ∨ 4095 < (m.tine s).seq.nextPc) :
    m.issue s env is sem = m.stageFault s (m.flt s 0x0C) := by
  unfold Module.issue
  simp only [hi, hu, List.map_nil, Bool.not_true, Bool.false_eq_true, if_false]
  exact if_pos hp

theorem Module.discarded_programFault : ((m.programFault s f).tine s).Discarded f := by
  simp only [Module.programFault, tine_emit, tine_modTine_same]
  exact ⟨rfl, rfl, rfl, discardEngines_spec⟩

theorem Module.tine_programFault_other (h : d ≠ s) : (m.programFault s f).tine d = m.tine d := by
  simp only [Module.programFault, tine_emit, tine_modTine_other h, tine_clr, tine_set1]

/-- A field of the site's page but SWITCHING, after a fault of the program. -/
theorem Module.rd_stageFault_of_program {g : Fld} (hf : f.code < 0x100) (hl : 0x400000 * 32 ≤ g.key [s]) (hh : g.key [s] < 0x880000 * 32)
    (hg : g.key [s] ≠ Reg.tineBankStatus_switching.key [s]) :
    (m.stageFault s f).rd g [s] = ((m.set1 Reg.tineFault_programFault [s]).clr Reg.tineSeqStatus_stageActive [s]).rd g [s] := by
  rw [stageFault_of_program hf, (regsKept_takeHeld hl hh hg).rd le_rfl (Nat.lt_succ_self _)]
  rfl

/-- A command ends the stage of a site with NO_SBEGIN, as O17 says it. -/
def EndsStage (c : Instr) (s : State) (site : Nat) : Prop :=
  ∃ b, CompletesIn [.out, .regs, .saf, .tines] c s b ∧ b.rd Reg.tineSeqStatus_stageActive [site] = 0 ∧
    b.rd Reg.tineFault_programFault [site] = 1 ∧ (b.tine site).seq.pend = [] ∧ (b.tine site).seq.tokens = [] ∧
    (b.tine site).heldSwitch = 0 ∧ (∃ f, (b.tine site).report = some (.fault f) ∧ f.code = 0x0C) ∧
    (∀ e ∈ (b.tine site).engines, e.2.acc = [] ∧ e.2.buf0 = none ∧ e.2.buf1 = none ∧ e.2.active = none ∧ e.2.shadow = none) ∧
    (∀ d, d ≠ site → b.tine d = s.toModule.tine d)

/-- An operation that issues past the end of the program ends the stage with NO_SBEGIN. -/
theorem endsPast {c : Instr} {s : State} {site : Nat} (hs : isSite site = true) (hi : s.toModule.issuing site = true) (hu : env.upsets = [])
    (hp : (s.toModule.tine site).seq.disp.words ≤ (s.toModule.tine site).seq.nextPc ∨ 4095 < (s.toModule.tine site).seq.nextPc)
    (he : exec c s = s.act (isSite site) (fun m => m.issue site env is sem)) :
    EndsStage c s site := by
  have hsite : site < 72 := of_decide_eq_true hs
  have hcode : (s.toModule.flt site 0x0C).code < 0x100 := show 0x0C < 0x100 by decide
  obtain ⟨hdiscarded, hheld⟩ := Module.discarded_takeHeld (Module.discarded_programFault (m := s.toModule) (s := site) (f := s.toModule.flt site 0x0C))
  rw [← Module.stageFault_of_program hcode] at hdiscarded hheld
  obtain ⟨hpend, htokens, hreport, hengines⟩ := hdiscarded
  refine ⟨s.toModule.stageFault site (s.toModule.flt site 0x0C), completesIn_of_frame he (Module.issue_past hi hu hp) hs Module.frame_stageFault,
    ?active, ?fault, hpend, htokens, hheld, ⟨_, hreport, rfl⟩, hengines, ?others⟩
  case active =>
    rw [Module.rd_stageFault_of_program hcode]
    · exact Module.rd_clr_same _ _ _
    all_goals simp only [key_stageActive, key_switching]; omega
  case fault =>
    have hother : Reg.tineFault_programFault.key [site] ≠ Reg.tineSeqStatus_stageActive.key [site] := by
      simp only [key_programFault, key_stageActive]
      omega
    rw [Module.rd_stageFault_of_program hcode, Module.rd_clr_other hother]
    · exact Module.rd_set1_same _ _ _
    all_goals simp only [key_programFault, key_switching]; omega
  case others =>
    intro d hd
    rw [Module.stageFault_of_program hcode, Module.tine_takeHeld_other hd, Module.tine_programFault_other hd]

theorem endsPastOp {c : Instr} {s : State} {site : Nat} (hs : isSite site = true) (hi : s.toModule.issuing site = true)
    (hu : env.upsets = [])
    (hp : (s.toModule.tine site).seq.disp.words ≤ (s.toModule.tine site).seq.nextPc ∨ 4095 < (s.toModule.tine site).seq.nextPc)
    (he : exec c s = s.act (isSite site) (fun m => m.issueOp site op env sem)) : EndsStage c s site :=
  endsPast hs hi hu hp he

end Past

/-- Settles O17, each command by its equation: whatever the operation, the issue ends the stage. -/
theorem issuePastTheProgramEndsTheStage : Obligations.IssuePastTheProgramEndsTheStage := by
  intro s site env hs hi hu hp
  simp only [List.forall_mem_cons]
  exact ⟨endsPast hs hi hu hp (exec_reservedOpcode site env s),
    endsPastOp hs hi hu hp (exec_tload site env s),
    endsPastOp hs hi hu hp (exec_astage site env s),
    endsPastOp hs hi hu hp (exec_stream site env s),
    endsPastOp hs hi hu hp (exec_wset site env s),
    endsPastOp hs hi hu hp (exec_drain site env s),
    endsPastOp hs hi hu hp (exec_drainw site env s),
    endsPastOp hs hi hu hp (exec_padd site env s),
    endsPastOp hs hi hu hp (exec_pdrain site env s),
    endsPastOp hs hi hu hp (exec_vadd site env s),
    endsPastOp hs hi hu hp (exec_vsub site env s),
    endsPastOp hs hi hu hp (exec_vmul site env s),
    endsPastOp hs hi hu hp (exec_vfma site env s),
    endsPastOp hs hi hu hp (exec_vmin site env s),
    endsPastOp hs hi hu hp (exec_vmax site env s),
    endsPastOp hs hi hu hp (exec_vlogic site env s),
    endsPastOp hs hi hu hp (exec_vshift site env s),
    endsPastOp hs hi hu hp (exec_vcmp site env s),
    endsPastOp hs hi hu hp (exec_vsel site env s),
    endsPastOp hs hi hu hp (exec_vreduce site env s),
    endsPastOp hs hi hu hp (exec_vgather site env s),
    endsPastOp hs hi hu hp (exec_vscatter site env s),
    endsPastOp hs hi hu hp (exec_vfill site env s),
    endsPastOp hs hi hu hp (exec_cload site env s),
    endsPastOp hs hi hu hp (exec_ceval site env s),
    endsPastOp hs hi hu hp (exec_fdecode site env s),
    endsPastOp hs hi hu hp (exec_fencode site env s),
    endsPastOp hs hi hu hp (exec_freblock site env s),
    endsPastOp hs hi hu hp (exec_ftile site env s),
    endsPastOp hs hi hu hp (exec_send site env s),
    endsPastOp hs hi hu hp (exec_recv site env s),
    endsPastOp hs hi hu hp (exec_dmard site env s),
    endsPastOp hs hi hu hp (exec_dmawr site env s),
    endsPastOp hs hi hu hp (exec_copy site env s),
    endsPastOp hs hi hu hp (exec_input site env s),
    endsPastOp hs hi hu hp (exec_output site env s),
    endsPastOp hs hi hu hp (exec_nop site env s),
    endsPastOp hs hi hu hp (exec_sbegin site env s),
    endsPastOp hs hi hu hp (exec_setreg site env s),
    endsPastOp hs hi hu hp (exec_addreg site env s),
    endsPastOp hs hi hu hp (exec_loop site env s),
    endsPastOp hs hi hu hp (exec_brcnt site env s),
    endsPastOp hs hi hu hp (exec_jump site env s),
    endsPastOp hs hi hu hp (exec_barrier site env s),
    endsPastOp hs hi hu hp (exec_sync site env s),
    endsPastOp hs hi hu hp (exec_cschk site env s),
    endsPastOp hs hi hu hp (exec_relmark site env s),
    endsPastOp hs hi hu hp (exec_trap site env s),
    endsPastOp hs hi hu hp (exec_eos site env s),
    List.forall_mem_nil _⟩

end Sys2Proof.Machine
end

section
/-! PROOFS. Entry tests decide a site (R91). -/

namespace Sys2Proof.Machine

/-! ### What keeps a site's state and its entry test's fault -/

section Kept
variable {a b m : Module} {s q c v bank cause f : Nat} {p : Fill → Bool} {again : Bool}

/-- The key q lies on a Tine's page, outside the states of its banks. -/
structure OffBanks (q : Nat) : Prop where
  low : 0x400000 * 32 ≤ q
  high : q < 0x880000 * 32
  bankA : q % 0x200000 ≠ 0x200
  bankB : q % 0x200000 ≠ 0x203

theorem OffBanks.kept (h : OffBanks q) (hk : TineRegsKept a b) : RegsKept q (q + 1) a b :=
  hk.narrow h.low h.high

theorem offBanks_siteState (h : s < 72) : OffBanks (Reg.tineState_siteState.key [s]) := by
  rw [key_siteState]
  constructor <;> omega

theorem offBanks_entryTestFail (h : s < 72) : OffBanks (Reg.tineFault_entryTestFail.key [s]) := by
  rw [key_entryTestFail]
  constructor <;> omega

/-- The states of the banks of any site, set. -/
theorem OffBanks.regsKept_setBank (h : OffBanks q) : RegsKept q (q + 1) m (m.setBank s bank v) := by
  obtain ⟨-, -, hA, hB⟩ := h
  have hkeyA : Reg.tineBankStatus_bankAState.key [s] < q ∨ q + 1 ≤ Reg.tineBankStatus_bankAState.key [s] := by
    rw [key_bankAState]
    omega
  have hkeyB : Reg.tineBankStatus_bankBState.key [s] < q ∨ q + 1 ≤ Reg.tineBankStatus_bankBState.key [s] := by
    rw [key_bankBState]
    omega
  exact .ite (.wr _ hkeyA) (.wr _ hkeyB)

theorem OffBanks.regsKept_dropFills (h : OffBanks q) : RegsKept q (q + 1) m (m.dropFills p) := by
  unfold Module.dropFills
  extract_lets m₁
  have h₁ : RegsKept q (q + 1) m m₁ := .foldl fun m x => .ite h.regsKept_setBank (.refl m)
  exact h₁.trans (.of_regs rfl)

theorem OffBanks.regsKept_freeBanks (h : OffBanks q) : RegsKept q (q + 1) m (m.freeBanks c again) :=
  h.regsKept_dropFills.trans (.of_regs rfl)

theorem Module.regs_refreshAll : m.refreshAll.regs = m.regs := Module.frame_refreshAll .regs (by decide)

theorem OffBanks.regsKept_retarget (h : OffBanks q) : RegsKept q (q + 1) m (m.retarget s) := by
  unfold Module.retarget
  refine .foldl fun m p => ?_
  extract_lets t hit migs fills _ _ _ m₁ m₂
  have h₂ : RegsKept q (q + 1) m m₂ := .of_regs rfl
  refine .ite (h₂.trans (.of_regs Module.regs_refreshAll)) ?_
  exact h₂.trans <| .trans (.foldl fun _ _ => h.regsKept_freeBanks) (.of_regs Module.regs_refreshAll)

/-! ### A site that leaves or enters service -/

/-- A field of the site's page that is not one of those a retirement sets. -/
theorem Module.rd_retired_other {g : Fld} (hstate : g.key [s] ≠ Reg.tineState_siteState.key [s])
    (hA : g.key [s] ≠ Reg.tineBankStatus_bankAState.key [s]) (hB : g.key [s] ≠ Reg.tineBankStatus_bankBState.key [s])
    (hrun : g.key [s] ≠ Reg.tineBankStatus_runningBank.key [s]) (hactive : g.key [s] ≠ Reg.tineSeqStatus_stageActive.key [s]) :
    (m.retired s cause).rd g [s] = m.rd g [s] :=
  calc (m.retired s cause).rd g [s]
    _ = ((((m.wr Reg.tineState_siteState 5 [s]).wr Reg.tineBankStatus_bankAState 0 [s]).wr Reg.tineBankStatus_bankBState 0 [s]).wr
          Reg.tineBankStatus_runningBank 0 [s]).rd g [s] := rd_clr_other hactive _
    _ = m.rd g [s] := by rw [rd_wr_other hrun, rd_wr_other hB, rd_wr_other hA, rd_wr_other hstate]

/-- The state of a site set, and then its banks emptied. -/
theorem Module.siteState_emptied : ((((m.wr Reg.tineState_siteState v [s]).wr Reg.tineBankStatus_bankAState 0 [s]).wr
    Reg.tineBankStatus_bankBState 0 [s]).wr Reg.tineBankStatus_runningBank 0 [s]).siteState s = v % 8 := by
  rw [siteState, rd_wr_other, rd_wr_other, rd_wr_other, rd_wr_same]
  · rfl
  all_goals simp only [key_siteState, key_bankAState, key_bankBState, key_runningBank]; omega

theorem Module.siteState_retired : (m.retired s cause).siteState s = 5 := by
  have hactive : Reg.tineState_siteState.key [s] ≠ Reg.tineSeqStatus_stageActive.key [s] := by
    rw [key_siteState, key_stageActive]
    omega
  exact (rd_clr_other hactive _).trans siteState_emptied

theorem Module.entryTestFail_retired : (m.retired s cause).rd Reg.tineFault_entryTestFail [s] = m.rd Reg.tineFault_entryTestFail [s] := by
  apply rd_retired_other
  all_goals
    simp only [key_entryTestFail, key_siteState, key_bankAState, key_bankBState, key_runningBank, key_stageActive]
    omega

/-- A site under test that retires was in no service. -/
theorem Module.retireNow_testing (h : m.siteState s = 1) : ∃ r, m.retireNow s cause f =
    ((m.modTine s (fun t => { t with cause := cause, faultId := f })).retired s cause).logRec r := by
  have hused : ¬(m.siteState s = 2 ∨ m.siteState s = 3) := by omega
  simp only [Module.retireNow, if_neg (show m.siteState s ≠ 5 by omega), decide_eq_true_eq, if_neg hused]
  exact ⟨_, rfl⟩

/-- A site that has failed its entry test, retired: the step of the test before its record, its sequences and its substitutes. -/
def Module.failedSite (m : Module) (s : Nat) : Module :=
  let (f, m1) := (m.set1 Reg.tineFault_entryTestFail [s]).newFault
  (m1.modTine s (fun t => { t with cause := 0, faultId := f })).retired s 0

theorem Module.entryTestFail_failedSite : (m.failedSite s).rd Reg.tineFault_entryTestFail [s] = 1 :=
  entryTestFail_retired.trans (rd_set1_same _ _ _)

theorem Module.siteState_failedSite : (m.failedSite s).siteState s = 5 := siteState_retired

/-- What follows the retirement keeps the site's state and its fault. -/
theorem OffBanks.regsKept_entryTest (h : OffBanks q) (hs : m.siteState s = 1) : RegsKept q (q + 1) (m.failedSite s) (m.entryTest s false) := by
  have hfault : Reg.tineState_siteState.key [s] ≠ Reg.tineFault_entryTestFail.key [s] := by
    rw [key_siteState, key_entryTestFail]
    omega
  have htested : (m.set1 Reg.tineFault_entryTestFail [s]).newFault.2.siteState s = 1 := (Module.rd_set1_other hfault m).trans hs
  obtain ⟨r, hr⟩ := Module.retireNow_testing (cause := 0) (f := (m.set1 Reg.tineFault_entryTestFail [s]).newFault.1) htested
  have hrun : m.entryTest s false = ((((m.failedSite s).logRec r).siteOff s).retarget s).alerts := by
    simp only [Module.entryTest, hs, ne_eq, not_true_eq_false, if_false, Bool.false_eq_true, hr]
    rfl
  rw [hrun]
  exact (h.kept Module.tineRegsKept_logRec).trans <| (h.kept Module.tineRegsKept_siteOff).trans <|
    h.regsKept_retarget.trans <| h.kept Module.tineRegsKept_alerts

theorem Module.siteState_siteActive : (m.siteActive s).siteState s = 2 := by
  unfold Module.siteActive
  extract_lets m₁
  have hregs {t : Tine → Tine} : ((m₁.modTine s t).writeFormats s).regs = m₁.regs := frame_writeFormats .regs (by decide)
  rw [siteState, rd, hregs]
  exact siteState_emptied (v := 2)

/-- A site that passes its entry test is ACTIVE, or SPARE. -/
theorem Module.siteState_entryTest (h : s < 72) (hs : m.siteState s = 1) :
    (m.entryTest s true).siteState s = 2 ∨ (m.entryTest s true).siteState s = 0 := by
  unfold Module.entryTest
  extract_lets back m₁
  rw [if_neg (not_not.mpr hs), if_pos rfl]
  split
  · exact .inl siteState_siteActive
  · have hkept := (offBanks_siteState h).kept (tineRegsKept_siteOff
      (m := (m₁.wr Reg.tineState_siteState 0 [s]).modTine s (fun t => { t with tested := true })) (s := s))
    exact .inr <| (hkept.rd le_rfl (Nat.lt_succ_self _)).trans (rd_wr_same _ _ _ _)

/-- A spare site that is called is under test. -/
theorem Module.siteState_spareCalled (h : s < 72) (hs : m.siteState s = 0) : (m.spareCalled s).siteState s = 1 := by
  have hkept := ((offBanks_siteState h).kept tineRegsKept_siteOn).trans <|
    (offBanks_siteState h).kept (tineRegsKept_alerts (m := m.startTest s))
  rw [spareCalled, if_pos ⟨h, hs⟩]
  exact (hkept.rd le_rfl (Nat.lt_succ_self _)).trans (rd_wr_same _ _ _ _)

end Kept

/-- Settles O25: what a test does after it sets the site's state changes no field of it. That a site in another state is left alone
is log entry 4. -/
theorem entryTestsDecideASite : Obligations.EntryTestsDecideASite := by
  intro s site hs
  have hsite : site < 72 := of_decide_eq_true hs
  refine ⟨fun h0 => ?called, fun h0 => ?notSpare, fun h1 pass => ?notTesting, fun h1 => ?failed, fun h1 => ?passed⟩
  case notSpare => exact exec_of_act_same (exec_spareCalled site s) (if_neg fun h => h0 h.2)
  case notTesting => exact exec_of_act_same (exec_entryTestDone site pass s) (if_pos h1)
  case called =>
    exact ⟨_, completesIn_of_frame (exec_spareCalled site s) rfl hs Module.frame_spareCalled, Module.siteState_spareCalled hsite h0⟩
  case failed =>
    have hstate := (offBanks_siteState hsite).regsKept_entryTest h1
    have hfault := (offBanks_entryTestFail hsite).regsKept_entryTest h1
    exact ⟨_, completes_of_act (exec_entryTestDone site false s) hs,
      (hstate.rd le_rfl (Nat.lt_succ_self _)).trans Module.siteState_failedSite,
      (hfault.rd le_rfl (Nat.lt_succ_self _)).trans Module.entryTestFail_failedSite⟩
  case passed => exact ⟨_, completes_of_act (exec_entryTestDone site true s) hs, Module.siteState_entryTest hsite h1⟩

end Sys2Proof.Machine
end

section
/-! PROOFS. Control operations move the sequencer (R97, R115). -/

namespace Sys2Proof.Machine

/-! ### Registers of the sequencer -/

section Registers
variable {q : Seqr} {n r v : Nat}

@[simp] theorem Seqr.reg_withNextPc {p : Nat} : ({ q with nextPc := p } : Seqr).reg n = q.reg n := rfl

@[simp] theorem Seqr.nextPc_setReg : (q.setReg r v).nextPc = q.nextPc := by
  simp only [setReg, apply_ite Seqr.nextPc, ite_self]

/-- A counter that is written keeps the low 32 bits (R97). -/
theorem Seqr.reg_setReg_counter (h : 1 ≤ r) (h' : r < 16) : (q.setReg r v).reg r = v % 2 ^ 32 := by
  simp only [setReg, reg, if_neg (show r ≠ 0 by omega), if_pos h', SMap.get_ins_same]

/-- A counter that is written leaves the other registers alone. -/
theorem Seqr.reg_setReg_counter_other (h : 1 ≤ r) (h' : r < 16) (hn : n ≠ r) : (q.setReg r v).reg n = q.reg n := by
  simp only [setReg, reg, if_neg (show r ≠ 0 by omega), if_pos h', SMap.get_ins_other hn]

end Registers

/-! ### LOOP -/

section Loop
variable {q : Seqr} {n r target : Nat}

/-- What LOOP does to the sequencer: the function that `Module.loop` applies. -/
def Seqr.loopTo (q : Seqr) (r target : Nat) : Seqr :=
  let c := q.reg r
  if c = 0 then q
  else
    let q1 := q.setReg r (c - 1)
    if q1.reg r = 0 then q1 else { q1 with nextPc := target }

theorem Module.loop_eq (m : Module) (s w : Nat) : m.loop s w = m.ctrl s (fun q => q.loopTo (kReg w) (kTarget w)) := rfl

/-- Of the registers, LOOP writes the count alone, whether it jumps or not; a count of 0 it does not write. -/
theorem Seqr.reg_loopTo : (q.loopTo r target).reg n = if q.reg r = 0 then q.reg n else (q.setReg r (q.reg r - 1)).reg n := by
  unfold loopTo
  extract_lets c q1
  split
  · rfl
  · split <;> rfl

theorem Seqr.reg_loopTo_same (h : 1 ≤ r) (h' : r < 16) : (q.loopTo r target).reg r = (q.reg r - 1) % 2 ^ 32 := by
  rw [reg_loopTo, reg_setReg_counter h h']
  split
  next hzero => simp only [hzero, Nat.zero_sub, Nat.zero_mod]
  next => rfl

theorem Seqr.reg_loopTo_other (h : 1 ≤ r) (h' : r < 16) (hn : n ≠ r) : (q.loopTo r target).reg n = q.reg n := by
  rw [reg_loopTo, reg_setReg_counter_other h h' hn, ite_self]

/-- LOOP jumps while more than one pass is left. -/
theorem Seqr.nextPc_loopTo (h : 1 ≤ r) (h' : r < 16) (hc : q.reg r < 2 ^ 32) :
    (q.loopTo r target).nextPc = if q.reg r ≤ 1 then q.nextPc else target := by
  have hleft : (q.reg r - 1) % 2 ^ 32 = q.reg r - 1 := Nat.mod_eq_of_lt (by omega)
  simp only [loopTo, reg_setReg_counter h h', hleft]
  split
  next hzero => rw [if_pos (by omega)]
  next =>
    split
    next hlast => rw [if_pos (by omega), nextPc_setReg]
    next hmore => rw [if_neg (by omega)]

end Loop

/-! ### Operations of the sequencer alone -/

section Control
variable {m : Module} {c : Instr} {s : State} {site op w : Nat} {env : OpEnv} {f : Nat → Seqr → Seqr}

theorem Module.frame_issued : Frame [.regs, .tines] m (m.issued site) := frame_reg.step frame_modSeq

/-- The sequencer as an operation's meaning finds it has gone on to the next word. -/
theorem Module.seq_issued : ((m.issued site).tine site).seq = { (m.tine site).seq with nextPc := (m.tine site).seq.nextPc + 1 } := by
  rw [issued, tine_modSeq_same, tine_wr]

/-- An operation of the sequencer alone has no fault and leaves nothing pending. -/
theorem Module.afterOp_ctrl (h : opOf w < 0x20) : m.afterOp site w env (fun w m => m.ctrl site (f w)) = m.modSeq site (f w) :=
  if_pos h

/-- On a site that stands ready, an operation of the sequencer alone changes the sequencer that has gone on to the next word, and
outside the fields and the Tines nothing. -/
theorem ctrl_of_ready (he : exec c s = s.act (isSite site) (fun m => m.issueOp site op env (fun w m => m.ctrl site (f w))))
    (hop : op < 0x20) (h : isSite site = true) (hr : s.toModule.readyFor site env op w) :
    ∃ b, CompletesIn [.regs, .tines] c s b ∧
      (b.tine site).seq = f w { (s.toModule.tine site).seq with nextPc := (s.toModule.tine site).seq.nextPc + 1 } := by
  have hcontrol : opOf w < 0x20 := by
    obtain ⟨-, -, -, -, -, -, hopOf, -⟩ := hr
    rwa [hopOf]
  have hrun := completes_of_ready he h hr
  rw [Module.afterOp_ctrl hcontrol] at hrun
  refine ⟨_, ⟨hrun, Module.frame_issued.trans (Module.frame_modSeq.mono (by decide))⟩, ?_⟩
  rw [Module.tine_modSeq_same, Module.seq_issued]

end Control

/-- Settles O16: each operation is what it does to the sequencer that has gone on to the next word. -/
theorem controlOperationsMoveTheSequencer : Obligations.ControlOperationsMoveTheSequencer := by
  intro s site env w hs q
  refine ⟨ctrl_of_ready (exec_setreg site env s) (by decide) hs, ctrl_of_ready (exec_addreg site env s) (by decide) hs, ?loop, ?brcnt,
    ctrl_of_ready (exec_jump site env s) (by decide) hs⟩
  case loop =>
    intro hr hlo hhi
    have hloop := exec_loop site env s
    simp only [loopOp, Module.loop_eq] at hloop
    obtain ⟨b, hb, hseq⟩ := ctrl_of_ready hloop (by decide) hs hr
    refine ⟨b, hb, ?_⟩
    rw [hseq]
    exact ⟨Seqr.reg_loopTo_same hlo hhi, Seqr.nextPc_loopTo (q := { q with nextPc := q.nextPc + 1 }) hlo hhi, fun n hn => Seqr.reg_loopTo_other hlo hhi hn⟩
  case brcnt =>
    intro hr
    obtain ⟨b, hb, hseq⟩ := ctrl_of_ready (exec_brcnt site env s) (by decide) hs hr
    refine ⟨b, hb, hseq.trans ?_⟩
    rw [Seqr.reg_withNextPc]
    split <;> rfl

end Sys2Proof.Machine
end

section
/-! PROOFS. Frames of fabric links and optical ports that go down, come back and train (R278 to R284, R293 to R297, R315 to R324). -/

namespace Sys2Proof.Machine

/-! ### Fabric links -/

section Links
variable {m : Module} {p ev sev fibre map clk msg fid id reason : Nat} {seen : Bool} {detail fields ids : List Nat}

theorem Module.frame_linkRec : Frame [.out, .regs, .saf] m (m.linkRec p ev sev detail) := by
  unfold Module.linkRec
  extract_lets r
  split
  · exact frame_logRec
  · exact frame_report

theorem Module.frame_sendCtl : Frame [.out, .regs, .links] m (m.sendCtl p msg fields) := linkMoves_sendCtl.frame

theorem Module.frame_showLink : Frame [.out, .regs, .links] m (m.showLink p) := linkMoves_showLink.frame

theorem Module.frame_sendInit : Frame [.out, .links] m (m.sendInit p seen) := by
  unfold Module.sendInit
  extract_lets l part occH occD advH advD m₁
  have h₁ : Frame [.out] m m₁ := frame_emit
  exact .ite (h₁.step frame_modLink) (h₁.mono (by decide))

theorem Module.frame_startFresh : Frame [.out, .regs, .links] m (m.startFresh p) := by
  unfold Module.startFresh
  extract_lets m₁ m₂
  have h₂ : Frame [.regs] m₁ m₂ := frame_reg.trans <| frame_reg.trans <| frame_reg.trans <| frame_reg.trans frame_reg
  exact .mono (by decide) <| frame_modLink.step <| h₂.step <| frame_sendInit.step frame_showLink

theorem Module.frame_startResumed : Frame [.out, .regs, .links] m (m.startResumed p) :=
  .mono (by decide) <| frame_modLink.step <| frame_reg.step <| frame_sendInit.step frame_showLink

theorem Module.frame_retrainDelay : Frame [.saf, .host, .links] m (m.retrainDelay p) := by
  unfold Module.retrainDelay
  exact .mono (by decide) <| .either .rfl <| frame_portFault.step frame_charge

theorem Module.frame_reinit : Frame [.out, .regs, .saf, .host, .links] m (m.reinit p) :=
  .mono (by decide) <| .either (frame_retrainDelay.step frame_startResumed) .rfl

theorem Module.frame_reinitAsk : Frame [.out, .regs, .saf, .host, .links] m (m.reinitAsk p) :=
  .mono (by decide) <| frame_sendCtl.step frame_reinit

theorem Module.frame_setMap : Frame [.regs] m (m.setMap p fibre map) := .ite (frame_reg.trans frame_reg) (frame_reg.trans frame_reg)

theorem Module.frame_startMap : Frame [.free, .out, .regs, .links] m (m.startMap p fibre map clk) := by
  unfold Module.startMap
  refine .ite (.refl _ m) ?_
  extract_lets l led
  clear_value led
  cases led with
  | some c => exact frame_modLink.mono (by decide)
  | none => exact .mono (by decide) <| (frame_draw (v := 31)).step <| frame_modLink.step <| frame_modLink.step frame_sendCtl

theorem Module.frame_flushPort : Frame [.out, .regs, .saf, .links] m (m.flushPort p).2.2 := by
  unfold Module.flushPort
  extract_lets l qs cs fs starts all n m₁ m₂
  have h₁ : Frame [.regs, .links] m m₁ := .mono (by decide) <| frame_modLink.step <| frame_reg.step frame_reg
  have h₂ : Frame [.regs] m₁ m₂ := .iter fun _ _ => frame_reg.trans frame_reg
  exact .mono (by decide) <| h₁.step <| h₂.step <| frame_linkRec.step frame_showLink

theorem Module.frame_linkDown : Frame [.out, .regs, .saf, .links, .rte] m (m.linkDown p reason).2.2 := by
  unfold Module.linkDown
  split
  · exact .refl _ m
  · exact .mono (by decide) <| frame_rte.step <| frame_reg.step <| frame_reg.step frame_flushPort

theorem Module.frame_linkFault : Frame endKinds m (m.linkFault fid id) := by
  unfold Module.linkFault
  split
  · exact .refl _ m
  extract_lets m₁
  have h₁ : Frame endKinds m m₁ := frame_modReq.mono (by decide)
  exact .ite h₁ <| .ite (h₁.trans frame_failUnreachable) <|
    h₁.trans <| .mono (by decide) <| frame_restart.step <| frame_reg.step <| frame_modReq.step frame_routesChanged

theorem Module.frame_linkFaults : Frame endKinds m (m.linkFaults p ids) := by
  unfold Module.linkFaults
  exact .ite (.refl _ m) <| (frame_portFault.mono (by decide)).trans <| .foldl fun _ _ => frame_linkFault

/-- The kinds of state that a link that goes down with a flush may change. -/
abbrev dropKinds : List Kind :=
  [.free, .out, .regs, .hub, .saf, .tines, .mesh, .ctx, .host, .adm, .seqs, .seqWait, .lasers, .links, .rte, .pair]

theorem Module.frame_dropLink : Frame dropKinds m (m.dropLink p reason) := by
  unfold Module.dropLink
  have h₁ : Frame dropKinds m ((m.portFault p).2.linkDown p reason).2.2 := .mono (by decide) <| frame_portFault.step frame_linkDown
  generalize (m.portFault p).2.linkDown p reason = x at h₁ ⊢
  obtain ⟨ids, lost, m₁⟩ := x
  have hnotice {b g : Bool} {t : Nat} : Frame [.out, .regs, .links, .rte] m₁ (if b then m₁.sendNotice g t true else m₁) :=
    .ite frame_sendNotice (.refl _ m₁)
  exact h₁.trans <| .mono (by decide) <| hnotice.step <| frame_linkFaults.step frame_swapAgreed

end Links

/-! ### Optical ports -/

section Ports
variable {m : Module} {p ev sev slot job : Nat} {re one : Bool}

theorem Module.frame_optRec : Frame [.out, .regs, .saf] m (m.optRec p slot ev sev) := frame_report

theorem Module.frame_trainPort : Frame [.regs, .cal, .seqs, .seqWait, .optics] m (m.trainPort p re) := by
  unfold Module.trainPort
  exact .mono (by decide) <| .either .rfl <| frame_cal.step <| frame_modOpt.step <| frame_setFirn.step frame_seqStart

theorem Module.frame_wakePort : Frame [.regs, .seqs, .seqWait] m (m.wakePort p) :=
  .mono (by decide) <| .either .rfl <| frame_setFirn.step frame_seqStart

/-- The kinds of state that a full retrain of a port may change. -/
abbrev retrainKinds : List Kind := [.out, .regs, .hub, .saf, .cal, .host, .seqs, .seqWait, .optics, .lasers, .links, .rte]

theorem Module.frame_fullRetrain : Frame retrainKinds m (m.fullRetrain p) :=
  .mono (by decide) <| .either
    (frame_retrainDelay.step <| frame_leaveUp.step <| frame_reg.step <| frame_modLink.step frame_trainPort) .rfl

theorem Module.frame_retrainAsk : Frame retrainKinds m (m.retrainAsk p) :=
  .mono (by decide) <| .either (frame_sendCtl.step frame_fullRetrain) .rfl

theorem Module.frame_firnRetrain : Frame retrainKinds m (m.firnRetrain p) :=
  .mono (by decide) <| .either frame_trainPort frame_retrainAsk

theorem Module.frame_trainFail : Frame [.out, .regs, .saf, .cal, .seqs, .seqWait, .optics] m (m.trainFail p job one) := by
  unfold Module.trainFail
  extract_lets d m₁ m₂ e
  have h₁ : Frame [.regs, .optics] m m₁ := .mono (by decide) <| frame_modOpt.step <| frame_setFirn.step frame_reg
  have h₂ : Frame [.out, .regs, .saf, .optics] m m₂ := .mono (by decide) <| h₁.step frame_optRec
  have hfailed {x : Safety} {f : Fld} {idx : List Nat} :
      Frame [.out, .regs, .saf] m₂ (({ m₂ with saf := x } : Module).set1 f idx).alerts :=
    .mono (by decide) <| frame_saf.step <| frame_reg.step frame_alerts
  have hspare {x : Safety} {f g : Fld} {i j : List Nat} {u : OptPort → OptPort} :
      Frame [.out, .regs, .saf, .cal, .seqs, .seqWait, .optics] m₂
        (((((({ m₂ with saf := x } : Module).set1 f i).set1 g j).modOpt p u).alerts).trainPort p false) :=
    .mono (by decide) <| frame_saf.step <| frame_reg.step <| frame_reg.step <| frame_modOpt.step <| frame_alerts.step frame_trainPort
  exact .mono (by decide) <| .either .rfl <| h₂.step <| .either hfailed <| .either hspare .rfl

/-- The kinds of state that a port that leaves UP for want of slots may change. -/
abbrev narrowKinds : List Kind := [.free, .out, .regs, .hub, .saf, .host, .seqs, .seqWait, .lasers, .links, .rte]

/-- A port with fewer than 8 slots left takes the new map and leaves UP. -/
theorem Module.frame_tooNarrow {map : Nat} : Frame narrowKinds m (((m.setMap p 1 map).setFirn p 0).portLost p true) :=
  .mono (by decide) <| frame_setMap.step <| frame_setFirn.step frame_portLost

theorem Module.frame_askFallback : Frame narrowKinds m (m.askFallback p) := by
  unfold Module.askFallback
  exact .ite frame_tooNarrow (frame_startMap.mono (by decide))

theorem Module.frame_dropSlot : Frame narrowKinds m (m.dropSlot p slot) := by
  unfold Module.dropSlot
  refine .ite frame_askFallback <| .ite (.refl _ m) <| .ite frame_tooNarrow ?_
  exact .mono (by decide) <| frame_modLink.step <| frame_reg.step <| frame_reg.step frame_startMap

end Ports

end Sys2Proof.Machine
end

section
/-! PROOFS. Frames of laser banks and their swaps (R287 to R292), and of power domains cut and brought up (R278, R297, R428 to R430,
R437). -/

namespace Sys2Proof.Machine

/-! ### Slots and their units -/

section Slots
variable {m : Module} {b s f : Nat}

theorem Module.frame_exhaust : Frame [.out, .regs, .saf, .lasers] m (m.exhaust b s) :=
  .mono (by decide) <| frame_saf.step <| frame_reg.step <| frame_reg.step <| frame_laserRec.step frame_modBank

theorem Module.frame_lightSpare : Frame [.regs, .saf, .seqs, .seqWait, .lasers] m (m.lightSpare b s) := by
  have hlit : Frame [.regs, .saf, .lasers] m
      ((m.setUnit b s 1 3).modBank b (fun k => { k with unplanned := k.unplanned.filter (fun x => x ≠ s) })) :=
    .mono (by decide) <| frame_setUnit.step frame_modBank
  exact .mono (by decide) <| .either (hlit.step <| .foldl fun _ _ => .either frame_seqStart .rfl) .rfl

theorem Module.frame_addUnplanned : Frame [.lasers] m (m.addUnplanned b s) := frame_modBank

/-- The kinds of state that a slot whose light is gone may change. -/
abbrev darkKinds : List Kind := [.out, .regs, .hub, .saf, .host, .seqs, .seqWait, .lasers]

theorem Module.frame_slotDark : Frame darkKinds m (m.slotDark b s f) := by
  unfold Module.slotDark
  extract_lets m₁ st
  have h₁ : Frame darkKinds m m₁ := .ite (frame_treeFail.mono (by decide)) <| .ite (frame_treeFail.mono (by decide)) (.refl _ m)
  exact h₁.trans <| .mono (by decide) <| .either (frame_setUnit.step frame_addUnplanned) <| .either frame_addUnplanned <|
    .either (frame_addUnplanned.step frame_lightSpare) frame_exhaust

theorem Module.frame_noSpare : Frame [.out, .regs, .saf] m (m.noSpare b s) := .mono (by decide) <| frame_reg.step frame_laserRec

end Slots

/-! ### Planned swaps -/

section Swaps
variable {m : Module} {b s u p : Nat}

/-- The kinds of state that an agreement with a bank's ports may change. -/
abbrev agreeKinds : List Kind := [.free, .out, .regs, .optics, .lasers, .links]

theorem Module.frame_removeFrom : Frame agreeKinds m (m.removeFrom b s p) := by
  unfold Module.removeFrom
  generalize m.nextMap p 0 = x
  obtain ⟨map, clk⟩ := x
  refine .ite (.refl _ m) <| .ite (.refl _ m) ?_
  extract_lets m₁
  have h₁ : Frame [.free, .out, .regs, .links] m m₁ := .ite frame_startMap frame_startMap
  exact .mono (by decide) <| h₁.step <| frame_modOpt.step frame_modBank

theorem Module.frame_returnTo : Frame agreeKinds m (m.returnTo b s p) := by
  unfold Module.returnTo
  refine .ite (.refl _ m) ?_
  extract_lets m₀
  have h₀ : Frame [.optics] m m₀ := frame_modOpt
  generalize m₀.nextMap p 0 = x
  obtain ⟨map, clk⟩ := x
  exact .mono (by decide) <| h₀.step <| .either .rfl <| .step (.ite frame_startMap frame_startMap) frame_modBank

/-- The kinds of state that a step of a planned swap may change. -/
abbrev swapKinds : List Kind := [.free, .out, .regs, .hub, .saf, .seqs, .seqWait, .optics, .lasers, .links]

theorem Module.frame_swapRemove : Frame swapKinds m (m.swapRemove b) := by
  unfold Module.swapRemove
  split
  · exact .refl _ m
  next w _ =>
  refine .ite (.refl _ m) ?_
  extract_lets m₀
  have h₀ : Frame [.out, .regs, .hub, .saf] m m₀ := .ite frame_useTree <| .ite frame_useTree (.refl _ m)
  exact .mono (by decide) <| h₀.step <| .step (.foldl fun _ _ => frame_removeFrom) <| frame_modBank.step frame_swapStep

theorem Module.frame_swapReturn : Frame swapKinds m (m.swapReturn b) := by
  unfold Module.swapReturn
  split
  · exact .refl _ m
  · exact .mono (by decide) <| .either .rfl <| .step (.foldl fun _ _ => frame_returnTo) <| frame_modBank.step frame_swapStep

theorem Module.frame_dropSwap : Frame [.free, .out, .regs, .seqs, .seqWait, .optics, .lasers, .links] m (m.dropSwap b s) := by
  unfold Module.dropSwap
  split
  · exact .refl _ m
  · exact .mono (by decide) <| .either .rfl <| .either (.step (.foldl fun _ _ => frame_returnTo) frame_endSwap) <|
      .step (.foldl fun _ _ => frame_modOpt) frame_endSwap

/-- The kinds of state that a laser unit that fails may change. -/
abbrev laserKinds : List Kind := [.free, .out, .regs, .hub, .saf, .host, .seqs, .seqWait, .optics, .lasers, .links]

theorem Module.frame_retireUnit : Frame laserKinds m (m.retireUnit b s u) := by
  unfold Module.retireUnit
  extract_lets st f m₀ m₁
  have h₀ : Frame [.host] m m₀ := .ite frame_charge (.refl _ m)
  have h₁ : Frame laserKinds m m₁ := .mono (by decide) <| h₀.step <| frame_setUnit.step <| frame_alerts.step frame_dropSwap
  exact h₁.trans <| .mono (by decide) <| .either frame_slotDark <| .either frame_exhaust .rfl

theorem Module.frame_nextSwap (n : Nat) : ∀ m : Module, Frame [.out, .regs, .saf, .seqs, .seqWait, .lasers] m (m.nextSwap b n) := by
  induction n with
  | zero => exact fun m => .refl _ m
  | succ n ih =>
    intro m
    rw [Module.nextSwap]
    refine .ite (.refl _ m) ?_
    split
    · exact .refl _ m
    extract_lets m₀ st w m₁ m₂ m₃
    have h₀ : Frame [.lasers] m m₀ := frame_modBank
    have h₂ : Frame [.regs, .lasers] m₀ m₂ := .mono (by decide) <| frame_modBank.step <| frame_reg.step frame_reg
    have h₃ : Frame [.regs, .saf] m₂ m₃ := .ite frame_setUnit (.refl _ m₂)
    exact .mono (by decide) <| h₀.step <| .either (frame_noSpare.step (ih _)) <| h₂.step <| h₃.step frame_seqStart

theorem Module.frame_askSwap : Frame [.out, .regs, .saf, .lasers] m (m.askSwap b s) := by
  unfold Module.askSwap
  exact .mono (by decide) <| .either .rfl <| .either frame_noSpare <| .either .rfl frame_modBank

end Swaps

/-! ### Power domains -/

section Domains
variable {m : Module} {b d f g st sev cause cls op : Nat} {fail : Option Nat}

/-- The kinds of state that a bank whose domain goes off may change. -/
abbrev bankKinds : List Kind := [.out, .regs, .hub, .saf, .host, .optics, .lasers]

theorem Module.frame_bankDown : Frame bankKinds m (m.bankDown b fail) := by
  unfold Module.bankDown
  extract_lets m₁ m₂ _ m₃ m₄
  have h₁ : Frame [.regs] m m₁ := frame_reg
  have h₂ : Frame bankKinds m₁ m₂ := .foldl fun m s => by
    extract_lets lit m'
    have hcold : Frame bankKinds m m' := .foldl fun _ _ => .ite (.refl _ _) (frame_setUnit.mono (by decide))
    refine .ite ?_ hcold
    split
    · exact hcold.trans <| frame_treeFail.mono (by decide)
    · exact hcold.trans <| .mono (by decide) <| frame_newFault.step frame_treeFail
  have h₃ : Frame bankKinds m₂ m₃ := by
    unfold m₃
    split
    · exact .mono (by decide) <| frame_reg.step <| frame_logRec.step frame_charge
    · exact .refl _ m₂
  have h₄ : Frame [.optics] m₃ m₄ := .foldl fun _ _ => frame_modOpt
  exact .mono (by decide) <| h₁.step <| h₂.step <| h₃.step <| h₄.step <| frame_modBank.step frame_reg

theorem Module.frame_guestRec : Frame [.out, .regs, .saf] m (m.guestRec g sev cause cls op) := frame_report

theorem Module.frame_fence : Frame [.out, .regs, .saf] m (m.fence g) :=
  .mono (by decide) <| .either .rfl <| frame_reg.step frame_guestRec

theorem Module.frame_modGuest {h : Guest → Guest} : Frame [.qlk] m (m.modGuest g h) := frame_qlk

theorem Module.frame_guestDown : Frame [.regs, .qlk] m (m.guestDown g) :=
  .mono (by decide) <| frame_modGuest.step <| frame_connDown.step frame_qlk

/-- The kinds of state that a domain that goes off may change. -/
abbrev offKinds : List Kind := [.out, .regs, .hub, .saf, .host, .seqs, .seqWait, .optics, .lasers, .links, .rte, .qlk]

theorem Module.frame_domainOff : Frame offKinds m (m.domainOff d st) := by
  unfold Module.domainOff
  extract_lets m₁
  have h₁ : Frame [.regs] m m₁ := frame_reg.trans <| frame_reg.trans frame_reg
  exact .mono (by decide) <| .either (h₁.step frame_engineDown) <| .either (h₁.step frame_bankDown) <|
    .either (h₁.step frame_guestDown) h₁

theorem Module.frame_failFast : Frame [.out, .regs, .saf] m m.failFast := logMoves_failFast.frame

/-- The kinds of state that the loss of a die may change. -/
abbrev cutKinds : List Kind :=
  [.out, .regs, .hub, .saf, .tines, .mesh, .ctx, .host, .seqs, .seqWait, .optics, .lasers, .links, .rte, .qlk]

theorem Module.frame_dieCut : Frame cutKinds m (m.dieCut d f) := by
  have hcirque : Frame cutKinds m ((List.range 170).foldl (fun m k => if k = 165 ∨ k = d then m else m.domainOff k 0) m.failFast) :=
    .mono (by decide) <| frame_failFast.step <| .foldl fun _ _ => .either .rfl frame_domainOff
  exact .ite (frame_tineLost.mono (by decide)) <| .ite (.refl _ m) <| .ite (frame_bankDown.mono (by decide)) <|
    .ite hcirque (frame_fence.mono (by decide))

theorem Module.frame_opticsUp : Frame [.regs, .seqs, .seqWait] m (m.opticsUp b) := .ite frame_seqStart (.refl _ m)

theorem Module.frame_domainUp : Frame [.regs, .pwr, .seqs, .seqWait] m (m.domainUp d) := by
  unfold Module.domainUp
  extract_lets m₀ _ m₁
  have h₁ : Frame [.regs, .pwr] m m₁ := .mono (by decide) <| frame_reg.step <| frame_reg.step frame_pwr
  exact .mono (by decide) <| h₁.step <| .either (frame_reg.step <| .foldl fun _ _ => frame_wakePort) <|
    .either (frame_reg.step frame_opticsUp) .rfl

end Domains

end Sys2Proof.Machine
end

section
/-! PROOFS. The structure commands (R149 to R157): what COMMIT and ABORT make of the block, and the frames of all of them. -/

namespace Sys2Proof.Machine

/-! ### The structure block (R151, R154, R157) -/

section Block
variable {m : Module} {g : Fld} {idx : List Nat}

theorem Module.structBusy_iff : m.structBusy = true ↔ m.structState ∈ [1, 3, 4, 6] := List.elem_iff

theorem Module.not_structBusy {n : Nat} (h : m.structState = n) (hn : n ∉ [1, 3, 4, 6]) : ¬ m.structBusy = true := by
  rwa [structBusy_iff, h]

theorem Module.structCommit_busy (h : m.structBusy = true) : m.structCommit = m.structIgnored := if_pos h

theorem Module.structCommit_unverified (hb : ¬ m.structBusy = true) (h : m.structState ≠ 2) : m.structCommit = m := by
  rw [structCommit, if_neg hb, if_pos h]

theorem Module.structCommit_paired (h : m.structState = 2) (hp : m.pairState ≠ 0) :
    m.structCommit = (m.wr Reg.hubStructStatus_state 5).wr Reg.hubStructStatus_result 0x1A := by
  rw [structCommit, if_neg (not_structBusy h (by decide)), if_neg (not_not_intro h), if_pos hp]

/-- The block quiesces: the round is kept, and admission stops. -/
theorem Module.structCommit_quiesces (h : m.structState = 2) (hp : m.pairState = 0) :
    m.structCommit = ((({ m with str := { m.str with quiesceRound := m.hub.round } } : Module).wr Reg.hubStructStatus_state 3).set1
      Reg.admStatus_quiesced).clr Reg.admStatus_running := by
  rw [structCommit, if_neg (not_structBusy h (by decide)), if_neg (not_not_intro h), if_neg (not_not_intro hp)]

theorem Module.structAbort_quiescing (h : m.structState = 3) : m.structAbort = (m.wr Reg.hubStructStatus_state 2).admResume := if_pos h

theorem Module.structAbort_other (h : m.structState ≠ 3) : m.structAbort = m := if_neg h

/-- Admission resumes: RUNNING is set, unless the default structure is in force. -/
theorem Module.rd_admResume_running :
    m.admResume.rd Reg.admStatus_running =
      if m.rd Reg.hubStructStatus_defaultStruct = 0 then 1 else m.rd Reg.admStatus_running := by
  have hdefault : (m.clr Reg.admStatus_quiesced).rd Reg.hubStructStatus_defaultStruct = m.rd Reg.hubStructStatus_defaultStruct :=
    rd_clr_other (by decide) m
  unfold admResume
  by_cases hd : m.rd Reg.hubStructStatus_defaultStruct = 0
  · rw [if_neg (by simp [Module.rdB, hdefault, hd]), if_pos hd, rd_set1_same]
    rfl
  · rw [if_pos (by simp [Module.rdB, hdefault, hd]), if_neg hd, rd_clr_other (by decide)]

/-- Any field but RUNNING reads, once admission has resumed, as it does with QUIESCED clear. -/
theorem Module.rd_admResume (h : g.key idx ≠ Reg.admStatus_running.key []) :
    m.admResume.rd g idx = (m.clr Reg.admStatus_quiesced).rd g idx := by
  unfold admResume
  extract_lets m₁
  split
  · rfl
  · exact rd_set1_other h m₁

/-- A COMMIT that is accepted: the block quiesces with admission stopped, and the bitstream in force stays. -/
theorem Module.quiescing_structCommit (h : m.structState = 2) (hp : m.pairState = 0) :
    m.structCommit.structState = 3 ∧ m.structCommit.rd Reg.admStatus_quiesced = 1 ∧ m.structCommit.rd Reg.admStatus_running = 0 ∧
    m.structCommit.str.force = m.str.force := by
  rw [structCommit_quiesces h hp, structState]
  simp (disch := decide) only [rd_clr_other, rd_set1_other, rd_wr_same, rd_set1_same, rd_clr_same]
  exact ⟨rfl, rfl, trivial, rfl⟩

/-- An ABORT while quiescing: the block is VERIFIED again and admission resumes. -/
theorem Module.verified_structAbort (h : m.structState = 3) :
    m.structAbort.structState = 2 ∧ m.structAbort.rd Reg.admStatus_quiesced = 0 ∧ m.structAbort.rd Reg.admStatus_running =
      if m.rd Reg.hubStructStatus_defaultStruct = 0 then 1 else m.rd Reg.admStatus_running := by
  rw [structAbort_quiescing h, structState, rd_admResume_running]
  simp (disch := decide) only [rd_admResume, rd_clr_other, rd_wr_other, rd_wr_same, rd_clr_same, and_true]
  rfl

end Block

/-! ### Frames -/

section Frames
variable {m : Module} {r : Nat × Nat × Nat} {p c : Nat} {old new : List Nat} {oldSets sets : List Tset} {ok : Bool}

theorem Module.frame_structReject : Frame [.regs] m (m.structReject r) :=
  frame_reg.trans <| frame_reg.trans <| frame_reg.trans frame_reg

theorem Module.frame_structVerify : Frame [.out, .regs, .dev, .saf, .host, .str] m m.structVerify := by
  unfold Module.structVerify
  refine .ite (frame_reg.mono (by decide)) ?_
  extract_lets a n
  have hread : Frame [.out, .regs, .dev, .saf, .host] m (m.devBytes 0 a (min n 0x100000)).2.2 := frame_devBytes
  generalize m.devBytes 0 a (min n 0x100000) = x at hread ⊢
  obtain ⟨bytes, bad, m₀⟩ := x
  split
  next b m₁ hcopy =>
  have h₁ : Frame [.out, .regs, .dev, .saf, .host] m m₁ := by
    split at hcopy
    · cases hcopy
      exact hread
    · cases hcopy
      exact frame_addrInvalid.mono (by decide)
  exact .mono (by decide) <| h₁.step <| frame_str.step frame_reg

theorem Module.frame_structVerified : Frame [.regs, .str] m m.structVerified := by
  unfold Module.structVerified
  refine .ite (.refl _ m) ?_
  split
  · exact frame_structReject.mono (by decide)
  · exact .mono (by decide) <| frame_str.step <| frame_reg.step frame_reg

theorem Module.frame_structCommit : Frame [.regs, .str] m m.structCommit := by
  unfold Module.structCommit
  exact .mono (by decide) <| .either frame_reg <| .either .rfl <| .either (frame_reg.step frame_reg) <|
    frame_str.step <| frame_reg.step <| frame_reg.step frame_reg

theorem Module.frame_structAbort : Frame [.regs] m m.structAbort := .ite (frame_reg.trans frame_admResume) (.refl _ m)

theorem Module.frame_quiesceComplete : Frame [.regs, .str] m m.quiesceComplete := by
  unfold Module.quiesceComplete
  refine .ite (.refl _ m) ?_
  split
  · exact .mono (by decide) <| frame_structReject.step frame_admResume
  · exact .mono (by decide) <| frame_str.step frame_reg

theorem Module.frame_quiesceTimeout : Frame [.regs] m m.quiesceTimeout :=
  .ite (frame_reg.trans <| frame_reg.trans frame_admResume) (.refl _ m)

theorem Module.frame_readvertise : Frame [.out, .regs, .saf, .host, .links] m (m.readvertise p) := by
  unfold Module.readvertise
  exact .mono (by decide) <| .either frame_startFresh <| .either frame_reinitAsk <| .either frame_startResumed .rfl

/-- The kinds of state that a port whose VCMAP record changes may change: its link's flush, and its optics. -/
abbrev portKinds : List Kind := .optics :: dropKinds

theorem Module.frame_applyPort : Frame portKinds m (m.applyPort old new p) := by
  unfold Module.applyPort
  exact .mono (by decide) <| .either .rfl <| .either (.either .rfl <| frame_portDown.step frame_dropLink) <|
    .either (.either frame_wakePort .rfl) frame_readvertise

theorem Module.frame_applyCtx : Frame [.regs, .ctx] m (m.applyCtx old new oldSets c) := by
  have hfree {x : Ctx} : Frame [.regs, .ctx] m ((m.freeBanks c).setCtx c x) := frame_freeBanks.trans (frame_setCtx.mono (by decide))
  unfold Module.applyCtx
  exact .ite (.refl _ m) <| .ite hfree <| .ite (.ite (.refl _ m) hfree) (.refl _ m)

/-- The kinds of state that an apply may change. -/
abbrev applyKinds : List Kind := .sram :: .str :: portKinds

theorem Module.frame_applyStruct : Frame applyKinds m (m.applyStruct new sets) := by
  unfold Module.applyStruct
  extract_lets old oldSets _ m₁ m₂ m₃ m₄ m₅ m₆
  have h₁ : Frame [.str] m m₁ := frame_str
  have h₂ : Frame [.sram] m₁ m₂ := .foldl fun _ _ => frame_writeFormats
  have h₃ : Frame portKinds m₂ m₃ := .foldl fun _ _ => frame_applyPort
  have h₄ : Frame [.regs, .ctx] m₃ m₄ := .foldl fun _ _ => frame_applyCtx
  have h₅ : Frame [.regs] m₄ m₅ := .foldl fun _ _ => frame_reg
  exact .mono (by decide) <| h₁.step <| h₂.step <| h₃.step <| h₄.step <| h₅.step <| frame_reg.step <| frame_reg.step frame_reg

theorem Module.frame_structApplyDone : Frame applyKinds m m.structApplyDone := by
  unfold Module.structApplyDone
  exact .mono (by decide) <| .either .rfl <| frame_applyStruct.step <| frame_reg.step <| frame_reg.step <| frame_reg.step frame_str

theorem Module.frame_structPersist : Frame [.regs] m m.structPersist := .ite frame_reg frame_reg

theorem Module.frame_flash {x : Flash} : Frame [.flash] m { m with flash := x } := .single fun k h => by cases k <;> trivial

theorem Module.frame_structPersistDone : Frame [.regs, .flash] m (m.structPersistDone ok) := by
  unfold Module.structPersistDone
  have hwritten {x : Flash} : Frame [.flash] (m.wr Reg.hubStructStatus_state 0)
      { m.wr Reg.hubStructStatus_state 0 with flash := x } := frame_flash
  exact .mono (by decide) <| .either .rfl <| frame_reg.step <|
    .either (hwritten.step <| frame_reg.step <| .either frame_reg .rfl) <| frame_reg.step <| .either .rfl frame_flash

end Frames

/-- A command answers the state that its effect is shown to give. -/
theorem completes_of_eq {c : Instr} {s : State} {ok : Bool} {f : Module → Module} {b : Module} (he : exec c s = s.act ok f)
    (hb : f s.toModule = b) (h : ok = true) : Completes c s b := by
  subst hb
  exact completes_of_act he h

/-- Settles O26, each clause by the equation of its command in that state of the block. -/
theorem structureCommandsMoveTheBlock : Obligations.StructureCommandsMoveTheBlock := by
  intro s
  refine ⟨fun h hp => ?paired, fun h hp => ?quiesces, fun h => ?aborts, fun h => ?noAbort, fun h => ?busy, fun h => ?unverified⟩
  case paired => exact completes_of_eq (exec_structCommit s) (Module.structCommit_paired h hp) rfl
  case quiesces =>
    exact ⟨_, completesIn_of_act (exec_structCommit s) rfl Module.frame_structCommit, Module.quiescing_structCommit h hp⟩
  case aborts => exact ⟨_, completesIn_of_act (exec_structAbort s) rfl Module.frame_structAbort, Module.verified_structAbort h⟩
  case noAbort => exact exec_of_act_same (exec_structAbort s) (Module.structAbort_other h)
  case busy => exact completes_of_eq (exec_structCommit s) (Module.structCommit_busy (Module.structBusy_iff.mpr h)) rfl
  case unverified =>
    refine exec_of_act_same (exec_structCommit s) ?_
    rcases h with h | h
    · exact Module.structCommit_unverified (Module.not_structBusy h (by decide)) (by omega)
    · exact Module.structCommit_unverified (Module.not_structBusy h (by decide)) (by omega)

/-- Settles O50, each command by the frame of its operation; commands that change nothing are log entry 4. -/
theorem structureCommandsComplete : Obligations.StructureCommandsComplete := fun s =>
  ⟨completesIn_of_act (exec_structVerify s) rfl Module.frame_structVerify,
    completesIn_of_act (exec_structVerified s) rfl Module.frame_structVerified,
    completesIn_of_act (exec_structCommit s) rfl Module.frame_structCommit,
    completesIn_of_act (exec_structAbort s) rfl Module.frame_structAbort,
    completesIn_of_act (exec_quiesceComplete s) rfl Module.frame_quiesceComplete,
    completesIn_of_act (exec_quiesceTimeout s) rfl Module.frame_quiesceTimeout,
    completesIn_of_act (exec_structApplyDone s) rfl (Module.frame_structApplyDone.mono (by decide)),
    completesIn_of_act (exec_structPersist s) rfl Module.frame_structPersist,
    fun ok => completesIn_of_act (exec_structPersistDone ok s) rfl Module.frame_structPersistDone⟩

end Sys2Proof.Machine
end

section
/-! PROOFS. Frames of the sequence steps and of what a sequence's end brings about (R144 to R147, R279, R284, R298 to R300, R322, R454,
R455). -/

namespace Sys2Proof.Machine

/-! ### Training of a connection (R371) -/

section Connections
variable {m : Module} {c b : Nat}

theorem Module.frame_trainBundle : Frame [.out, .regs, .qlk] m (m.trainBundle c b) := by
  unfold Module.trainBundle
  exact .mono (by decide) <| .either .rfl <| frame_modQb.step <| frame_reg.step <| frame_emit.step <| frame_emit.step frame_showConn

theorem Module.frame_trainConn : Frame [.out, .regs, .qlk] m (m.trainConn c) := .foldl fun _ _ => .ite frame_trainBundle (.refl _ _)

end Connections

/-! ### Fields of a sequence (R298, R299, R454) -/

/-- The kinds of state that a sequence may change. -/
abbrev seqKinds : List Kind :=
  [.free, .out, .regs, .hub, .saf, .pwr, .tines, .cal, .mesh, .ctx, .host, .str, .seqs, .seqWait, .optics, .lasers, .links, .rte, .qlk]

section Fields
variable {m : Module} {e d f v p slot n : Nat} {i : SeqInst} {ks : List Kind}

/-- A write that is taken or not: its frame shown for both. -/
theorem Frame.ite_write {c : Prop} [Decidable c] {x y : Module × SeqInst × Bool} (hx : Frame ks m x.1) (hy : Frame ks m y.1) :
    Frame ks m (if c then x else y).1 := by
  split
  · exact hx
  · exact hy

theorem Module.frame_setDom : Frame [.pwr] m (m.setDom d f v) := frame_pwr

theorem Module.frame_loopErrs : Frame [.regs] m (m.loopErrs p slot n) := .ite frame_reg (.refl _ m)

theorem Module.frame_seqSense : Frame [.regs, .optics] m (m.seqSense e i f v) := by
  have hreg {g : Fld} {v : Nat} {idx : List Nat} : Frame [.regs, .optics] m (m.wr g v idx) := frame_reg.mono (by decide)
  have hopt {p : Nat} {g : OptPort → OptPort} : Frame [.regs, .optics] m (m.modOpt p g) := frame_modOpt.mono (by decide)
  have hpgood {d : Nat} {c : Prop} [Decidable c] : Frame [.regs, .optics] m
      (if c then (m.wr Reg.pwrDomain_pgood v [d]).wr Reg.pwrDomain_state 2 [d] else m.wr Reg.pwrDomain_pgood v [d]) :=
    .ite (hreg.trans (frame_reg.mono (by decide))) hreg
  unfold Module.seqSense
  exact .ite hreg <| .ite hreg <| .ite hreg <| .ite (frame_loopErrs.mono (by decide)) <| .ite hopt <| .ite hopt <| .ite hreg <|
    .ite hpgood <| .ite hreg (.refl _ m)

theorem Module.frame_seqWrite : Frame seqKinds m (m.seqWrite e i f v).1 := by
  have hsame : Frame seqKinds m m := .refl _ m
  have hreg {g : Fld} {v : Nat} {idx : List Nat} : Frame seqKinds m (m.wr g v idx) := frame_reg.mono (by decide)
  have hopt {p : Nat} {g : OptPort → OptPort} : Frame seqKinds m (m.modOpt p g) := frame_modOpt.mono (by decide)
  have hunit {b s u st : Nat} : Frame seqKinds m (m.setUnit b s u st) := frame_setUnit.mono (by decide)
  have hretired {b s u : Nat} : Frame seqKinds m (m.setUnit b s u 4).alerts := hunit.trans (frame_alerts.mono (by decide))
  have hpower {b : Nat} {g : LaserBank → LaserBank} : Frame seqKinds m (m.modBank b g) := frame_modBank.mono (by decide)
  have hremove {b : Nat} : Frame seqKinds m (m.swapRemove b) := frame_swapRemove.mono (by decide)
  have hreturn {b : Nat} : Frame seqKinds m (m.swapReturn b) := frame_swapReturn.mono (by decide)
  have htree {t : Nat} : Frame seqKinds m (m.useTree t) := frame_useTree.mono (by decide)
  have htrain {b : Nat} : Frame seqKinds m ((bankPorts b).foldl (fun m q => if m.role q = 0 then m else m.trainPort q false) m) :=
    .foldl fun _ _ => .ite (.refl _ _) (frame_trainPort.mono (by decide))
  have hdom {v : Nat} : Frame seqKinds m (m.setDom (SMap.get 0 i.fields 0x201) f v) := frame_setDom.mono (by decide)
  have hoff {d : Nat} : Frame seqKinds m (m.domainOff d 0) := frame_domainOff.mono (by decide)
  have hconn {c : Nat} : Frame seqKinds m (m.trainConn c) := frame_trainConn.mono (by decide)
  have hswitch {c c' : Prop} [Decidable c] [Decidable c'] {p : Nat} {g : OptPort → OptPort} :
      Frame seqKinds m (if c then m else if c' then m.modOpt p g else m) := .ite hsame <| .ite hopt hsame
  -- a tap of slot 16 is no register; any other is written where the three taps fit
  have htap {c c' : Prop} [Decidable c] [Decidable c'] {g : Fld} {idx : List Nat} :
      Frame seqKinds m (if c then (m, i, true) else if c' then (m.wr g v idx, i, true) else (m, i, false)).1 :=
    .ite_write hsame <| .ite_write hreg hsame
  unfold Module.seqWrite
  extract_lets p o b ls lu d keep taps pre main post safe
  refine .ite_write hsame <| .ite_write hsame <| .ite_write hswitch <| .ite_write hopt <| .ite_write htap <| .ite_write htap <|
    .ite_write htap <| .ite_write hreg <| .ite_write hreg <| .ite_write hreg <| .ite_write hreg <| .ite_write hreg <|
    .ite_write hopt <| .ite_write hopt <| .ite_write hopt <| .ite_write hopt <| .ite_write hopt <| .ite_write hsame <|
    .ite_write hsame <| .ite_write ?enable <| .ite_write ?lit <| .ite_write ?power <| .ite_write ?swap <| .ite_write ?trees <|
    .ite_write ?train <| .ite_write ?domain <| .ite_write ?voltage <| .ite_write ?switch <| .ite_write hdom <| .ite_write ?clock <|
    .ite_write ?connection hsame
  case enable => exact .ite_write hunit hsame
  case lit => exact .ite_write hsame <| .ite_write (.ite_write hsame hunit) <| .ite_write hretired hsame
  case power => exact .ite_write hpower hsame
  case swap => exact .ite (.ite hremove hreturn) hsame
  case trees => exact .ite_write htree <| .ite_write htree hsame
  case train => exact .ite htrain hsame
  case domain => exact .ite_write hsame hsame
  case voltage => exact .ite_write hsame hdom
  case switch => exact .ite_write hsame <| .ite_write (.ite hsame hreg) hoff
  case clock => exact .ite_write hdom hsame
  case connection => exact .ite hsame <| .ite hconn <| .ite hconn <| .ite hconn hsame

end Fields

/-! ### How a sequence ends (R145, R284, R289, R290, R455) -/

section Ends
variable {m : Module} {e p slot slots value : Nat} {i : SeqInst} {ok one : Bool}

theorem Module.frame_ringsTuned : Frame [.regs, .optics] m (m.ringsTuned p slots ok) := by
  unfold Module.ringsTuned
  extract_lets m₁ m₂
  have h₁ : Frame [.regs] m m₁ := .foldl fun _ _ => frame_reg.trans frame_reg
  exact .mono (by decide) <| h₁.step <| frame_modOpt.step <| .either frame_modOpt .rfl

theorem Module.frame_waveDone : Frame [.free, .out, .regs, .saf, .links] m (m.waveDone p slot ok) := by
  unfold Module.waveDone
  extract_lets n shown m₀ m₁ put m₀' m₁'
  have h₀ : Frame [.regs, .links] m m₀ := .mono (by decide) <| frame_modLink.step <| frame_reg.step frame_reg
  have h₁ : Frame [.regs] m₀ m₁ := .ite frame_reg (.refl _ m₀)
  have hput {fibre : Nat} {m : Module} : Frame [.free, .out, .regs, .links] m (put fibre m) := by
    unfold put
    generalize m.nextMap p fibre = x
    obtain ⟨map, clk⟩ := x
    exact .ite (.refl _ m) frame_startMap
  have h₀' : Frame [.links] m m₀' := frame_modLink
  have h₁' : Frame [.regs] m₀' m₁' := .ite frame_reg (.refl _ m₀')
  exact .ite (.refl _ m) <| .ite (.mono (by decide) <| h₀.step <| h₁.step <| .step (.ite (.refl _ m₁) hput) hput) <|
    .mono (by decide) <| h₀'.step <| h₁'.step <| .either (frame_reg.step <| frame_reg.step frame_linkRec) .rfl

theorem Module.frame_seqServe : Frame seqKinds m (m.seqServe i ok one) := by
  unfold Module.seqServe
  extract_lets p slot
  refine .ite (.ite (frame_modOpt.mono (by decide)) (frame_trainFail.mono (by decide))) <| .ite (frame_waveDone.mono (by decide)) <|
    .ite (frame_ringsTuned.mono (by decide)) <| .ite (.ite (frame_domainUp.mono (by decide)) ?failed) <|
    .ite (frame_domainOff.mono (by decide)) (.refl _ m)
  case failed => exact .mono (by decide) <| frame_newFault.step <| frame_domainOff.step frame_dieCut

theorem Module.frame_seqNextJob : Frame [.regs, .seqs, .seqWait] m (m.seqNextJob e) := .mono (by decide) <| frame_seqs.step frame_seqTake

theorem Module.frame_seqEnd : Frame seqKinds m (m.seqEnd e ok one value) := by
  unfold Module.seqEnd
  split
  · exact .refl _ m
  next i _ =>
  extract_lets _ m₀ m₁ m₂
  have h₀ : Frame [.str] m m₀ := frame_str
  have h₂ : Frame seqKinds m m₂ := .mono (by decide) <| h₀.step <| frame_seqNextJob.step frame_seqServe
  exact .ite (h₂.trans <| frame_dropSwap.mono (by decide)) h₂

end Ends

/-! ### Steps (R145, R146) -/

section Steps
variable {m : Module} {e op t sensed prim v : Nat} {i : SeqInst} {res : Option Nat} {ok one : Bool}
  {k : SeqInst → SeqStep → Module × SeqInst × Bool}

/-- A step changes what its meaning changes, and what the end of its sequence at a limit does. -/
theorem Module.frame_seqStep (h : ∀ i s, Frame seqKinds m (k i s).1) : Frame seqKinds m (m.seqStep e op t k) := by
  unfold Module.seqStep
  split
  · exact .refl _ m
  next i s _ =>
  refine .ite (.refl _ m) <| .ite frame_seqEnd ?_
  have hk := h i s
  generalize k i s = x at hk ⊢
  obtain ⟨m₁, i₁, ok⟩ := x
  dsimp only
  split
  · exact hk
  · exact hk.trans <| frame_seqs.mono (by decide)

theorem Module.frame_seqSetf : Frame seqKinds m (m.seqSetf e t) := frame_seqStep fun _ _ => frame_seqWrite
theorem Module.frame_seqSetfs : Frame seqKinds m (m.seqSetfs e t) := frame_seqStep fun _ _ => frame_seqWrite
theorem Module.frame_seqGetf : Frame seqKinds m (m.seqGetf e t sensed) := frame_seqStep fun _ _ => frame_seqSense.mono (by decide)
theorem Module.frame_seqLoads : Frame seqKinds m (m.seqLoads e t) := frame_seqStep fun _ _ => .refl _ m
theorem Module.frame_seqAdds : Frame seqKinds m (m.seqAdds e t) := frame_seqStep fun _ _ => .refl _ m
theorem Module.frame_seqBrs : Frame seqKinds m (m.seqBrs e t) := frame_seqStep fun _ _ => .refl _ m

theorem Module.frame_seqWaitStep : Frame seqKinds m (m.seqWaitStep e) := by
  unfold Module.seqWaitStep
  split
  · exact frame_seqStep fun _ _ => .refl _ m
  · exact .refl _ m

theorem Module.frame_seqPoll : Frame seqKinds m (m.seqPoll e t sensed) := by
  unfold Module.seqPoll
  split
  · exact .ite (frame_seqSense.mono (by decide)) <| frame_seqStep fun _ _ => frame_seqSense.mono (by decide)
  · exact .refl _ m

theorem Module.frame_seqMeasured : Frame [.regs, .saf, .optics] m (m.seqMeasured e i prim v) := by
  unfold Module.seqMeasured
  exact .mono (by decide) <| .either (.either (frame_reg.step frame_reg) .rfl) <| .either .rfl <| .either frame_loopErrs <|
    .either (frame_reg.step frame_modOpt) <| .either frame_modOpt <| .either frame_modOpt <| .either (.either frame_setUnit .rfl) .rfl

theorem Module.frame_seqMeasure : Frame seqKinds m (m.seqMeasure e t res) := by
  unfold Module.seqMeasure
  cases res with
  | none => exact frame_seqStep fun _ _ => .refl _ m
  | some n => exact frame_seqStep fun _ _ => frame_seqMeasured.mono (by decide)

theorem Module.frame_seqFinish : Frame seqKinds m (m.seqFinish e ok one) := by
  unfold Module.seqFinish
  split
  · exact .refl _ m
  · exact .ite (.refl _ m) <| .ite frame_seqEnd frame_seqEnd

theorem Module.frame_seqLimit : Frame seqKinds m (m.seqLimit e t) := by
  unfold Module.seqLimit
  split
  · exact .refl _ m
  · exact .ite frame_seqEnd <| frame_seqs.mono (by decide)

end Steps

end Sys2Proof.Machine
end

section
/-! PROOFS. Frames of the events and commands on optical ports and laser banks (R280 to R296), and the completion of the optical, laser
and sequence commands. -/

namespace Sys2Proof.Machine

/-! ### Optical ports -/

section Ports
variable {m : Module} {p slot reading mode pattern : Nat} {tx : Bool}

theorem Module.frame_ringLost : Frame narrowKinds m (m.ringLost p slot tx) := by
  unfold Module.ringLost
  refine .ite (.refl _ m) ?_
  extract_lets m₁ m₂
  have h₁ : Frame [.out, .regs, .saf] m m₁ := .mono (by decide) <| frame_reg.step frame_optRec
  have h₂ : Frame [.regs] m₁ m₂ := frame_reg
  exact .mono (by decide) <| h₁.step <| .either (h₂.step <| .either frame_seqStart .rfl) (frame_reg.step frame_dropSlot)

theorem Module.frame_clkLost : Frame (.optics :: narrowKinds) m (m.clkLost p) := by
  unfold Module.clkLost
  refine .ite (.refl _ m) ?_
  extract_lets m₁
  have h₁ : Frame [.out, .regs, .saf] m m₁ := .mono (by decide) <| frame_reg.step <| frame_optRec.step <| frame_reg.step frame_emit
  exact .mono (by decide) <| h₁.step <| frame_modOpt.step frame_askFallback

theorem Module.frame_fallbackLock : Frame [.out, .regs, .saf, .optics] m (m.fallbackLock p) := by
  unfold Module.fallbackLock
  exact .mono (by decide) <| .either .rfl <| frame_reg.step <| frame_reg.step <| frame_optRec.step frame_modOpt

theorem Module.frame_fallbackExit : Frame [.free, .out, .regs, .links] m (m.fallbackExit p) := by
  unfold Module.fallbackExit
  generalize m.nextMap p 1 = x
  obtain ⟨map, clk⟩ := x
  exact .mono (by decide) <| .either .rfl <| frame_reg.step frame_startMap

/-- The kinds of state that a port that goes down with its light may change. -/
abbrev downKinds : List Kind := [.out, .regs, .hub, .saf, .host, .seqs, .seqWait, .optics, .lasers, .links, .rte]

theorem Module.frame_overpower : Frame downKinds m (m.overpower p reading) :=
  .mono (by decide) <| frame_portDown.step <| frame_setFirn.step <| frame_reg.step frame_report

theorem Module.frame_fibreDark : Frame downKinds m (m.fibreDark p) := by
  unfold Module.fibreDark
  exact .mono (by decide) <| .either .rfl <| frame_portDown.step <| frame_setFirn.step <| frame_reg.step frame_optRec

theorem Module.frame_clearSafety : Frame [.regs, .cal, .seqs, .seqWait, .optics] m (m.clearSafety p) :=
  .mono (by decide) <| .either (frame_reg.step frame_trainPort) .rfl

theorem Module.frame_safeProbe : Frame [.out] m (m.safeProbe p) := .ite frame_emit (.refl _ m)

theorem Module.frame_probeSeen : Frame [.out, .regs, .cal, .seqs, .seqWait, .optics] m (m.probeSeen p) :=
  .mono (by decide) <| .either (frame_emit.step <| frame_modOpt.step frame_trainPort) .rfl

theorem Module.frame_useSpare : Frame [.out, .regs, .saf, .cal, .seqs, .seqWait, .optics] m (m.useSpare p) := by
  unfold Module.useSpare
  exact .mono (by decide) <| .either (frame_saf.step <| frame_reg.step <| frame_reg.step <| frame_alerts.step frame_trainPort) .rfl

theorem Module.frame_loopMode : Frame (.cal :: portKinds) m (m.loopMode p mode pattern) := by
  unfold Module.loopMode
  extract_lets md m₀ st pat m₁
  have h₀ : Frame [.regs] m m₀ := frame_reg.trans frame_reg
  have h₁ : Frame dropKinds m₀ m₁ := frame_dropLink
  exact .mono (by decide) <| h₀.step <| .either (.either (frame_modOpt.step frame_trainPort) frame_modOpt) <| .either .rfl <|
    .either (.either (frame_modOpt.step frame_sendCtl) .rfl) <| h₁.step <| frame_modOpt.step frame_setFirn

end Ports

/-! ### Laser banks -/

section Banks
variable {m : Module} {b s u reading ratio : Nat}

theorem Module.frame_laserLocked : Frame [.regs, .saf, .seqs, .seqWait, .lasers] m (m.laserLocked b s u) := by
  unfold Module.laserLocked
  extract_lets m₁ m₂
  have h₁ : Frame [.regs, .saf] m m₁ := frame_setUnit
  have h₂ : Frame [.lasers] m₁ m₂ := by
    unfold m₂
    split
    · exact .ite frame_modBank (.refl _ m₁)
    · exact .refl _ m₁
  exact .mono (by decide) <| .either .rfl <| h₁.step <| h₂.step <| .either frame_lightSpare .rfl

theorem Module.frame_laserTimeout : Frame laserKinds m (m.laserTimeout b s u) := by
  unfold Module.laserTimeout
  exact .mono (by decide) <| .either .rfl <| frame_reg.step <| frame_laserRec.step frame_retireUnit

theorem Module.frame_laserFail : Frame laserKinds m (m.laserFail b s u) := by
  unfold Module.laserFail
  exact .mono (by decide) <| .either .rfl <| frame_reg.step <| frame_laserRec.step frame_retireUnit

theorem Module.frame_laserOver : Frame laserKinds m (m.laserOver b s u reading) := by
  unfold Module.laserOver
  exact .mono (by decide) <| .either .rfl <| frame_reg.step <| frame_report.step frame_retireUnit

theorem Module.frame_eolWarn : Frame [.out, .regs, .saf, .lasers] m (m.eolWarn b s ratio) := by
  unfold Module.eolWarn
  extract_lets u m₁
  have h₁ : Frame [.out, .regs, .saf] m m₁ := .mono (by decide) <| frame_reg.step <| frame_reg.step frame_laserRec
  exact .mono (by decide) <| .either .rfl <| h₁.step <| .either frame_askSwap .rfl

theorem Module.frame_plannedSwap : Frame [.out, .regs, .saf, .seqs, .seqWait, .lasers] m (m.plannedSwap b) := frame_nextSwap _ m

theorem Module.frame_swapRemoval : Frame swapKinds m (m.swapRemoval b) := by
  unfold Module.swapRemoval
  split
  · exact .refl _ m
  · exact .ite (.refl _ m) frame_swapRemove

theorem Module.frame_swapDeferral : Frame [.out, .regs, .saf, .lasers] m (m.swapDeferral b) := by
  unfold Module.swapDeferral
  split
  · exact .refl _ m
  · exact .mono (by decide) <| .either .rfl <| frame_modBank.step <| frame_reg.step frame_laserRec

end Banks

/-- Settles O56, each command by the frame of its operation; commands that change nothing are log entry 4. -/
theorem opticsCommandsComplete : Obligations.OpticsCommandsComplete := fun s =>
  ⟨fun p slot tx h => completesIn_of_frame (exec_ringLockLoss p slot tx s) rfl h Module.frame_ringLost,
    fun p h => completesIn_of_frame (exec_clkLost p s) rfl h (Module.frame_clkLost.mono (by decide)),
    fun p h => completesIn_of_frame (exec_clockFallbackLock p s) rfl h Module.frame_fallbackLock,
    fun p h => completesIn_of_frame (exec_fallbackExit p s) rfl h Module.frame_fallbackExit,
    fun e t h => completesIn_of_frame (exec_setf e t s) rfl h Module.frame_seqSetf,
    fun e t h => completesIn_of_frame (exec_setfs e t s) rfl h Module.frame_seqSetfs,
    fun e t sensed h => completesIn_of_frame (exec_getf e t sensed s) rfl h Module.frame_seqGetf,
    fun e t h => completesIn_of_frame (exec_loads e t s) rfl h Module.frame_seqLoads,
    fun e t h => completesIn_of_frame (exec_adds e t s) rfl h Module.frame_seqAdds,
    fun e h => completesIn_of_frame (exec_wait e s) rfl h Module.frame_seqWaitStep,
    fun e t sensed h => completesIn_of_frame (exec_poll e t sensed s) rfl h Module.frame_seqPoll,
    fun e t h => completesIn_of_frame (exec_brs e t s) rfl h Module.frame_seqBrs,
    fun e t res h => completesIn_of_frame (exec_measure e t res s) rfl h Module.frame_seqMeasure,
    fun e one h => completesIn_of_frame (exec_done e one s) rfl h Module.frame_seqFinish,
    fun e one h => completesIn_of_frame (exec_fail e one s) rfl h Module.frame_seqFinish,
    fun e t h => completesIn_of_frame (exec_seqLimitExceeded e t s) rfl h Module.frame_seqLimit,
    fun b slot unit h => completesIn_of_frame (exec_laserLocked b slot unit s) rfl h Module.frame_laserLocked,
    fun b slot unit h => completesIn_of_frame (exec_laserWarmTimeout b slot unit s) rfl h Module.frame_laserTimeout,
    fun b slot unit h => completesIn_of_frame (exec_laserFail b slot unit s) rfl h Module.frame_laserFail,
    fun b slot unit reading h => completesIn_of_frame (exec_laserOverpower b slot unit reading s) rfl h Module.frame_laserOver,
    fun b slot ratio h => completesIn_of_frame (exec_eolWarn b slot ratio s) rfl h Module.frame_eolWarn,
    fun b slot h => completesIn_of_frame (exec_lasSwap b slot s) rfl h Module.frame_askSwap,
    fun b h => completesIn_of_frame (exec_plannedSwap b s) rfl h Module.frame_plannedSwap,
    fun b h => completesIn_of_frame (exec_swapRemoval b s) rfl h Module.frame_swapRemoval,
    fun b h => completesIn_of_frame (exec_swapDeferral b s) rfl h Module.frame_swapDeferral,
    fun b h => completesIn_of_frame (exec_swapDone b s) rfl h Module.frame_swapReturn,
    fun p reading h => completesIn_of_frame (exec_fibreOverpower p reading s) rfl h Module.frame_overpower,
    fun p h => completesIn_of_frame (exec_clearSafety p s) rfl h Module.frame_clearSafety,
    fun p h => completesIn_of_frame (exec_fibreDark p s) rfl h Module.frame_fibreDark,
    fun p h => completesIn_of_frame (exec_safeProbe p s) rfl h Module.frame_safeProbe,
    fun p h => completesIn_of_frame (exec_probeReceived p s) rfl h Module.frame_probeSeen,
    fun p h => completesIn_of_frame (exec_firnRetrain p s) rfl h Module.frame_firnRetrain,
    fun p h => completesIn_of_frame (exec_useSpare p s) rfl h Module.frame_useSpare,
    fun p mode pattern h => completesIn_of_frame (exec_loopModeWrite p mode pattern s) rfl h (Module.frame_loopMode.mono (by decide))⟩

end Sys2Proof.Machine
end

section
/-! PROOFS. Frames of the boot sequence (R92, R151, R297, R367 to R370, R421, R422, R437, R452, R457 to R460). -/

namespace Sys2Proof.Machine

/-! ### Firmware (R457, R460) -/

section Firmware
variable {m : Module} {s slot : Nat} {g : FwImage} {r : LogRec} {ok : Bool}

theorem Module.frame_sec {x : Secur} : Frame [.sec] m { m with sec := x } := .single fun k h => by cases k <;> trivial

theorem Module.frame_storeRec : Frame [.saf] m (m.storeRec slot r) := frame_saf

theorem Module.frame_raiseMin : Frame [.regs, .flash] m m.raiseMin := by
  unfold Module.raiseMin
  split
  · exact .mono (by decide) <| .either (frame_flash.step <| frame_flash.step frame_reg) frame_flash
  · exact .refl _ m

theorem Module.frame_copyPowerFail : Frame [.regs, .saf, .flash] m m.copyPowerFail := by
  unfold Module.copyPowerFail
  split
  · exact .mono (by decide) <| .either .rfl <| frame_flash.step <| .foldl fun _ _ => frame_storeRec.step <| frame_reg.step frame_reg
  · exact .refl _ m

theorem Module.frame_firmwareVerified : Frame [.regs, .saf, .flash, .sec] m m.firmwareVerified := by
  unfold Module.firmwareVerified
  refine .ite (.refl _ m) ?_
  extract_lets m₀
  have h₀ : Frame [.regs, .flash] m m₀ := frame_raiseMin
  split
  · exact .mono (by decide) <| h₀.step frame_reg
  split
  · exact h₀.mono (by decide)
  · exact .mono (by decide) <| h₀.step <| frame_reg.step <| frame_reg.step <| frame_reg.step <| frame_sec.step frame_copyPowerFail

theorem Module.frame_writeFw : Frame [.flash] m (m.writeFw s g ok) := frame_flash

end Firmware

/-! ### Sites (R91, R92, R130) -/

section Sites
variable {m : Module} {d c s : Nat}

theorem Module.frame_bootDomain : Frame [.free, .regs, .pwr, .seqs, .seqWait] m (m.bootDomain d) :=
  .mono (by decide) <| frame_domainUp.step <| (frame_draw (v := 12)).step frame_reg

/-- A site's two domains switched on. -/
theorem Module.frame_bootDomains : Frame [.free, .regs, .pwr, .seqs, .seqWait] m ((m.bootDomain (72 + s)).bootDomain s) :=
  frame_bootDomain.trans frame_bootDomain

theorem Module.frame_qlkRec {b sev : Nat} : Frame [.out, .regs, .saf, .host] m (m.qlkRec c b sev) := by
  unfold Module.qlkRec
  extract_lets m₁
  have h₁ : Frame [.out, .regs, .saf] m m₁ := frame_report
  exact .mono (by decide) <| .either h₁ <| .either (h₁.step frame_charge) (h₁.step frame_charge)

theorem Module.frame_readFuse : Frame [.out, .regs, .saf, .host] m (m.readFuse c) := by
  unfold Module.readFuse
  extract_lets m₁
  have h₁ : Frame [.regs] m m₁ := .ite (.refl _ m) frame_reg
  exact .mono (by decide) <| h₁.step <| .either (frame_reg.step frame_qlkRec) .rfl

theorem Module.frame_bootSite : Frame [.free, .regs, .saf, .pwr, .seqs, .seqWait] m (m.bootSite s) := by
  unfold Module.bootSite
  split
  · exact .mono (by decide) <| .either (frame_reg.step frame_bootDomains) frame_reg
  · exact .mono (by decide) <| .either frame_retired (frame_reg.step frame_bootDomains)

theorem Module.frame_siteCut : Frame offKinds m (m.siteCut s) := frame_domainOff.trans frame_domainOff

/-- The kinds of state that a site's entry test at boot may change. -/
abbrev testKinds : List Kind := .free :: .sram :: .pwr :: .tines :: offKinds

theorem Module.frame_bootPass : Frame testKinds m (m.bootPass s) := by
  unfold Module.bootPass
  extract_lets back m₁
  have h₁ : Frame [.out, .regs, .saf] m m₁ := .ite frame_siteReturns (.refl _ m)
  exact .mono (by decide) <| .either .rfl <| h₁.step <| .either frame_siteActive <| frame_reg.step <| frame_modTine.step frame_siteCut

theorem Module.frame_bootReplace : Frame testKinds m (m.bootReplace s) := by
  unfold Module.bootReplace
  exact .mono (by decide) <| .either (frame_saf.step <| .either (frame_bootDomains.step frame_siteActive) .rfl) .rfl

theorem Module.frame_bootFail : Frame testKinds m (m.bootFail s) := by
  unfold Module.bootFail
  exact .mono (by decide) <| .either .rfl <| frame_reg.step <| frame_newFault.step <| frame_modTine.step <| frame_retired.step <|
    frame_siteCut.step <| frame_bootReplace.step frame_logRec

theorem Module.frame_showRows : Frame [.regs] m m.showRows := by
  unfold Module.showRows
  exact frame_reg.trans <| frame_reg.trans <| .foldl fun _ _ => frame_reg.trans frame_reg

end Sites

/-! ### Connections, lasers and fibres (R27, R297, R349, R368 to R371, R422) -/

section Dies
variable {m m' : Module} {c b dir rx tx s e failed : Nat} {x : LaneMap} {w : List (Nat × Nat)} {halfOnly on : Bool}

theorem Module.frame_setLanes : Frame [.regs] m (m.setLanes c b dir x failed) := by
  have hsix {a₁ a₂ a₃ a₄ a₅ a₆ : Fld} {v₁ v₂ v₃ v₄ v₅ v₆ : Nat} {i : List Nat} :
      Frame [.regs] m ((((((m.wr a₁ v₁ i).wr a₂ v₂ i).wr a₃ v₃ i).wr a₄ v₄ i).wr a₅ v₅ i).wr a₆ v₆ i) :=
    frame_reg.trans <| frame_reg.trans <| frame_reg.trans <| frame_reg.trans <| frame_reg.trans frame_reg
  exact .ite hsix hsix

theorem Module.frame_chooseMaps (h : m.chooseMaps c b rx tx halfOnly = some m') : Frame [.out, .regs, .saf, .host] m m' := by
  unfold Module.chooseMaps at h
  extract_lets frx ftx at h
  obtain ⟨p, -, rfl⟩ := Option.map_eq_some_iff.mp h
  extract_lets m₁ m₂ _ _ _ m₃
  have h₂ : Frame [.regs] m m₂ := frame_setLanes.trans <| frame_setLanes.trans frame_reg
  have h₃ : Frame [.out, .regs, .saf, .host] m₂ m₃ := .ite (.mono (by decide) <| frame_reg.step frame_qlkRec) (.refl _ m₂)
  exact .mono (by decide) <| h₂.step <| h₃.step frame_saf

/-- The kinds of state that the start-up test of a bundle may change. -/
abbrev bundleKinds : List Kind := [.out, .regs, .saf, .host, .qlk]

theorem Module.frame_bootBundle : Frame bundleKinds m (m.bootBundle w on c b) := by
  unfold Module.bootBundle
  extract_lets past mask
  refine .ite (frame_reg.mono (by decide)) ?_
  split
  · next m₁ hmaps =>
    have h₁ : Frame bundleKinds m m₁ := (frame_chooseMaps hmaps).mono (by decide)
    exact .ite (h₁.trans <| frame_trainBundle.mono (by decide)) h₁
  · exact .mono (by decide) <| frame_reg.step <| frame_saf.step frame_qlkRec

theorem Module.frame_bootConn : Frame bundleKinds m (m.bootConn w c) := by
  have hretired : Frame [.regs] m ((List.range (connBundles c)).foldl (fun m b => m.wr Reg.qlkBundleState_state 4 [c, b]) m) :=
    .foldl fun _ _ => frame_reg
  have htested : Frame bundleKinds m ((List.range (connBundles c)).foldl (fun m b => m.bootBundle w (m.dieOn c) c b) m) :=
    .foldl fun _ _ => frame_bootBundle
  exact .mono (by decide) <| .either .rfl <| .either (hretired.step frame_showConn) (htested.step frame_showConn)

theorem Module.frame_bootSlot : Frame [.regs] m (m.bootSlot b s) := by
  unfold Module.bootSlot
  extract_lets gone m₁ m₂ m₃
  have h₁ : Frame [.regs] m m₁ := .ite frame_reg frame_reg
  have h₂ : Frame [.regs] m₁ m₂ := .ite frame_reg <| .ite frame_reg (.refl _ m₁)
  have h₃ : Frame [.regs] m₂ m₃ := .ite frame_reg (.refl _ m₂)
  exact h₁.trans <| h₂.trans <| h₃.trans <| .ite frame_reg (.refl _ m₃)

theorem Module.frame_bootLasers : Frame [.free, .out, .regs, .hub, .saf, .pwr, .seqs, .seqWait] m m.bootLasers := by
  unfold Module.bootLasers
  extract_lets m₁ lit m₂
  have h₁ : Frame [.free, .regs, .pwr, .seqs, .seqWait] m m₁ := .foldl fun _ _ =>
    .mono (by decide) <| frame_bootDomain.step <| .step (.foldl fun _ _ => frame_bootSlot) frame_showBank
  have h₂ : Frame [.regs] m₁ m₂ := frame_reg.trans frame_reg
  exact .mono (by decide) <| h₁.step <| h₂.step <| .either frame_useTree .rfl

theorem Module.frame_bootFibre : Frame [.regs] m (m.bootFibre e) := by
  unfold Module.bootFibre
  split
  · exact .refl _ m
  · exact .ite frame_reg <| frame_reg.trans frame_reg

end Dies

/-! ### The stages (R151, R452, R459) -/

section Stages
variable {m : Module} {t : BootTest}

/-- The kinds of state that the start of the devices may change. -/
abbrev deviceKinds : List Kind :=
  [.free, .out, .regs, .sram, .hub, .saf, .pwr, .tines, .host, .seqs, .seqWait, .optics, .lasers, .links, .rte, .qlk]

theorem Module.frame_bootDevices : Frame deviceKinds m (m.bootDevices t) := by
  unfold Module.bootDevices
  refine .ite (.refl _ m) ?_
  extract_lets m₁ m₂ m₃ m₄ rows _ _ m₅ m₆ m₇ m₈ m₉ m₁₀
  have h₁ : Frame [.free, .regs, .pwr, .seqs, .seqWait] m m₁ := (Frame.foldl fun _ _ => frame_bootDomain).trans (frame_reg.mono (by decide))
  have h₂ : Frame [.out, .regs, .saf, .host] m₁ m₂ := .foldl fun _ _ => .ite (.refl _ _) frame_readFuse
  have h₃ : Frame [.free, .out, .regs, .hub, .saf, .pwr, .seqs, .seqWait] m₂ m₃ := frame_bootLasers
  have h₄ : Frame [.free, .regs, .pwr, .seqs, .seqWait] m₃ m₄ := .foldl fun _ _ =>
    .ite (.refl _ _) <| frame_bootDomain.trans (frame_bootFibre.mono (by decide))
  have h₅ : Frame [.saf] m₄ m₅ := frame_saf
  have h₆ : Frame [.free, .regs, .saf, .pwr, .seqs, .seqWait] m₅ m₆ :=
    (Frame.foldl fun _ _ => frame_bootSite).trans (frame_showRows.mono (by decide))
  have h₇ : Frame testKinds m₆ m₇ := .foldl fun _ _ => frame_bootPass
  have h₈ : Frame testKinds m₇ m₈ := .foldl fun _ _ => frame_bootFail
  have h₉ : Frame testKinds m₈ m₉ := .foldl fun _ _ => frame_bootReplace
  have h₁₀ : Frame [.free, .regs, .pwr, .seqs, .seqWait] m₉ m₁₀ := .foldl fun _ _ =>
    .ite (.ite (.refl _ _) frame_bootDomain) (frame_reg.mono (by decide))
  have hbuilt : Frame deviceKinds m m₅ := .mono (by decide) <| h₁.step <| h₂.step <| h₃.step <| h₄.step h₅
  have htested : Frame deviceKinds m₅ m₁₀ := .mono (by decide) <| h₆.step <| h₇.step <| h₈.step <| h₉.step h₁₀
  exact hbuilt.trans <| htested.trans <| .mono (by decide) <|
    .step (.foldl fun _ _ => frame_bootConn) <| frame_alerts.step frame_reg

/-- The kinds of state that the structure's start may change. -/
abbrev structKinds : List Kind := .dev :: .cal :: .qlk :: applyKinds

theorem Module.frame_bootStructure : Frame structKinds m m.bootStructure := by
  unfold Module.bootStructure
  refine .ite (.refl _ m) ?_
  extract_lets m₁ m₂ m₃ ok m₄ m₅
  have h₁ : Frame [.dev] m m₁ := frame_dev
  have h₂ : Frame [.regs] m₁ m₂ := frame_reg.trans frame_reg
  have h₃ : Frame [.regs, .cal] m₂ m₃ := .mono (by decide) <| frame_reg.step frame_calRound
  have h₄ : Frame structKinds m₃ m₄ := by
    unfold m₄
    split
    · exact .mono (by decide) <| frame_applyStruct.step <| frame_reg.step frame_reg
    · exact .mono (by decide) <| frame_reg.step <| .foldl fun _ _ => frame_reg.step frame_domainOff
  have h₅ : Frame [.regs, .seqs, .seqWait] m₄ m₅ := .foldl fun _ _ => frame_opticsUp
  exact .mono (by decide) <| h₁.step <| h₂.step <| h₃.step <| h₄.step <| h₅.step frame_reg

theorem Module.frame_bootReady : Frame [.regs, .flash] m m.bootReady := by
  unfold Module.bootReady
  refine .ite (.refl _ m) ?_
  extract_lets m₀ m₁ m₂
  have h₀ : Frame [.regs] m m₀ := .foldl fun _ _ => .ite (.refl _ _) frame_reg
  have h₁ : Frame [.regs] m₀ m₁ := frame_reg.trans frame_reg
  have h₂ : Frame [.regs, .flash] m m₂ := .mono (by decide) <| h₀.step <| h₁.step <| .either .rfl frame_reg
  split
  · exact .ite (h₂.trans <| frame_flash.mono (by decide)) h₂
  · exact h₂

end Stages

end Sys2Proof.Machine
end

section
/-! PROOFS. Frames of ownership, SPDM, the check-value engines and the context view (R165, R461 to R470), and the completion of the
reset, boot, security and check-value commands. -/

namespace Sys2Proof.Machine

/-! ### Management entries that write flash (R461, R463) -/

section Ownership
variable {m m' : Module} {ks : List Kind} {op v : Nat} {e b : List Nat} {block sec : Option (List Nat)} {img : Option FwImage} {flashOk : Bool}
  {k : Module → Nat → Module} {permitted : Module → List Nat → Bool} {key : Module → List Nat → List Nat}
  {act : Module → List Nat → Option Module}

/-- A management entry changes what taking it changes, and what it does. -/
theorem Module.frame_mgmt (hs : [.regs, .pair] ⊆ ks) (h : ∀ m cid, Frame ks m (k m cid)) : Frame ks m (m.mgmt op e k) :=
  .ite ((frame_takeEntry.mono hs).trans (h _ _)) (.refl _ m)

/-- The kinds of state that a management entry that writes flash may change. -/
abbrev flashKinds : List Kind := [.out, .regs, .flash, .host, .pair]

theorem Module.frame_fwUpdate : Frame flashKinds m (m.fwUpdate e img flashOk) := by
  refine frame_mgmt (by decide) fun m cid => ?_
  split
  · exact frame_finish.mono (by decide)
  · exact .mono (by decide) <| .either frame_finish <| frame_writeFw.step frame_finish

theorem Module.frame_showOwner : Frame [.regs] m m.showOwner := by
  unfold Module.showOwner
  split
  · exact frame_reg.trans <| frame_reg.trans <| frame_reg.trans frame_reg
  · exact frame_reg.trans <| frame_reg.trans <| frame_reg.trans frame_reg

theorem Module.frame_storeOwner : Frame [.regs, .flash] m (m.storeOwner b sec) := .mono (by decide) <| frame_flash.step frame_showOwner

/-- An owner opcode changes registers and flash by its action, and what an entry and its completion change. -/
theorem Module.frame_ownerOp (h : ∀ m b m', act m b = some m' → Frame [.regs, .flash] m m') :
    Frame flashKinds m (m.ownerOp op e block flashOk permitted key act) := by
  refine frame_mgmt (by decide) fun m cid => ?_
  have hfinish {m : Module} {x : Compl} : Frame flashKinds m (m.finish 0 cid x) := frame_finish.mono (by decide)
  refine .ite hfinish <| .ite hfinish <| .ite hfinish ?_
  split
  · exact hfinish
  · next m₁ hact => exact .ite (((h _ _ _ hact).mono (by decide)).trans hfinish) hfinish

theorem Module.frame_ownerEnrol : Frame flashKinds m (m.ownerEnrol e block flashOk) :=
  frame_ownerOp fun _ _ _ h => by
    obtain ⟨_, -, rfl⟩ := Option.map_eq_some_iff.mp h
    exact frame_storeOwner.trans (frame_reg.mono (by decide))

theorem Module.frame_ownerUpdate : Frame flashKinds m (m.ownerUpdate e block flashOk) :=
  frame_ownerOp fun _ _ _ h => by
    obtain ⟨_, -, rfl⟩ := Option.map_eq_some_iff.mp h
    exact frame_storeOwner

theorem Module.frame_ownerRelease : Frame flashKinds m (m.ownerRelease e block flashOk) :=
  frame_ownerOp fun _ _ _ h => by
    cases h
    exact .mono (by decide) <| frame_flash.step <| frame_showOwner.step frame_reg

theorem Module.frame_secLock : Frame [.regs] m (m.secLock v) := .ite frame_reg (.refl _ m)

end Ownership

/-! ### SPDM (R467, R468) -/

section Spdm
variable {m : Module} {ks : List Kind} {t need s code slot off len index : Nat} {req nonce body : List Nat} {k : Module → Module}

theorem Module.frame_spdmReply : Frame [.out] m (m.spdmReply t code body) := frame_emit

theorem Module.frame_spdmSet : Frame [.sec] m (m.spdmSet t s) := frame_sec

/-- A request that is not served is dropped, or answered with an error. -/
theorem Module.frame_spdmServe (hs : [.out] ⊆ ks) (h : Frame ks m (k m)) : Frame ks m (m.spdmServe t need k) :=
  .ite (.refl _ m) <| .ite (frame_spdmReply.mono hs) h

theorem Module.frame_spdmSigned : Frame [.free, .out] m (m.spdmSigned t code nonce body) :=
  .mono (by decide) <| (frame_draw (v := 128)).step <| (frame_draw (v := 128)).step frame_spdmReply

theorem Module.frame_spdmVersion : Frame [.out, .sec] m (m.spdmVersion t) :=
  frame_spdmServe (by decide) <| .mono (by decide) <| frame_spdmSet.step frame_spdmReply

theorem Module.frame_spdmCaps : Frame [.out, .sec] m (m.spdmCaps t) :=
  frame_spdmServe (by decide) <| .mono (by decide) <| frame_spdmSet.step frame_spdmReply

theorem Module.frame_spdmAlgs : Frame [.out, .sec] m (m.spdmAlgs t req) :=
  frame_spdmServe (by decide) <| .mono (by decide) <| frame_spdmSet.step frame_spdmReply

theorem Module.frame_spdmDigests : Frame [.out] m (m.spdmDigests t) := frame_spdmServe (by decide) frame_spdmReply

theorem Module.frame_spdmCert : Frame [.out] m (m.spdmCert t slot off len) :=
  frame_spdmServe (by decide) <| .ite frame_spdmReply frame_spdmReply

theorem Module.frame_spdmChallenge : Frame [.free, .out] m (m.spdmChallenge t slot nonce) :=
  frame_spdmServe (by decide) <| .ite (frame_spdmReply.mono (by decide)) frame_spdmSigned

theorem Module.frame_spdmMeasure : Frame [.free, .out] m (m.spdmMeasure t index nonce) :=
  frame_spdmServe (by decide) <| .ite frame_spdmSigned <| .ite frame_spdmSigned <| .ite frame_spdmSigned <|
    frame_spdmReply.mono (by decide)

end Spdm

/-! ### Check-value engines (R469, R470) and the context view (R165) -/

section Engines
variable {m : Module} {e v table : Nat} {host : Option (List Nat)} {errs : List (Nat × Nat)} {b : List Nat}

theorem Module.frame_crc {x : SMap CrcRun} : Frame [.crc] m { m with crc := x } := .single fun k h => by cases k <;> trivial

theorem Module.frame_crcGo : Frame [.regs, .crc] m (m.crcGo e v) := by
  unfold Module.crcGo
  refine .ite (frame_reg.mono (by decide)) ?_
  extract_lets m₁
  have h₁ : Frame [.regs] m m₁ := frame_reg.trans <| frame_reg.trans <| frame_reg.trans frame_reg
  exact .mono (by decide) <| h₁.step <| .either .rfl <| frame_crc.step frame_reg

/-- The kinds of state that the end of a run may change. -/
abbrev runKinds : List Kind := [.free, .out, .regs, .dev, .saf, .crc, .host]

theorem Module.frame_crcEnd : Frame runKinds m (m.crcEnd e host) := by
  unfold Module.crcEnd
  split
  · exact .refl _ m
  next r _ =>
  extract_lets m₀ fail give
  have h₀ : Frame [.regs, .crc] m m₀ := .mono (by decide) <| frame_crc.step frame_reg
  have hfail {x : Module} {c : Nat} : Frame [.regs] x (fail x c) := frame_reg
  have hgive {x : Module} {v : Nat} : Frame [.regs] x (give x v) := frame_reg.trans <| frame_reg.trans <| frame_reg.trans frame_reg
  have hread : Frame [.out, .regs, .dev, .saf, .host] m₀ (m₀.devBytes 0 r.src r.len).2.2 := frame_devBytes
  generalize m₀.devBytes 0 r.src r.len = x at hread ⊢
  obtain ⟨bytes, bad, m₁⟩ := x
  refine .mono (by decide) <| h₀.step <| .either hfail <| .either (ls := [.regs]) ?host <| .either hfail <| hread.step <|
    .either hfail <| .either hgive <| (frame_draw (v := r.width)).step hgive
  split
  · exact hfail
  · exact hgive

theorem Module.frame_cirqueRead : Frame [.out, .regs, .saf] m (m.cirqueRead table errs b).2 := by
  refine List.foldlRecOn (motive := fun a : List Nat × Module => Frame [.out, .regs, .saf] m a.2) errs _ (.refl _ m) fun a ha x _ => ?_
  dsimp only
  split
  · exact ha
  · exact ha
  · exact ha.trans <| .mono (by decide) <| frame_reg.step frame_report
  · exact ha.trans <| frame_reg.mono (by decide)

theorem Module.frame_latchView : Frame [.out, .regs, .saf] m (m.latchView errs) :=
  .mono (by decide) <| frame_cirqueRead.step <| .step (.iter fun _ _ => frame_reg) <| frame_reg.step frame_reg

theorem Module.frame_ctxSel : Frame [.out, .regs, .saf] m (m.ctxSel v errs) :=
  .mono (by decide) <| .either (frame_reg.step frame_latchView) frame_reg

theorem Module.frame_modRelease : Frame [.hub] m m.modRelease := frame_hub

end Engines

/-- Settles O60, each command by the frame of its operation; the resets, which reinitialise the module, complete without one, and
commands that change nothing are log entry 4. -/
theorem bootAndSecurityCommandsComplete : Obligations.BootAndSecurityCommandsComplete := fun s =>
  ⟨completes_of_act (exec_powerOnReset s) rfl,
    completes_of_act (exec_modResetN s) rfl,
    fun v h => completes_of_eq (exec_hubResetModule v s) rfl h,
    completes_of_act (exec_watchdogExpiry s) rfl,
    completesIn_of_frame (exec_firmwareVerified s) rfl rfl Module.frame_firmwareVerified,
    fun found => completesIn_of_frame (exec_bootDevicesReady found s) rfl rfl Module.frame_bootDevices,
    completesIn_of_frame (exec_bootStructureApplied s) rfl rfl (Module.frame_bootStructure.mono (by decide)),
    completesIn_of_frame (exec_bootReady s) rfl rfl Module.frame_bootReady,
    fun img => completes_of_eq (exec_recoveryImage img s) rfl rfl,
    fun e img flashOk h => completesIn_of_frame (exec_fwUpdate e img flashOk s) rfl h Module.frame_fwUpdate,
    fun e block flashOk h => completesIn_of_frame (exec_ownerEnrol e block flashOk s) rfl h Module.frame_ownerEnrol,
    fun e block flashOk h => completesIn_of_frame (exec_ownerUpdate e block flashOk s) rfl h Module.frame_ownerUpdate,
    fun e block flashOk h => completesIn_of_frame (exec_ownerRelease e block flashOk s) rfl h Module.frame_ownerRelease,
    fun v h => completesIn_of_frame (exec_secLockSet v s) rfl h Module.frame_secLock,
    fun t h => completesIn_of_frame (exec_getVersion t s) rfl h Module.frame_spdmVersion,
    fun t h => completesIn_of_frame (exec_getCapabilities t s) rfl h Module.frame_spdmCaps,
    fun t req h => completesIn_of_frame (exec_negotiateAlgorithms t req s) rfl h Module.frame_spdmAlgs,
    fun t h => completesIn_of_frame (exec_getDigests t s) rfl h Module.frame_spdmDigests,
    fun t slot off len h => completesIn_of_frame (exec_getCertificate t slot off len s) rfl h Module.frame_spdmCert,
    fun t slot nonce h => completesIn_of_frame (exec_challenge t slot nonce s) rfl h Module.frame_spdmChallenge,
    fun t index nonce h => completesIn_of_frame (exec_getMeasurements t index nonce s) rfl h Module.frame_spdmMeasure,
    fun e v h => completesIn_of_frame (exec_crcGo e v s) rfl h Module.frame_crcGo,
    fun e host h => completesIn_of_frame (exec_crcRunEnd e host s) rfl h Module.frame_crcEnd,
    fun x h => completesIn_of_frame (exec_ctxLatchView x s) rfl h Module.frame_ctxSel,
    completesIn_of_frame (exec_modResetNRelease s) rfl rfl Module.frame_modRelease⟩

end Sys2Proof.Machine
end

section
/-! PROOFS. Loads of model contexts and the entries that hosts ask for them with (R169, R170, R178, R179, R252 to R258). -/

namespace Sys2Proof.Machine

/-! ### Fetching an entry (R253, R255, R382) -/

section Fetching
variable {m : Module} {op q cycle : Nat} {e param : List Nat} {ins outs : List (Nat × Nat)} {r : Req}

/-- The kinds of state that fetching an entry, and the entries taken after it, may change. -/
abbrev fetchKinds : List Kind := [.out, .regs, .dev, .saf, .ctx, .host, .adm, .qlk, .pair]

theorem Module.frame_mirrorFetch : Frame fetchKinds m (m.mirrorFetch q e param) := by
  unfold Module.mirrorFetch
  extract_lets h m₁ y _ m₂ c mine
  refine .ite ?_ (.refl _ m)
  have hread : Frame fetchKinds m m₂ := .mono (by decide) <| frame_reg.step <| frame_reg.step frame_pair
  split
  · exact .ite (hread.trans <| frame_loadImage.mono (by decide)) hread
  · exact .ite (hread.trans <| frame_evict.mono (by decide)) hread
  · exact .ite (hread.trans <| frame_pin.mono (by decide)) hread
  · exact hread

theorem Module.frame_waitRead : Frame [.host] m (m.waitRead q e r) := frame_modQueue

/-- An entry queued as fetched, and what may then be taken. -/
theorem Module.frame_queueFetched {g : Queue → Queue} : Frame fetchKinds m ((m.modQueue q g).arbitrate cycle) :=
  .mono (by decide) <| frame_modQueue.step frame_arbitrate

theorem Module.frame_fetch : Frame fetchKinds m (m.fetch q e ins outs param cycle) := by
  have hwait {r : Req} : Frame fetchKinds m (m.waitRead q e r) := frame_waitRead.mono (by decide)
  unfold Module.fetch
  refine .ite (.refl _ m) <| .ite frame_mirrorFetch <| .ite ?request <| .ite hwait frame_queueFetched
  case request =>
    extract_lets -underBinder openIn openOut
    split
    extract_lets -underBinder ins' outs' r
    split
    · exact frame_queueFetched
    · exact .ite hwait <| .ite (.refl _ m) frame_queueFetched

theorem Module.frame_fetchOp : Frame fetchKinds m (m.fetchOp op q e ins outs param cycle) := .ite frame_fetch (.refl _ m)

end Fetching

/-! ### Operations that answer a module or an error -/

/-- Where an operation answers a module and no error, nothing outside the listed kinds of state has changed. -/
def FrameOk {ε : Type} (ks : List Kind) (m : Module) (o : Except ε Module) : Prop := ∀ b, o = .ok b → Frame ks m b

section Answers
variable {ε α : Type} {ks : List Kind} {m b : Module} {err : ε} {p : Prop} [Decidable p]

theorem FrameOk.error : FrameOk ks m (.error err) := fun _ h => nomatch h

theorem FrameOk.ok (h : Frame ks m b) : FrameOk ks m (.ok b : Except ε Module) := fun _ hb => Except.ok.inj hb ▸ h

theorem FrameOk.ite {o o' : Except ε Module} (h : FrameOk ks m o) (h' : FrameOk ks m o') : FrameOk ks m (if p then o else o') := by
  split
  · exact h
  · exact h'

/-- The module beside an answer that a condition picks. -/
theorem Frame.of_ite {x y : α × Module} {a : α} (he : (if p then x else y) = (a, b)) (hx : Frame ks m x.2) (hy : Frame ks m y.2) :
    Frame ks m b := by
  split at he
  · subst he
    exact hx
  · subst he
    exact hy

end Answers

/-! ### A load whose copy is complete (R169, R170) -/

section Loads
variable {m b : Module} {c a n : Nat} {ld : Load} {l : List Nat} {bad : Bool} {x : Compl}

theorem Module.frame_dev_sec {y : Store} {z : Secur} : Frame [.dev, .sec] m { m with dev := y, sec := z } :=
  .double fun k h h' => by cases k <;> trivial

theorem Module.frame_putImage : Frame [.out, .regs, .dev, .saf] m (m.putImage a n l) := by
  unfold Module.putImage
  extract_lets put
  have hput : Frame [.out, .regs, .dev, .saf] m put := frame_dev.mono (by decide)
  split
  · exact .ite hput (frame_dropWrite.mono (by decide))
  · exact hput

theorem Module.frame_loadFail : Frame [.out, .regs, .ctx, .host, .pair] m (m.loadFail c ld x) :=
  .mono (by decide) <| frame_dropCtx.step frame_finish

theorem Module.frame_loadBytes : Frame [.out, .regs, .dev, .saf, .host] m (m.loadBytes ld l).2.2 := by
  unfold Module.loadBytes
  split
  · split
    · exact frame_devBytes
    · exact frame_addrInvalid.mono (by decide)
  · exact .refl _ m

/-- The checks of a load end in an error, or in a module with the context loaded: device memory zeroed, a nonce base drawn, and the
context's entry. -/
theorem Module.frameOk_loadChecked : FrameOk [.dev, .sec, .ctx] m (m.loadChecked c ld l bad) := by
  unfold Module.loadChecked
  extract_lets x g kv spill x₁ ck
  refine .ite .error <| .ite .error ?_
  split
  · exact .error
  split
  next ka m₁ hka =>
  have hkv : Frame [.ctx] m m₁ := .of_ite hka (.refl _ m) (.mono (by decide) <| frame_setCtx.step frame_allocOr)
  split
  · exact .error
  extract_lets x₂ free port
  split
  next ca m₂ hca =>
  have hsealed : Frame [.ctx] m₁ m₂ := .of_ite hca frame_setCtx frame_setCtx
  split
  · exact .error
  extract_lets x₃
  split
  · exact .error
  · exact .ite .error <| .ok <| .mono (by decide) <| hkv.step <| hsealed.step <| frame_dev_sec.step frame_setCtx

theorem Module.frame_loadCopied : Frame [.out, .regs, .dev, .saf, .sec, .ctx, .host, .pair] m (m.loadCopied c l) := by
  unfold Module.loadCopied
  split
  · exact .refl _ m
  · next ld _ =>
    extract_lets x
    have hbytes : Frame [.out, .regs, .dev, .saf, .host] m (m.loadBytes ld l).2.2 := frame_loadBytes
    generalize m.loadBytes ld l = y at hbytes ⊢
    obtain ⟨b, bad, m₁⟩ := y
    dsimp -zeta only
    extract_lets m₂
    have hput : Frame [.out, .regs, .dev, .saf, .host] m m₂ :=
      hbytes.trans <| .foldl fun _ _ => frame_putImage.mono (by decide)
    split
    · exact .mono (by decide) <| hput.step frame_loadFail
    · next m₃ hload =>
      extract_lets _ m₄ m₅
      have hfill : Frame [.ctx] m₄ m₅ := .ite frame_placed (.refl _ m₄)
      exact .mono (by decide) <| hput.step <| (frameOk_loadChecked _ hload).step <| frame_ctx.step <| hfill.step frame_finish

end Loads

/-- Settles O51: the entries of a queue by the frame of a fetch, whose opcode a row names, and the completed copy by that of a load;
commands that change nothing are log entry 4. -/
theorem requestCommandsComplete : Obligations.RequestCommandsComplete := fun s =>
  ⟨fun q e ins outs param cycle h => completesIn_of_frame (exec_loadImage q e ins outs param cycle s) rfl h Module.frame_fetchOp,
    fun ctx bytes h => completesIn_of_frame (exec_loadImageCopied ctx bytes s) rfl h Module.frame_loadCopied,
    fun q e ins outs param cycle h => completesIn_of_frame (exec_evict q e ins outs param cycle s) rfl h Module.frame_fetchOp,
    fun q e ins outs param cycle h => completesIn_of_frame (exec_pin q e ins outs param cycle s) rfl h Module.frame_fetchOp,
    fun q e ins outs param cycle h => completesIn_of_frame (exec_query q e ins outs param cycle s) rfl h Module.frame_fetchOp,
    fun q e ins outs param cycle h => completesIn_of_frame (exec_cancel q e ins outs param cycle s) rfl h Module.frame_fetchOp,
    fun q e ins outs param cycle h => completesIn_of_frame (exec_invoke q e ins outs param cycle s) rfl h Module.frame_fetchOp,
    fun q e ins outs param cycle h => completesIn_of_frame (exec_invokeChain q e ins outs param cycle s) rfl h Module.frame_fetchOp⟩

end Sys2Proof.Machine
end

section
/-! PROOFS. The (144,128) code (R186 to R189): it is linear, and the weights of its columns decide what the decoder makes of errors. -/

namespace Sys2Proof.Machine

/-! ### Weights of syndromes -/

/-- Bits that two numbers share cancel in their XOR. -/
theorem popcount_xor (n : Nat) : ∀ a b : Nat, popcount n (a ^^^ b) + 2 * popcount n (a &&& b) = popcount n a + popcount n b := by
  induction n with
  | zero => intro a b; rfl
  | succ n ih =>
    intro a b
    have hrest := ih (a / 2) (b / 2)
    have hbit : (a ^^^ b) % 2 + 2 * ((a &&& b) % 2) = a % 2 + b % 2 := by
      rw [Nat.xor_mod_two_eq, show (a &&& b) % 2 = a % 2 &&& b % 2 from Nat.and_mod_two_pow (n := 1)]
      rcases Nat.mod_two_eq_zero_or_one a with ha | ha <;> rcases Nat.mod_two_eq_zero_or_one b with hb | hb <;> simp [ha, hb] <;> omega
    simp only [popcount, Nat.xor_div_two, Nat.and_div_two]
    omega

/-- The low bits and the rest are counted apart. -/
theorem popcount_add (m n : Nat) : ∀ x : Nat, popcount (m + n) x = popcount m x + popcount n (x / 2 ^ m) := by
  induction m with
  | zero => intro x; simp [popcount]
  | succ m ih =>
    intro x
    rw [Nat.succ_add, popcount, popcount, ih, Nat.div_div_eq_div_mul, Nat.pow_succ', Nat.add_assoc]

/-- Bits above those counted do not count. -/
theorem popcount_mod (n : Nat) : ∀ x : Nat, popcount n (x % 2 ^ n) = popcount n x := by
  induction n with
  | zero => intro x; rfl
  | succ n ih =>
    intro x
    rw [popcount, popcount, Nat.pow_succ', Nat.mod_mul_right_mod, Nat.mod_mul_right_div_self, ih]

/-- The weight of a syndrome is that of its three fields. -/
theorem popcount_fields (s : Nat) :
    popcount 16 s = popcount 4 (bitsOf s 3 0) + popcount 4 (bitsOf s 7 4) + popcount 8 (bitsOf s 15 8) := by
  have h₁ := popcount_add 4 12 s
  have h₂ := popcount_add 4 8 (s / 2 ^ 4)
  rw [Nat.div_div_eq_div_mul, ← Nat.pow_add] at h₂
  simp only [bitsOf, pow_zero, Nat.div_one, Nat.reduceAdd, Nat.reduceSub, popcount_mod] at h₁ h₂ ⊢
  omega

/-- A syndrome whose weight no column and no poison mark has is not correctable (R188). -/
theorem codeDecode_uncorr {s : Nat} (h₀ : s ≠ 0) (h₁ : popcount 16 s ≠ 1) (h₃ : popcount 16 s ≠ 3) (h₈ : popcount 16 s ≠ 8) :
    codeDecode s = .uncorr := by
  have hdata : ¬(popcount 4 (bitsOf s 3 0) = 1 ∧ popcount 4 (bitsOf s 7 4) = 1 ∧ popcount 8 (bitsOf s 15 8) = 1) := by
    rintro ⟨hlow, hmid, hhigh⟩
    exact h₃ (by rw [popcount_fields, hlow, hmid, hhigh])
  have hpoison : s ≠ 0xFF00 := by
    rintro rfl
    exact h₈ rfl
  rw [codeDecode, if_neg h₀, if_neg h₁, if_neg hdata, if_neg hpoison]

/-! ### Syndromes of error patterns -/

/-- The XOR of the columns of the bits set in the low n bits of a pattern whose lowest bit is code-word bit i. -/
def syndFrom (n i e : Nat) : Nat := (bitList n i e).foldl (fun s i => s ^^^ codeCol i) 0

theorem codeSynd_eq (e : Nat) : codeSynd e = syndFrom 144 0 e := rfl

/-- The first bit contributes its column; the rest follow. -/
theorem syndFrom_succ (n i e : Nat) : syndFrom (n + 1) i e = (if e % 2 = 1 then codeCol i else 0) ^^^ syndFrom n (i + 1) (e / 2) := by
  have hstart (l : List Nat) (s : Nat) : l.foldl (fun s i => s ^^^ codeCol i) s = s ^^^ l.foldl (fun s i => s ^^^ codeCol i) 0 := by
    induction l generalizing s with
    | nil => simp
    | cons x l ih => rw [List.foldl_cons, List.foldl_cons, ih, ih (0 ^^^ codeCol x), Nat.zero_xor, Nat.xor_assoc]
  by_cases h : e % 2 = 1
  · simp only [syndFrom, bitList, h, if_true, List.foldl_cons]
    rw [hstart, Nat.zero_xor]
  · simp [syndFrom, bitList, h]

/-- The code is linear: the syndrome of two patterns together is the XOR of theirs. -/
theorem syndFrom_xor (n : Nat) : ∀ i a b : Nat, syndFrom n i (a ^^^ b) = syndFrom n i a ^^^ syndFrom n i b := by
  induction n with
  | zero => intro i a b; exact (Nat.xor_self 0).symm
  | succ n ih =>
    intro i a b
    have hbit : (if (a ^^^ b) % 2 = 1 then codeCol i else 0) =
        (if a % 2 = 1 then codeCol i else 0) ^^^ (if b % 2 = 1 then codeCol i else 0) := by
      rw [Nat.xor_mod_two_eq]
      rcases Nat.mod_two_eq_zero_or_one a with ha | ha <;> rcases Nat.mod_two_eq_zero_or_one b with hb | hb <;> simp [ha, hb, Nat.add_mod]
    rw [syndFrom_succ, syndFrom_succ, syndFrom_succ, Nat.xor_div_two, ih, hbit]
    ac_rfl

theorem syndFrom_zero (n : Nat) : ∀ i : Nat, syndFrom n i 0 = 0 := by
  induction n with
  | zero => intro i; rfl
  | succ n ih => intro i; simp [syndFrom_succ, ih]

theorem syndFrom_two_pow (n : Nat) : ∀ i k : Nat, k < n → syndFrom n i (2 ^ k) = codeCol (i + k) := by
  induction n with
  | zero => intro i k h; omega
  | succ n ih =>
    intro i k h
    rw [syndFrom_succ]
    cases k with
    | zero => simp [syndFrom_zero]
    | succ k =>
      rw [Nat.pow_succ, Nat.mul_mod_left, Nat.mul_div_cancel _ Nat.two_pos, ih _ _ (by omega)]
      simp only [Nat.zero_ne_one, if_false, Nat.zero_xor]
      congr 1
      omega

/-- One flipped bit shows its column (R186). -/
theorem codeSynd_two_pow {i : Nat} (h : i < 144) : codeSynd (2 ^ i) = codeCol i := by
  rw [codeSynd_eq, syndFrom_two_pow 144 0 i h, Nat.zero_add]

/-- Two flipped bits show the XOR of their columns. -/
theorem codeSynd_pair {i j : Nat} (hi : i < 144) (hj : j < i) : codeSynd (2 ^ i + 2 ^ j) = codeCol i ^^^ codeCol j := by
  have hsum : 2 ^ i + 2 ^ j = 2 ^ i ^^^ 2 ^ j := by
    have hor : 2 ^ i + 2 ^ j = 2 ^ i ||| 2 ^ j := by
      simpa using Nat.two_pow_add_eq_or_of_lt (Nat.pow_lt_pow_right Nat.one_lt_two hj) 1
    refine hor.trans (Nat.eq_of_testBit_eq fun k => ?_)
    by_cases hk : i = k
    · simp [← hk, hj.ne]
    · simp [Nat.testBit_two_pow, hk]
  rw [hsum, codeSynd_eq, syndFrom_xor, ← codeSynd_eq, ← codeSynd_eq, codeSynd_two_pow hi, codeSynd_two_pow (by omega)]

/-! ### Columns -/

/-- The column of a data bit has weight 3 and names the bit (R186, R188). -/
theorem codeCol_data : ∀ i, i < 128 → popcount 16 (codeCol i) = 3 ∧ codeDecode (codeCol i) = .data i := by decide +kernel

theorem codeCol_check (k : Nat) : codeCol (128 + k) = 2 ^ k := by simp [codeCol]

theorem codeDecode_two_pow : ∀ k, k < 16 → popcount 16 (2 ^ k) = 1 ∧ codeDecode (2 ^ k) = .check := by decide +kernel

/-- The column of a check bit is that bit alone. -/
theorem codeCol_of_ge {i : Nat} (h : 128 ≤ i) (hi : i < 144) :
    codeCol i = 2 ^ (i - 128) ∧ popcount 16 (codeCol i) = 1 ∧ codeDecode (codeCol i) = .check := by
  have hcol : codeCol i = 2 ^ (i - 128) := by rw [codeCol, if_neg (by omega)]
  exact ⟨hcol, hcol ▸ codeDecode_two_pow _ (by omega)⟩

/-- Every column has odd weight, at most 3 (R189). -/
theorem popcount_codeCol {i : Nat} (hi : i < 144) : popcount 16 (codeCol i) = 1 ∨ popcount 16 (codeCol i) = 3 := by
  rcases Nat.lt_or_ge i 128 with h | h
  · exact .inr (codeCol_data i h).1
  · exact .inl (codeCol_of_ge h hi).2.1

/-- No two bits share a column. -/
theorem codeCol_ne {i j : Nat} (hi : i < 144) (hj : j < i) : codeCol i ≠ codeCol j := by
  intro h
  rcases Nat.lt_or_ge i 128 with hi' | hi'
  · have hdata := (codeCol_data i hi').2
    rw [h, (codeCol_data j (by omega)).2] at hdata
    injection hdata with hij
    omega
  · obtain ⟨hcol, -, hcheck⟩ := codeCol_of_ge hi' hi
    rcases Nat.lt_or_ge j 128 with hj' | hj'
    · rw [h, (codeCol_data j hj').2] at hcheck
      cases hcheck
    · rw [hcol, (codeCol_of_ge hj' (by omega)).1] at h
      have := Nat.pow_right_injective (Nat.le_refl 2) h
      omega

/-- Three or four bits of one aligned nibble, pattern by pattern (R189). -/
theorem codeDecode_nibble : ∀ k, k < 36 → ∀ e ∈ [7, 11, 13, 14, 15], codeSynd (e * 16 ^ k) ≠ 0 ∧
    popcount 16 (codeSynd (e * 16 ^ k)) ≤ 5 ∧ codeDecode (codeSynd (e * 16 ^ k)) = .uncorr := by decide +kernel

/-- Two flipped bits: their columns differ, and odd weights add up to an even one that no correctable syndrome has. -/
theorem codeDecode_pair {i j : Nat} (hi : i < 144) (hj : j < i) :
    codeSynd (2 ^ i + 2 ^ j) ≠ 0 ∧ popcount 16 (codeSynd (2 ^ i + 2 ^ j)) % 2 = 0 ∧ popcount 16 (codeSynd (2 ^ i + 2 ^ j)) ≤ 6 ∧
      codeDecode (codeSynd (2 ^ i + 2 ^ j)) = .uncorr := by
  rw [codeSynd_pair hi hj]
  have hne : codeCol i ^^^ codeCol j ≠ 0 := fun h => codeCol_ne hi hj (Nat.xor_eq_zero_iff.mp h)
  have hsum := popcount_xor 16 (codeCol i) (codeCol j)
  have hwi := popcount_codeCol hi
  have hwj := popcount_codeCol (i := j) (by omega)
  exact ⟨hne, by omega, by omega, codeDecode_uncorr hne (by omega) (by omega) (by omega)⟩

/-- Settles O20: one bit by its column, two by the weights of two columns that differ, nibbles pattern by pattern. -/
theorem theCodeCorrectsAndDetects : Obligations.TheCodeCorrectsAndDetects := by
  refine ⟨rfl, rfl, fun i hi => ?data, fun k hk => ?check, fun i hi j hj => codeDecode_pair hi hj, codeDecode_nibble⟩
  case data =>
    rw [codeSynd_two_pow (by omega)]
    exact ⟨(codeCol_data i hi).1, rfl, (codeCol_data i hi).2⟩
  case check =>
    rw [codeSynd_two_pow (by omega), codeCol_check]
    exact ⟨rfl, (codeDecode_two_pow k hk).2⟩

end Sys2Proof.Machine
end

section
/-! PROOFS. Granules of device memory (R188, R190, R194): what a read of GDDR7 delivers and leaves, and the code pages that lay the
devices out (R193, R203). -/

namespace Sys2Proof.Machine

/-! ### Granules as bytes -/

/-- Bytes are the digits to base 256 of the number they make. -/
theorem toLe_leNat : ∀ l : List Nat, (∀ b ∈ l, b < 256) → toLe l.length (leNat l) = l
  | [], _ => rfl
  | b :: l, h => by
    have hb : b < 256 := h b List.mem_cons_self
    rw [List.length_cons, leNat, toLe, Nat.add_mul_mod_self_left, Nat.mod_eq_of_lt hb, Nat.add_mul_div_left _ _ (by decide),
      Nat.div_eq_of_lt hb, Nat.zero_add, toLe_leNat l fun x hx => h x (List.mem_cons_of_mem _ hx)]

section Granules
variable (st : Store) (g : Nat)

theorem Store.toLe_granule : toLe 16 (st.granule g) = st.bytes (16 * g) 16 := by
  have hbytes : ∀ b ∈ st.bytes (16 * g) 16, b < 256 := by
    intro b hb
    obtain ⟨i, -, rfl⟩ := List.mem_map.mp hb
    exact (st.byte (16 * g + i)).isLt
  have hdigits := toLe_leNat _ hbytes
  rwa [show (st.bytes (16 * g) 16).length = 16 by simp [Store.bytes]] at hdigits

theorem Store.granule_mod : st.granule g % 2 ^ 128 = st.granule g := by
  have h := leNat_toLe 16 (st.granule g)
  rw [st.toLe_granule g] at h
  exact h.symm

theorem Store.granule_lt : st.granule g < 2 ^ 128 := by
  rw [← st.granule_mod g]
  exact Nat.mod_lt _ (by decide)

/-- An upset writes the granule with the pattern flipped and the syndrome that it then shows. -/
theorem Store.upset_eq (e : Nat) : st.upset g e = st.setGranule g (st.granule g ^^^ e % 2 ^ 128) (st.syndrome g ^^^ codeSynd e) := rfl

end Granules

/-! ### Code pages (R193, R203) -/

section Pages
variable (st : Store) (gran : Nat → Nat → Nat) {page o k : Nat}

theorem toLe_getD {n k : Nat} (h : k < n) (x : Nat) : (toLe n x).getD k 0 = x / 256 ^ k % 256 := by
  have hlen : k < (toLe n x).length := by rwa [toLe_length]
  rw [List.getD_eq_getElem _ _ hlen, toLe_get]

theorem Store.pageByte_data (ho : o < 112) (hk : k < 16) :
    st.pageByte gran (2048 * page + 16 * o + k) = (st.byte (16 * gran page o + k)).toNat := by
  have hpage : (2048 * page + 16 * o + k) / 2048 = page := by omega
  have hoff : (2048 * page + 16 * o + k) % 2048 = 16 * o + k := by omega
  have hgran : (16 * o + k) / 16 = o := by omega
  have hbyte : (16 * o + k) % 16 = k := by omega
  simp only [Store.pageByte, hpage, hoff, hgran, hbyte]
  rw [if_pos (by omega), st.toLe_granule]
  simp [Store.bytes, hk]

theorem Store.pageByte_check (ho : o < 112) (hk : k < 2) :
    st.pageByte gran (2048 * page + 1792 + 2 * o + k) = st.check (gran page o) / 256 ^ k % 256 := by
  have hpage : (2048 * page + 1792 + 2 * o + k) / 2048 = page := by omega
  have hoff : (2048 * page + 1792 + 2 * o + k) % 2048 = 1792 + 2 * o + k := by omega
  have hgran : (1792 + 2 * o + k - 1792) / 2 = o := by omega
  have hbyte : (1792 + 2 * o + k) % 2 = k := by omega
  simp only [Store.pageByte, hpage, hoff, hgran, hbyte]
  rw [if_neg (by omega), if_pos (by omega), toLe_getD hk]

theorem Store.pageByte_unused (hk : 2016 ≤ k) (hk' : k < 2048) : st.pageByte gran (2048 * page + k) = 0 := by
  have hoff : (2048 * page + k) % 2048 = k := by omega
  simp only [Store.pageByte, hoff]
  rw [if_neg (by omega), if_neg (by omega)]

end Pages

/-- The page, the device and the place in the page name the granule again (R192). -/
theorem gddr_granule (a : Nat) : 112 * (12 * (gddrPage a).1 + gddrDevice a) + (gddrPage a).2 = a / 16 := by
  simp only [gddrPage, gddrDevice]
  omega

theorem gddrPage_lt (a : Nat) : (gddrPage a).2 < 112 := Nat.mod_lt _ (by decide)

theorem cxlBase_aligned (p : Nat) : 16 * (cxlBase p / 16) = cxlBase p := by
  rw [cxlBase]
  split <;> decide

/-- Settles O23: every offset is that of the data, of the check field or of the unused bytes of a page. -/
theorem codePagesLayTheDevicesOut : Obligations.CodePagesLayTheDevicesOut := by
  intro m a g p _ hal _
  have ho := gddrPage_lt a
  have hg : g % 112 < 112 := Nat.mod_lt _ (by decide)
  have hgran := gddr_granule a
  have hcxl : cxlBase p / 16 + 112 * (g / 112) + g % 112 = cxlBase p / 16 + g := by omega
  refine ⟨fun k hk => ⟨?gddr, ?cxl⟩, fun k hk => ⟨?gddrCheck, ?cxlCheck⟩, fun d n k hk hk' => ⟨?gddrRest, ?cxlRest⟩⟩
  case gddr =>
    rw [Module.gddrByte, Store.pageByte_data _ _ ho hk, hgran]
    congr 3
    omega
  case cxl => rw [Module.cxlByte, Store.pageByte_data _ _ hg hk, hcxl, Nat.mul_add, cxlBase_aligned]
  case gddrCheck => rw [Module.gddrByte, Store.pageByte_check _ _ ho hk, hgran]
  case cxlCheck => rw [Module.cxlByte, Store.pageByte_check _ _ hg hk, hcxl]
  case gddrRest => exact Store.pageByte_unused _ _ hk hk'
  case cxlRest => exact Store.pageByte_unused _ _ hk hk'

/-! ### Reads and writes of GDDR7 (R188, R190, R194) -/

section Gddr
variable {m : Module} {a d src sev b : Nat} {bad : Bool}

theorem Module.place_gddr (h : a < gddrEnd) : m.place a = .gddr := if_pos h

theorem Module.devWrite_gddr (h : a < gddrEnd) :
    m.devWrite a d bad = { m with dev := m.dev.setGranule (a / 16) d (if bad then poisonSynd else 0) } := by
  simp only [Module.devWrite, place_gddr h]

/-- A read of a correct granule delivers it and changes nothing. -/
theorem Module.devRead_clean (h : a < gddrEnd) (hs : m.dev.syndrome (a / 16) = 0) :
    m.devRead a src sev = (m.dev.granule (a / 16), false, m) := by
  have hdec : codeDecode 0 = .clean := rfl
  simp [Module.devRead, place_gddr h, hs, hdec]

/-- A read of a poisoned granule delivers it as bad and counts it. -/
theorem Module.devRead_poison (h : a < gddrEnd) (hs : m.dev.syndrome (a / 16) = poisonSynd) :
    m.devRead a src sev = (m.dev.granule (a / 16), true, m.count Reg.memDevPoisonRead_poisonReads 1 [gddrDevice a]) := by
  have hdec : codeDecode poisonSynd = .poison := by decide +kernel
  simp [Module.devRead, place_gddr h, hs, hdec]

/-- A demand read that finds one data bit wrong delivers and writes back the data with the bit flipped, and counts it. -/
theorem Module.devRead_data (h : a < gddrEnd) (hs : codeDecode (m.dev.syndrome (a / 16)) = .data b) :
    m.devRead a 0 sev = (m.dev.granule (a / 16) ^^^ 2 ^ b, false,
      ({ m with dev := m.dev.setGranule (a / 16) (m.dev.granule (a / 16) ^^^ 2 ^ b) 0 } : Module).count Reg.memDevCorr_corrected 1
        [gddrDevice a]) := by
  simp [Module.devRead, place_gddr h, hs, codeData]

/-- A demand read that finds one check bit wrong delivers the data as they stand, writes them back and counts it. -/
theorem Module.devRead_check (h : a < gddrEnd) (hs : codeDecode (m.dev.syndrome (a / 16)) = .check) :
    m.devRead a 0 sev = (m.dev.granule (a / 16), false,
      ({ m with dev := m.dev.setGranule (a / 16) (m.dev.granule (a / 16)) 0 } : Module).count Reg.memDevCheckfield_checkFieldCorrected 1
        [gddrDevice a]) := by
  simp [Module.devRead, place_gddr h, hs, codeData]

end Gddr

/-- Settles O22, by the two reads that follow a write: of a correct granule and of a poisoned one. -/
theorem memoryReadsWhatWasWritten : Obligations.MemoryReadsWhatWasWritten := by
  intro m a d ha _ hd
  have hwritten (s : Nat) : (m.dev.setGranule (a / 16) d s).granule (a / 16) = d := by
    rw [Store.granule_setGranule_same, Nat.mod_eq_of_lt hd]
  have hpoison : (m.devWrite a d true).devRead a 0 sevDegraded =
      (d, true, (m.devWrite a d true).count Reg.memDevPoisonRead_poisonReads 1 [gddrDevice a]) := by
    rw [Module.devWrite_gddr ha, Module.devRead_poison ha (Store.syndrome_setGranule_same _ _ _ _), hwritten]
  refine ⟨?clean, by rw [hpoison], by rw [hpoison], fun bad g hg => ?other, fun bad => ?frame⟩
  case clean =>
    rw [Module.devWrite_gddr ha, Module.devRead_clean ha (Store.syndrome_setGranule_same _ _ _ _), hwritten]
  case other =>
    rw [Module.devWrite_gddr ha]
    exact ⟨Store.granule_setGranule_other hg _ _ _, Store.syndrome_setGranule_other hg _ _ _⟩
  case frame =>
    rw [Module.devWrite_gddr ha]
    exact Module.frame_dev

/-! ### Single upsets (R189) -/

section Upset
variable {st : Store} {g i : Nat}

/-- A granule written again after an upset: it holds what was written, and every other granule stands as before the upset. -/
theorem Store.setGranule_upset (e d : Nat) (h : d < 2 ^ 128) :
    ((st.upset g e).setGranule g d 0).granule g = d ∧ ((st.upset g e).setGranule g d 0).syndrome g = 0 ∧
      ∀ k, k ≠ g → ((st.upset g e).setGranule g d 0).granule k = st.granule k ∧
        ((st.upset g e).setGranule g d 0).syndrome k = st.syndrome k := by
  refine ⟨?same, Store.syndrome_setGranule_same _ _ _ _, fun k hk => ⟨?data, ?synd⟩⟩
  case same => rw [Store.granule_setGranule_same, Nat.mod_eq_of_lt h]
  case data => rw [Store.granule_setGranule_other hk, Store.upset_eq, Store.granule_setGranule_other hk]
  case synd => rw [Store.syndrome_setGranule_other hk, Store.upset_eq, Store.syndrome_setGranule_other hk]

theorem Store.syndrome_upset (hi : i < 144) (hs : st.syndrome g = 0) : (st.upset g (2 ^ i)).syndrome g = codeCol i := by
  rw [Store.upset_eq, Store.syndrome_setGranule_same, hs, Nat.zero_xor, codeSynd_two_pow hi]

theorem Store.granule_upset_data (hi : i < 128) : (st.upset g (2 ^ i)).granule g = st.granule g ^^^ 2 ^ i := by
  have hpow : 2 ^ i < 2 ^ 128 := Nat.pow_lt_pow_right (by decide) hi
  rw [Store.upset_eq, Store.granule_setGranule_same, Nat.mod_eq_of_lt hpow,
    Nat.mod_eq_of_lt (Nat.xor_lt_two_pow (st.granule_lt g) hpow)]

theorem Store.granule_upset_check (hi : 128 ≤ i) : (st.upset g (2 ^ i)).granule g = st.granule g := by
  rw [Store.upset_eq, Store.granule_setGranule_same, Nat.mod_eq_zero_of_dvd (Nat.pow_dvd_pow 2 hi), Nat.xor_zero, st.granule_mod]

end Upset

/-- Settles O21: the read finds the column of the bit, of a data bit or of a check bit. -/
theorem singleUpsetsOfMemoryAreCorrected : Obligations.SingleUpsetsOfMemoryAreCorrected := by
  intro m a i ha _ hi hs m₀ r
  have hsynd : m₀.dev.syndrome (a / 16) = codeCol i := Store.syndrome_upset hi hs
  obtain ⟨hdata, hok, hothers⟩ := Store.setGranule_upset (2 ^ i) _ (m.dev.granule_lt (a / 16))
  rcases Nat.lt_or_ge i 128 with hbit | hbit
  · have hdec : codeDecode (m₀.dev.syndrome (a / 16)) = .data i := by rw [hsynd, (codeCol_data i hbit).2]
    have hread : r = _ := Module.devRead_data ha hdec
    rw [show m₀.dev.granule (a / 16) = _ from Store.granule_upset_data hbit, Nat.xor_xor_cancel_right] at hread
    rw [hread]
    exact ⟨rfl, rfl, hdata, hok, fun _ => Module.rd_count_same _ _ _ _, fun h => absurd h (by omega), hothers⟩
  · have hdec : codeDecode (m₀.dev.syndrome (a / 16)) = .check := by rw [hsynd, (codeCol_of_ge hbit hi).2.2]
    have hread : r = _ := Module.devRead_check ha hdec
    rw [show m₀.dev.granule (a / 16) = _ from Store.granule_upset_check hbit] at hread
    rw [hread]
    exact ⟨rfl, rfl, hdata, hok, fun h => absurd h (by omega), fun _ => Module.rd_count_same _ _ _ _, hothers⟩

end Sys2Proof.Machine
end

section
/-! PROOFS. Frames of the memory-system commands (R195 to R208, R245), their completion, and the sizes that the host region and the
aperture take (R206, R474). -/

namespace Sys2Proof.Machine

/-! ### Patrol scrubbing (R199, R200) -/

section Scrub
variable {m : Module} {a e : Nat}

theorem Module.frame_scrub {x : Nat} : Frame [.scrub] m { m with scrub := x } := .single fun k h => by cases k <;> trivial

theorem Module.frame_repairs {x : Nat} : Frame [.repairs] m { m with repairs := x } := .single fun k h => by cases k <;> trivial

/-- The kinds of state that the repair of a granule may change. -/
abbrev repairKinds : List Kind := [.free, .out, .regs, .dev, .repairs, .saf, .ctx, .host]

theorem Module.frame_scrubRepair : Frame repairKinds m (m.scrubRepair a) := by
  unfold Module.scrubRepair
  refine .ite (.mono (by decide) <| (frame_draw (v := 128)).step frame_devWrite) ?_
  split
  · exact .refl _ m
  next c base _ =>
  split
  next o _ =>
    have hread : Frame [.out, .regs, .dev, .saf, .host] m (m.devRead (o + (a - base)) 0 sevDegraded).2.2 := frame_devRead
    exact .mono (by decide) <| hread.step <| .either frame_latch_ctx (frame_devWrite.step frame_repairs)
  · exact frame_latch_ctx.mono (by decide)

theorem Module.frame_scrubRead : Frame (.scrub :: repairKinds) m (m.scrubRead e) := by
  unfold Module.scrubRead
  refine .ite (.refl _ m) ?_
  extract_lets g m₀ first m₁ m₂ total n
  have h₀ : Frame [.dev] m m₀ := frame_dev
  have h₁ : Frame [.out, .regs, .dev, .saf, .host] m₀ m₁ := frame_devRead
  have h₂ : Frame repairKinds m₁ m₂ := .ite frame_scrubRepair (.refl _ m₁)
  exact .mono (by decide) <| h₀.step <| h₁.step <| h₂.step <|
    .either (frame_scrub.step <| frame_reg.step frame_reg) (frame_scrub.step frame_reg)

end Scrub

/-! ### Temperature bands (R195, R198) -/

section Bands
variable {m : Module} {d : Nat} {t : Int}

theorem Module.frame_memBand {x : SMap Nat} : Frame [.memBand] m { m with memBand := x } := .single fun k h => by cases k <;> trivial

theorem Module.frame_gddrTemp : Frame [.out, .regs, .memBand, .saf, .host] m (m.gddrTemp d t) := by
  unfold Module.gddrTemp
  refine .ite (.refl _ m) ?_
  extract_lets b n agree m₀ m₁ m₂
  have h₀ : Frame [.memBand] m m₀ := frame_memBand
  have h₁ : Frame [.regs] m₀ m₁ := .ite (frame_reg.trans frame_reg) (.refl _ m₀)
  have h₂ : Frame [.out, .regs, .saf] m₁ m₂ := .mono (by decide) <| frame_reg.step frame_report
  exact .mono (by decide) <| h₀.step <| h₁.step <| .either (h₂.step frame_charge) .rfl

end Bands

/-! ### CXL ports (R201 to R205, R400) -/

section Ports
variable {m : Module} {p sev reason : Nat} {d : CxlDevice} {dev : Option CxlDevice}

theorem Module.frame_cxlRec : Frame [.out, .regs, .saf] m (m.cxlRec p sev) := frame_report

theorem Module.frame_cxlDown : Frame [.out, .regs, .saf, .host] m (m.cxlDown p) := by
  unfold Module.cxlDown
  exact .mono (by decide) <| .either .rfl <| frame_reg.step <| frame_reg.step <| frame_reg.step <| frame_reg.step <|
    frame_cxlRec.step frame_charge

/-- The kinds of state that the loss of a port's checkpoint areas may change. -/
abbrev ckptKinds : List Kind := [.out, .regs, .dev, .saf, .ctx, .pair]

theorem Module.frame_ckptLost : Frame ckptKinds m (m.ckptLost p) := by
  unfold Module.ckptLost
  extract_lets cs m₁
  have h₁ : Frame [.out, .regs, .saf] m m₁ := .mono (by decide) <| frame_reg.step frame_report
  refine .ite (.refl _ m) <| .ite (.mono (by decide) <| h₁.step frame_pair) <| .foldl fun m c => ?_
  extract_lets x n m₂ _ m₃
  have h₃ : Frame [.ctx, .pair] m m₃ := (frame_setCtx (m := m)).step frame_pair
  split
  · exact .mono (by decide) <| h₃.step <| frame_dev.step frame_setCtx
  · exact h₃.mono (by decide)

theorem Module.frame_cxlLost : Frame [.ctx, .host] m (m.cxlLost p) := by
  refine .foldl fun m q => .ite (.refl _ m) ?_
  split
  · exact frame_setCtx.mono (by decide)
  · exact frame_latch_ctx

theorem Module.frame_cxlBring : Frame [.regs] m (m.cxlBring p d reason) := by
  unfold Module.cxlBring
  extract_lets r m₁ m₂ m₃
  have h₁ : Frame [.regs] m m₁ := .ite (.refl _ m) (frame_reg.trans frame_reg)
  exact h₁.trans <| .ite frame_reg <| frame_reg.trans <| frame_reg.trans <| frame_reg.trans <| frame_reg.trans frame_reg

theorem Module.frame_cxlBringup : Frame [.regs] m (m.cxlBringup p d) := .ite (.refl _ m) frame_cxlBring

theorem Module.frame_cxlRetrain : Frame [.out, .regs, .dev, .saf, .ctx, .host, .pair] m (m.cxlRetrain p dev) := by
  unfold Module.cxlRetrain
  refine .ite (.refl _ m) ?_
  split
  · exact .mono (by decide) <| frame_reg.step frame_ckptLost
  · exact .mono (by decide) <| .either (frame_reg.step <| frame_reg.step <| frame_reg.step <| frame_reg.step frame_cxlRec)
      (frame_cxlLost.step <| frame_reg.step <| frame_dev.step <| frame_cxlBring.step <| frame_ckptLost.step frame_cxlRec)

end Ports

/-! ### Device memory by granules and by bytes (R190, R194) -/

section Granules
variable {m : Module} {a d mask : Nat} {poisoned : Bool}

/-- The kinds of state that reads and writes of device memory may change. -/
abbrev memKinds : List Kind := [.out, .regs, .dev, .saf, .host]

theorem Module.frame_readGrans (n : Nat) : ∀ (m : Module) (a : Nat), Frame memKinds m (m.readGrans n a).2 := by
  induction n with
  | zero => exact fun m _ => .refl _ m
  | succ n ih => exact fun _ _ => frame_devRead.trans (ih _ _)

theorem Module.frame_writeGrans (l : List (Nat × Nat)) : ∀ (m : Module) (a : Nat), Frame [.out, .regs, .dev, .saf] m (m.writeGrans a l) := by
  induction l with
  | nil => exact fun m _ => .refl _ m
  | cons g l ih => exact fun _ _ => frame_devWrite.trans (ih _ _)

theorem Module.frame_devWriteMasked : Frame memKinds m (m.devWriteMasked a d mask poisoned) :=
  .ite (frame_devWrite.mono (by decide)) <| .mono (by decide) <| frame_devRead.step frame_devWrite

theorem Module.frame_devWriteBytes (n : Nat) : ∀ (m : Module) (a : Nat) (l : List Nat), Frame memKinds m (m.devWriteBytes n a l) := by
  induction n with
  | zero => exact fun m _ _ => .refl _ m
  | succ n ih => exact fun m _ _ => .ite (.refl _ m) <| frame_devWriteMasked.trans (ih _ _ _)

end Granules

/-! ### The BAR4 aperture (R208, R245, R359) -/

section Aperture
variable {m : Module} {g a n o line st : Nat} {x : QMsg} {b : List Nat} {bytes : Option (List Nat)}

/-- The kinds of state that a coherent access may change. -/
abbrev cohKinds : List Kind := [.out, .regs, .dev, .saf, .host, .qlk]

theorem Module.frame_setLine : Frame [.qlk] m (m.setLine g line st) := frame_modGuest

theorem Module.frame_due : Frame [.qlk] m (m.due g x) := frame_modGuest

theorem Module.frame_cohServe : Frame cohKinds m (m.cohServe g x) := by
  unfold Module.cohServe
  extract_lets line keep
  split
  next data m₁ hread =>
  have h₁ : Frame memKinds m m₁ := .of_ite hread (.refl _ m) (frame_readGrans _ _ _)
  exact .mono (by decide) <| h₁.step <| frame_setLine.step frame_due

theorem Module.frame_hostReadNow : Frame memKinds m (m.hostReadNow a n) :=
  .mono (by decide) <| (frame_devBytes (src := 0) (a := a) (n := n)).step frame_emit

theorem Module.frame_hostWriteNow : Frame memKinds m (m.hostWriteNow a b) := frame_devWriteBytes _ _ _ _

theorem Module.frame_cohWake : Frame cohKinds m m.cohWake := by
  unfold Module.cohWake
  extract_lets span ready _ m₀
  have h₀ : Frame [.qlk] m m₀ := frame_qlk
  exact .mono (by decide) <| h₀.step <| .foldl (ks := cohKinds) fun _ _ =>
    .ite frame_cohServe <| .ite (frame_hostReadNow.mono (by decide)) (frame_hostWriteNow.mono (by decide))

theorem Module.frame_hostAccess : Frame cohKinds m (m.hostAccess a n bytes) :=
  .mono (by decide) <| frame_snoopRange.step <| frame_qlk.step frame_cohWake

theorem Module.frame_unsup : Frame [.out, .host] m m.unsup := .mono (by decide) <| frame_host.step frame_emit

theorem Module.frame_bar4Read : Frame cohKinds m (m.bar4Read o n) := by
  unfold Module.bar4Read
  split
  · exact frame_hostAccess
  · exact .mono (by decide) <| frame_unsup.step frame_addrInvalid

theorem Module.frame_bar4Write : Frame cohKinds m (m.bar4Write o b) := by
  unfold Module.bar4Write
  split
  · exact frame_hostAccess
  · exact frame_addrInvalid.mono (by decide)

end Aperture

/-! ### Registers of the memory system (R191, R206, R208, R474) -/

section Registers
variable {m : Module} {v : Nat}

theorem Module.frame_hostRegionWrite : Frame [.regs] m (m.hostRegionWrite v) := .ite (.refl _ m) frame_reg

theorem Module.frame_apertureWrite : Frame [.regs] m (m.apertureWrite v) := .ite (.refl _ m) frame_reg

theorem Module.frame_clrCirque : Frame [.regs] m m.clrCirque := .foldl fun _ _ => frame_reg

theorem Module.frame_clrDev : Frame [.regs] m m.clrDev :=
  Frame.trans (.foldl fun _ _ => .foldl fun _ _ => frame_reg) (.foldl fun _ _ => .foldl fun _ _ => frame_reg)

/-- A host context is loaded: one of the table that is not ABSENT and not the device's own context 0xFFFF (R164). -/
theorem Module.hostCtx_iff : m.ctx.table.any (fun (p : Nat × Ctx) => p.1 ≠ 0xFFFF && decide (p.2.state ≠ 0)) = true ↔
    ∃ p ∈ m.ctx.table, p.1 ≠ 0xFFFF ∧ p.2.state ≠ 0 := by
  simp

theorem Module.hostRegionWrite_taken (hv : v % 64 ≤ 32) (h : ∀ p ∈ m.ctx.table, p.1 = 0xFFFF ∨ p.2.state = 0) :
    m.hostRegionWrite v = m.wr Reg.memHostRegion_size256m (v % 64) := by
  refine if_neg ?_
  rw [hostCtx_iff]
  rintro (hbig | ⟨p, hp, hhost, hloaded⟩)
  · omega
  · exact (h p hp).elim hhost hloaded

theorem Module.hostRegionWrite_ignored (h : 32 < v % 64 ∨ ∃ p ∈ m.ctx.table, p.1 ≠ 0xFFFF ∧ p.2.state ≠ 0) :
    m.hostRegionWrite v = m := if_pos (h.imp_right hostCtx_iff.mpr)

theorem Module.apertureWrite_taken (h : v % 32 ≤ 16) : m.apertureWrite v = m.wr Reg.hubApertureBase_base256m v :=
  if_neg (Nat.not_lt.mpr h)

theorem Module.apertureWrite_ignored (h : 16 < v % 32) : m.apertureWrite v = m := if_pos h

/-- The four counters of the Cirque read 0 after they are cleared. -/
theorem Module.rd_clrCirque : m.clrCirque.rd Reg.memCirqueCorr_count = 0 ∧ m.clrCirque.rd Reg.memCirqueUncorr_count = 0 ∧
    m.clrCirque.rd Reg.memMeshCorr_count = 0 ∧ m.clrCirque.rd Reg.memMeshUncorr_count = 0 := by
  simp (disch := decide) only [Module.clrCirque, List.foldl, Module.rd_wr_other, Module.rd_wr_same, Nat.zero_mod, and_self]

end Registers

/-- Settles O24, each clause by the equation of its command in that case; what is ignored leaves the state as it stands. -/
theorem hostRegionAndApertureTakeValidSizes : Obligations.HostRegionAndApertureTakeValidSizes := fun s v hv =>
  ⟨fun hsize hidle => completes_of_eq (exec_memHostRegionWrite v s) (Module.hostRegionWrite_taken hsize hidle) hv,
    fun h => exec_of_act_same (exec_memHostRegionWrite v s) (Module.hostRegionWrite_ignored h),
    fun h => completes_of_eq (exec_hubApertureBaseWrite v s) (Module.apertureWrite_taken h) hv,
    fun h => exec_of_act_same (exec_hubApertureBaseWrite v s) (Module.apertureWrite_ignored h),
    _, completesIn_of_act (exec_memCntClrCirque s) rfl Module.frame_clrCirque, Module.rd_clrCirque⟩

/-- Settles O52, each command by the frame of its operation; commands that change nothing are log entry 4. -/
theorem memoryCommandsComplete : Obligations.MemoryCommandsComplete := fun s =>
  ⟨fun e h => completesIn_of_frame (exec_scrubRead e s) rfl h (Module.frame_scrubRead.mono (by decide)),
    fun d t h => completesIn_of_frame (exec_gddr7TempRead d t s) rfl h Module.frame_gddrTemp,
    fun p h => completesIn_of_frame (exec_cxlLinkDown p s) rfl h Module.frame_cxlDown,
    fun p dev h => completesIn_of_frame (exec_cxlRetrainEnd p dev s) rfl h Module.frame_cxlRetrain,
    fun p d h => completesIn_of_frame (exec_cxlBringup p d s) rfl h Module.frame_cxlBringup,
    fun v h => completesIn_of_frame (exec_memHostRegionWrite v s) rfl h Module.frame_hostRegionWrite,
    completesIn_of_frame (exec_memCntClrCirque s) rfl rfl Module.frame_clrCirque,
    completesIn_of_frame (exec_memCntClrDev s) rfl rfl Module.frame_clrDev,
    fun o n => completesIn_of_frame (exec_bar4Read o n s) rfl rfl Module.frame_bar4Read,
    fun o b h => completesIn_of_frame (exec_bar4Write o b s) rfl h Module.frame_bar4Write,
    fun v h => completesIn_of_frame (exec_hubApertureBaseWrite v s) rfl h Module.frame_apertureWrite⟩

end Sys2Proof.Machine
end

section
/-! PROOFS. What a guest's writes, masked writes and atomics store (R357, R364): the granules they name and no other. -/

namespace Sys2Proof.Machine

/-! ### Stores that agree outside a run of granules -/

/-- From store `a` to store `b` no granule changes but the n from granule lo on. -/
def Store.KeptOutside (lo n : Nat) (a b : Store) : Prop :=
  ∀ k, k < lo ∨ lo + n ≤ k → b.granule k = a.granule k ∧ b.syndrome k = a.syndrome k

section Kept
variable {lo n lo' n' : Nat} {a b c : Store}

theorem Store.KeptOutside.refl (a : Store) : a.KeptOutside lo n a := fun _ _ => ⟨rfl, rfl⟩

theorem Store.KeptOutside.of_eq (h : b = a) : a.KeptOutside lo n b := by
  subst h
  exact .refl b

theorem Store.KeptOutside.trans (h : a.KeptOutside lo n b) (h' : b.KeptOutside lo n c) : a.KeptOutside lo n c :=
  fun k hk => ⟨(h' k hk).1.trans (h k hk).1, (h' k hk).2.trans (h k hk).2⟩

/-- A run of granules within a longer one. -/
theorem Store.KeptOutside.mono (h : a.KeptOutside lo' n' b) (hl : lo ≤ lo') (hh : lo' + n' ≤ lo + n) : a.KeptOutside lo n b :=
  fun k hk => h k (by omega)

theorem Store.keptOutside_setGranule (st : Store) (g d s : Nat) : st.KeptOutside g 1 (st.setGranule g d s) :=
  fun k hk => have hne : k ≠ g := by omega
    ⟨granule_setGranule_other hne st d s, syndrome_setGranule_other hne st d s⟩

end Kept

/-! ### What reads and writes of device memory store -/

section Memory
variable {m : Module} {a d src sev mask lo n : Nat} {bad poisoned : Bool}

theorem Module.kept_devUncorr : m.dev.KeptOutside (a / 16) 1 (m.devUncorr a src sev).dev := by
  unfold Module.devUncorr
  extract_lets g s m₁ m₂
  have hcount : m₂.dev = m₁.dev := by
    unfold m₂
    split
    · split <;> rfl
    · rfl
    · rfl
  have hrec : (m₂.memRec a s src sev).dev = m₂.dev := frame_memRec .dev (by decide)
  rw [hrec, hcount]
  exact m.dev.keptOutside_setGranule g _ _

theorem Store.KeptOutside.ite_read {p : Prop} [Decidable p] {x y : Nat × Bool × Module} (hx : m.dev.KeptOutside lo n x.2.2.dev)
    (hy : m.dev.KeptOutside lo n y.2.2.dev) : m.dev.KeptOutside lo n (if p then x else y).2.2.dev := by
  split
  · exact hx
  · exact hy

/-- A read changes at most the granule it reads: corrected, or poisoned at the first detection (R188, R190). -/
theorem Module.kept_devRead : m.dev.KeptOutside (a / 16) 1 (m.devRead a src sev).2.2.dev := by
  unfold Module.devRead
  have hrefused : (m.addrInvalid 0x74 a 16).dev = m.dev := frame_addrInvalid .dev (by decide)
  refine .ite_read (.refl _) <| .ite_read (.of_eq hrefused) ?_
  have hset := m.dev.keptOutside_setGranule (a / 16)
  generalize codeDecode (m.dev.syndrome (a / 16)) = r
  cases r with
  | clean => exact .refl _
  | data b =>
    cases m.place a with
    | gddr => dsimp only; split <;> exact hset _ 0
    | cxl p => exact hset _ 0
    | none => exact hset _ 0
  | check => cases m.place a <;> exact hset _ 0
  | poison => cases m.place a <;> exact .refl _
  | uncorr => exact kept_devUncorr

theorem Module.kept_devWrite : m.dev.KeptOutside (a / 16) 1 (m.devWrite a d bad).dev := by
  unfold Module.devWrite
  have hset := m.dev.keptOutside_setGranule (a / 16) d
  cases m.place a with
  | gddr => exact hset _
  | cxl p =>
    dsimp only
    split
    · exact hset _
    · exact .of_eq (frame_dropWrite .dev (by decide))
  | none => exact .of_eq (frame_addrInvalid .dev (by decide))

theorem Module.kept_devWriteMasked : m.dev.KeptOutside (a / 16) 1 (m.devWriteMasked a d mask poisoned).dev := by
  unfold Module.devWriteMasked
  split
  · exact kept_devWrite
  · exact kept_devRead.trans kept_devWrite

theorem Module.kept_writeGrans (l : List (Nat × Nat)) :
    ∀ (m : Module) (a : Nat), m.dev.KeptOutside (a / 16) l.length (m.writeGrans a l).dev := by
  induction l with
  | nil => exact fun m _ => .refl m.dev
  | cons g l ih =>
    intro m a
    have hfirst : m.dev.KeptOutside (a / 16) 1 (m.devWrite a g.1 (decide (g.2 ≠ 0))).dev := kept_devWrite
    have hrest := ih (m.devWrite a g.1 (decide (g.2 ≠ 0))) (a + 16)
    rw [List.length_cons]
    exact (hfirst.mono (by omega) (by omega)).trans (hrest.mono (by omega) (by omega))

end Memory

/-! ### What a step stores while a guest's message is acted on -/

/-- From module `a` to module `b` only the kinds of a guest's store change, no granule but the n from granule lo on, and what guest
g has sent stands. -/
structure StoresIn (g lo n : Nat) (a b : Module) : Prop where
  frame : Frame cohKinds a b
  inbox : (b.guest g).inbox = (a.guest g).inbox
  kept : a.dev.KeptOutside lo n b.dev

section Stores
variable {m a b c : Module} {g lo n status cause cls op addr : Nat} {x : QMsg} {t : List QMsg} {payload : List (Nat × Nat)}

theorem StoresIn.refl (a : Module) : StoresIn g lo n a a := ⟨.refl _ a, rfl, .refl _⟩

theorem StoresIn.trans (h : StoresIn g lo n a b) (h' : StoresIn g lo n b c) : StoresIn g lo n a c :=
  ⟨h.frame.trans h'.frame, h'.inbox.trans h.inbox, h.kept.trans h'.kept⟩

/-- A step on device memory leaves the guests alone. -/
theorem StoresIn.of_memory (h : Frame memKinds a b) (hk : a.dev.KeptOutside lo n b.dev) : StoresIn g lo n a b :=
  ⟨h.mono (by decide), by rw [Module.guest, Module.guest, h .qlk (by decide)], hk⟩

/-- A step that changes neither device memory nor the guests. -/
theorem StoresIn.of_frame {ls : List Kind} (hs : ls ⊆ [.out, .regs, .saf, .host]) (h : Frame ls a b) : StoresIn g lo n a b :=
  .of_memory (h.mono (List.Subset.trans hs (by decide))) (.of_eq (h.mono hs .dev (by decide)))

theorem StoresIn.modGuest {f : Guest → Guest} (h : ∀ y, (f y).inbox = y.inbox) : StoresIn g lo n m (m.modGuest g f) :=
  ⟨Module.frame_modGuest.mono (by decide), by rw [Module.guest_modGuest_same, h], .refl _⟩

theorem Module.storesIn_reg {f : Fld} {v : Nat} {idx : List Nat} : StoresIn g lo n m (m.wr f v idx) := .of_frame (by decide) frame_reg

theorem Module.storesIn_respond : StoresIn g lo n m (m.respond g x status payload) := by
  unfold Module.respond
  split
  · exact .modGuest fun _ => rfl
  · exact .refl m

theorem Module.storesIn_violation : StoresIn g lo n m (m.violation g cause cls op addr) := by
  unfold Module.violation
  extract_lets m₁ m₂ m₃ f
  have h₁ : StoresIn g lo n m m₁ := storesIn_reg
  have hviol : StoresIn g lo n m₁ (m₁.modGuest g (fun y => { y with viol := true })) := .modGuest fun _ => rfl
  have h₂ : StoresIn g lo n m₁ m₂ := hviol.trans <| storesIn_reg.trans <| storesIn_reg.trans storesIn_reg
  have h₃ : StoresIn g lo n m₂ m₃ := storesIn_reg.trans storesIn_reg
  split
  · exact h₁
  · refine h₁.trans <| h₂.trans <| h₃.trans <| .trans ?fenced (.of_frame (by decide) frame_guestRec)
    split
    · exact storesIn_reg
    · exact .refl m₃

theorem Module.storesIn_fwRefuse : StoresIn g lo n m (m.fwRefuse g cause x) := storesIn_violation.trans storesIn_respond

theorem Module.storesIn_guestAccess {k : Module → Module} (h : StoresIn g lo n m (k m)) : StoresIn g lo n m (m.guestAccess g x k) := by
  unfold Module.guestAccess
  split
  · exact .trans (.of_frame (by decide) frame_addrInvalid) storesIn_respond
  · exact h

/-- Guest g has sent what is left after the message at the head is taken. -/
def Module.headTaken (m : Module) (g : Nat) (t : List QMsg) : Module := m.modGuest g (fun y => { y with inbox := t })

/-- A message of the class and OP that a command takes is gone, and then refused or acted on. -/
theorem Module.storesIn_guestMsg {k : Module → QMsg → Module} (hin : (m.guest g).inbox = x :: t) (hcls : x.cls = cls) (hop : x.op = op)
    (h : ∀ m, StoresIn g lo n m (k m x)) : StoresIn g lo n (m.headTaken g t) (m.guestMsg g cls op k) := by
  simp only [Module.guestMsg, hin, hcls, hop, ne_eq, not_true_eq_false, or_self, if_false]
  split
  · exact storesIn_fwRefuse
  · exact h _

/-! ### Writes, masked writes and atomics -/

theorem Module.storesIn_guestWr (hin : (m.guest g).inbox = x :: t) (hcls : x.cls = 0) (hop : x.op = 2) :
    StoresIn g (x.addr / 16) x.payload.length (m.headTaken g t) (m.guestWr g) :=
  storesIn_guestMsg hin hcls hop fun m => storesIn_guestAccess <|
    .trans (.of_memory ((frame_writeGrans _ m _).mono (by decide)) (kept_writeGrans _ m _)) storesIn_respond

theorem Module.storesIn_guestWrMasked (hin : (m.guest g).inbox = x :: t) (hcls : x.cls = 0) (hop : x.op = 3) :
    StoresIn g (x.addr / 16) 1 (m.headTaken g t) (m.guestWrMasked g) :=
  storesIn_guestMsg hin hcls hop fun _ => storesIn_guestAccess <| .of_memory frame_devWriteMasked kept_devWriteMasked

theorem Module.storesIn_guestAtomic {f : Nat → Nat → Nat → Nat} (hin : (m.guest g).inbox = x :: t) (hcls : x.cls = 0) (hop : x.op = op) :
    StoresIn g (x.addr / 16) 1 (m.headTaken g t) (m.guestAtomic g op f) := by
  refine storesIn_guestMsg hin hcls hop fun m => storesIn_guestAccess ?_
  have hgran : (x.addr / 8 * 8 - x.addr / 8 * 8 % 16) / 16 = x.addr / 16 := by omega
  refine .trans (.of_memory frame_devRead ?read) <| .trans (.of_memory frame_devWriteMasked ?write) storesIn_respond
  case read => exact hgran ▸ kept_devRead
  case write => exact hgran ▸ kept_devWriteMasked

/-- A command on a guest that takes the head of what it has sent completes, and stores where the message says. -/
theorem completesIn_of_storesIn {c : Instr} {s : State} {f : Module → Module} (he : exec c s = s.act (isGuest g) f) (hg : g < 2)
    (h : StoresIn g lo n (s.toModule.headTaken g t) (f s.toModule)) :
    ∃ b, CompletesIn [.out, .regs, .dev, .saf, .host, .qlk] c s b ∧ (b.guest g).inbox = t ∧
      ∀ k, k < lo ∨ lo + n ≤ k → b.dev.granule k = s.dev.granule k ∧ b.dev.syndrome k = s.dev.syndrome k := by
  have hframe : Frame cohKinds s.toModule (f s.toModule) := (Module.frame_modGuest.mono (by decide)).trans h.frame
  have hinbox : ((f s.toModule).guest g).inbox = t := by rw [h.inbox, Module.headTaken, Module.guest_modGuest_same]
  exact ⟨_, completesIn_of_act he (decide_eq_true hg) hframe, hinbox, h.kept⟩

end Stores

/-- Settles O36, each command by what its message stores. -/
theorem guestStoresLeaveOtherMemory : Obligations.GuestStoresLeaveOtherMemory := by
  intro s g x t hg hin hcls c hc hop
  simp only [List.mem_cons, List.not_mem_nil, or_false] at hc
  rcases hc with rfl | rfl | rfl | rfl | rfl
  · exact completesIn_of_storesIn (exec_wr g s) hg (Module.storesIn_guestWr hin hcls hop)
  · exact completesIn_of_storesIn (exec_wrMasked g s) hg (Module.storesIn_guestWrMasked hin hcls hop)
  · exact completesIn_of_storesIn (exec_atAdd g s) hg (Module.storesIn_guestAtomic hin hcls hop)
  · exact completesIn_of_storesIn (exec_atSwap g s) hg (Module.storesIn_guestAtomic hin hcls hop)
  · exact completesIn_of_storesIn (exec_atCas g s) hg (Module.storesIn_guestAtomic hin hcls hop)

end Sys2Proof.Machine
end

section
/-! PROOFS. Packets that arrive and packets in transit (R238, R269, R325 to R331, R337 to R342), notices (R338), the package's ID (R345)
and the routing tables (R336): the frames of the fabric commands, and their completion. -/

namespace Sys2Proof.Machine

/-! ### Arrival (R328 to R331, R344) -/

section Arrival
variable {m : Module} {ks : List Kind} {p v op : Nat} {k : Pkt} {f : Module → Pkt → List (Nat × Nat) → Option Module}

theorem Module.frame_freeRx {h n : Nat} : Frame [.links] m (m.freeRx p v h n) := .ite (.refl _ m) frame_modLink

theorem Module.frame_popPkt : Frame [.links] m (m.popPkt p v) := by
  unfold Module.popPkt
  split
  · exact .refl _ m
  · exact frame_modLink.trans frame_freeRx

/-- The module beside an answer, where a condition picks both. -/
theorem Frame.ite_snd {α : Type} {c : Prop} [Decidable c] {x y : α × Module} (hx : Frame ks m x.2) (hy : Frame ks m y.2) :
    Frame ks m (if c then x else y).2 := by
  split
  · exact hx
  · exact hy

theorem Module.frame_epochOk : Frame [.regs, .rte] m (m.epochOk k).2 := by
  -- The difference of the epochs becomes a number, so that no check of this proof counts to 2 ^ 32.
  unfold Module.epochOk
  dsimp only
  generalize (k.epoch + 2 ^ 32 - SMap.get 0 m.rte.epochs k.srcPair) % 2 ^ 32 = d
  exact .ite_snd (.refl _ m) <| .ite_snd (.refl _ m) <| .ite_snd (frame_rte.mono (by decide)) (frame_reg.mono (by decide))

theorem Module.frame_assemble : Frame [.rte] m (m.assemble k).2 := .ite_snd frame_rte frame_rte

/-- A packet consumed frees receive buffer, is filtered and joined to its message, and acts on a whole message as its opcode does; where
the message cannot be taken yet nothing changes. -/
theorem Module.frame_consume (hs : [.regs, .links, .rte] ⊆ ks) (h : ∀ m x gs, Frame ks m ((f m x gs).getD m)) :
    Frame ks m (m.consume p v op f) := by
  unfold Module.consume
  split
  · exact .refl _ m
  next k _ =>
  have hfilter : Frame [.regs, .links, .rte] m ((m.popPkt p v).epochOk k).2 := .mono (by decide) <| frame_popPkt.step frame_epochOk
  generalize (m.popPkt p v).epochOk k = x at hfilter ⊢
  obtain ⟨ok, m₀⟩ := x
  dsimp -zeta only
  extract_lets _ m₁
  have h₁ : Frame [.regs, .links, .rte] m m₁ := hfilter.trans <| .ite (.refl _ m₀) (frame_rte.mono (by decide))
  refine .ite (h₁.mono hs) ?_
  have hjoin : Frame [.regs, .links, .rte] m (m₁.assemble k).2 := h₁.trans <| frame_assemble.mono (by decide)
  generalize m₁.assemble k = y at hjoin ⊢
  obtain ⟨_ | ⟨hdr, gs⟩, m₂⟩ := y
  · exact hjoin.mono hs
  · refine .getD fun b hb => (hjoin.mono hs).trans ?_
    simpa [hb] using h m₂ hdr gs

theorem Module.frame_lateCopy : Frame [.regs] m (m.lateCopy p) := frame_reg

theorem Module.frame_subscribe {pkg : Nat} {cs : List Nat} : Frame [.pair] m (m.subscribe pkg cs) := .ite frame_pair (.refl _ m)

end Arrival

/-! ### Requests, replies and quotes (R237, R238, R269, R330, R386, R395 to R398) -/

section Requests
variable {m : Module} {p v id pkg number cycle cid seed flat outCap fromSlice : Nat} {c : ReqCopy} {r : Req} {w : Quote}
  {ds input : List Nat}

theorem Module.frame_adm_pair {x : Adm} {y : Pair} : Frame [.adm, .pair] m { m with adm := x, pair := y } :=
  .double fun k h h' => by cases k <;> trivial

theorem Module.frame_resumeReq : Frame [.ctx, .adm, .pair] m (m.resumeReq c r) :=
  .mono (by decide) <| frame_adm_pair.step <| .foldl fun _ _ => frame_setCtx.trans frame_askFills

/-- The kinds of state that a fabric request, and the entries taken after it, may change. -/
abbrev requestKinds : List Kind := [.out, .regs, .dev, .saf, .ctx, .host, .adm, .links, .rte, .qlk, .pair]

theorem Module.frame_fabricRequest : Frame requestKinds m (m.fabricRequest p v cycle) := by
  unfold Module.fabricRequest
  refine .ite (.refl _ m) <| frame_consume (by decide) fun m h gs => ?_
  split
  next b bad _ =>
  split
  · exact frame_reg.mono (by decide)
  extract_lets e r₀ r push
  have hpush {m : Module} {r : Req} : Frame requestKinds m (push m r) := .mono (by decide) <| frame_host.step frame_arbitrate
  split
  · exact .mono (by decide) <| frame_resumeReq.step <| frame_reg.step frame_acceptReq
  · split
    · exact hpush
    · split
      · exact .refl _ m
      · exact (frame_subscribe.mono (by decide)).trans hpush

theorem Module.frame_resendSub : Frame [.free, .out, .regs, .links, .rte] m (m.resendSub id pkg) := by
  unfold Module.resendSub
  split
  · exact .refl _ m
  · exact .foldl fun _ _ => frame_sendSub.trans <| frame_reg.mono (by decide)

theorem Module.frame_replyPacket : Frame endKinds m (m.replyPacket p v) := by
  refine frame_consume (by decide) fun m h gs => ?_
  split
  next b _ _ =>
  split
  · exact frame_lateCopy.mono (by decide)
  extract_lets st far
  split
  · exact .refl _ m
  · split
    next hlearn =>
      have h₁ := (Option.ite_none_right_eq_some.mp hlearn).2
      exact .mono (by decide) <| (frame_learnRedirect h₁).step frame_resendSub
    · rw [Option.getD_some]
      exact frame_ended

theorem Module.frame_quotePacket : Frame [.regs, .adm, .links, .rte, .pair] m (m.quotePacket p number ds cycle) := by
  unfold Module.quotePacket
  refine frame_consume (by decide) fun m h _ => ?_
  extract_lets now q keep
  rw [Option.getD_some]
  exact .mono (by decide) <| frame_adm.step frame_subscribe

theorem Module.frame_admitSub : Frame [.ctx, .host, .adm] m (m.admitSub w r) := by
  unfold Module.admitSub
  extract_lets id blk _ _ m₁
  have h₁ : Frame [.host, .adm] m m₁ := frame_host_adm
  refine .mono (by decide) <| h₁.step (ks := [.ctx]) <| .foldl fun m c => ?_
  extract_lets x m' usable
  exact (frame_setCtx (m := m)).trans <| .ite frame_placeAt frame_placed

/-- The kinds of state that a sub-request may change. -/
abbrev subreqKinds : List Kind := [.free, .out, .regs, .ctx, .host, .adm, .links, .rte, .pair]

theorem Module.frame_subreqPacket : Frame subreqKinds m (m.subreqPacket p v number cid seed flat outCap input cycle) := by
  unfold Module.subreqPacket
  refine .ite (.refl _ m) <| frame_consume (by decide) fun m h gs => ?_
  extract_lets src bad r
  split
  · split
    · exact .mono (by decide) <| frame_subscribe.step frame_admitSub
    · exact frame_replyWith.mono (by decide)
  · exact .mono (by decide) <| frame_countReject.step frame_replyWith

theorem Module.frame_mesh {x : List Flit} : Frame [.mesh] m { m with mesh := x } := .single fun k h => by cases k <;> trivial

theorem Module.frame_streamPacket : Frame [.regs, .mesh, .links, .rte, .pair] m (m.streamPacket p v fromSlice) := by
  refine frame_consume (by decide) fun m h gs => ?_
  extract_lets s x part sl d run
  clear_value part sl run
  split
  · exact .mono (by decide) <| frame_subscribe.step frame_mesh
  · exact frame_lateCopy.mono (by decide)

end Requests

/-! ### Transit and reassembly (R328, R330, R331, R337, R339, R341, R342, R396) -/

section Transit
variable {m : Module} {p v src tag vc : Nat} {k : Pkt}

theorem Module.frame_noRoute : Frame [.out, .regs, .links, .rte] m (m.noRoute k) := by
  unfold Module.noRoute
  extract_lets m₁ cid b
  have h₁ : Frame [.out, .regs, .links, .rte] m m₁ := frame_reg.mono (by decide)
  refine .ite (h₁.trans ?_) h₁
  split
  next hsend => exact frame_sendMsg hsend
  · exact frame_reg.mono (by decide)

theorem Module.frame_packetForward : Frame [.out, .regs, .links, .rte] m (m.packetForward p v) := by
  unfold Module.packetForward
  split
  · exact .refl _ m
  next k _ =>
  extract_lets m₁
  have h₁ : Frame [.out, .regs, .links, .rte] m m₁ := frame_popPkt.mono (by decide)
  have hcount {b : Module} {f : Fld} : Frame [.out, .regs, .links, .rte] b (b.count f) := frame_reg.mono (by decide)
  refine .ite (.ite (h₁.trans hcount) <| .ite (h₁.trans ?standby) (.refl _ m)) <| .ite (h₁.trans hcount) (h₁.trans ?through)
  case standby =>
    split
    next hroute => exact (frame_routePkt hroute).trans hcount
    · exact frame_noRoute
  case through =>
    split
    next hroute => exact (frame_routePkt hroute).trans <| .ite (.refl _ _) hcount
    · exact frame_noRoute

theorem Module.frame_reassemblyTimeout : Frame endKinds m (m.reassemblyTimeout src tag vc) := by
  unfold Module.reassemblyTimeout
  split
  · exact .refl _ m
  next x _ =>
  extract_lets _ m₁
  have h₁ : Frame endKinds m m₁ := .mono (by decide) <| frame_rte.step frame_reg
  refine .ite (h₁.trans ?_) h₁
  split
  · exact (frame_newFault.mono (by decide)).trans frame_linkFault
  · exact .refl _ m₁

end Transit

/-! ### Notices (R338) -/

section Notices
variable {m : Module} {p target : Nat} {group down : Bool}

theorem Module.frame_noticePacket : Frame [.regs, .host, .links, .rte] m (m.noticePacket p group target down) :=
  frame_consume (by decide) fun _ _ _ => .mono (by decide) <| frame_rte.step frame_routesChanged

theorem Module.frame_noticeSend : Frame [.out, .regs, .links, .rte] m (m.noticeSend p) := by
  unfold Module.noticeSend
  split
  next g t _ =>
  extract_lets st m₁
  have h₁ : Frame [.out, .regs, .links, .rte] m m₁ := .ite frame_sendNotice (.refl _ m)
  have hresend : Frame [.out, .regs, .links, .rte] m₁
      (if m₁.role p = 1 then m₁.rte.sent.foldl (fun m x => m.sendNotice x.1 x.2 true) m₁ else m₁) :=
    .ite (.foldl fun _ _ => frame_sendNotice) (.refl _ m₁)
  exact .ite (.refl _ m) <| .ite (h₁.trans hresend) <| .ite frame_sendNotice (.refl _ m)

end Notices

/-! ### The package's ID (R345) -/

section Identity
variable {m : Module} {e : List Nat}

theorem Module.frame_reinitAll : Frame [.out, .regs, .saf, .host, .links] m m.reinitAll := .foldl fun _ _ => frame_reinitAsk

theorem Module.frame_fabricJoin : Frame [.out, .regs, .saf, .host, .links, .pair] m (m.fabricJoin e) := by
  refine frame_mgmt (by decide) fun m cid => ?_
  have hfinish {m : Module} {x : Compl} : Frame [.out, .regs, .saf, .host, .links, .pair] m (m.finish 0 cid x) :=
    frame_finish.mono (by decide)
  exact .ite hfinish <| .ite hfinish <| .ite hfinish <| .mono (by decide) <| frame_reg.step <| frame_reg.step <|
    frame_reinitAll.step frame_finish

theorem Module.frame_fabricLeave : Frame [.out, .regs, .host, .rte, .pair] m (m.fabricLeave e) :=
  .ite (.refl _ m) <| frame_mgmt (by decide) fun _ _ => .mono (by decide) <| .either frame_finish <| .either frame_finish frame_rte

theorem Module.frame_fabricLeft : Frame [.out, .regs, .saf, .host, .links, .rte, .pair] m m.fabricLeft := by
  unfold Module.fabricLeft
  split
  · exact .refl _ m
  · exact .mono (by decide) <| .either .rfl <| frame_rte.step <| frame_reg.step <| frame_reg.step <| frame_reinitAll.step frame_finish

end Identity

/-! ### Tables and counters (R336, R341) -/

section Tables
variable {m : Module} {table i v : Nat} {fs : List Fld} {idx : List Nat}

theorem Module.frame_rteCommit : Frame [.regs] m m.rteCommit := frame_reg

theorem Module.frame_shadowWrite : Frame [.regs] m (m.shadowWrite table i v) := by
  have hput {p : Prop} [Decidable p] {f : Fld} : Frame [.regs] m (if p then m.wr f v [i] else m) := .ite frame_reg (.refl _ m)
  unfold Module.shadowWrite
  refine .ite frame_reg ?_
  split
  · exact hput
  · exact hput
  · exact hput
  · exact hput
  · exact .refl _ m

theorem Module.frame_clrs : Frame [.regs] m (m.clrs fs idx) := .foldl fun _ _ => frame_reg

theorem Module.frame_rteClr : Frame [.regs] m m.rteClr := frame_clrs

end Tables

/-- Settles O54, each command by the frame of its operation; commands that change nothing are log entry 4. -/
theorem fabricCommandsComplete : Obligations.FabricCommandsComplete := fun s =>
  ⟨fun p vc cycle h => completesIn_of_frame (exec_fabricRequest p vc cycle s) rfl h Module.frame_fabricRequest,
    fun p vc h => completesIn_of_frame (exec_reply p vc s) rfl h Module.frame_replyPacket,
    fun p number x h => completesIn_of_frame (exec_quote p number x s) rfl h Module.frame_quotePacket,
    fun p vc number cid seed flat outCap data cycle h =>
      completesIn_of_frame (exec_subreq p vc number cid seed flat outCap data cycle s) rfl h Module.frame_subreqPacket,
    fun p vc fromSlice h => completesIn_of_frame (exec_streamPacket p vc fromSlice s) rfl h Module.frame_streamPacket,
    fun p vc h => completesIn_of_frame (exec_packetForward p vc s) rfl h Module.frame_packetForward,
    fun p group target down h => completesIn_of_frame (exec_notice p group target down s) rfl h Module.frame_noticePacket,
    fun p h => completesIn_of_frame (exec_noticeSend p s) rfl h Module.frame_noticeSend,
    fun src tag vc h => completesIn_of_frame (exec_messageReassemblyTimeout src tag vc s) rfl h Module.frame_reassemblyTimeout,
    fun e h => completesIn_of_frame (exec_fabricJoin e s) rfl h Module.frame_fabricJoin,
    fun e h => completesIn_of_frame (exec_fabricLeave e s) rfl h Module.frame_fabricLeave,
    completesIn_of_frame (exec_fabricLeaveDone s) rfl rfl Module.frame_fabricLeft,
    completesIn_of_frame (exec_rteCommit s) rfl rfl Module.frame_rteCommit,
    fun table index v h => completesIn_of_frame (exec_shadowTableWrite table index v s) rfl h Module.frame_shadowWrite,
    completesIn_of_frame (exec_rteClrAll s) rfl rfl Module.frame_rteClr⟩

end Sys2Proof.Machine
end

section
/-! PROOFS. Frames of the queue commands: doorbells, management and pairing entries, entries fetched, PCIe reset (R246 to R271, R377,
R378, R402). -/

namespace Sys2Proof.Machine

/-! ### Doorbells and queue registers (R247, R249, R266) -/

section Doorbells
variable {m : Module} {q v err : Nat} {x : Queue}

theorem Module.frame_qError : Frame [.regs] m (m.qError q err) := frame_reg.trans frame_reg

theorem Module.frame_setQueue : Frame [.host] m (m.setQueue q x) := frame_host

theorem Module.frame_sqTail : Frame [.regs, .host] m (m.sqTail q v) :=
  .mono (by decide) <| .either .rfl <| .either frame_qError frame_modQueue

theorem Module.frame_cqHead : Frame [.regs, .host] m (m.cqHead q v) :=
  .mono (by decide) <| .either .rfl <| .either frame_qError frame_modQueue

theorem Module.frame_sqFetchError : Frame [.regs] m (m.sqFetchError q) := .ite frame_qError (.refl _ m)

theorem Module.frame_queueReset : Frame [.regs, .host] m (m.queueReset q) :=
  .mono (by decide) <| .step (.foldl fun _ _ => frame_reg) frame_setQueue

theorem Module.frame_queEnable : Frame [.host] m m.queEnable := .ite frame_modQueue (.refl _ m)

theorem Module.frame_queue0Enabled : Frame [.regs, .host] m m.queue0Enabled :=
  .mono (by decide) <| .either
    (frame_setQueue.step <| frame_reg.step <| frame_reg.step <| frame_reg.step <| frame_reg.step frame_reg) .rfl

theorem Module.frame_queDisable : Frame [.regs, .host] m m.queDisable := .mono (by decide) <| .either (frame_reg.step frame_modQueue) .rfl

theorem Module.frame_queueDrained : Frame [.out, .regs, .host, .pair] m (m.queueDrained q) := by
  have hreset : Frame [.out, .regs, .host, .pair] m (m.queueReset q) := frame_queueReset.mono (by decide)
  unfold Module.queueDrained
  refine .ite (.refl _ m) <| .ite (frame_reg.mono (by decide)) ?_
  extract_lets d m₁
  clear_value d
  split
  · exact hreset.trans frame_finish
  · exact hreset

end Doorbells

/-! ### Management entries (R249, R267) -/

section Management
variable {m : Module} {e : List Nat} {x : EntryData}

theorem Module.frame_createQueue : Frame [.out, .regs, .host, .pair] m (m.createQueue e) :=
  frame_mgmt (by decide) fun _ _ => .ite frame_finish <| .ite frame_finish <| .mono (by decide) <|
    frame_queueReset.step <| .step (.foldl fun _ _ => frame_reg) frame_finish

theorem Module.frame_deleteQueue : Frame [.out, .regs, .host, .pair] m (m.deleteQueue e) := by
  refine frame_mgmt (by decide) fun m cid => .ite frame_finish ?_
  extract_lets m₁
  have h₁ : Frame [.out, .regs, .host, .pair] m m₁ := .mono (by decide) <| frame_reg.step frame_modQueue
  exact .ite (h₁.trans <| .foldl fun m _ => .ite (frame_cancelReq.mono (by decide)) (.refl _ m)) h₁

theorem Module.frame_bindCtx : Frame [.out, .regs, .ctx, .host, .pair] m (m.bindCtx e) := by
  refine frame_mgmt (by decide) fun m cid => ?_
  have hfinish {x : Compl} : Frame [.out, .regs, .ctx, .host, .pair] m (m.finish 0 cid x) := frame_finish.mono (by decide)
  extract_lets q c
  split
  · exact hfinish
  · exact .ite hfinish <| .ite hfinish <| .ite hfinish <| .mono (by decide) <| frame_setBinds.step frame_finish

theorem Module.frame_unbindCtx : Frame [.out, .regs, .ctx, .host, .pair] m (m.unbindCtx e) := by
  refine frame_mgmt (by decide) fun m cid => ?_
  extract_lets q c
  split
  · exact frame_finish.mono (by decide)
  · exact .mono (by decide) <| frame_setBinds.step frame_finish

end Management

/-! ### Pairing entries (R377, R378, R402) -/

section Pairing
variable {m : Module} {e : List Nat} {i : PeerInfo}

theorem Module.frame_askNoMore : Frame [.pair] m m.askNoMore := frame_pair

theorem Module.frame_unpair : Frame [.regs, .pair] m m.unpair := by
  unfold Module.unpair
  extract_lets m₀ m₁
  have h₁ : Frame [.regs, .pair] m₀ m₁ := .mono (by decide) <| frame_setPair.step <| frame_reg.step <| frame_dropLease.step <|
    frame_reg.step <| frame_reg.step <| frame_reg.step frame_reg
  exact .mono (by decide) <| frame_askNoMore.step <| h₁.step <| frame_reg.step frame_pair

theorem Module.frame_askHandover : Frame [.out, .regs, .links, .rte, .pair] m m.askHandover :=
  .mono (by decide) <| frame_pair.step <| frame_sendLease.step frame_pair

theorem Module.frame_pairForm : Frame [.free, .out, .regs, .host, .links, .rte, .pair] m (m.pairForm e i) := by
  unfold Module.pairForm
  refine .ite (.refl _ m) <| frame_mgmt (by decide) fun m cid => ?_
  extract_lets peer wit role pref m₁ _ m₂
  have h₂ : Frame [.regs, .pair] m m₂ := .mono (by decide) <| frame_reg.step <| frame_reg.step <| frame_reg.step frame_pair
  refine .ite (frame_finish.mono (by decide)) ?_
  split
  · exact frame_finish.mono (by decide)
  · exact .mono (by decide) <| h₂.step <| .either (frame_pair.step frame_leaseRep) <|
      (frame_draw (v := 32)).step <| frame_setPair.step <| frame_reg.step frame_finish

theorem Module.frame_pairDissolve : Frame [.out, .regs, .host, .links, .rte, .pair] m (m.pairDissolve e) := by
  refine frame_mgmt (by decide) fun m cid => ?_
  extract_lets m₁
  have h₁ : Frame [.out, .regs, .links, .rte, .pair] m m₁ :=
    .mono (by decide) <| .either frame_leaseRep <| .either (frame_pair.step frame_sendLease) .rfl
  exact .mono (by decide) <| .either frame_finish <| .either frame_finish <| h₁.step <| frame_unpair.step frame_finish

theorem Module.frame_pairHandover : Frame [.out, .regs, .host, .links, .rte, .pair] m (m.pairHandover e) :=
  frame_mgmt (by decide) fun _ _ => .mono (by decide) <| .either frame_finish <| .either frame_finish <| frame_pair.step frame_askHandover

end Pairing

/-! ### Entries fetched, and the input they name (R250, R252, R255) -/

section Entries
variable {m : Module} {q cid cycle op : Nat} {e data : List Nat} {x : EntryData} {segs : List (Nat × Nat)}

/-- The kinds of state that an entry of a queue may change. -/
abbrev entryKinds : List Kind := [.free, .out, .regs, .dev, .saf, .flash, .ctx, .host, .adm, .links, .rte, .qlk, .pair]

theorem Module.frame_mgmtEntry : Frame entryKinds m (m.mgmtEntry e x) := by
  unfold Module.mgmtEntry
  split
  · exact frame_createQueue.mono (by decide)
  · exact frame_deleteQueue.mono (by decide)
  · exact frame_bindCtx.mono (by decide)
  · exact frame_unbindCtx.mono (by decide)
  · exact frame_fabricJoin.mono (by decide)
  · exact frame_fabricLeave.mono (by decide)
  · exact frame_pairForm.mono (by decide)
  · exact frame_pairDissolve.mono (by decide)
  · exact frame_pairHandover.mono (by decide)
  · exact frame_ownerEnrol.mono (by decide)
  · exact frame_ownerUpdate.mono (by decide)
  · exact frame_ownerRelease.mono (by decide)
  · exact frame_fwUpdate.mono (by decide)
  · exact frame_mgmt (by decide) fun _ _ => frame_finish.mono (by decide)

theorem Module.frame_sqEntry : Frame entryKinds m (m.sqEntry q e x cycle) := .ite frame_mgmtEntry (frame_fetch.mono (by decide))

theorem Module.frame_devInput : Frame [.out, .regs, .dev, .saf, .host] m (m.devInput segs).2 :=
  List.foldlRecOn (motive := fun (a : Option (List Nat) × Module) => Frame [.out, .regs, .dev, .saf, .host] m a.2) segs _ (.refl _ m)
    fun a ha p _ => by
      split
      · exact ha
      · exact .ite_snd (ha.trans frame_devBytes) ha

theorem Module.frame_hostReadFail : Frame fetchKinds m (m.hostReadFail q cid cycle) := frame_queueFetched

theorem Module.frame_inputCopied : Frame fetchKinds m (m.inputCopied q cid data cycle) := by
  unfold Module.inputCopied
  split
  · exact .refl _ m
  next f _ =>
  extract_lets done
  have hdone {m : Module} {b : List Nat} : Frame fetchKinds m (done m b) := frame_queueFetched
  refine .ite (.refl _ m) <| .ite ?_ hdone
  have hread : Frame fetchKinds m (m.devInput f.inSegs).2 := frame_devInput.mono (by decide)
  generalize m.devInput f.inSegs = y at hread ⊢
  obtain ⟨_ | b, m₁⟩ := y
  · exact hread.trans frame_hostReadFail
  · exact hread.trans hdone

end Entries

/-! ### PCIe reset (R271) -/

section Reset
variable {m : Module}

theorem Module.frame_regs {x : SMap Nat} : Frame [.regs] m { m with regs := x } := .single fun k h => by cases k <;> trivial

theorem Module.frame_modPcie {f : Pcie → Pcie} : Frame [.host] m (m.modPcie f) := frame_host

theorem Module.frame_orphanAll : Frame [.ctx, .host, .rte, .pair] m m.orphanAll := by
  have h₁ : Frame [.ctx, .host] m { m with ctx := m.orphanAll.ctx, host := m.orphanAll.host } := frame_ctx_host
  have h₂ : Frame [.rte, .pair] { m with ctx := m.orphanAll.ctx, host := m.orphanAll.host } m.orphanAll :=
    .double fun k h h' => by cases k <;> trivial
  exact h₁.step h₂

theorem Module.frame_pcieReset : Frame [.regs, .ctx, .host, .rte, .pair] m m.pcieReset := by
  unfold Module.pcieReset
  extract_lets ids m₁ m₂ m₃
  have h₁ : Frame [.regs, .host] m m₁ := .mono (by decide) <| frame_modPcie.step <| .foldl fun _ _ => frame_queueReset
  have h₃ : Frame [.regs] m₁ m₃ := frame_reg.trans frame_regs
  exact .mono (by decide) <| h₁.step <| h₃.step <| frame_orphanAll.step (ks := [.host]) <|
    .foldl fun m _ => .ite frame_cancelReq (.refl _ m)

end Reset

end Sys2Proof.Machine
end

section
/-! PROOFS. Frames of the release gate (R229 to R240, R252, R262 to R265, R269, R399, R465), the counters that ADM_CNT_CLR clears, and
the completion of the queue, release and admission-counter commands. -/

namespace Sys2Proof.Machine

/-! ### Checkpoints and the release gate (R229 to R240, R262 to R265, R269, R399, R465) -/

section Release
variable {m : Module} {c id cycle off d n byNs cause : Nat} {r : Req} {p : RelPoint} {progress : Bool}

theorem Module.frame_drawGrans (n : Nat) : ∀ m : Module, Frame [.free] m (m.drawGrans n).2 := by
  induction n with
  | zero => exact fun m => .refl _ m
  | succ n ih => exact fun m => (frame_draw (v := 128)).trans (ih _)

theorem Module.frame_nextNonce : Frame [.sec] m (m.nextNonce c).2 := by
  unfold Module.nextNonce
  split
  · exact .ite_snd frame_sec frame_sec
  · exact frame_sec

/-- The kinds of state that a checkpoint may change. -/
abbrev checkpointKinds : List Kind := [.free, .out, .regs, .dev, .saf, .sec, .host, .links, .rte, .pair]

theorem Module.frame_checkpoint : Frame checkpointKinds m (m.checkpoint c) := by
  -- The 4,096 program granules become a number n, and the body stands in for the function before it is applied, so that no check of
  -- this proof runs the draws.
  obtain ⟨n, hn⟩ : ∃ n, n = 4096 := ⟨_, rfl⟩
  conv => arg 3; fun; fun; delta Module.checkpoint
  rw [← hn]
  extract_lets x
  split
  next kv bad m₁ hkv =>
  have h₁ : Frame checkpointKinds m m₁ := by
    obtain rfl : _ = m₁ := congrArg (fun y => y.2.2) hkv
    exact frame_devBytes.mono (by decide)
  split
  next prog m₂ hprog =>
  have h₂ : Frame checkpointKinds m m₂ := by
    obtain rfl : _ = m₂ := congrArg Prod.snd hprog
    exact h₁.trans <| (frame_drawGrans _ _).mono (by decide)
  split
  next b k m₃ hnonce =>
  have h₃ : Frame checkpointKinds m m₃ := by
    obtain rfl : _ = m₃ := congrArg Prod.snd hnonce
    exact h₂.trans <| frame_nextNonce.mono (by decide)
  extract_lets nonce sealedB half m₄ _ m₅
  have h₅ : Frame checkpointKinds m m₅ := h₃.trans <| .mono (by decide) <| (frame_devWriteBytes _ _ _ _).step frame_pair
  exact .ite (h₅.trans <| .mono (by decide) <| frame_copyOut.step frame_reg) h₅

theorem Module.frame_writeGran : Frame cohKinds m (m.writeGran r off d) := by
  unfold Module.writeGran
  split
  · exact .refl _ m
  · exact .mono (by decide) <| .either (.either (frame_snoopRange.step (frame_devWriteBytes _ _ _ _)) frame_addrInvalid) <|
      .either frame_emit .rfl

/-- The kinds of state that a release point may change. -/
abbrev pointKinds : List Kind := [.free, .out, .regs, .dev, .saf, .host, .links, .rte, .qlk, .pair]

theorem Module.frame_releasePt : Frame pointKinds m (m.releasePt id p progress) := by
  unfold Module.releasePt
  split
  · exact .refl _ m
  next r _ =>
  extract_lets m₁ rel m₂
  have h₁ : Frame cohKinds m m₁ := .ite (.foldl fun _ _ => frame_writeGran) (.refl _ m)
  have h₂ : Frame pointKinds m m₂ := .mono (by decide) <| h₁.step frame_modReq
  refine .ite h₂ <| .ite (h₂.trans ?reply) <| .ite h₂ <| h₂.trans <| .mono (by decide) <| .either frame_post frame_reg
  case reply =>
    split
    · exact frame_replyWith.mono (by decide)
    · exact .refl _ m₂

theorem Module.frame_lateRec : Frame [.out, .regs, .saf] m (m.lateRec r byNs) := .ite frame_report (.refl _ m)

theorem Module.frame_lateCount : Frame [.regs] m (m.lateCount cause) :=
  frame_reg.trans <| .ite frame_reg <| .ite frame_reg frame_reg

/-- The kinds of state that the opening of the release gate may change. -/
abbrev gateKinds : List Kind := [.free, .out, .regs, .dev, .saf, .tines, .sec, .mesh, .ctx, .host, .adm, .links, .rte, .qlk, .pair]

theorem Module.frame_delivered : Frame gateKinds m (m.delivered id cycle) := by
  unfold Module.delivered
  split
  · exact .refl _ m
  next r _ =>
  extract_lets taken us late m₁ st
  have h₁ : Frame checkpointKinds m m₁ := .foldl fun _ _ => frame_checkpoint
  exact .mono (by decide) <| h₁.step <| .either (frame_lateRec.step <| frame_lateCount.step frame_complete) frame_complete

theorem Module.frame_releaseReq : Frame gateKinds m (m.releaseReq id cycle) := by
  unfold Module.releaseReq
  split
  · exact .refl _ m
  next r _ =>
  refine .ite (.refl _ m) ?_
  extract_lets fin small points m₀ m₁
  have h₁ : Frame gateKinds m m₁ := .mono (by decide) <| frame_modReq.step (ks := pointKinds) <| .foldl fun _ _ => frame_releasePt
  exact .ite (.ite (frame_ended.mono (by decide)) (.refl _ m)) <| .ite (h₁.trans frame_delivered) h₁

theorem Module.frame_releaseGate : Frame gateKinds m (m.releaseGate cycle) := by
  unfold Module.releaseGate
  refine .ite (.refl _ m) ?_
  extract_lets m₀
  have h₀ : Frame gateKinds m m₀ := .ite (frame_reg.mono (by decide)) (.refl _ m)
  exact h₀.trans <| .foldl fun _ _ => frame_releaseReq

end Release

/-! ### Admission counters (R223, R227, R228, R240) -/

section Counters
variable {m : Module}

theorem Module.frame_clrPeak : Frame [.regs] m m.clrPeak := frame_reg

theorem Module.frame_clrReasons : Frame [.regs] m m.clrReasons := .iter fun _ _ => frame_reg

theorem Module.frame_clrOutcomes : Frame [.regs, .adm] m m.clrOutcomes := .mono (by decide) <| frame_adm.step frame_clrs

/-- The first n instances of a field, their keys apart, read 0 once each is cleared. -/
theorem Module.rd_iter_clear {f : Fld} {n : Nat} (hf : ∀ i j, i < j → j < n → f.key [i] ≠ f.key [j]) :
    ∀ i, i < n → (iter n (fun i m => m.wr f 0 [i]) m).rd f [i] = 0 := by
  induction n with
  | zero => exact fun i hi => absurd hi (Nat.not_lt_zero i)
  | succ n ih =>
    intro i hi
    rw [iter, List.range_succ, List.foldl_append, List.foldl_cons, List.foldl_nil, ← iter]
    rcases Nat.lt_succ_iff_lt_or_eq.mp hi with hlt | rfl
    · rw [Module.rd_wr_other (hf i n hlt n.lt_succ_self)]
      exact ih (fun i j hij hj => hf i j hij (Nat.lt_succ_of_lt hj)) i hlt
    · rw [Module.rd_wr_same, Nat.zero_mod]

/-- The refusal-reason counters stand at register offsets of their own. -/
theorem Reg.key_admRejReason_ne {i j : Nat} (h : i < j) : Reg.admRejReason_count.key [i] ≠ Reg.admRejReason_count.key [j] := by
  simp only [Fld.key, Reg.admRejReason_count, strideOff]
  omega

theorem Module.rd_clrReasons (i : Nat) (hi : i < 12) : m.clrReasons.rd Reg.admRejReason_count [i] = 0 :=
  rd_iter_clear (fun _ _ hij _ => Reg.key_admRejReason_ne hij) i hi

theorem Module.rd_clrOutcomes : m.clrOutcomes.rd Reg.admRejected_count = 0 ∧ m.clrOutcomes.rd Reg.admLate_count = 0 ∧
    m.clrOutcomes.rd Reg.admLateSecond_count = 0 ∧ m.clrOutcomes.rd Reg.admLateUnprot_count = 0 ∧
    m.clrOutcomes.rd Reg.admLateUnexplained_count = 0 ∧ m.clrOutcomes.rd Reg.admThrottleHeld_count = 0 := by
  simp (disch := decide) only [Module.clrOutcomes, Module.clrs, List.foldl, Module.rd_wr_other, Module.rd_wr_same, Nat.zero_mod,
    and_self]

end Counters

/-- Settles O29: PEAK_BYTES by its write, each counter by what it reads once it is cleared. -/
theorem admissionCountersClear : Obligations.AdmissionCountersClear := fun s =>
  ⟨completes_of_act (exec_admCntClrPeak s) rfl,
    ⟨_, completesIn_of_act (exec_admCntClrReasons s) rfl Module.frame_clrReasons, Module.rd_clrReasons⟩,
    _, completesIn_of_act (exec_admCntClrOutcomes s) rfl Module.frame_clrOutcomes, rfl, Module.rd_clrOutcomes⟩

/-- Settles O53, each command by the frame of its operation; commands that change nothing are log entry 4. -/
theorem queueCommandsComplete : Obligations.QueueCommandsComplete := fun s =>
  ⟨fun q v h => completesIn_of_frame (exec_sqTailDoorbell q v s) rfl h Module.frame_sqTail,
    fun q v h => completesIn_of_frame (exec_cqHeadDoorbell q v s) rfl h Module.frame_cqHead,
    fun q e data cycle h => completesIn_of_frame (exec_sqEntryFetched q e data cycle s) rfl h Module.frame_sqEntry,
    fun q h => completesIn_of_frame (exec_sqFetchError q s) rfl h Module.frame_sqFetchError,
    fun q cid data cycle h => completesIn_of_frame (exec_entryTaken q cid data cycle s) rfl h Module.frame_inputCopied,
    fun q cid cycle h => completesIn_of_frame (exec_hostReadFail q cid cycle s) rfl h Module.frame_hostReadFail,
    fun e h => completesIn_of_frame (exec_createQueue e s) rfl h Module.frame_createQueue,
    fun e h => completesIn_of_frame (exec_deleteQueue e s) rfl h Module.frame_deleteQueue,
    fun q h => completesIn_of_frame (exec_queueDrainDone q s) rfl h Module.frame_queueDrained,
    fun e h => completesIn_of_frame (exec_bind e s) rfl h Module.frame_bindCtx,
    fun e h => completesIn_of_frame (exec_unbind e s) rfl h Module.frame_unbindCtx,
    completesIn_of_frame (exec_queEnable s) rfl rfl Module.frame_queEnable,
    completesIn_of_frame (exec_queue0Enabled s) rfl rfl Module.frame_queue0Enabled,
    completesIn_of_frame (exec_queDisable s) rfl rfl Module.frame_queDisable,
    completesIn_of_frame (exec_pcieReset s) rfl rfl Module.frame_pcieReset,
    fun cycle h => completesIn_of_frame (exec_releaseGateOpen cycle s) rfl h Module.frame_releaseGate,
    completesIn_of_frame (exec_admCntClrPeak s) rfl rfl Module.frame_clrPeak,
    completesIn_of_frame (exec_admCntClrReasons s) rfl rfl Module.frame_clrReasons,
    completesIn_of_frame (exec_admCntClrOutcomes s) rfl rfl Module.frame_clrOutcomes⟩

end Sys2Proof.Machine
end

section
/-! PROOFS. The host interface: doorbells and SQ read errors (R266), queue 0 and its control register (R247, R459), and what the host's
accesses to the BARs and to the configuration space are answered (R241, R244, R266, R459). -/

namespace Sys2Proof.Machine

/-! ### Doorbells and SQ read errors (R266) -/

section Doorbells
variable {m : Module} {q v err : Nat}

@[simp] theorem Module.queue_setQueue_same {x : Queue} : (m.setQueue q x).queue q = x := SMap.get_put_same _ q x _

/-- STATE and ERR are different fields of QUE_STATUS. -/
theorem key_queStatus_state_ne_err : Reg.queStatus_state.key [q] ≠ Reg.queStatus_err.key [q] := by
  simp only [Fld.key, Reg.queStatus_state, Reg.queStatus_err, strideOff]
  omega

@[simp] theorem Module.qState_qError : (m.qError q err).qState q = 3 :=
  (rd_wr_other key_queStatus_state_ne_err _ _).trans (rd_wr_same _ _ _ _)

theorem Module.err_qError (h : err < 16) : (m.qError q err).rd Reg.queStatus_err [q] = err :=
  (rd_wr_same _ _ _ _).trans (Nat.mod_eq_of_lt h)

theorem Module.sqTail_ignored (h : m.qState q ≠ 1) : m.sqTail q v = m := if_pos h

theorem Module.sqTail_outside (h : m.qState q = 1) (hv : m.sqDepth q ≤ v) : m.sqTail q v = m.qError q 2 := by
  rw [sqTail, if_neg (not_not.mpr h), if_pos hv]

theorem Module.sqTail_taken (h : m.qState q = 1) (hv : v < m.sqDepth q) :
    m.sqTail q v = m.modQueue q (fun x => { x with sqTail := v }) := by
  rw [sqTail, if_neg (not_not.mpr h), if_neg (Nat.not_le.mpr hv)]

/-- The entries that a CQ_HEAD of v reports consumed: those from the head up to v round the ring, or all of them when v repeats the
head of a full ring (log entry 61). -/
def Module.consumedAt (m : Module) (q v : Nat) : Nat :=
  if v = (m.queue q).cqHead ∧ (m.queue q).posted = m.cqDepth q then (m.queue q).posted
  else (v + m.cqDepth q - (m.queue q).cqHead) % m.cqDepth q

theorem Module.cqHead_ignored (h : m.qState q ≠ 1) : m.cqHead q v = m := if_pos h

theorem Module.cqHead_outside (h : m.qState q = 1) (hv : m.cqDepth q ≤ v ∨ (m.queue q).posted < m.consumedAt q v) :
    m.cqHead q v = m.qError q 3 :=
  (if_neg (not_not.mpr h)).trans (if_pos hv)

theorem Module.cqHead_taken (h : m.qState q = 1) (hv : v < m.cqDepth q) (hu : m.consumedAt q v ≤ (m.queue q).posted) :
    m.cqHead q v = m.modQueue q (fun x => { x with cqHead := v, posted := x.posted - m.consumedAt q v }) :=
  (if_neg (not_not.mpr h)).trans (if_neg (not_or.mpr ⟨Nat.not_le.mpr hv, Nat.not_lt.mpr hu⟩))

theorem Module.sqFetchError_ignored (h : m.qState q ≠ 1) : m.sqFetchError q = m := if_neg h

theorem Module.sqFetchError_enabled (h : m.qState q = 1) : m.sqFetchError q = m.qError q 1 := if_pos h

/-- A command that is shown to put queue q in ERROR leaves it there with its error code, and changes registers alone. -/
theorem completesIn_of_qError {c : Instr} {s : State} {ok : Bool} {f : Module → Module} (he : exec c s = s.act ok f) (hok : ok = true)
    (herr : err < 16) (hf : f s.toModule = s.toModule.qError q err) :
    ∃ b, CompletesIn [.regs] c s b ∧ b.qState q = 3 ∧ b.rd Reg.queStatus_err [q] = err :=
  ⟨_, completesIn_of_frame he hf hok Module.frame_qError, Module.qState_qError, Module.err_qError herr⟩

end Doorbells

/-- Settles O27, each clause by the equation of its command in that case. That an SQ read error of a queue not ENABLED is ignored is
log entry 4; that a repeated head of a full ring frees every entry is log entry 61. -/
theorem doorbellsMoveQueues : Obligations.DoorbellsMoveQueues := by
  intro s q v hq hv
  have hqv : (isQueue q && isWord v) = true := Bool.and_eq_true_iff.mpr ⟨hq, hv⟩
  have htail := exec_sqTailDoorbell q v s
  have hhead := exec_cqHeadDoorbell q v s
  have hfetch := exec_sqFetchError q s
  refine ⟨fun h => ?ignored, fun h => ⟨fun hout => ?tailOutside, fun hin => ?tailTaken, ?fetchError, fun hout => ?headOutside,
    fun hin hu => ?headTaken⟩⟩
  case ignored =>
    exact ⟨exec_of_act_same htail (Module.sqTail_ignored h), exec_of_act_same hhead (Module.cqHead_ignored h),
      exec_of_act_same hfetch (Module.sqFetchError_ignored h)⟩
  case tailOutside => exact completesIn_of_qError htail hqv (by decide) (Module.sqTail_outside h hout)
  case tailTaken =>
    exact ⟨_, completesIn_of_frame htail (Module.sqTail_taken h hin) hqv Module.frame_modQueue, Module.queue_modQueue_same _ _ _,
      fun _ hp => Module.queue_modQueue_other hp _ _⟩
  case fetchError => exact completesIn_of_qError hfetch hq (by decide) (Module.sqFetchError_enabled h)
  case headOutside => exact completesIn_of_qError hhead hqv (by decide) (Module.cqHead_outside h hout)
  case headTaken =>
    have hring := Module.queue_modQueue_same s.toModule q
      (fun x => { x with cqHead := v, posted := x.posted - s.toModule.consumedAt q v })
    exact ⟨_, completesIn_of_frame hhead (Module.cqHead_taken h hin hu) hqv Module.frame_modQueue, congrArg Queue.cqHead hring,
      congrArg Queue.posted hring, (congrArg Queue.sqTail hring :), fun _ hp => Module.queue_modQueue_other hp _ _⟩

/-! ### Queue 0 (R247, R459) -/

section QueueZero
variable {m : Module}

theorem Module.queEnable_disabled (h : m.qState 0 = 0) : m.queEnable = m.modQueue 0 (fun x => { x with enabling := true }) := if_pos h

theorem Module.queEnable_ignored (h : m.qState 0 ≠ 0) : m.queEnable = m := if_neg h

theorem Module.queue0Enabled_ignored (h : m.qState 0 ≠ 0) : m.queue0Enabled = m := if_neg fun hc => h hc.1

/-- Queue 0 as it enters service: ENABLED, its status and pointers 0 and nothing in its ring. -/
theorem Module.queue0Enabled_ready (h : m.qState 0 = 0) (hasked : (m.queue 0).enabling = true)
    (hready : m.rd Reg.hubBootStatus_ready ≠ 0) :
    m.queue0Enabled.qState 0 = 1 ∧ m.queue0Enabled.rd Reg.queStatus_err [0] = 0 ∧ m.queue0Enabled.rd Reg.quePtrs_sqHead [0] = 0 ∧
    m.queue0Enabled.rd Reg.quePtrs_cqTail [0] = 0 ∧ m.queue0Enabled.rd Reg.queStatus_inFlight [0] = 0 ∧
    m.queue0Enabled.queue 0 = Queue.blank := by
  rw [queue0Enabled, if_pos ⟨h, hasked, decide_eq_true hready⟩]
  simp (disch := decide) only [qState, rd_clr_other, rd_clr_same, rd_wr_same]
  exact ⟨rfl, trivial, trivial, trivial, trivial, queue_setQueue_same⟩

theorem Module.queDisable_inService (h : m.qState 0 = 1 ∨ m.qState 0 = 3) :
    m.queDisable = (m.wr Reg.queStatus_state 2 [0]).modQueue 0 (fun x => { x with fetched := [] }) := if_pos h

theorem Module.queDisable_ignored (h : m.qState 0 = 0 ∨ m.qState 0 = 2) : m.queDisable = m := if_neg (by omega)

end QueueZero

/-- Settles O28, each clause by the equation of its command in that state of the queue. The READY gate is R459; that ENABLE, DISABLE and
the end of enabling change nothing in the other states is log entry 4. -/
theorem queueZeroIsEnabledAndTakenDown : Obligations.QueueZeroIsEnabledAndTakenDown := by
  intro s
  have henable := exec_queEnable s
  have henabled := exec_queue0Enabled s
  have hdisable := exec_queDisable s
  refine ⟨fun h => ?asked, fun h => ?notDisabled, fun h hasked hready => ?enabled, fun h => ?drains, fun h => ?notInService⟩
  case asked =>
    refine ⟨_, completesIn_of_frame henable (Module.queEnable_disabled h) rfl Module.frame_modQueue, ?_⟩
    rw [Module.queue_modQueue_same]
  case notDisabled =>
    exact ⟨exec_of_act_same henable (Module.queEnable_ignored h), exec_of_act_same henabled (Module.queue0Enabled_ignored h)⟩
  case enabled =>
    exact ⟨_, completesIn_of_act henabled rfl Module.frame_queue0Enabled, Module.queue0Enabled_ready h hasked hready⟩
  case drains =>
    refine ⟨_, completesIn_of_frame hdisable (Module.queDisable_inService h) rfl
      (Module.frame_reg.step Module.frame_modQueue), Module.rd_wr_same _ _ _ _, ?_⟩
    rw [Module.queue_modQueue_same]
  case notInService => exact exec_of_act_same hdisable (Module.queDisable_ignored h)

/-! ### Accesses of the host by kind (R241, R244, R266, R459) -/

section Accesses
variable {m : Module} {space off size v k : Nat}

theorem isSpace_iff : isSpace space off = true ↔ space = 0 ∧ off < 2 ^ 26 ∨ space = 2 ∧ off < 2 ^ 20 ∨ space = 15 ∧ off < 32 := by
  simp only [isSpace, below, Bool.or_eq_true, Bool.and_eq_true, decide_eq_true_eq, or_assoc]

theorem Module.regWrite_reserved (h : regAt off = none) : m.regWrite off v = m := by simp only [regWrite, h]

theorem Module.readAt_reserved (h : regAt off = none) : m.readAt off = (0, m) := by simp only [readAt, h]

theorem Module.hostWrite32_bar0_ignored (h : off % 4 ≠ 0 ∨ regAt off = none) : m.hostWrite32 0 off v = m := by
  by_cases ha : off % 4 = 0
  · exact (if_pos ha).trans (regWrite_reserved (h.resolve_left (not_not.mpr ha)))
  · exact if_neg ha

theorem Module.hostRead32_bar0_reserved (h : regAt off = none) : m.hostRead32 0 off = m.emit (.readData 0) := by
  simp only [hostRead32, readAt_reserved h]

theorem Module.hostRead32_bar2 : m.hostRead32 2 off = m.emit (.readData 0) := rfl

theorem Module.hostRead32_config (h : 4 ≤ m.rd Reg.hubBootStatus_stage) :
    m.hostRead32 15 k = m.emit (.readData (m.configRead k)) := if_pos h

theorem Module.hostRead32_config_retry (h : m.rd Reg.hubBootStatus_stage < 4) : m.hostRead32 15 k = m.emit .configRetry :=
  if_neg (Nat.not_le.mpr h)

theorem Module.hostWrite32_config_retry (h : m.rd Reg.hubBootStatus_stage < 4) : m.hostWrite32 15 k v = m.emit .configRetry :=
  if_neg (Nat.not_le.mpr h)

/-- Configuration words 0 to 6 are the first seven entries of the endpoint's identity (R241). -/
theorem Module.configRead_identity {id : Nat} (h : (m.identity.take 7)[k]? = some id) : m.configRead k = id := by
  have hk : k < 7 := (List.getElem?_eq_some_iff.mp h).1
  rw [configRead, if_pos (hk.trans (by decide)), List.getD_eq_getElem?_getD, ← List.getElem?_take_of_lt hk, h, Option.getD_some]

/-- An access is served as a 32-bit one: an aligned one of four bytes, or one to the configuration space (R244). -/
theorem Module.hostMmio_served (h : space = 15 ∨ size = 4 ∧ off % 4 = 0) :
    m.hostMmio space off size false v = m.hostRead32 space off := if_pos h

theorem Module.hostMmio_unserved {write : Bool} (hs : space ≠ 15) (h : size ≠ 4 ∨ off % 4 ≠ 0) :
    m.hostMmio space off size write v = if write then m else m.unsup :=
  if_neg (not_or.mpr ⟨hs, by omega⟩)

end Accesses

/-- Settles O9, each clause by what its access does. The numbering of the configuration words is log entry 96; that the endpoint
answers every configuration access before STAGE 4 with retry status is log entry 99. -/
theorem hostAccessesAreAnsweredByKind : Obligations.HostAccessesAreAnsweredByKind := by
  intro off v s hv
  have hok {space o : Nat} (h : space = 0 ∧ o < 2 ^ 26 ∨ space = 2 ∧ o < 2 ^ 20 ∨ space = 15 ∧ o < 32) :
      (isSpace space o && isWord v) = true := Bool.and_eq_true_iff.mpr ⟨isSpace_iff.mpr h, hv⟩
  refine ⟨fun _ h => ?ignoredWrite, fun hoff ha h => ?reservedRead, fun hoff ha => ?bar2Read, fun space size hplace h => ?unserved,
    fun k id hid => ?config⟩
  case ignoredWrite => exact exec_of_act_same (exec_registerWrite ⟨0, off⟩ v s) (Module.hostWrite32_bar0_ignored h)
  case reservedRead =>
    exact completes_of_eq (exec_unsupportedAccess ⟨⟨0, off⟩, 4, false, v⟩ s)
      ((Module.hostMmio_served (.inr ⟨rfl, ha⟩)).trans (Module.hostRead32_bar0_reserved h)) (hok (.inl ⟨rfl, hoff⟩))
  case bar2Read =>
    exact completes_of_eq (exec_unsupportedAccess ⟨⟨2, off⟩, 4, false, v⟩ s)
      ((Module.hostMmio_served (.inr ⟨rfl, ha⟩)).trans Module.hostRead32_bar2) (hok (.inr (.inl ⟨rfl, hoff⟩)))
  case unserved =>
    have hbar : space ≠ 15 := by omega
    exact ⟨exec_of_act_same (exec_unsupportedAccess ⟨⟨space, off⟩, size, true, v⟩ s) (Module.hostMmio_unserved hbar h),
      _, completesIn_of_frame (exec_unsupportedAccess ⟨⟨space, off⟩, size, false, v⟩ s) (Module.hostMmio_unserved hbar h)
        (hok (hplace.imp_right .inl)) Module.frame_unsup, rfl⟩
  case config =>
    have hk : k < 7 := (List.getElem?_eq_some_iff.mp hid).1
    have hplace : (isSpace 15 k && isWord v) = true := hok (.inr (.inr ⟨rfl, by omega⟩))
    have hword : s.toModule.configRead k = id := Module.configRead_identity hid
    have hread := exec_unsupportedAccess ⟨⟨15, k⟩, 4, false, v⟩ s
    have hserved : s.toModule.hostMmio 15 k 4 false v = s.toModule.hostRead32 15 k := Module.hostMmio_served (.inl rfl)
    refine ⟨fun hup => ?answered, fun hdown => ⟨?readRetry, ?writeRetry⟩⟩
    case answered => exact completes_of_eq hread (hserved.trans (hword ▸ Module.hostRead32_config hup)) hplace
    case readRetry => exact completes_of_eq hread (hserved.trans (Module.hostRead32_config_retry hdown)) hplace
    case writeRetry => exact completes_of_eq (exec_registerWrite ⟨15, k⟩ v s) (Module.hostWrite32_config_retry hdown) hplace

end Sys2Proof.Machine
end

section
/-! PROOFS. Laser units (R287, R290): what leaves the state of a unit and the failure events of its bank alone, and the units' table. -/

namespace Sys2Proof.Machine

/-! ### Records, alerts and clock trees -/

/-- The keys from `lo` to below `hi` lie above the clock registers and the pending bit of vector 0, and below the log's registers. -/
structure OffLog (lo hi : Nat) : Prop where
  above : 0x10004 * 32 ≤ lo
  below : hi ≤ 0xf00000 * 32

section Records
variable {m a : Module} {lo hi v seq r t f : Nat} {g : Fld} {idx : List Nat} {x : LogRec}

theorem OffLog.regsKept_low (h : OffLog lo hi) (hk : g.key idx < 0x10004 * 32) : RegsKept lo hi m (m.wr g v idx) :=
  .wr v (.inl (lt_of_lt_of_le hk h.above))

theorem OffLog.regsKept_high (h : OffLog lo hi) (hk : 0xf00000 ≤ g.base) : RegsKept lo hi m (m.wr g v idx) :=
  .above (h.below.trans (Nat.mul_le_mul_right 32 hk))

theorem OffLog.regsKept_faultPin (h : OffLog lo hi) : RegsKept lo hi m m.faultPin :=
  .ite (.refl m) <| (h.regsKept_high (by decide)).trans (.of_regs rfl)

theorem OffLog.regsKept_failFast (h : OffLog lo hi) : RegsKept lo hi m m.failFast :=
  (h.regsKept_high (by decide)).trans <| (h.regsKept_high (by decide)).trans h.regsKept_faultPin

theorem OffLog.regsKept_recSignal (h : OffLog lo hi) : RegsKept lo hi m (m.recSignal v) := by
  have hmsix : RegsKept lo hi m (m.msix 0) := .ite (.refl m) <| .ite (h.regsKept_low (by decide)) (.of_regs rfl)
  exact .ite (.refl m) <| .ite hmsix <| .ite (.of_regs rfl) (.refl m)

/-- A record that is stored signals and, where it asks for one, triggers a snapshot. -/
theorem OffLog.regsKept_signal (h : OffLog lo hi) {snaps : Prop} [Decidable snaps] :
    RegsKept lo hi m (if snaps then (m.recSignal v).snapTrigger 3 seq else m.recSignal v) := by
  have htrigger {m : Module} : RegsKept lo hi m (m.snapTrigger 3 seq) := .ite (h.regsKept_high (by decide)) (.of_regs rfl)
  exact .ite (h.regsKept_recSignal.trans htrigger) h.regsKept_recSignal

/-- The pin and the fail-fast of a record, after it has been stored, suppressed or counted as lost. -/
theorem OffLog.regsKept_pinned (h : OffLog lo hi) (ha : RegsKept lo hi m a) :
    RegsKept lo hi m (if x.severity = sevFatal then (if x.pin then a.faultPin else a).failFast else if x.pin then a.faultPin else a) := by
  have hpin : RegsKept lo hi m (if x.pin then a.faultPin else a) := .ite (ha.trans h.regsKept_faultPin) ha
  exact .ite (hpin.trans h.regsKept_failFast) hpin

theorem OffLog.regsKept_logRec (h : OffLog lo hi) : RegsKept lo hi m (m.logRec x) := by
  refine h.regsKept_pinned ?_
  split
  case h_1 => exact .of_regs rfl
  case h_2 =>
    have hstore {slot : Nat} {x : LogRec} : RegsKept lo hi m (m.storeRec slot x) := .of_regs rfl
    refine .ite ?stored (.ite (h.regsKept_high (by decide)) ?full)
    case stored =>
      exact hstore.trans <| (h.regsKept_high (by decide)).trans <| (h.regsKept_high (by decide)).trans h.regsKept_signal
    case full =>
      split
      · exact hstore.trans h.regsKept_signal
      · exact h.regsKept_high (by decide)

theorem OffLog.regsKept_report (h : OffLog lo hi) : RegsKept lo hi m (m.report x) := (RegsKept.of_regs rfl).trans h.regsKept_logRec

theorem OffLog.regsKept_alerts (h : OffLog lo hi) : RegsKept lo hi m m.alerts := by
  have hkind {m : Module} {kind left lim : Nat} : RegsKept lo hi m (m.alertKind kind left lim) := by
    have halert {y : Safety} {x : LogRec} : RegsKept lo hi m (({ m with saf := y } : Module).report x) :=
      (RegsKept.of_regs rfl).trans h.regsKept_report
    unfold Module.alertKind
    split
    · exact .ite halert (.refl m)
    · exact .ite halert (.refl m)
  exact hkind.trans <| hkind.trans <| hkind.trans hkind

theorem OffLog.regsKept_switchTree (h : OffLog lo hi) : RegsKept lo hi m (m.switchTree r f) := by
  have hbit {m : Module} {g : Fld} {n : Nat} {y : Bool} (hk : g.key [] < 0x10004 * 32) : RegsKept lo hi m (m.wrBit g n y) :=
    h.regsKept_low hk
  have htree {m : Module} {t : Nat} : RegsKept lo hi m (m.setTree r t) :=
    .ite (hbit (by decide)) <| .ite (hbit (by decide)) (hbit (by decide))
  have happlied {y : Hub} : RegsKept lo hi m { m with hub := y } := .of_regs rfl
  have hevent {m : Module} : RegsKept lo hi m (m.set1 Reg.hubClkEvents_dieTreeSwitch) := h.regsKept_low (by decide)
  exact happlied.trans <| htree.trans <| hevent.trans h.regsKept_logRec

theorem OffLog.regsKept_treeFail (h : OffLog lo hi) : RegsKept lo hi m (m.treeFail t f) := by
  unfold Module.treeFail
  extract_lets up m₁ m₂ other
  have h₁ : RegsKept lo hi m m₁ :=
    .ite ((h.regsKept_low (by decide)).trans (h.regsKept_low (by decide))) ((h.regsKept_low (by decide)).trans (h.regsKept_low (by decide)))
  have h₂ : RegsKept lo hi m m₂ := h₁.trans <| h.regsKept_logRec.trans (.of_regs rfl)
  exact .ite (.refl m) <| .ite h₂ <| h₂.trans <| .foldl fun m _ => .ite h.regsKept_switchTree (.refl m)

end Records

/-! ### The keys of a unit's state and of a bank's failure events -/

/-- The register field of a unit's state. -/
def unitFld (u : Nat) : Fld := if u = 0 then Reg.lasSlotStatus_pState else Reg.lasSlotStatus_sState

/-- The key q lies in a bank's registers and is not one of those that show the bank's counts, a slot that is REMOVED, exhausted
or served by the other unit. -/
structure UnitKey (q : Nat) : Prop where
  low : 0xa00000 * 32 ≤ q
  high : q < 0xa40000 * 32
  page : q % 0x200000 < 0x20000
  status : 0x20 ≤ q % 0x200000
  exhausted : q % 0x200000 ≠ 0x84
  active : q % 0x200 ≠ 30
  removed : q % 0x200 ≠ 31

section Keys
variable {base lo width b s u st : Nat} {ty : Access} {reset : ResetVal} {m : Module}

/-- Bank pages are 0x10000 bytes apart (R287). -/
theorem Fld.key_bank : Fld.key ⟨base, [(0x10000, 4)], lo, width, ty, reset⟩ [b] = base * 32 + lo + 0x200000 * b := by
  simp only [Fld.key, strideOff]
  omega

/-- The slots of a bank are 0x10 bytes apart. -/
theorem Fld.key_slot : Fld.key ⟨base, [(0x10000, 4), (0x10, 17)], lo, width, ty, reset⟩ [b, s] =
    base * 32 + lo + 0x200000 * b + 0x200 * s := by
  simp only [Fld.key, strideOff]
  omega

theorem key_lasStatus_lit : Reg.lasStatus_lit.key [b] = 0x14000000 + 0x200000 * b := Fld.key_bank
theorem key_lasStatus_swapBusy : Reg.lasStatus_swapBusy.key [b] = 0x14000007 + 0x200000 * b := Fld.key_bank
theorem key_lasStatus_sparesLeft : Reg.lasStatus_sparesLeft.key [b] = 0x14000010 + 0x200000 * b := Fld.key_bank
theorem key_laserFail : Reg.lasEvents_laserFail.key [b] = 0x14000080 + 0x200000 * b := Fld.key_bank
theorem key_overpowerCut : Reg.lasEvents_overpowerCut.key [b] = 0x14000081 + 0x200000 * b := Fld.key_bank
theorem key_slotExhausted : Reg.lasEvents_slotExhausted.key [b] = 0x14000084 + 0x200000 * b := Fld.key_bank
theorem key_activeUnit : Reg.lasSlotStatus_activeUnit.key [b, s] = 0x1400201E + 0x200000 * b + 0x200 * s := Fld.key_slot
theorem key_removed : Reg.lasSlotStatus_removed.key [b, s] = 0x1400201F + 0x200000 * b + 0x200 * s := Fld.key_slot

theorem key_unitFld : (unitFld u).key [b, s] = 0x14002014 + 0x200000 * b + 0x200 * s + 4 * (1 - u) := by
  rw [unitFld]
  split
  · exact Fld.key_slot.trans (by omega)
  · exact Fld.key_slot.trans (by omega)

theorem unitKey_laserFail (hb : b < 4) : UnitKey (Reg.lasEvents_laserFail.key [b]) := by
  rw [key_laserFail]
  constructor <;> omega

theorem unitKey_overpowerCut (hb : b < 4) : UnitKey (Reg.lasEvents_overpowerCut.key [b]) := by
  rw [key_overpowerCut]
  constructor <;> omega

theorem unitKey_unitFld (hb : b < 4) (hs : s < 17) : UnitKey ((unitFld u).key [b, s]) := by
  rw [key_unitFld]
  constructor <;> omega

theorem Module.unitState_eq : m.unitState b s u = m.rd (unitFld u) [b, s] := by
  rw [Module.unitState, unitFld]
  split <;> rfl

theorem Module.unitState_wr : (m.wr (unitFld u) st [b, s]).unitState b s u = st % 8 := by
  rw [unitState_eq, rd_wr_same, unitFld]
  split <;> rfl

end Keys

/-! ### What keeps them -/

section Kept
variable {a c m : Module} {lo hi q b s u v f e p kind target slots slot fibre map clk : Nat} {g : Fld} {idx : List Nat}
  {k : LaserBank → LaserBank} {y : Safety}

theorem RegsKept.wr_ne (h : q ≠ g.key idx) : RegsKept q (q + 1) m (m.wr g v idx) := .wr v (by omega)

/-- A field whose key alone is known to be kept reads the same. -/
theorem RegsKept.rd_key (h : RegsKept (g.key idx) (g.key idx + 1) a c) : c.rd g idx = a.rd g idx := h.rd le_rfl (Nat.lt_succ_self _)

theorem RegsKept.unitState (h : RegsKept ((unitFld u).key [b, s]) ((unitFld u).key [b, s] + 1) a c) :
    c.unitState b s u = a.unitState b s u := by
  rw [Module.unitState_eq, Module.unitState_eq, h.rd_key]

theorem Module.regsKept_saf : RegsKept lo hi m { m with saf := y } := .of_regs rfl

theorem Module.regsKept_modBank : RegsKept lo hi m (m.modBank b k) := .of_regs rfl

theorem UnitKey.offLog (h : UnitKey q) : OffLog q (q + 1) := by
  obtain ⟨hlow, hhigh⟩ := h
  constructor <;> omega

/-- The heaters of a slot's rings lie in the upper part of their engine's page. -/
theorem UnitKey.regsKept_presetRing (h : UnitKey q) (hs : slot < 17) : RegsKept q (q + 1) m (m.presetRing p slot) := by
  obtain ⟨-, -, hpage⟩ := h
  have htx : q ≠ Reg.firnWaveTx_txHeater.key (fp p ++ [slot]) := by
    simp only [Fld.key, Reg.firnWaveTx_txHeater, fp, strideOff, List.cons_append, List.nil_append]
    omega
  have hrx : q ≠ Reg.firnWaveRx_rxHeater.key (fp p ++ [slot]) := by
    simp only [Fld.key, Reg.firnWaveRx_rxHeater, fp, strideOff, List.cons_append, List.nil_append]
    omega
  unfold Module.presetRing
  extract_lets m₁
  have h₁ : RegsKept q (q + 1) m m₁ := by
    unfold m₁
    split
    · exact .wr_ne htx
    · exact .refl m
  split
  · exact h₁.trans (.wr_ne hrx)
  · exact h₁

theorem UnitKey.regsKept_seqTake (h : UnitKey q) : RegsKept q (q + 1) m (m.seqTake e) := by
  have hbegin {m : Module} {j : SeqJob} : RegsKept q (q + 1) m (m.seqBegin e j) := by
    unfold Module.seqBegin
    split
    · exact .refl m
    · refine .ite (.trans (.of_regs rfl) ?_) (.of_regs rfl)
      exact List.foldlRecOn _ _ (.refl _) fun m hm slot hslot =>
        hm.trans (h.regsKept_presetRing (List.mem_range.mp (List.mem_filter.mp hslot).1))
  unfold Module.seqTake
  split
  · exact .refl m
  · split
    · exact .refl m
    · exact (RegsKept.of_regs rfl).trans hbegin

theorem UnitKey.regsKept_seqStart (h : UnitKey q) : RegsKept q (q + 1) m (m.seqStart e kind target slots) :=
  (RegsKept.of_regs rfl).trans h.regsKept_seqTake

/-- A port's sender changes registers of the port alone. -/
theorem UnitKey.regsKept_sender (h : UnitKey q) (hm : LinkMoves p a c) : RegsKept q (q + 1) a c :=
  regsKept_of_moves (fun _ _ hm => match hm with
    | .link _ _ => .of_regs rfl
    | .out _ _ => .of_regs rfl
    | .reg _ _ v _ ⟨hport, _⟩ => .wr v (.inr (by have := h.high; omega))) hm

theorem UnitKey.regsKept_startMap (h : UnitKey q) : RegsKept q (q + 1) m (m.startMap p fibre map clk) := by
  have hdraw : RegsKept q (q + 1) m (m.switchSlot p fibre).2 := .of_regs rfl
  have hlink {m : Module} {x : Link → Link} : RegsKept q (q + 1) m (m.modLink p x) := .of_regs rfl
  have hsend {m : Module} {msg : Nat} {fields : List Nat} : RegsKept q (q + 1) m (m.sendCtl p msg fields) :=
    h.regsKept_sender Module.linkMoves_sendCtl
  unfold Module.startMap
  refine .ite (.refl m) ?_
  extract_lets l led
  clear_value led
  cases led with
  | some c => exact hlink
  | none => exact hdraw.trans <| hlink.trans <| hlink.trans hsend

theorem UnitKey.regsKept_endSwap (h : UnitKey q) : RegsKept q (q + 1) m (m.endSwap b) := by
  have hbusy : q ≠ Reg.lasStatus_swapBusy.key [b] := by
    have := h.status
    rw [key_lasStatus_swapBusy]
    omega
  exact Module.regsKept_modBank.trans <| (RegsKept.wr_ne hbusy).trans h.regsKept_seqTake

theorem UnitKey.regsKept_dropSwap (h : UnitKey q) : RegsKept q (q + 1) m (m.dropSwap b s) := by
  have hreturn {m : Module} {p : Nat} : RegsKept q (q + 1) m (m.returnTo b s p) := by
    unfold Module.returnTo
    refine .ite (.refl m) ?_
    extract_lets m₀
    have h₀ : RegsKept q (q + 1) m m₀ := .of_regs rfl
    generalize m₀.nextMap p 0 = x
    obtain ⟨map, clk⟩ := x
    exact h₀.trans <| .ite (.refl m₀) <| .trans (.ite h.regsKept_startMap h.regsKept_startMap) Module.regsKept_modBank
  have hopt {m : Module} {p : Nat} {x : OptPort → OptPort} : RegsKept q (q + 1) m (m.modOpt p x) := .of_regs rfl
  unfold Module.dropSwap
  split
  · exact .refl m
  · exact .ite (.refl m) <| .ite (.trans (.foldl fun _ _ => hreturn) h.regsKept_endSwap) <|
      .trans (.foldl fun _ _ => hopt) h.regsKept_endSwap

theorem UnitKey.regsKept_exhaust (h : UnitKey q) : RegsKept q (q + 1) m (m.exhaust b s) := by
  have hremoved : q ≠ Reg.lasSlotStatus_removed.key [b, s] := by
    have := h.removed
    rw [key_removed]
    omega
  have hexhausted : q ≠ Reg.lasEvents_slotExhausted.key [b] := by
    have := h.exhausted
    rw [key_slotExhausted]
    omega
  exact Module.regsKept_saf.trans <| (RegsKept.wr_ne hremoved).trans <| (RegsKept.wr_ne hexhausted).trans <|
    h.offLog.regsKept_report.trans Module.regsKept_modBank

/-- A unit's state set: what follows the register itself. -/
theorem UnitKey.regsKept_shown (h : UnitKey q) : RegsKept q (q + 1) (m.wr (unitFld u) v [b, s]) (m.setUnit b s u v) := by
  have hactive {m : Module} : RegsKept q (q + 1) m (m.wr Reg.lasSlotStatus_activeUnit u [b, s]) := by
    have := h.active
    refine .wr_ne ?_
    rw [key_activeUnit]
    omega
  have hbank {m : Module} : RegsKept q (q + 1) m (m.showBank b) := by
    have := h.status
    refine .trans (.wr_ne ?_) (.wr_ne ?_)
    · rw [key_lasStatus_lit]
      omega
    · rw [key_lasStatus_sparesLeft]
      omega
  have hpool {m : Module} {y : Safety} : RegsKept q (q + 1) m (if v = 4 then { m with saf := y } else m) :=
    .ite Module.regsKept_saf (.refl m)
  have hcarrier {m : Module} : RegsKept q (q + 1) m (if v = 3 ∧ s = 16 then m.carrierUp b else m) :=
    .ite (.ite (h.offLog.regsKept_low (by decide)) <| .ite (h.offLog.regsKept_low (by decide)) (.refl m)) (.refl m)
  unfold Module.setUnit
  extract_lets m₁ m₂
  have h₁ : m₁ = m.wr (unitFld u) v [b, s] := by
    unfold m₁ unitFld
    split <;> rfl
  have h₂ : RegsKept q (q + 1) m₁ m₂ := .ite hactive (.refl m₁)
  rw [← h₁]
  exact h₂.trans <| hpool.trans <| hcarrier.trans hbank

theorem UnitKey.regsKept_setUnit (h : UnitKey q) (hq : q ≠ (unitFld u).key [b, s]) : RegsKept q (q + 1) m (m.setUnit b s u v) :=
  (RegsKept.wr_ne hq).trans h.regsKept_shown

theorem Module.unitState_setUnit (hb : b < 4) (hs : s < 17) : (m.setUnit b s u v).unitState b s u = v % 8 :=
  (unitKey_unitFld hb hs).regsKept_shown.unitState.trans unitState_wr

/-! ### Slots that go dark and units that retire -/

/-- A spare that lights: what follows its state. -/
theorem UnitKey.regsKept_lit (h : UnitKey q) (hlit : (m.bank b).unplanned.elem s ∧ m.unitState b s 1 = 2 ∧ m.unitState b s 0 ≠ 3) :
    RegsKept q (q + 1) (m.setUnit b s 1 3) (m.lightSpare b s) := by
  rw [Module.lightSpare, if_pos hlit]
  exact Module.regsKept_modBank.trans <| .foldl fun m _ => .ite h.regsKept_seqStart (.refl m)

theorem UnitKey.regsKept_lightSpare (h : UnitKey q) (hq : q ≠ (unitFld 1).key [b, s]) : RegsKept q (q + 1) m (m.lightSpare b s) := by
  by_cases hlit : (m.bank b).unplanned.elem s ∧ m.unitState b s 1 = 2 ∧ m.unitState b s 0 ≠ 3
  · exact (h.regsKept_setUnit hq).trans (h.regsKept_lit hlit)
  · rw [Module.lightSpare, if_neg hlit]
    exact .refl m

/-- Where the slot's spare is RETIRED already, its state is kept too. -/
theorem UnitKey.regsKept_slotDark (h : UnitKey q) (hq : q = (unitFld 1).key [b, s] → m.unitState b s 1 = 4) :
    RegsKept q (q + 1) m (m.slotDark b s f) := by
  unfold Module.slotDark
  extract_lets m₁ st
  have h₁ : RegsKept q (q + 1) m m₁ := .ite h.offLog.regsKept_treeFail <| .ite h.offLog.regsKept_treeFail (.refl m)
  refine h₁.trans ?_
  by_cases hspare : q = (unitFld 1).key [b, s]
  case pos =>
    have hst : st = 4 := by
      subst hspare
      exact h₁.unitState.trans (hq rfl)
    rw [hst]
    exact h.regsKept_exhaust
  case neg =>
    exact .ite ((h.regsKept_setUnit hspare).trans Module.regsKept_modBank) <| .ite Module.regsKept_modBank <|
      .ite (Module.regsKept_modBank.trans (h.regsKept_lightSpare hspare)) h.regsKept_exhaust

/-- A unit retired: what follows its state, which leaves that state and the failure events alone. -/
theorem UnitKey.regsKept_retireUnit (h : UnitKey q) (hq : q = (unitFld 1).key [b, s] → u = 1) :
    RegsKept q (q + 1) (m.wr (unitFld u) 4 [b, s]) (m.retireUnit b s u) := by
  unfold Module.retireUnit
  extract_lets st f m₀ m₁
  have hcharge : m₀.regs = m.regs := by
    unfold m₀
    split <;> rfl
  have hstart : RegsKept q (q + 1) (m.wr (unitFld u) 4 [b, s]) (m₀.wr (unitFld u) 4 [b, s]) := .of_regs (by rw [Module.wr, hcharge]; rfl)
  have h₁ : RegsKept q (q + 1) (m.wr (unitFld u) 4 [b, s]) m₁ :=
    hstart.trans <| h.regsKept_shown.trans <| h.offLog.regsKept_alerts.trans h.regsKept_dropSwap
  have hspare : q = (unitFld 1).key [b, s] → m₁.unitState b s 1 = 4 := by
    intro hkey
    obtain rfl := hq hkey
    subst hkey
    exact h₁.unitState.trans Module.unitState_wr
  exact h₁.trans <| .ite (h.regsKept_slotDark hspare) <| .ite h.regsKept_exhaust (.refl m₁)

theorem Module.unitState_retireUnit (hb : b < 4) (hs : s < 17) (hu : u < 2) : (m.retireUnit b s u).unitState b s u = 4 := by
  have hspare : (unitFld u).key [b, s] = (unitFld 1).key [b, s] → u = 1 := by
    simp only [key_unitFld]
    omega
  exact ((unitKey_unitFld hb hs).regsKept_retireUnit hspare).unitState.trans unitState_wr

/-- A failure event set before its record and the retirement reads 1 after them. -/
theorem UnitKey.rd_failed {x : LogRec} (h : UnitKey (g.key idx)) (hw : g.width = 1) (hg : ∀ u, g.key idx ≠ (unitFld u).key [b, s]) :
    (((m.set1 g idx).report x).retireUnit b s u).rd g idx = 1 := by
  have hretired {m : Module} : RegsKept (g.key idx) (g.key idx + 1) m (m.retireUnit b s u) :=
    (RegsKept.wr_ne (hg u)).trans <| h.regsKept_retireUnit fun hkey => absurd hkey (hg 1)
  have hkept : RegsKept (g.key idx) (g.key idx + 1) (m.set1 g idx) (((m.set1 g idx).report x).retireUnit b s u) :=
    h.offLog.regsKept_report.trans hretired
  rw [hkept.rd_key, Module.rd_set1_same, hw, pow_one, Nat.mod_eq_of_lt Nat.one_lt_two]

theorem key_laserFail_ne_unitFld : Reg.lasEvents_laserFail.key [b] ≠ (unitFld u).key [b, s] := by
  rw [key_laserFail, key_unitFld]
  omega

theorem key_overpowerCut_ne_unitFld : Reg.lasEvents_overpowerCut.key [b] ≠ (unitFld u).key [b, s] := by
  rw [key_overpowerCut, key_unitFld]
  omega

/-! ### The commands -/

theorem Module.laserLocked_ignored (h : m.unitState b s u ≠ 1) : m.laserLocked b s u = m := if_pos h

theorem Module.laserTimeout_ignored (h : m.unitState b s u ≠ 1) : m.laserTimeout b s u = m := if_pos h

theorem Module.laserFail_ignored (h : m.unitState b s u ≠ 3) : m.laserFail b s u = m := if_pos h

theorem Module.laserOver_ignored (h : m.unitState b s u = 4) : m.laserOver b s u v = m := if_pos h

/-- A unit that fails, by an event of its bank and its record, is RETIRED with the event set. -/
theorem Module.failed_retired {x : LogRec} (hb : b < 4) (hs : s < 17) (hu : u < 2) :
    (((m.set1 Reg.lasEvents_laserFail [b]).report x).retireUnit b s u).unitState b s u = 4 ∧
    (((m.set1 Reg.lasEvents_laserFail [b]).report x).retireUnit b s u).rd Reg.lasEvents_laserFail [b] = 1 :=
  ⟨unitState_retireUnit hb hs hu, (unitKey_laserFail hb).rd_failed rfl fun _ => key_laserFail_ne_unitFld⟩

theorem Module.laserTimeout_retired (hb : b < 4) (hs : s < 17) (hu : u < 2) (h : m.unitState b s u = 1) :
    (m.laserTimeout b s u).unitState b s u = 4 ∧ (m.laserTimeout b s u).rd Reg.lasEvents_laserFail [b] = 1 := by
  rw [laserTimeout, if_neg (not_not.mpr h)]
  exact failed_retired hb hs hu

theorem Module.laserFail_retired (hb : b < 4) (hs : s < 17) (hu : u < 2) (h : m.unitState b s u = 3) :
    (m.laserFail b s u).unitState b s u = 4 ∧ (m.laserFail b s u).rd Reg.lasEvents_laserFail [b] = 1 := by
  rw [laserFail, if_neg (not_not.mpr h)]
  exact failed_retired hb hs hu

theorem Module.laserOver_retired (hb : b < 4) (hs : s < 17) (hu : u < 2) (h : m.unitState b s u ≠ 4) :
    (m.laserOver b s u v).unitState b s u = 4 ∧ (m.laserOver b s u v).rd Reg.lasEvents_overpowerCut [b] = 1 := by
  rw [laserOver, if_neg h]
  exact ⟨unitState_retireUnit hb hs hu, (unitKey_overpowerCut hb).rd_failed rfl fun _ => key_overpowerCut_ne_unitFld⟩

/-- A READY spare lights where its slot waits for it and the primary is dark. -/
theorem Module.unitState_lightSpare (hb : b < 4) (hs : s < 17) (h : m.unitState b s 1 = 2) :
    (m.lightSpare b s).unitState b s 1 = if (m.bank b).unplanned.elem s = true ∧ m.unitState b s 0 ≠ 3 then 3 else 2 := by
  by_cases hlit : (m.bank b).unplanned.elem s = true ∧ m.unitState b s 0 ≠ 3
  · rw [if_pos hlit, ((unitKey_unitFld hb hs).regsKept_lit ⟨hlit.1, h, hlit.2⟩).unitState, unitState_setUnit hb hs]
  · rw [if_neg hlit, lightSpare, if_neg fun ⟨hwaits, _, hdark⟩ => hlit ⟨hwaits, hdark⟩, h]

theorem Module.unplanned_modBank (hk : (k (m.bank b)).unplanned = (m.bank b).unplanned) :
    ((m.modBank b k).bank b).unplanned = (m.bank b).unplanned := by
  rw [bank, modBank, SMap.get_put_same, hk]

/-- A unit that has locked, with the swap that waits for it counted from the next boundary, before its spare lights. -/
theorem Module.laserLocked_warming (h : m.unitState b s u = 1) : ∃ a : Module,
    m.laserLocked b s u = (if u = 1 then a.lightSpare b s else a) ∧
    a.regs = (m.setUnit b s u 2).regs ∧ (a.bank b).unplanned = (m.bank b).unplanned := by
  have hbank : (m.setUnit b s u 2).bank b = m.bank b := by
    rw [bank, show (m.setUnit b s u 2).lasers = m.lasers from frame_setUnit .lasers (by decide), bank]
  rw [laserLocked, if_neg (not_not.mpr h)]
  refine ⟨_, rfl, ?_⟩
  rw [← hbank]
  split
  · split
    · exact ⟨rfl, unplanned_modBank rfl⟩
    · exact ⟨rfl, rfl⟩
  · exact ⟨rfl, rfl⟩

theorem Module.unitState_laserLocked (hb : b < 4) (hs : s < 17) (h : m.unitState b s u = 1) :
    (m.laserLocked b s u).unitState b s u =
      if u = 1 ∧ (m.bank b).unplanned.elem s = true ∧ m.unitState b s 0 ≠ 3 then 3 else 2 := by
  obtain ⟨a, hlocked, hregs, hunplanned⟩ := laserLocked_warming h
  have hready : a.unitState b s u = 2 := (RegsKept.of_regs hregs).unitState.trans (unitState_setUnit hb hs)
  rw [hlocked]
  by_cases hu : u = 1
  case neg => rw [if_neg hu, if_neg fun hall => hu hall.1, hready]
  case pos =>
    subst hu
    have hother : (unitFld 0).key [b, s] ≠ (unitFld 1).key [b, s] := by
      simp only [key_unitFld]
      omega
    have hprimary : a.unitState b s 0 = m.unitState b s 0 :=
      (RegsKept.of_regs hregs).unitState.trans ((unitKey_unitFld hb hs).regsKept_setUnit hother).unitState
    rw [if_pos rfl, unitState_lightSpare hb hs hready, hunplanned, hprimary]
    simp only [true_and]

end Kept

/-- Settles O33, each clause by what its command does to a unit in that state. That the commands change nothing in the other
states is log entry 4. -/
theorem laserUnitsFollowTheirTable : Obligations.LaserUnitsFollowTheirTable := by
  intro s b slot u reading hb hs hu
  have hok : (below b 4 && below slot 17 && below u 2) = true := by simp [below, hb, hs, hu]
  have hlocked := exec_laserLocked b slot u s
  have htimeout := exec_laserWarmTimeout b slot u s
  have hfail := exec_laserFail b slot u s
  have hover := exec_laserOverpower b slot u reading s
  refine ⟨fun h => ?locks, fun h => ?timesOut, fun h => ?notWarming, fun h => ?fails, fun h => ?notLit, fun h => ?cut,
    fun h => ?retired⟩
  case locks => exact ⟨_, completes_of_act hlocked hok, Module.unitState_laserLocked hb hs h⟩
  case timesOut => exact ⟨_, completes_of_act htimeout hok, Module.laserTimeout_retired hb hs hu h⟩
  case notWarming =>
    exact ⟨exec_of_act_same hlocked (Module.laserLocked_ignored h), exec_of_act_same htimeout (Module.laserTimeout_ignored h)⟩
  case fails => exact ⟨_, completes_of_act hfail hok, Module.laserFail_retired hb hs hu h⟩
  case notLit => exact exec_of_act_same hfail (Module.laserFail_ignored h)
  case cut => exact ⟨_, completes_of_act hover hok, Module.laserOver_retired hb hs hu h⟩
  case retired => exact exec_of_act_same hover (Module.laserOver_ignored h)

end Sys2Proof.Machine
end

section
/-! PROOFS. Steps and runs: every command answers a next state, with the queue of waiting commands standing. -/

namespace Sys2Proof.Machine

/-- Every command acts on the module alone, and only where its operands are well-formed. -/
theorem exec_eq_act (c : Instr) : ∃ f : Module → Module, ∀ s : State, exec c s = s.act c.wf f := by
  cases c with
  | roundBoundary => exact ⟨_, exec_roundBoundary _ _ _⟩
  | roundMark => exact ⟨_, exec_roundMark _⟩
  | heldWindowExpiry => exact ⟨_, exec_heldWindowExpiry _⟩
  | coalesceTimeout => exact ⟨_, exec_coalesceTimeout _⟩
  | hubRoundLoRead => exact ⟨_, exec_hubRoundLoRead⟩
  | tineCyclesLoRead => exact ⟨_, exec_tineCyclesLoRead _⟩
  | tineMatPassesLoRead => exact ⟨_, exec_tineMatPassesLoRead _⟩
  | admAcceptedLoRead => exact ⟨_, exec_admAcceptedLoRead⟩
  | calOpsecLoRead => exact ⟨_, exec_calOpsecLoRead⟩
  | registerWrite => exact ⟨_, exec_registerWrite _ _⟩
  | unsupportedAccess => exact ⟨_, exec_unsupportedAccess _⟩
  | refclkLost => exact ⟨_, exec_refclkLost⟩
  | refclkReturn => exact ⟨_, exec_refclkReturn⟩
  | holdoverSlewEnd => exact ⟨_, exec_holdoverSlewEnd⟩
  | rootPllUnlock => exact ⟨_, exec_rootPllUnlock⟩
  | rootPllLock => exact ⟨_, exec_rootPllLock _⟩
  | treeLostAtDie => exact ⟨_, exec_treeLostAtDie _⟩
  | bothTreesLost => exact ⟨_, exec_bothTreesLost _⟩
  | clockLossNotice => exact ⟨_, exec_clockLossNotice _⟩
  | treeSourceLost => exact ⟨_, exec_treeSourceLost _⟩
  | tload => exact ⟨_, exec_tload _ _⟩
  | astage => exact ⟨_, exec_astage _ _⟩
  | stream => exact ⟨_, exec_stream _ _⟩
  | wset => exact ⟨_, exec_wset _ _⟩
  | drain => exact ⟨_, exec_drain _ _⟩
  | drainw => exact ⟨_, exec_drainw _ _⟩
  | padd => exact ⟨_, exec_padd _ _⟩
  | pdrain => exact ⟨_, exec_pdrain _ _⟩
  | vadd => exact ⟨_, exec_vadd _ _⟩
  | vsub => exact ⟨_, exec_vsub _ _⟩
  | vmul => exact ⟨_, exec_vmul _ _⟩
  | vfma => exact ⟨_, exec_vfma _ _⟩
  | vmin => exact ⟨_, exec_vmin _ _⟩
  | vmax => exact ⟨_, exec_vmax _ _⟩
  | vlogic => exact ⟨_, exec_vlogic _ _⟩
  | vshift => exact ⟨_, exec_vshift _ _⟩
  | vcmp => exact ⟨_, exec_vcmp _ _⟩
  | vsel => exact ⟨_, exec_vsel _ _⟩
  | vreduce => exact ⟨_, exec_vreduce _ _⟩
  | vgather => exact ⟨_, exec_vgather _ _⟩
  | vscatter => exact ⟨_, exec_vscatter _ _⟩
  | vfill => exact ⟨_, exec_vfill _ _⟩
  | cload => exact ⟨_, exec_cload _ _⟩
  | ceval => exact ⟨_, exec_ceval _ _⟩
  | fdecode => exact ⟨_, exec_fdecode _ _⟩
  | fencode => exact ⟨_, exec_fencode _ _⟩
  | freblock => exact ⟨_, exec_freblock _ _⟩
  | ftile => exact ⟨_, exec_ftile _ _⟩
  | send => exact ⟨_, exec_send _ _⟩
  | recv => exact ⟨_, exec_recv _ _⟩
  | recvTimeout => exact ⟨_, exec_recvTimeout _ _⟩
  | dmard => exact ⟨_, exec_dmard _ _⟩
  | dmawr => exact ⟨_, exec_dmawr _ _⟩
  | copy => exact ⟨_, exec_copy _ _⟩
  | input => exact ⟨_, exec_input _ _⟩
  | output => exact ⟨_, exec_output _ _⟩
  | nop => exact ⟨_, exec_nop _ _⟩
  | sbegin => exact ⟨_, exec_sbegin _ _⟩
  | setreg => exact ⟨_, exec_setreg _ _⟩
  | addreg => exact ⟨_, exec_addreg _ _⟩
  | loop => exact ⟨_, exec_loop _ _⟩
  | brcnt => exact ⟨_, exec_brcnt _ _⟩
  | jump => exact ⟨_, exec_jump _ _⟩
  | barrier => exact ⟨_, exec_barrier _ _⟩
  | sync => exact ⟨_, exec_sync _ _⟩
  | cschk => exact ⟨_, exec_cschk _ _⟩
  | relmark => exact ⟨_, exec_relmark _ _⟩
  | trap => exact ⟨_, exec_trap _ _⟩
  | eos => exact ⟨_, exec_eos _ _⟩
  | reservedOpcode => exact ⟨_, exec_reservedOpcode _ _⟩
  | operationComplete => exact ⟨_, exec_operationComplete _ _⟩
  | stageFaultReport => exact ⟨_, exec_stageFaultReport _⟩
  | tileChecksumRecheck => exact ⟨_, exec_tileChecksumRecheck⟩
  | stageEndReport => exact ⟨_, exec_stageEndReport _⟩
  | stageDispatch => exact ⟨_, exec_stageDispatch _⟩
  | streamFlit => exact ⟨_, exec_streamFlit _ _⟩
  | fillStart => exact ⟨_, exec_fillStart _⟩
  | fillGranule => exact ⟨_, exec_fillGranule _ _⟩
  | fillEnd => exact ⟨_, exec_fillEnd _ _⟩
  | fillAbort => exact ⟨_, exec_fillAbort _ _⟩
  | bankSwitchEnd => exact ⟨_, exec_bankSwitchEnd _ _⟩
  | spareCalled => exact ⟨_, exec_spareCalled _⟩
  | entryTestDone => exact ⟨_, exec_entryTestDone _ _⟩
  | parkCommand => exact ⟨_, exec_parkCommand _⟩
  | wakeCommand => exact ⟨_, exec_wakeCommand _⟩
  | migrationStart => exact ⟨_, exec_migrationStart _⟩
  | migrationDone => exact ⟨_, exec_migrationDone _⟩
  | tineCntClrActivity => exact ⟨_, exec_tineCntClrActivity _⟩
  | tineCntClrCheckfield => exact ⟨_, exec_tineCntClrCheckfield _⟩
  | tineCntClrCorr => exact ⟨_, exec_tineCntClrCorr _⟩
  | structVerify => exact ⟨_, exec_structVerify⟩
  | structVerified => exact ⟨_, exec_structVerified⟩
  | structCommit => exact ⟨_, exec_structCommit⟩
  | structAbort => exact ⟨_, exec_structAbort⟩
  | quiesceComplete => exact ⟨_, exec_quiesceComplete⟩
  | quiesceTimeout => exact ⟨_, exec_quiesceTimeout⟩
  | structApplyDone => exact ⟨_, exec_structApplyDone⟩
  | structPersist => exact ⟨_, exec_structPersist⟩
  | structPersistDone => exact ⟨_, exec_structPersistDone _⟩
  | loadImage => exact ⟨_, exec_loadImage _ _ _ _ _ _⟩
  | loadImageCopied => exact ⟨_, exec_loadImageCopied _ _⟩
  | evict => exact ⟨_, exec_evict _ _ _ _ _ _⟩
  | pin => exact ⟨_, exec_pin _ _ _ _ _ _⟩
  | query => exact ⟨_, exec_query _ _ _ _ _ _⟩
  | cancel => exact ⟨_, exec_cancel _ _ _ _ _ _⟩
  | invoke => exact ⟨_, exec_invoke _ _ _ _ _ _⟩
  | invokeChain => exact ⟨_, exec_invokeChain _ _ _ _ _ _⟩
  | scrubRead => exact ⟨_, exec_scrubRead _⟩
  | gddr7TempRead => exact ⟨_, exec_gddr7TempRead _ _⟩
  | cxlLinkDown => exact ⟨_, exec_cxlLinkDown _⟩
  | cxlRetrainEnd => exact ⟨_, exec_cxlRetrainEnd _ _⟩
  | cxlBringup => exact ⟨_, exec_cxlBringup _ _⟩
  | memHostRegionWrite => exact ⟨_, exec_memHostRegionWrite _⟩
  | memCntClrCirque => exact ⟨_, exec_memCntClrCirque⟩
  | memCntClrDev => exact ⟨_, exec_memCntClrDev⟩
  | bar4Read => exact ⟨_, exec_bar4Read _ _⟩
  | bar4Write => exact ⟨_, exec_bar4Write _ _⟩
  | hubApertureBaseWrite => exact ⟨_, exec_hubApertureBaseWrite _⟩
  | releaseGateOpen => exact ⟨_, exec_releaseGateOpen _⟩
  | admCntClrPeak => exact ⟨_, exec_admCntClrPeak⟩
  | admCntClrReasons => exact ⟨_, exec_admCntClrReasons⟩
  | admCntClrOutcomes => exact ⟨_, exec_admCntClrOutcomes⟩
  | sqTailDoorbell => exact ⟨_, exec_sqTailDoorbell _ _⟩
  | cqHeadDoorbell => exact ⟨_, exec_cqHeadDoorbell _ _⟩
  | sqEntryFetched => exact ⟨_, exec_sqEntryFetched _ _ _ _⟩
  | sqFetchError => exact ⟨_, exec_sqFetchError _⟩
  | entryTaken => exact ⟨_, exec_entryTaken _ _ _ _⟩
  | hostReadFail => exact ⟨_, exec_hostReadFail _ _ _⟩
  | createQueue => exact ⟨_, exec_createQueue _⟩
  | deleteQueue => exact ⟨_, exec_deleteQueue _⟩
  | queueDrainDone => exact ⟨_, exec_queueDrainDone _⟩
  | bind => exact ⟨_, exec_bind _⟩
  | unbind => exact ⟨_, exec_unbind _⟩
  | queEnable => exact ⟨_, exec_queEnable⟩
  | queue0Enabled => exact ⟨_, exec_queue0Enabled⟩
  | queDisable => exact ⟨_, exec_queDisable⟩
  | pcieReset => exact ⟨_, exec_pcieReset⟩
  | fabricRequest => exact ⟨_, exec_fabricRequest _ _ _⟩
  | reply => exact ⟨_, exec_reply _ _⟩
  | quote => exact ⟨_, exec_quote _ _ _⟩
  | subreq => exact ⟨_, exec_subreq _ _ _ _ _ _ _ _ _⟩
  | streamPacket => exact ⟨_, exec_streamPacket _ _ _⟩
  | packetForward => exact ⟨_, exec_packetForward _ _⟩
  | notice => exact ⟨_, exec_notice _ _ _ _⟩
  | noticeSend => exact ⟨_, exec_noticeSend _⟩
  | messageReassemblyTimeout => exact ⟨_, exec_messageReassemblyTimeout _ _ _⟩
  | fabricJoin => exact ⟨_, exec_fabricJoin _⟩
  | fabricLeave => exact ⟨_, exec_fabricLeave _⟩
  | fabricLeaveDone => exact ⟨_, exec_fabricLeaveDone⟩
  | rteCommit => exact ⟨_, exec_rteCommit⟩
  | shadowTableWrite => exact ⟨_, exec_shadowTableWrite _ _ _⟩
  | rteClrAll => exact ⟨_, exec_rteClrAll⟩
  | dataFlit => exact ⟨_, exec_dataFlit _ _ _ _⟩
  | idleFlit => exact ⟨_, exec_idleFlit _ _ _⟩
  | flitCrcFail => exact ⟨_, exec_flitCrcFail _⟩
  | ackTimeout => exact ⟨_, exec_ackTimeout _⟩
  | init => exact ⟨_, exec_init _ _ _ _ _ _ _ _ _⟩
  | retrainReq => exact ⟨_, exec_retrainReq _ _ _ _⟩
  | mapPropose => exact ⟨_, exec_mapPropose _ _ _ _ _ _ _⟩
  | mapRequest => exact ⟨_, exec_mapRequest _ _ _ _ _ _ _⟩
  | mapAck => exact ⟨_, exec_mapAck _ _ _ _ _⟩
  | mapReject => exact ⟨_, exec_mapReject _ _ _ _ _⟩
  | creditAudit => exact ⟨_, exec_creditAudit _ _ _ _⟩
  | loopReq => exact ⟨_, exec_loopReq _ _ _⟩
  | mapSwitch => exact ⟨_, exec_mapSwitch _ _⟩
  | mapRequestTimeout => exact ⟨_, exec_mapRequestTimeout _⟩
  | slotLost => exact ⟨_, exec_slotLost _ _⟩
  | crcFailTimeout => exact ⟨_, exec_crcFailTimeout _⟩
  | waveRetry => exact ⟨_, exec_waveRetry _⟩
  | linkGrace => exact ⟨_, exec_linkGrace _⟩
  | graceExpiry => exact ⟨_, exec_graceExpiry _⟩
  | initRetry => exact ⟨_, exec_initRetry _⟩
  | phyPortUp => exact ⟨_, exec_phyPortUp _ _ _ _⟩
  | flushNow => exact ⟨_, exec_flushNow _⟩
  | retrainFull => exact ⟨_, exec_retrainFull _⟩
  | reinit => exact ⟨_, exec_reinit _⟩
  | fabClrAll => exact ⟨_, exec_fabClrAll _⟩
  | ringLockLoss => exact ⟨_, exec_ringLockLoss _ _ _⟩
  | clkLost => exact ⟨_, exec_clkLost _⟩
  | clockFallbackLock => exact ⟨_, exec_clockFallbackLock _⟩
  | fallbackExit => exact ⟨_, exec_fallbackExit _⟩
  | setf => exact ⟨_, exec_setf _ _⟩
  | setfs => exact ⟨_, exec_setfs _ _⟩
  | getf => exact ⟨_, exec_getf _ _ _⟩
  | loads => exact ⟨_, exec_loads _ _⟩
  | adds => exact ⟨_, exec_adds _ _⟩
  | wait => exact ⟨_, exec_wait _⟩
  | poll => exact ⟨_, exec_poll _ _ _⟩
  | brs => exact ⟨_, exec_brs _ _⟩
  | measure => exact ⟨_, exec_measure _ _ _⟩
  | done => exact ⟨_, exec_done _ _⟩
  | fail => exact ⟨_, exec_fail _ _⟩
  | seqLimitExceeded => exact ⟨_, exec_seqLimitExceeded _ _⟩
  | laserLocked => exact ⟨_, exec_laserLocked _ _ _⟩
  | laserWarmTimeout => exact ⟨_, exec_laserWarmTimeout _ _ _⟩
  | laserFail => exact ⟨_, exec_laserFail _ _ _⟩
  | laserOverpower => exact ⟨_, exec_laserOverpower _ _ _ _⟩
  | eolWarn => exact ⟨_, exec_eolWarn _ _ _⟩
  | lasSwap => exact ⟨_, exec_lasSwap _ _⟩
  | plannedSwap => exact ⟨_, exec_plannedSwap _⟩
  | swapRemoval => exact ⟨_, exec_swapRemoval _⟩
  | swapDeferral => exact ⟨_, exec_swapDeferral _⟩
  | swapDone => exact ⟨_, exec_swapDone _⟩
  | fibreOverpower => exact ⟨_, exec_fibreOverpower _ _⟩
  | clearSafety => exact ⟨_, exec_clearSafety _⟩
  | fibreDark => exact ⟨_, exec_fibreDark _⟩
  | safeProbe => exact ⟨_, exec_safeProbe _⟩
  | probeReceived => exact ⟨_, exec_probeReceived _⟩
  | firnRetrain => exact ⟨_, exec_firnRetrain _⟩
  | useSpare => exact ⟨_, exec_useSpare _⟩
  | loopModeWrite => exact ⟨_, exec_loopModeWrite _ _ _⟩
  | qlkLinkFrame => exact ⟨_, exec_qlkLinkFrame _ _ _ _⟩
  | qlkGranule => exact ⟨_, exec_qlkGranule _ _ _ _⟩
  | qlkAckTimeout => exact ⟨_, exec_qlkAckTimeout _ _⟩
  | qlkClockLoss => exact ⟨_, exec_qlkClockLoss _ _⟩
  | cap => exact ⟨_, exec_cap _ _ _ _ _ _ _ _ _⟩
  | qlkMap => exact ⟨_, exec_qlkMap _ _ _ _⟩
  | qlkMapAck => exact ⟨_, exec_qlkMapAck _ _ _ _⟩
  | testStart => exact ⟨_, exec_testStart _ _ _⟩
  | testResult => exact ⟨_, exec_testResult _ _ _⟩
  | qlkRetrainReq => exact ⟨_, exec_qlkRetrainReq _ _⟩
  | ready => exact ⟨_, exec_ready _ _⟩
  | bundleRetrain => exact ⟨_, exec_bundleRetrain _ _ _⟩
  | bundleRetire => exact ⟨_, exec_bundleRetire _ _ _ _⟩
  | qlkRetrain => exact ⟨_, exec_qlkRetrain _ _⟩
  | qlkClrAll => exact ⟨_, exec_qlkClrAll _⟩
  | partialReset => exact ⟨_, exec_partialReset _⟩
  | rd => exact ⟨_, exec_rd _⟩
  | rdResp => exact ⟨_, exec_rdResp _⟩
  | wr => exact ⟨_, exec_wr _⟩
  | wrMasked => exact ⟨_, exec_wrMasked _⟩
  | wrAck => exact ⟨_, exec_wrAck _⟩
  | atAdd => exact ⟨_, exec_atAdd _⟩
  | atSwap => exact ⟨_, exec_atSwap _⟩
  | atCas => exact ⟨_, exec_atCas _⟩
  | atResp => exact ⟨_, exec_atResp _⟩
  | guestCopy => exact ⟨_, exec_guestCopy _⟩
  | rdS => exact ⟨_, exec_rdS _⟩
  | rdM => exact ⟨_, exec_rdM _⟩
  | upg => exact ⟨_, exec_upg _⟩
  | wbM => exact ⟨_, exec_wbM _⟩
  | cohEvict => exact ⟨_, exec_cohEvict _⟩
  | cohGrant => exact ⟨_, exec_cohGrant _⟩
  | snpInv => exact ⟨_, exec_snpInv _⟩
  | snpS => exact ⟨_, exec_snpS _⟩
  | snpAck => exact ⟨_, exec_snpAck _⟩
  | snoopTimeout => exact ⟨_, exec_snoopTimeout _ _⟩
  | event => exact ⟨_, exec_event _⟩
  | drd => exact ⟨_, exec_drd _⟩
  | drdResp => exact ⟨_, exec_drdResp _⟩
  | dwr => exact ⟨_, exec_dwr _⟩
  | dwrAck => exact ⟨_, exec_dwrAck _⟩
  | debugTimeout => exact ⟨_, exec_debugTimeout⟩
  | dbgGo => exact ⟨_, exec_dbgGo _ _⟩
  | unfence => exact ⟨_, exec_unfence _⟩
  | clrViol => exact ⟨_, exec_clrViol _⟩
  | winRightsWrite => exact ⟨_, exec_winRightsWrite _ _ _⟩
  | guestOverpower => exact ⟨_, exec_guestOverpower _ _⟩
  | pairForm => exact ⟨_, exec_pairForm _ _⟩
  | pairDissolve => exact ⟨_, exec_pairDissolve _⟩
  | pairHandover => exact ⟨_, exec_pairHandover _⟩
  | autoHandover => exact ⟨_, exec_autoHandover⟩
  | handoverReq => exact ⟨_, exec_handoverReq _⟩
  | acquire => exact ⟨_, exec_acquire _⟩
  | leaseGrant => exact ⟨_, exec_leaseGrant _ _⟩
  | renew => exact ⟨_, exec_renew _⟩
  | renewPeriod => exact ⟨_, exec_renewPeriod⟩
  | renewAck => exact ⟨_, exec_renewAck _ _⟩
  | leaseRelease => exact ⟨_, exec_leaseRelease _⟩
  | leaseQuery => exact ⟨_, exec_leaseQuery _ _⟩
  | leaseStatus => exact ⟨_, exec_leaseStatus _⟩
  | deny => exact ⟨_, exec_deny _⟩
  | failFast => exact ⟨_, exec_failFast _⟩
  | announce => exact ⟨_, exec_announce _⟩
  | announceRepeat => exact ⟨_, exec_announceRepeat _⟩
  | detach => exact ⟨_, exec_detach _⟩
  | leaseMessageRepeat => exact ⟨_, exec_leaseMessageRepeat _ _⟩
  | selfFence => exact ⟨_, exec_selfFence⟩
  | leaseExpiry => exact ⟨_, exec_leaseExpiry⟩
  | witnessLeaseExpiry => exact ⟨_, exec_witnessLeaseExpiry _⟩
  | standbyBindingEnd => exact ⟨_, exec_standbyBindingEnd⟩
  | witnessStartEnd => exact ⟨_, exec_witnessStartEnd⟩
  | failFastEvent => exact ⟨_, exec_failFastEvent _ _ _⟩
  | kvRecord => exact ⟨_, exec_kvRecord _⟩
  | outRecord => exact ⟨_, exec_outRecord _⟩
  | descRecord => exact ⟨_, exec_descRecord _⟩
  | modRecord => exact ⟨_, exec_modRecord _⟩
  | reqRecord => exact ⟨_, exec_reqRecord _⟩
  | closeRecord => exact ⟨_, exec_closeRecord _ _⟩
  | checkpointRecord => exact ⟨_, exec_checkpointRecord _⟩
  | deltaAck => exact ⟨_, exec_deltaAck _⟩
  | standbyLoss => exact ⟨_, exec_standbyLoss⟩
  | pairingPortDown => exact ⟨_, exec_pairingPortDown _⟩
  | closeTimeout => exact ⟨_, exec_closeTimeout⟩
  | switchoverStart => exact ⟨_, exec_switchoverStart _⟩
  | resyncComplete => exact ⟨_, exec_resyncComplete _ _ _⟩
  | pairClrAll => exact ⟨_, exec_pairClrAll⟩
  | faultPinClr => exact ⟨_, exec_faultPinClr _⟩
  | safLogLatch => exact ⟨_, exec_safLogLatch _⟩
  | proofTest => exact ⟨_, exec_proofTest _ _ _⟩
  | moraineWrite => exact ⟨_, exec_moraineWrite⟩
  | snapIn => exact ⟨_, exec_snapIn⟩
  | snapTrigger => exact ⟨_, exec_snapTrigger _⟩
  | snapLatch => exact ⟨_, exec_snapLatch _⟩
  | snapConfirmTimeout => exact ⟨_, exec_snapConfirmTimeout _⟩
  | snapRearm => exact ⟨_, exec_snapRearm _⟩
  | tempSample => exact ⟨_, exec_tempSample _ _ _ _⟩
  | thmForceWrite => exact ⟨_, exec_thmForceWrite _ _⟩
  | thmRelease => exact ⟨_, exec_thmRelease _ _⟩
  | thmRetest => exact ⟨_, exec_thmRetest _ _⟩
  | clearShutdown => exact ⟨_, exec_clearShutdown _ _⟩
  | thmCurveWrite => exact ⟨_, exec_thmCurveWrite _ _⟩
  | budgetGrant => exact ⟨_, exec_budgetGrant _⟩
  | budgetRequest => exact ⟨_, exec_budgetRequest _ _⟩
  | budgetReturn => exact ⟨_, exec_budgetReturn _ _ _⟩
  | supplyOutOfWindow => exact ⟨_, exec_supplyOutOfWindow _ _⟩
  | inputOutOfWindow => exact ⟨_, exec_inputOutOfWindow _⟩
  | powerFailCommitDone => exact ⟨_, exec_powerFailCommitDone⟩
  | calRun => exact ⟨_, exec_calRun _⟩
  | calRunDone => exact ⟨_, exec_calRunDone _⟩
  | calStoreDone => exact ⟨_, exec_calStoreDone⟩
  | calStoreRetry => exact ⟨_, exec_calStoreRetry⟩
  | calRevert => exact ⟨_, exec_calRevert _⟩
  | opsecTick => exact ⟨_, exec_opsecTick⟩
  | opsecRecord => exact ⟨_, exec_opsecRecord⟩
  | powerOnReset => exact ⟨_, exec_powerOnReset⟩
  | modResetN => exact ⟨_, exec_modResetN⟩
  | hubResetModule => exact ⟨_, exec_hubResetModule _⟩
  | watchdogExpiry => exact ⟨_, exec_watchdogExpiry⟩
  | firmwareVerified => exact ⟨_, exec_firmwareVerified⟩
  | bootDevicesReady => exact ⟨_, exec_bootDevicesReady _⟩
  | bootStructureApplied => exact ⟨_, exec_bootStructureApplied⟩
  | bootReady => exact ⟨_, exec_bootReady⟩
  | recoveryImage => exact ⟨_, exec_recoveryImage _⟩
  | fwUpdate => exact ⟨_, exec_fwUpdate _ _ _⟩
  | ownerEnrol => exact ⟨_, exec_ownerEnrol _ _ _⟩
  | ownerUpdate => exact ⟨_, exec_ownerUpdate _ _ _⟩
  | ownerRelease => exact ⟨_, exec_ownerRelease _ _ _⟩
  | secLockSet => exact ⟨_, exec_secLockSet _⟩
  | getVersion => exact ⟨_, exec_getVersion _⟩
  | getCapabilities => exact ⟨_, exec_getCapabilities _⟩
  | negotiateAlgorithms => exact ⟨_, exec_negotiateAlgorithms _ _⟩
  | getDigests => exact ⟨_, exec_getDigests _⟩
  | getCertificate => exact ⟨_, exec_getCertificate _ _ _ _⟩
  | challenge => exact ⟨_, exec_challenge _ _ _⟩
  | getMeasurements => exact ⟨_, exec_getMeasurements _ _ _⟩
  | crcGo => exact ⟨_, exec_crcGo _ _⟩
  | crcRunEnd => exact ⟨_, exec_crcRunEnd _ _⟩
  | ctxLatchView => exact ⟨_, exec_ctxLatchView _⟩
  | modResetNRelease => exact ⟨_, exec_modResetNRelease⟩

/-- Settles O1, by the definition of a step. -/
theorem stepRunsTheFrontCommand : Obligations.StepRunsTheFrontCommand := fun _ _ _ => rfl

/-- Settles O2, by the definition of a step; that the block idles is log entry 2. -/
theorem stepIdlesOnAnEmptyQueue : Obligations.StepIdlesOnAnEmptyQueue := by
  intro s h
  rw [step, h]

/-- Settles O3: every command's meaning is an act on the module. -/
theorem everyCommandAnswersANextState : Obligations.EveryCommandAnswersANextState := by
  intro c s
  obtain ⟨f, hf⟩ := exec_eq_act c
  exact ⟨_, hf s⟩

/-- Settles O4: an act whose operands name no hardware leaves the state as it is (log entry 3). -/
theorem operandsThatNameNothingChangeNothing : Obligations.OperandsThatNameNothingChangeNothing := by
  intro c s h
  obtain ⟨f, hf⟩ := exec_eq_act c
  exact (hf s).trans (State.act_none h f)

/-- One step answers a next state in which the front command is gone and the others wait in their order. -/
theorem step_next (s : State) : ∃ t : State, step s = .next t ∧ t.pending = s.pending.drop 1 := by
  cases hq : s.pending with
  | nil => exact ⟨s, stepIdlesOnAnEmptyQueue s hq, by rw [hq, List.drop_nil]⟩
  | cons c rest =>
    obtain ⟨b, hb⟩ := everyCommandAnswersANextState c { s with pending := rest }
    exact ⟨_, by rw [step, hq]; exact hb, rfl⟩

/-- A run of one step more goes on from the state that the first step answers. -/
theorem run_succ {s t : State} (h : step s = .next t) (n : Nat) : core.run (n + 1) s = core.run n t := by
  have hstep : core.step s = .next t := h
  simp only [Host.Core.run, hstep]

/-- Settles O5, by induction on the number of steps; the queue and its idling are log entries 1 and 2. -/
theorem runsTakeCommandsInOrder : Obligations.RunsTakeCommandsInOrder := by
  intro n
  induction n with
  | zero => exact fun s => ⟨s, rfl, rfl⟩
  | succ n ih =>
    intro s
    obtain ⟨t, hstep, hone⟩ := step_next s
    obtain ⟨u, hrun, hmany⟩ := ih t
    refine ⟨u, ?_, by rw [hmany, hone, List.drop_drop, Nat.add_comm]⟩
    exact (run_succ hstep n).trans hrun

end Sys2Proof.Machine
end

section
/-! PROOFS. Register writes that act on fields alone: the routing shadow (R336), the guest windows' rights (R365), SEC_CTL (R466) and
the debug writes it refuses (R360). -/

namespace Sys2Proof.Machine

/-! ### Fields at different places -/

section Keys
variable {f g : Fld} {m : Module} {v w : Nat} {idx : List Nat}

/-- Fields of registers that repeat alike, at different places of their block, have different keys at the same index. -/
theorem Fld.key_ne (h : g.strides = f.strides ∧ g.base * 32 + g.lo ≠ f.base * 32 + f.lo) : g.key idx ≠ f.key idx := by
  obtain ⟨hs, hne⟩ := h
  simp only [Fld.key, hs]
  omega

/-- A field reads as before after another field was set at the same index. -/
theorem Module.rd_wr_place (h : g.strides = f.strides ∧ g.base * 32 + g.lo ≠ f.base * 32 + f.lo) : (m.wr f v idx).rd g idx = m.rd g idx :=
  rd_wr_other (Fld.key_ne h) m v

/-- A field set to a value that fits it reads that value. -/
theorem Module.rd_wr_fits (h : v < 2 ^ f.width) : (m.wr f v idx).rd f idx = v := by
  rw [rd_wr_same, Nat.mod_eq_of_lt h]

theorem Module.rdB_eq_true (h : m.rd f idx ≠ 0) : m.rdB f idx = true := decide_eq_true h

theorem Module.rdB_eq_false (h : m.rd f idx = 0) : m.rdB f idx = false := decide_eq_false (not_not_intro h)

theorem lt_of_isWord (h : isWord v = true) : v < 2 ^ 32 := of_decide_eq_true h

end Keys

/-! ### The routing shadow (R336) -/

/-- The field that a write of a shadow table names: table 0 group, 1 local, 2 and 3 the low and the high words of the exceptions. -/
def shadowFld (table : Nat) : Fld :=
  if table = 0 then Reg.rteGroupSh_word else if table = 1 then Reg.rteLocalSh_word else if table = 2 then Reg.rteExcSh_lo else Reg.rteExcShHi_hi

/-- An entry of a shadow table that exists. -/
def isShadow (table i : Nat) : Prop := table = 0 ∧ i < 512 ∨ table = 1 ∧ i < 32 ∨ 2 ≤ table ∧ table < 4 ∧ i < 1024

section Shadow
variable {m : Module} {table i v : Nat}

theorem shadowFld_width : (shadowFld table).width = 32 := by
  unfold shadowFld
  split
  · rfl
  · split
    · rfl
    · split <;> rfl

/-- A shadow entry is no field of RTE_STATUS. -/
theorem shadowFld_above : Reg.rteStatus_ignoredWrite.key [] < (shadowFld table).key [i] := by
  have hbase : Reg.rteStatus_ignoredWrite.key [] < (shadowFld table).base * 32 := by
    unfold shadowFld
    split
    · decide
    · split
      · decide
      · split <;> decide
  exact lt_of_lt_of_le hbase (Fld.base_le_key _ _)

theorem Module.shadowWrite_pending (h : m.rd Reg.rteStatus_commitPending ≠ 0) :
    m.shadowWrite table i v = m.wr Reg.rteStatus_ignoredWrite 1 := if_pos (rdB_eq_true h)

theorem Module.shadowWrite_taken (h : m.rd Reg.rteStatus_commitPending = 0) (hi : isShadow table i) :
    m.shadowWrite table i v = m.wr (shadowFld table) v [i] := by
  have hopen : ¬ m.rdB Reg.rteStatus_commitPending = true := by simp [rdB_eq_false h]
  refine (if_neg hopen).trans ?_
  rcases hi with ⟨rfl, hi⟩ | ⟨rfl, hi⟩ | ⟨hlo, hhi, hi⟩
  · exact if_pos hi
  · exact if_pos hi
  · obtain rfl | rfl : table = 2 ∨ table = 3 := by omega
    · exact if_pos hi
    · exact if_pos hi

end Shadow

/-- Settles O30, by what a write of a shadow table does while a COMMIT is pending and while none is. -/
theorem shadowTablesWaitForACommit : Obligations.ShadowTablesWaitForACommit := by
  intro s table i v hv hi
  have hwrite := exec_shadowTableWrite table i v s
  have hok : (below table 4 && below i 1024 && isWord v) = true := by
    simp only [below, hv, Bool.and_true, Bool.and_eq_true, decide_eq_true_eq]
    omega
  refine ⟨completes_of_act (exec_rteCommit s) rfl, fun h => ?pending, fun h => ?taken⟩
  case pending => exact completes_of_eq hwrite (Module.shadowWrite_pending h) hok
  case taken =>
    refine ⟨_, completesIn_of_frame hwrite (Module.shadowWrite_taken h hi) hok Module.frame_reg, ?_, fun g _ j _ hne => ?_, ?_⟩
    · exact Module.rd_wr_fits (by rw [shadowFld_width]; exact lt_of_isWord hv)
    · exact Module.rd_wr_other hne _ v
    · exact Module.rd_wr_other (ne_of_lt shadowFld_above) _ v

/-! ### The rights of a guest window (R365) -/

section Rights
variable {m : Module} {g w v : Nat}

/-- A window's four rights set to the low bits of a word. -/
def Module.setRights (m : Module) (g w v : Nat) : Module :=
  (((m.wr Reg.qlkFwWinRights_r (bit v 0) [g, w]).wr Reg.qlkFwWinRights_w (bit v 1) [g, w]).wr Reg.qlkFwWinRights_x (bit v 2)
    [g, w]).wr Reg.qlkFwWinRights_coherent (bit v 3) [g, w]

/-- A window may not lie where it does: outside every memory a guest may be given, or over the firmware area (R206, R365). -/
def Module.windowBad (m : Module) (g w : Nat) : Prop :=
  m.rangeOk (m.fwWindow g w).1 (m.fwWindow g w).2 = false ∨
    (m.fwWindow g w).1 < gddrEnd ∧ fwArea < (m.fwWindow g w).1 + (m.fwWindow g w).2

theorem bit_lt (v k : Nat) : bit v k < 2 ^ 1 := Nat.mod_lt _ (by decide)

theorem Module.rd_setRights : (m.setRights g w v).rd Reg.qlkFwWinRights_r [g, w] = bit v 0 ∧
    (m.setRights g w v).rd Reg.qlkFwWinRights_w [g, w] = bit v 1 ∧ (m.setRights g w v).rd Reg.qlkFwWinRights_x [g, w] = bit v 2 ∧
    (m.setRights g w v).rd Reg.qlkFwWinRights_coherent [g, w] = bit v 3 := by
  unfold setRights
  refine ⟨?_, ?_, ?_, rd_wr_fits (bit_lt v 3)⟩
  · rw [rd_wr_place (by decide), rd_wr_place (by decide), rd_wr_place (by decide), rd_wr_fits (bit_lt v 0)]
  · rw [rd_wr_place (by decide), rd_wr_place (by decide), rd_wr_fits (bit_lt v 1)]
  · rw [rd_wr_place (by decide), rd_wr_fits (bit_lt v 2)]

/-- The rights read the same whatever REJECTED is set to. -/
theorem Module.rd_rejected {x : Nat} : (m.wr Reg.qlkFwWinRights_rejected x [g, w]).rd Reg.qlkFwWinRights_r [g, w] = m.rd Reg.qlkFwWinRights_r [g, w] ∧
    (m.wr Reg.qlkFwWinRights_rejected x [g, w]).rd Reg.qlkFwWinRights_w [g, w] = m.rd Reg.qlkFwWinRights_w [g, w] ∧
    (m.wr Reg.qlkFwWinRights_rejected x [g, w]).rd Reg.qlkFwWinRights_x [g, w] = m.rd Reg.qlkFwWinRights_x [g, w] ∧
    (m.wr Reg.qlkFwWinRights_rejected x [g, w]).rd Reg.qlkFwWinRights_coherent [g, w] = m.rd Reg.qlkFwWinRights_coherent [g, w] :=
  ⟨rd_wr_place (by decide), rd_wr_place (by decide), rd_wr_place (by decide), rd_wr_place (by decide)⟩

theorem Module.frame_setRights : Frame [.regs] m (m.setRights g w v) :=
  frame_reg.trans <| frame_reg.trans <| frame_reg.trans frame_reg

theorem Module.winRights_locked (h : m.rd Reg.secStatus_secLock ≠ 0) : m.winRights g w v = m := if_pos (rdB_eq_true h)

theorem Module.winRights_open (h : m.rd Reg.secStatus_secLock = 0) : m.winRights g w v =
    if !m.rangeOk (m.fwWindow g w).1 (m.fwWindow g w).2 ||
      (decide ((m.fwWindow g w).1 < gddrEnd) && decide (fwArea < (m.fwWindow g w).1 + (m.fwWindow g w).2)) then
      (m.setRights g w 0).wr Reg.qlkFwWinRights_rejected 1 [g, w]
    else (m.setRights g w v).wr Reg.qlkFwWinRights_rejected 0 [g, w] := by
  have hopen : ¬ m.rdB Reg.secStatus_secLock = true := by simp [rdB_eq_false h]
  exact if_neg hopen

theorem Module.winRights_bad (h : m.rd Reg.secStatus_secLock = 0) (hbad : m.windowBad g w) :
    m.winRights g w v = (m.setRights g w 0).wr Reg.qlkFwWinRights_rejected 1 [g, w] := by
  rw [winRights_open h, if_pos (by simpa [windowBad] using hbad)]

theorem Module.winRights_good (h : m.rd Reg.secStatus_secLock = 0) (hgood : ¬ m.windowBad g w) :
    m.winRights g w v = (m.setRights g w v).wr Reg.qlkFwWinRights_rejected 0 [g, w] := by
  rw [winRights_open h, if_neg (by simpa [windowBad] using hgood)]

theorem Module.frame_winRights : Frame [.regs] m (m.winRights g w v) :=
  .ite (.refl _ m) <| .ite (frame_setRights.trans frame_reg) (frame_setRights.trans frame_reg)

end Rights

/-- Settles O34, by where the window lies. -/
theorem firewallWindowsStayWhereTheyMay : Obligations.FirewallWindowsStayWhereTheyMay := by
  intro s g w v hg hw hv base size bad
  have hwrite := exec_winRightsWrite g w v s
  have hok : (isGuest g && below w 16 && isWord v) = true := by simp [isGuest, below, hg, hw, hv]
  refine ⟨fun h => exec_of_act_same hwrite (Module.winRights_locked h),
    fun h => ⟨_, completesIn_of_act hwrite hok Module.frame_winRights, fun hbad => ?refused, fun hgood => ?taken⟩⟩
  case refused =>
    rw [Module.winRights_bad h hbad]
    obtain ⟨hr, hw, hx, hc⟩ := Module.rd_rejected (m := s.toModule.setRights g w 0) (g := g) (w := w) (x := 1)
    obtain ⟨hr', hw', hx', hc'⟩ := Module.rd_setRights (m := s.toModule) (g := g) (w := w) (v := 0)
    exact ⟨Module.rd_wr_fits (by decide), hr.trans hr', hw.trans hw', hx.trans hx', hc.trans hc'⟩
  case taken =>
    rw [Module.winRights_good h hgood]
    obtain ⟨hr, hw, hx, hc⟩ := Module.rd_rejected (m := s.toModule.setRights g w v) (g := g) (w := w) (x := 0)
    obtain ⟨hr', hw', hx', hc'⟩ := Module.rd_setRights (m := s.toModule) (g := g) (w := w) (v := v)
    exact ⟨Module.rd_wr_fits (by decide), hr.trans hr', hw.trans hw', hx.trans hx', hc.trans hc'⟩

/-! ### SEC_CTL and debug writes (R360, R466) -/

section Lock
variable {m : Module} {c v : Nat} {d : DbgAccess}

/-- The access that a die has received and not answered. -/
theorem Module.dbgAt_eq (hd : m.qlk.dbg = some d) (ha : d.answer = none) : m.dbgAt d.conn d.write = some d := by
  simp [dbgAt, hd, ha]

theorem Module.dbgSet_eq (hd : m.qlk.dbg = some d) {st x : Nat} :
    m.dbgSet st x = { m with qlk := { m.qlk with dbg := some { d with answer := some (st, x) } } } := by
  rw [dbgSet, hd, Option.map_some]

theorem Module.dbgWrite_locked (hl : m.rd Reg.secStatus_secLock ≠ 0) (hd : m.qlk.dbg = some d) (hc : d.conn = c) (hc' : c < 88)
    (hw : d.write = true) (ha : d.answer = none) :
    m.dbgWrite c = { m with qlk := { m.qlk with dbg := some { d with answer := some (1, 0) } } } := by
  have hat : m.dbgAt c true = some d := by rw [← hc, ← hw, dbgAt_eq hd ha]
  rw [dbgWrite, if_neg (by omega), hat]
  exact (if_pos (rdB_eq_true hl)).trans (dbgSet_eq hd)

end Lock

/-- Settles O45. That the refusal does not look at the address is log entry 50. -/
theorem secLockIsSetAndHolds : Obligations.SecLockIsSetAndHolds := by
  intro s v conn d hv hconn
  have hlock := exec_secLockSet v s
  refine ⟨fun h => completes_of_eq hlock (if_pos h) hv,
    fun h => exec_of_act_same hlock (if_neg (by simp [h])), fun hl hd hc hw ha => ?_⟩
  exact completes_of_eq (exec_dwr conn s) (Module.dbgWrite_locked hl hd hc hconn hw ha) (by simp [isConn, below]; omega)

end Sys2Proof.Machine
end

section
/-! PROOFS. Calibration and the operating-seconds counter (R431, R444 to R453): runs, reverts, set points and tap bands. -/

namespace Sys2Proof.Machine

/-! ### Runs and reverts (R448, R450) -/

section Runs
variable {m : Module} {mask : Nat}

theorem Module.calRun_busy (h : m.rd Reg.calStatus_state ≠ 0) : m.calRun mask = m.wr Reg.calCtl_quantMask mask := if_pos h

theorem Module.calRun_idle (h : m.rd Reg.calStatus_state = 0) : m.calRun mask =
    ((m.wr Reg.calCtl_quantMask mask).wr Reg.calStatus_state 1).wr Reg.calStatus_staleAny (ofB (decide (mask % 32 ≠ 0))) :=
  if_neg (not_not_intro h)

theorem Module.frame_calRun : Frame [.regs] m (m.calRun mask) :=
  .ite frame_reg (frame_reg.trans <| frame_reg.trans frame_reg)

theorem Module.calRevert_none (h : m.cal.prev = none) : m.calRevert mask = m.wr Reg.calCtl_quantMask mask := by
  unfold calRevert
  extract_lets m₀
  have hprev : m₀.cal.prev = none := h
  rw [hprev]

end Runs

/-- Settles O42, by what RUN and REVERT make of the block's state. -/
theorem calibrationRunsOneAtATime : Obligations.CalibrationRunsOneAtATime := by
  intro s mask hmask
  have hrun := exec_calRun mask s
  have hok : below mask 32 = true := decide_eq_true hmask
  refine ⟨fun h => completes_of_eq hrun (Module.calRun_busy h) hok,
    fun h => ⟨_, completesIn_of_act hrun hok Module.frame_calRun, ?state, ?mask⟩,
    fun h => completes_of_eq (exec_calRevert mask s) (Module.calRevert_none h) hok⟩
  case state =>
    rw [Module.calRun_idle h, Module.rd_wr_place (by decide), Module.rd_wr_fits (by decide)]
  case mask =>
    rw [Module.calRun_idle h, Module.rd_wr_place (by decide), Module.rd_wr_place (by decide), Module.rd_wr_fits hmask]

/-- Settles O43, each clause by its command's condition. -/
theorem operatingSecondsAndBudgetsAreKept : Obligations.OperatingSecondsAndBudgetsAreKept := by
  intro s conn mw mj hconn
  have hok : below conn 88 = true := decide_eq_true hconn
  have htick := exec_opsecTick s
  exact ⟨fun h => completes_of_eq htick (if_pos h) rfl, fun h => exec_of_act_same htick (if_neg h),
    completes_of_eq (exec_budgetRequest conn mw s) (if_pos hconn) hok,
    completes_of_eq (exec_budgetReturn conn mj mw s) (if_pos hconn) hok⟩

/-! ### Set points (R445) -/

section SetPoint
variable {m : Module} {q item : Nat}

/-- The temperature, in 1/64 degree, at which a calibrated item stands. -/
abbrev Module.itemTemp (m : Module) (q item : Nat) : Int := SMap.get 0 m.cal.temps (calChannel q item)

/-- The interpolation of the values of points `i` and `i + 1` at a temperature clamped to the points' range. -/
theorem Module.setPoint_eq {t : Int} {i : Nat} (ht : max 1600 (min 6080 (m.itemTemp q item)) = t) (hi : min 6 ((t - 1600) / 640).toNat = i) :
    m.setPoint q item = calVal m.cal.used q item i * (640 - (t - 1600 - 640 * (i : Int))) +
      calVal m.cal.used q item (i + 1) * (t - 1600 - 640 * (i : Int)) := by
  subst ht
  subst hi
  rfl

theorem Module.setPoint_cold (h : m.itemTemp q item ≤ 64 * 25) : m.setPoint q item = 640 * calVal m.cal.used q item 0 := by
  rw [setPoint_eq (t := 1600) (i := 0) (by omega) (by decide)]
  ring

theorem Module.setPoint_hot (h : 64 * 95 ≤ m.itemTemp q item) : m.setPoint q item = 640 * calVal m.cal.used q item 7 := by
  rw [setPoint_eq (t := 6080) (i := 6) (by omega) (by decide)]
  ring

/-- Between two points the value is interpolated; at the upper one it is that point's, whichever of the two segments is taken. -/
theorem Module.setPoint_between {i : Nat} (hi : i < 7) (hlo : 64 * (25 + 10 * (i : Int)) ≤ m.itemTemp q item)
    (hhi : m.itemTemp q item ≤ 64 * (35 + 10 * (i : Int))) :
    m.setPoint q item = calVal m.cal.used q item i * (64 * (35 + 10 * (i : Int)) - m.itemTemp q item) +
      calVal m.cal.used q item (i + 1) * (m.itemTemp q item - 64 * (25 + 10 * (i : Int))) := by
  generalize ht : m.itemTemp q item = t at hlo hhi
  have hclamp : max 1600 (min 6080 (m.itemTemp q item)) = t := by omega
  by_cases hlast : t < 64 * (35 + 10 * (i : Int)) ∨ i = 6
  case pos =>
    rw [setPoint_eq hclamp (i := i) (by omega)]
    ring
  case neg =>
    have hend : t = 64 * (35 + 10 * (i : Int)) := by omega
    rw [setPoint_eq hclamp (i := i + 1) (by omega), hend]
    push_cast
    ring

end SetPoint

/-! ### Tap bands (R436, R444) -/

section Bands
variable {lo hi : Int}

/-- T_lo lies below the boundary above a band. -/
def BelowUpper (lo : Int) (b : Nat) : Prop := b < 7 → lo < 64 * (30 + 10 * (b : Int))

/-- T_hi is no more than 2 degrees below the boundary under a band. -/
def AboveLower (hi : Int) (b : Nat) : Prop := 0 < b → 64 * (28 + 10 * ((b : Int) - 1)) ≤ hi

/-- A band that T_hi does not pull down rises until T_lo lies below the boundary above it. -/
theorem tapBand_rises (h : lo ≤ hi) (n : Nat) : ∀ b, b < 8 → 7 ≤ b + n → AboveLower hi b →
    tapBand lo hi n b < 8 ∧ BelowUpper lo (tapBand lo hi n b) ∧ AboveLower hi (tapBand lo hi n b) := by
  induction n with
  | zero => exact fun b hb hn hlow => ⟨hb, fun (hb' : b < 7) => absurd hb' (by omega), hlow⟩
  | succ n ih =>
    intro b hb hn hlow
    rw [tapBand]
    by_cases hup : b < 7 ∧ 64 * (30 + 10 * (b : Int)) ≤ lo
    · rw [if_pos hup]
      exact ih (b + 1) (by omega) (by omega) (fun _ => by push_cast; omega)
    · have hstay : ¬ (0 < b ∧ hi < 64 * (28 + 10 * ((b : Int) - 1))) := fun hdown => absurd (hlow hdown.1) (by omega)
      rw [if_neg hup, if_neg hstay]
      exact ⟨hb, fun hb' => by omega, hlow⟩

/-- A band that T_lo does not push up falls until T_hi is no more than 2 degrees below the boundary under it. -/
theorem tapBand_falls (h : lo ≤ hi) (n : Nat) : ∀ b, b < 8 → b ≤ n → BelowUpper lo b →
    tapBand lo hi n b < 8 ∧ BelowUpper lo (tapBand lo hi n b) ∧ AboveLower hi (tapBand lo hi n b) := by
  induction n with
  | zero => exact fun b hb hn hupp => ⟨hb, hupp, fun (hb' : 0 < b) => absurd hb' (by omega)⟩
  | succ n ih =>
    intro b hb hn hupp
    have hstay : ¬ (b < 7 ∧ 64 * (30 + 10 * (b : Int)) ≤ lo) := fun hup => absurd (hupp hup.1) (by omega)
    rw [tapBand, if_neg hstay]
    by_cases hdown : 0 < b ∧ hi < 64 * (28 + 10 * ((b : Int) - 1))
    · rw [if_pos hdown]
      exact ih (b - 1) (by omega) (by omega) (fun _ => by omega)
    · rw [if_neg hdown]
      exact ⟨hb, hupp, fun hb' => by omega⟩

/-- Seven moves settle a band: from any band either T_hi does not pull it down or T_lo does not push it up. -/
theorem tapBand_settles (h : lo ≤ hi) {b : Nat} (hb : b < 8) :
    tapBand lo hi 7 b < 8 ∧ BelowUpper lo (tapBand lo hi 7 b) ∧ AboveLower hi (tapBand lo hi 7 b) := by
  by_cases hlow : 0 < b ∧ hi < 64 * (28 + 10 * ((b : Int) - 1))
  · exact tapBand_falls h 7 b hb (by omega) (fun _ => by omega)
  · exact tapBand_rises h 7 b hb (by omega) (fun hb' => by omega)

end Bands

/-- Settles O41, the set points by the segment the temperature lies in and the bands by the direction they move in. -/
theorem calibratedValuesFollowTheTemperature : Obligations.CalibratedValuesFollowTheTemperature := by
  intro m q item lo hi b T
  exact ⟨Module.setPoint_cold, Module.setPoint_hot, fun i hi hl hh => Module.setPoint_between hi hl hh, fun h hb => tapBand_settles h hb⟩

end Sys2Proof.Machine
end

section
/-! PROOFS. Snapshot triggers (R424, R425) and the check-value engines (R304, R350, R469, R470). -/

namespace Sys2Proof.Machine

/-! ### Snapshots -/

section Snapshots
variable {m : Module} {v : Nat} {src seq : Nat}

theorem Module.frame_snapFields : Frame [.regs] m (m.snapFields v) := frame_reg.trans <| frame_reg.trans frame_reg

/-- SNAP_CTL's fields lie outside SNAP_STATUS. -/
theorem Module.rd_snapFields {g : Fld} (h : g ∈ [Reg.snapStatus_held, Reg.snapStatus_missed]) : (m.snapFields v).rd g = m.rd g := by
  have hplace : ∀ g ∈ [Reg.snapStatus_held, Reg.snapStatus_missed], ∀ f ∈ [Reg.snapCtl_minSev, Reg.snapCtl_outEn, Reg.snapCtl_pinEn],
      g.key [] ≠ f.key [] := by decide
  unfold snapFields
  rw [rd_wr_other (hplace g h _ (by decide)), rd_wr_other (hplace g h _ (by decide)), rd_wr_other (hplace g h _ (by decide))]

theorem Module.snapTrigger_free (h : m.rd Reg.snapStatus_held = 0) (ht : m.saf.snapTrig = none) :
    m.snapTrigger src seq = ({ m with saf := { m.saf with snapTrig := some (src, seq) } } : Module).emit .snapTrigger := by
  have hfree : ¬ (m.rdB Reg.snapStatus_held || m.saf.snapTrig.isSome) = true := by simp [rdB_eq_false h, ht]
  exact if_neg hfree

theorem Module.snapTrigger_busy (h : m.rd Reg.snapStatus_held ≠ 0 ∨ m.saf.snapTrig ≠ none) :
    m.snapTrigger src seq = m.count Reg.snapStatus_missed := by
  have hbusy : (m.rdB Reg.snapStatus_held || m.saf.snapTrig.isSome) = true := by
    simpa [rdB, Option.isSome_iff_ne_none] using h
  exact if_pos hbusy

theorem Module.snapReg_trigger (hv : bitB v 31 = true) : m.snapReg v = (m.snapFields v).snapTrigger 2 0 := if_pos hv

theorem Module.snapRearm_rearm (hv : bitB v 30 = true) : m.snapRearm v = (m.snapFields v).clr Reg.snapStatus_held := if_pos hv

end Snapshots

/-- Settles O40. That a trigger is also counted while a snapshot is being taken, with HELD still 0, is the model's choice. -/
theorem snapshotTriggersAreHeldBack : Obligations.SnapshotTriggersAreHeldBack := by
  intro s v hv htrig _
  have hsend := exec_snapTrigger v s
  have hheld : (s.toModule.snapFields v).rd Reg.snapStatus_held = s.rd Reg.snapStatus_held := Module.rd_snapFields (by decide)
  have hmissed : (s.toModule.snapFields v).rd Reg.snapStatus_missed = s.rd Reg.snapStatus_missed := Module.rd_snapFields (by decide)
  refine ⟨fun h ht => ?sent, fun h => ?held, fun u hu hre => ?rearmed⟩
  case sent =>
    have heq := (Module.snapReg_trigger htrig).trans (Module.snapTrigger_free (src := 2) (seq := 0) (hheld.trans h) ht)
    exact ⟨_, completesIn_of_frame hsend heq hv
      (.mono (by decide) <| Module.frame_snapFields.step <| Module.frame_saf.step Module.frame_emit), rfl, rfl⟩
  case held =>
    have heq := (Module.snapReg_trigger htrig).trans (Module.snapTrigger_busy (src := 2) (seq := 0) (h.imp_left fun hne => by rwa [hheld]))
    exact ⟨_, completesIn_of_frame hsend heq hv (Module.frame_snapFields.trans Module.frame_reg), by rw [Module.rd_count_same, hmissed]⟩
  case rearmed =>
    exact ⟨_, completesIn_of_frame (exec_snapRearm u s) (Module.snapRearm_rearm hre) hu (Module.frame_snapFields.trans Module.frame_reg),
      Module.rd_clr_same _ _ _⟩

/-! ### Check values -/

/-- Settles O31, by evaluating the two check values over their nine bytes (R304, R350, R470). -/
theorem checkValueExamples : Obligations.CheckValueExamples := by
  unfold Obligations.CheckValueExamples
  decide +kernel

section Runs
variable {m : Module} {e v : Nat} {r : CrcRun} {host : Option (List Nat)}

/-- CRC_CTL's fields as a write of it sets them. -/
def Module.crcFields (m : Module) (e v : Nat) : Module :=
  (((m.wr Reg.crcCtl_srcHost (bit v 30) [e]).wr Reg.crcCtl_refin (bit v 29) [e]).wr Reg.crcCtl_refout (bit v 28) [e]).wr Reg.crcCtl_width v [e]

theorem Module.frame_crcFields : Frame [.regs] m (m.crcFields e v) := frame_reg.trans <| frame_reg.trans <| frame_reg.trans frame_reg

/-- A register of an engine that lies outside its CRC_CTL. -/
abbrev isCrcParam (g : Fld) : Prop := g.strides = [(0x100, 4)] ∧ 0xf90004 ≤ g.base

/-- The parameters of an engine stand while its CRC_CTL is written. -/
theorem Module.rd_crcFields {g : Fld} (h : isCrcParam g) : (m.crcFields e v).rd g [e] = m.rd g [e] := by
  obtain ⟨hs, hb⟩ := h
  have hplace : ∀ f ∈ [Reg.crcCtl_srcHost, Reg.crcCtl_refin, Reg.crcCtl_refout, Reg.crcCtl_width],
      f.strides = [(0x100, 4)] ∧ f.base * 32 + f.lo < 0xf90004 * 32 := by decide
  have hother : ∀ f ∈ [Reg.crcCtl_srcHost, Reg.crcCtl_refin, Reg.crcCtl_refout, Reg.crcCtl_width], g.key [e] ≠ f.key [e] := fun f hf =>
    Fld.key_ne ⟨hs.trans (hplace f hf).1.symm, by have := (hplace f hf).2; omega⟩
  unfold crcFields
  rw [rd_wr_other (hother _ (by decide)), rd_wr_other (hother _ (by decide)), rd_wr_other (hother _ (by decide)),
    rd_wr_other (hother _ (by decide))]

/-- The run that a write of CRC_CTL with GO asks for: its word's bits, and the parameters as they stand (log entry 24). -/
def Module.crcAsked (m : Module) (e v : Nat) : CrcRun :=
  let two := fun (lo hi : Fld) => m.rd lo [e] + 2 ^ 32 * m.rd hi [e]
  let src := two Reg.crcSrcLo_value Reg.crcSrcHi_value
  let len := two Reg.crcLenLo_value Reg.crcLenHi_value
  { host := bitB v 30, refin := bitB v 29, refout := bitB v 28, width := v % 128, poly := two Reg.crcPolyLo_value Reg.crcPolyHi_value
    init := two Reg.crcInitLo_value Reg.crcInitHi_value, xorout := two Reg.crcXoroutLo_value Reg.crcXoroutHi_value
    src := if bitB v 30 then src else src % 2 ^ 48, len := len, peek := if bitB v 30 then [] else m.dev.bytes (src % 2 ^ 48) len }

theorem Module.crcGo_busy (hv : bitB v 31 = true) (h : m.rd Reg.crcStatus_busy [e] ≠ 0) :
    m.crcGo e v = m.wr Reg.crcStatus_ignored 1 [e] := by
  have hbusy : (bitB v 31 && m.rdB Reg.crcStatus_busy [e]) = true := by simp [hv, rdB_eq_true h]
  exact if_pos hbusy

theorem Module.crcGo_idle (hv : bitB v 31 = true) (h : m.rd Reg.crcStatus_busy [e] = 0) :
    m.crcGo e v = ({ m.crcFields e v with crc := SMap.ins e ((m.crcFields e v).crcAsked e v) m.crc } : Module).wr Reg.crcStatus_busy 1 [e] := by
  have hidle : ¬ (bitB v 31 && m.rdB Reg.crcStatus_busy [e]) = true := by simp [rdB_eq_false h]
  have hgo : ¬ (!bitB v 31) = true := by simp [hv]
  exact (if_neg hidle).trans (if_neg hgo)

/-- A run whose WIDTH is outside 1 to 64 ends with ERR PARAM, whatever its bytes are. -/
theorem Module.crcEnd_badWidth (hr : SMap.find? m.crc e = some r) (hw : r.width = 0 ∨ 64 < r.width) :
    m.crcEnd e host = (({ m with crc := SMap.del e m.crc } : Module).clr Reg.crcStatus_busy [e]).wr Reg.crcStatus_err 1 [e] := by
  have hbad : (!r.paramOk) = true := by
    have hwidth : ¬ (1 ≤ r.width ∧ r.width ≤ 64) := by omega
    simp [CrcRun.paramOk, hwidth]
  unfold crcEnd
  rw [hr]
  exact if_pos hbad

end Runs

/-- Settles O46. That the whole write is ignored while BUSY is log entry 135; the parameters are taken at GO by log entry 24. -/
theorem checkValueRunsStartOnce : Obligations.CheckValueRunsStartOnce := by
  intro s e v he hv hgo
  have hok : (below e 4 && isWord v) = true := by simp [below, he, hv]
  have hrun := exec_crcGo e v s
  refine ⟨fun h => completes_of_eq hrun (Module.crcGo_busy hgo h) hok, fun h => ?starts, fun r host hr hw => ?ends⟩
  case starts =>
    refine ⟨_, (s.toModule.crcFields e v).crcAsked e v, completesIn_of_frame hrun (Module.crcGo_idle hgo h) hok
      (.mono (by decide) <| Module.frame_crcFields.step <| Module.frame_crc.step Module.frame_reg), Module.rd_wr_fits (by decide),
      SMap.find?_ins_same _ _ _, rfl, rfl, rfl, rfl, ?_, ?_, ?_, ?_⟩
    all_goals exact congrArg₂ (fun lo hi => lo + 2 ^ 32 * hi) (Module.rd_crcFields (by decide)) (Module.rd_crcFields (by decide))
  case ends =>
    refine ⟨_, completesIn_of_frame (exec_crcRunEnd e host s) (Module.crcEnd_badWidth hr hw) (decide_eq_true he)
      (.mono (by decide) <| Module.frame_crc.step <| Module.frame_reg.step Module.frame_reg), ?_, Module.rd_wr_fits (by decide), ?_⟩
    · rw [Module.rd_wr_place (by decide), Module.rd_clr_same]
    · rw [Module.rd_wr_place (by decide)]
      exact Module.rd_wr_place (by decide)

end Sys2Proof.Machine
end

section
/-! PROOFS. The error log (R408, R414 to R416): where a minor record goes, how a repeat is counted, and what a FATAL record sets. -/

namespace Sys2Proof.Machine

section Records
variable {m : Module} {r x : LogRec} {k : Nat}

/-! ### Minor records -/

/-- The record that slot `k` of the log holds. -/
abbrev Module.slot (m : Module) (k : Nat) : LogRec := SMap.get LogRec.blank m.saf.log k

/-- The newest unread record of slot `k` is of this round and of the same fault as `r` (R416). -/
abbrev Module.repeats (m : Module) (r : LogRec) (k : Nat) : Prop :=
  (m.slot k).cls = r.cls ∧ (m.slot k).event = r.event ∧ (m.slot k).source = r.source ∧ (m.slot k).sub = r.sub ∧
    (m.slot k).round = m.hub.round % 2 ^ 48

/-- The record as the log keeps it when it triggers no snapshot. -/
def Module.stamped (m : Module) (r : LogRec) : LogRec :=
  { r with seq := m.saf.nextSeq, round := m.hub.round % 2 ^ 48, opsec := m.cal.opsec % 2 ^ 48, suppressed := 0, snapTaken := false }

/-- The log with the record of slot `k` counted once more. -/
def Module.suppressedAt (m : Module) (k : Nat) : Module :=
  let again : LogRec := { m.slot k with suppressed := min 255 ((m.slot k).suppressed + 1) }
  { m with saf := { m.saf with log := SMap.ins k again m.saf.log } }

/-- A repeat below FATAL that holds no pin only counts in its match. -/
theorem Module.logRec_repeat (hs : r.severity < sevFatal) (hp : r.pin = false) (hk : m.newestSlot = some k) (hr : m.repeats r k) :
    m.logRec r = m.suppressedAt k := by
  unfold logRec
  extract_lets wrSlot n rnd same log snaps taken r' trig m₁ m₂
  have hsame : same = some k := by
    unfold same
    rw [hk]
    exact Option.filter_some_pos (decide_eq_true hr)
  have h₁ : m₁ = m.suppressedAt k := by
    unfold m₁
    rw [hsame]
    rfl
  have h₂ : m₂ = m₁ := if_neg (by simp [hp])
  rw [if_neg (ne_of_lt hs), h₂, h₁]

section New
variable (hs : r.severity < 2) (hp : r.pin = false) (hsnap : m.recSnaps r = false) (hnew : ∀ k, m.newestSlot = some k → ¬ m.repeats r k)
include hs hp hsnap hnew

/-- A new minor record that finds room takes the slot SAF_LOG_WR names. -/
theorem Module.logRec_room (hn : m.rd Reg.safStatus_unread < 1024) :
    m.logRec r = (((m.storeRec (m.rd Reg.safLogWr_wr) (m.stamped r)).wr Reg.safLogWr_wr (m.rd Reg.safLogWr_wr + 1)).wr
      Reg.safStatus_unread (m.rd Reg.safStatus_unread + 1)).recSignal r.severity := by
  unfold logRec
  extract_lets wrSlot n rnd same log snaps taken r' trig m₁ m₂
  have hsame : same = none := Option.filter_eq_none_iff.mpr fun a ha hm => hnew a ha (of_decide_eq_true hm)
  have h₁ : m₁ = (((m.storeRec (m.rd Reg.safLogWr_wr) (m.stamped r)).wr Reg.safLogWr_wr (m.rd Reg.safLogWr_wr + 1)).wr
      Reg.safStatus_unread (m.rd Reg.safStatus_unread + 1)).recSignal r.severity := by
    have htrig (y : Module) : trig y = y.recSignal r.severity := if_neg (by simp [snaps, hsnap])
    have hr' : r' = m.stamped r := by
      have htaken : taken = false := by simp [taken, snaps, hsnap]
      unfold r'
      rw [htaken]
      rfl
    unfold m₁
    rw [hsame, ← hr', ← htrig]
    exact if_pos hn
  have h₂ : m₂ = m₁ := if_neg (by simp [hp])
  have hminor : r.severity ≠ sevFatal := by
    simp only [sevFatal]
    omega
  rw [if_neg hminor, h₂, h₁]

omit hsnap in
/-- A new minor record is lost in a full log. -/
theorem Module.logRec_full (hn : m.rd Reg.safStatus_unread = 1024) : m.logRec r = m.count Reg.safLogLost_lost := by
  unfold logRec
  extract_lets wrSlot n rnd same log snaps taken r' trig m₁ m₂
  have hsame : same = none := Option.filter_eq_none_iff.mpr fun a ha hm => hnew a ha (of_decide_eq_true hm)
  have hfull : ¬ n < 1024 := not_lt.mpr hn.ge
  have h₁ : m₁ = m.count Reg.safLogLost_lost := by
    unfold m₁
    rw [hsame]
    exact (if_neg hfull).trans (if_pos hs)
  have h₂ : m₂ = m₁ := if_neg (by simp [hp])
  have hminor : r.severity ≠ sevFatal := by
    simp only [sevFatal]
    omega
  rw [if_neg hminor, h₂, h₁]

end New

/-- The signal of a minor record waits for the round's end: it leaves the log and the registers as they are. -/
theorem Module.recSignal_minor (h : r.severity < 2) : ∃ b, m.recSignal r.severity = { m with saf := { m.saf with intPending := b } } := by
  have hminor : ¬ r.severity ≥ sevDegraded := by
    simp only [sevDegraded]
    omega
  unfold recSignal
  rw [if_neg hminor]
  split
  · exact ⟨m.saf.intPending, rfl⟩
  · split
    · exact ⟨true, rfl⟩
    · exact ⟨m.saf.intPending, rfl⟩

theorem Module.frame_storeMinor {slot wr unread : Nat} (h : r.severity < 2) :
    Frame [.regs, .saf] m ((((m.storeRec slot x).wr Reg.safLogWr_wr wr).wr Reg.safStatus_unread unread).recSignal r.severity) := by
  obtain ⟨b, hb⟩ := recSignal_minor (m := ((m.storeRec slot x).wr Reg.safLogWr_wr wr).wr Reg.safStatus_unread unread) h
  rw [hb]
  exact .mono (by decide) <| frame_saf.step <| frame_reg.step <| frame_reg.step frame_saf

end Records

/-- Settles O38. What a suppressed record leaves out is log entries 22 and 134. -/
theorem recordsAreKeptInOrder : Obligations.RecordsAreKeptInOrder := by
  intro m r hle hs hp hsnap hnew
  have hnew' : ∀ k, m.newestSlot = some k → ¬ m.repeats r k := fun k hk hr => by
    obtain ⟨hcls, hevent, hsource, hsub, hround⟩ := hr
    rcases hnew k hk with h | h | h | h | h
    · exact h hcls
    · exact h hevent
    · exact h hsource
    · exact h hsub
    · exact h hround
  refine ⟨fun hn => ?room, fun hn => ?full, ?frame, fun x k hsx hpx hk hr => Module.logRec_repeat hsx hpx hk hr⟩
  case room =>
    obtain ⟨b, hb⟩ := Module.recSignal_minor (m := ((m.storeRec (m.rd Reg.safLogWr_wr) (m.stamped r)).wr Reg.safLogWr_wr
      (m.rd Reg.safLogWr_wr + 1)).wr Reg.safStatus_unread (m.rd Reg.safStatus_unread + 1)) hs
    rw [Module.logRec_room hs hp hsnap hnew' hn, hb]
    refine ⟨SMap.find?_ins_same _ _ _, ?unread, ?slot, rfl⟩
    case unread => exact Module.rd_wr_fits (m := (m.storeRec _ _).wr Reg.safLogWr_wr _) (lt_of_le_of_lt hn (by decide))
    case slot =>
      exact (Module.rd_wr_other (m := (m.storeRec _ _).wr Reg.safLogWr_wr _) (by decide) _).trans (Module.rd_wr_same (m.storeRec _ _) _ _ _)
  case full =>
    rw [Module.logRec_full hs hp hnew' hn]
    exact ⟨rfl, Module.rd_count_same m _ 1 []⟩
  case frame =>
    rcases lt_or_eq_of_le hle with hn | hn
    · rw [Module.logRec_room hs hp hsnap hnew' hn]
      exact Module.frame_storeMinor hs
    · rw [Module.logRec_full hs hp hnew' hn]
      exact .mono (by decide) Module.frame_reg

/-! ### FATAL records -/

section Fatal
variable {a b m : Module} {r : LogRec} {v seq : Nat}

/-- A step leaves the state of FAULT_N as it is. -/
def PinKept (a b : Module) : Prop := b.rd Reg.safStatus_faultPin = a.rd Reg.safStatus_faultPin

theorem PinKept.refl (m : Module) : PinKept m m := rfl

theorem PinKept.trans {c : Module} (h : PinKept a b) (h' : PinKept b c) : PinKept a c := Eq.trans h' h

theorem PinKept.ite {p : Prop} [Decidable p] (ha : PinKept m a) (hb : PinKept m b) : PinKept m (if p then a else b) := by
  split
  · exact ha
  · exact hb

theorem PinKept.wr {f : Fld} {idx : List Nat} (h : Reg.safStatus_faultPin.key [] ≠ f.key idx) : PinKept m (m.wr f v idx) :=
  Module.rd_wr_other h m v

theorem PinKept.of_regs (h : b.regs = a.regs) : PinKept a b := by
  rw [PinKept, Module.rd, Module.rd, h]

theorem Module.pinKept_recSignal : PinKept m (m.recSignal v) :=
  .ite (.refl m) <| .ite (.ite (.refl m) <| .ite (.wr (by decide)) (.of_regs rfl)) <| .ite (.of_regs rfl) (.refl m)

theorem Module.pinKept_signal {snaps : Prop} [Decidable snaps] :
    PinKept m (if snaps then (m.recSignal v).snapTrigger 3 seq else m.recSignal v) := by
  have htrigger {m : Module} : PinKept m (m.snapTrigger 3 seq) := .ite (.wr (by decide)) (.of_regs rfl)
  exact .ite (pinKept_recSignal.trans htrigger) pinKept_recSignal

/-- A record is stored, suppressed or lost with FAULT_N as it is; then come the pin and the fail-fast that it asks for. -/
theorem Module.logRec_pinned : ∃ m₁, PinKept m m₁ ∧ m.logRec r =
    if r.severity = sevFatal then (if r.pin then m₁.faultPin else m₁).failFast else if r.pin then m₁.faultPin else m₁ := by
  refine ⟨_, ?_, rfl⟩
  have hstore {slot : Nat} {x : LogRec} : PinKept m (m.storeRec slot x) := .of_regs rfl
  split
  case h_1 => exact .of_regs rfl
  case h_2 =>
    refine .ite ?stored (.ite (.wr (by decide)) ?full)
    case stored => exact hstore.trans <| PinKept.trans (.wr (by decide)) <| PinKept.trans (.wr (by decide)) pinKept_signal
    case full =>
      split
      · exact hstore.trans pinKept_signal
      · exact .wr (by decide)

/-- FAULT_N is low after it was driven low. -/
theorem Module.rd_faultPin : m.faultPin.rd Reg.safStatus_faultPin ≠ 0 := by
  unfold faultPin
  split
  case isTrue h => exact of_decide_eq_true h
  case isFalse => exact ne_of_eq_of_ne (rd_wr_fits (m := m) (by decide)) (by decide)

/-- A field other than the pin's own reads as before. -/
theorem Module.rd_faultPin_other {g : Fld} (h : g.key [] ≠ Reg.safStatus_faultPin.key []) : m.faultPin.rd g = m.rd g := by
  unfold faultPin
  split
  · rfl
  · exact rd_wr_other h m 1

theorem Module.mem_out_faultPin (h : m.rd Reg.safStatus_faultPin = 0) : Output.pin 0 false ∈ m.faultPin.out := by
  have hhigh : ¬ m.rdB Reg.safStatus_faultPin = true := by simp [rdB_eq_false h]
  rw [faultPin, if_neg hhigh]
  exact List.mem_cons_self

theorem Module.out_faultPin_of_mem {o : Output} (h : o ∈ m.out) : o ∈ m.faultPin.out := by
  unfold faultPin
  split
  · exact h
  · exact List.mem_cons_of_mem _ h

theorem Module.rd_failFast : m.failFast.rd Reg.safStatus_fatalLatched = 1 ∧ m.failFast.rd Reg.safStatus_gateClosed = 1 ∧
    m.failFast.rd Reg.safStatus_faultPin ≠ 0 := by
  unfold failFast
  refine ⟨?_, ?_, rd_faultPin⟩
  · rw [rd_faultPin_other (by decide), rd_set1_other (by decide)]
    exact rd_wr_fits (by decide)
  · rw [rd_faultPin_other (by decide)]
    exact rd_wr_fits (by decide)

/-- The two latches of fail-fast are set with FAULT_N as it is. -/
theorem Module.pinKept_latches : PinKept m ((m.set1 Reg.safStatus_fatalLatched).set1 Reg.safStatus_gateClosed) :=
  (PinKept.wr (by decide)).trans (.wr (by decide))

theorem Module.mem_out_failFast (h : m.rd Reg.safStatus_faultPin = 0) : Output.pin 0 false ∈ m.failFast.out :=
  mem_out_faultPin (Eq.trans pinKept_latches h)

theorem Module.out_failFast_of_mem {o : Output} (h : o ∈ m.out) : o ∈ m.failFast.out := out_faultPin_of_mem h

end Fatal

/-- Settles O39, by the fail-fast that follows the record, stored or not. -/
theorem fatalRecordsFailFast : Obligations.FatalRecordsFailFast := by
  intro m r hfatal
  obtain ⟨m₁, hkept, heq⟩ := Module.logRec_pinned (m := m) (r := r)
  rw [if_pos hfatal] at heq
  rw [heq]
  obtain ⟨hlatched, hgate, hpin⟩ := Module.rd_failFast (m := if r.pin then m₁.faultPin else m₁)
  refine ⟨hlatched, hgate, hpin, fun hhigh => ?_⟩
  have hhigh₁ : m₁.rd Reg.safStatus_faultPin = 0 := Eq.trans hkept hhigh
  split
  · exact Module.out_failFast_of_mem (Module.mem_out_faultPin hhigh₁)
  · exact Module.mem_out_failFast hhigh₁

end Sys2Proof.Machine
end

section
/-! PROOFS. Messages of a guest that the firewall refuses (R364, R366), and the frames of violations and responses. -/

namespace Sys2Proof.Machine

section Refused
variable {m : Module} {g status cause cls op addr : Nat} {x : QMsg} {t : List QMsg} {payload : List (Nat × Nat)} {k : Module → QMsg → Module}

theorem Module.frame_respond : Frame [.qlk] m (m.respond g x status payload) := by
  unfold Module.respond
  split
  · exact frame_due
  · exact .refl _ m

theorem Module.frame_violation : Frame [.out, .regs, .saf, .qlk] m (m.violation g cause cls op addr) := by
  unfold Module.violation
  extract_lets m₁ m₂ m₃ f
  have h₃ : Frame [.regs, .qlk] m₁ m₃ := .mono (by decide) <| frame_modGuest.step <| frame_reg.step <| frame_reg.step <|
    frame_reg.step <| frame_reg.step frame_reg
  have hfence : Frame [.regs] m₃ (if f then m₃.set1 Reg.qlkFwCtl_fenced [g] else m₃) := .ite frame_reg (.refl _ m₃)
  exact .ite (.mono (by decide) frame_reg) <| .mono (by decide) <| frame_reg.step <| h₃.step <| hfence.step frame_guestRec

theorem Module.frame_fwRefuse : Frame [.out, .regs, .saf, .qlk] m (m.fwRefuse g cause x) :=
  .mono (by decide) <| frame_violation.step frame_respond

/-- A message that the firewall refuses is taken from the head, and nothing else is made of it. -/
theorem Module.guestMsg_refused (hin : (m.guest g).inbox = x :: t) (hcls : x.cls = cls) (hop : x.op = op)
    (href : (m.headTaken g t).fwCheck g x ≠ 0) :
    m.guestMsg g cls op k = (m.headTaken g t).fwRefuse g ((m.headTaken g t).fwCheck g x) x := by
  simp only [guestMsg, hin, hcls, hop, ne_eq, not_true_eq_false, or_self, if_false]
  exact if_pos href

/-- A refused message is gone from what the guest has sent. -/
theorem Module.inbox_fwRefuse : (((m.headTaken g t).fwRefuse g cause x).guest g).inbox = t := by
  have hkept : StoresIn g 0 0 (m.headTaken g t) ((m.headTaken g t).fwRefuse g cause x) := storesIn_fwRefuse
  rw [hkept.inbox, headTaken, guest_modGuest_same]

/-- A command that takes a message of one class and OP: refused, it completes with the message gone. -/
theorem completesIn_of_refused {c : Instr} {s : State} {f : Module → Module} (he : exec c s = s.act (isGuest g) f)
    (hf : f s.toModule = s.toModule.guestMsg g cls op k) (hg : g < 2)
    (hin : (s.toModule.guest g).inbox = x :: t) (href : (s.toModule.headTaken g t).fwCheck g x ≠ 0) (hcls : x.cls = cls) (hop : x.op = op) :
    ∃ b, CompletesIn [.out, .regs, .saf, .qlk] c s b ∧ (b.guest g).inbox = t := by
  have hframe : Frame [.out, .regs, .saf, .qlk] s.toModule ((s.toModule.headTaken g t).fwRefuse g ((s.toModule.headTaken g t).fwCheck g x) x) :=
    .mono (by decide) <| Module.frame_modGuest.step Module.frame_fwRefuse
  exact ⟨_, completesIn_of_frame he (hf.trans (Module.guestMsg_refused hin hcls hop href)) (decide_eq_true hg) hframe, Module.inbox_fwRefuse⟩

/-- An atomic takes its message as the other commands do. -/
theorem Module.guestAtomic_takes (m : Module) (g op : Nat) (f : Nat → Nat → Nat → Nat) : ∃ k, m.guestAtomic g op f = m.guestMsg g 0 op k := ⟨_, rfl⟩

end Refused

/-- Settles O35, each command by the message it takes. -/
theorem refusedGuestWritesLeaveMemory : Obligations.RefusedGuestWritesLeaveMemory := by
  intro s g x t hg hin href c hc hcls hop
  simp only [List.mem_cons, List.not_mem_nil, or_false] at hc
  rcases hc with rfl | rfl | rfl | rfl | rfl | rfl | rfl
  · exact completesIn_of_refused (exec_rd g s) rfl hg hin href hcls hop
  · exact completesIn_of_refused (exec_wr g s) rfl hg hin href hcls hop
  · exact completesIn_of_refused (exec_wrMasked g s) rfl hg hin href hcls hop
  · exact completesIn_of_refused (exec_atAdd g s) (s.toModule.guestAtomic_takes g _ _).choose_spec hg hin href hcls hop
  · exact completesIn_of_refused (exec_atSwap g s) (s.toModule.guestAtomic_takes g _ _).choose_spec hg hin href hcls hop
  · exact completesIn_of_refused (exec_atCas g s) (s.toModule.guestAtomic_takes g _ _).choose_spec hg hin href hcls hop
  · exact completesIn_of_refused (exec_guestCopy g s) rfl hg hin href hcls hop

end Sys2Proof.Machine
end

section
/-! PROOFS. HUB_RESET_CTL (R458): what a reset of the module sets back and what it keeps. -/

namespace Sys2Proof.Machine

/-! ### Memory kept above an address -/

section Above
variable {α : Type} {a q : Nat}

theorem find?_fromAddr_below (h : q < a) (l : SMap α) : SMap.find? (fromAddr a l) q = none := by
  induction l with
  | nil => rfl
  | cons p l ih =>
    obtain ⟨k, v⟩ := p
    by_cases hk : a ≤ k
    · have hne : k ≠ q := by omega
      simpa [fromAddr, hk, SMap.find?, hne] using ih
    · simpa [fromAddr, hk] using ih

theorem find?_fromAddr_above (h : a ≤ q) (l : SMap α) : SMap.find? (fromAddr a l) q = SMap.find? l q := by
  induction l with
  | nil => rfl
  | cons p l ih =>
    obtain ⟨k, v⟩ := p
    by_cases hk : a ≤ k
    · simpa [fromAddr, hk, SMap.find?] using if_congr Iff.rfl rfl ih
    · have hne : k ≠ q := by omega
      simpa [fromAddr, hk, SMap.find?, hne] using ih

end Above

section Reset
variable {m : Module} {v cause : Nat}

/-- A structure store cut short by a reset leaves everything but flash (R458). -/
theorem Module.frame_tearSlot : Frame [.flash] m m.tearSlot := .ite frame_flash (.refl _ m)

/-- The module as a reset finds it: a store under way is torn and FAULT_N released (R408, R458). -/
def Module.torn (m : Module) : Module := if m.rdB Reg.safStatus_faultPin then m.tearSlot.emit (.pin 0 true) else m.tearSlot

theorem Module.frame_torn : Frame [.out, .flash] m m.torn :=
  .ite (.mono (by decide) <| frame_tearSlot.step frame_emit) (.mono (by decide) frame_tearSlot)

/-- The register fields that show flash and fuses are none of those the reset is judged by. -/
theorem storedFields_other {g : Fld} (h : g.key [] ∉ storedFields.map (fun f => f.key [])) (b r : Module) :
    (storedFields.foldl (fun (x : Module) f => x.wr f (b.rd f)) r).rd g = r.rd g := by
  refine List.foldlRecOn (motive := fun (x : Module) => x.rd g = r.rd g) storedFields _ rfl fun x hx f hf => ?_
  have hother : g.key [] ≠ f.key [] := fun he => h (he ▸ List.mem_map_of_mem hf)
  exact (Module.rd_wr_other hother x _).trans hx

/-- Fields that show flash and fuses change the register file alone. -/
theorem Module.frame_storedFields (b r : Module) : Frame [.regs] r (storedFields.foldl (fun (x : Module) f => x.wr f (b.rd f)) r) :=
  .foldl fun _ _ => frame_reg

/-- What a reset of the Cirque leaves: everything as at reset but the outputs, the bytes of the CXL windows, the operating seconds,
what shows flash and fuses, and its cause. -/
theorem Module.reinitialise_eq : ∃ r : Module, m.reinitialise cause = (storedFields.foldl (fun (x : Module) f => x.wr f (m.torn.rd f)) r).wr
      Reg.hubBootStatus_lastReset cause ∧ r.regs = [] ∧ r.sram = Module.reset.sram ∧ r.ctx = Module.reset.ctx ∧ r.host = Module.reset.host ∧
    r.adm = Module.reset.adm ∧ r.pair = Module.reset.pair ∧ r.saf.log = [] ∧ r.hub.round = 0 ∧ r.hub.counting = false ∧
    r.cal.opsec = m.torn.cal.opsec ∧
    r.dev = { cells := fromAddr (cxlBase 0) m.torn.dev.cells, synd := fromAddr (cxlBase 0 / 16) m.torn.dev.synd } :=
  ⟨_, rfl, rfl, rfl, rfl, rfl, rfl, rfl, rfl, rfl, rfl, rfl, rfl⟩

theorem Module.hubReset_keyed (h : bitB v 31 = true) (hk : v % 65536 = 0x0972) : m.hubReset v = m.reinitialise 2 := if_pos ⟨h, hk⟩

theorem Module.hubReset_unkeyed (h : bitB v 31 = false ∨ v % 65536 ≠ 0x0972) : m.hubReset v = m := by
  refine if_neg fun ⟨hbit, hkey⟩ => ?_
  rcases h with h | h
  · simp [h] at hbit
  · exact h hkey

end Reset

/-- Settles O44. That SRAM and GDDR7 read 0 at once and what else survives are log entries 8, 43 and 44. -/
theorem moduleResetKeepsWhatItShould : Obligations.ModuleResetKeepsWhatItShould := by
  intro s v hv
  have hreset := exec_hubResetModule v s
  refine ⟨fun h => exec_of_act_same hreset (Module.hubReset_unkeyed h), fun h hk => ?_⟩
  obtain ⟨r, heq, hregs, hsram, hctx, hhost, hadm, hpair, hlog, hround, hcount, hopsec, hdev⟩ := s.toModule.reinitialise_eq (cause := 2)
  have htorn := s.toModule.frame_torn
  have hframe := Module.frame_storedFields s.toModule.torn r
  have hlock : (storedFields.foldl (fun (x : Module) f => x.wr f (s.toModule.torn.rd f)) r).rd Reg.secStatus_secLock = 0 := by
    rw [storedFields_other (by decide), Module.rd, hregs]
    rfl
  generalize storedFields.foldl (fun (x : Module) f => x.wr f (s.toModule.torn.rd f)) r = b at heq hframe hlock
  have hkept : b.dev = r.dev ∧ b.hub = r.hub ∧ b.saf = r.saf ∧ b.cal = r.cal :=
    ⟨hframe .dev (by decide), hframe .hub (by decide), hframe .saf (by decide), hframe .cal (by decide)⟩
  obtain ⟨hdevb, hhub, hsaf, hcal⟩ := hkept
  refine ⟨_, completes_of_eq hreset ((Module.hubReset_keyed h hk).trans heq) hv, ?lock, Module.rd_wr_fits (by decide), ?_, ?_, ?_, ?_, ?_, ?_,
    ?_, ?_, ?_, fun a ha => ?gddr, fun a ha => ?cxl⟩
  case lock => exact (Module.rd_wr_other (by decide) b _).trans hlock
  case gddr =>
    have hbelow : a < cxlBase 0 := lt_trans ha (by decide)
    refine (congrArg (Store.byte · a) (hdevb.trans hdev)).trans ?_
    rw [Store.byte, SMap.get, find?_fromAddr_below hbelow]
    rfl
  case cxl =>
    refine (congrArg (Store.byte · a) (hdevb.trans hdev)).trans ?_
    rw [Store.byte, SMap.get, find?_fromAddr_above ha, htorn .dev (by decide)]
    rfl
  · exact (congrArg Hub.round hhub).trans hround
  · exact (congrArg Hub.counting hhub).trans hcount
  · exact (hframe .ctx (by decide)).trans hctx
  · exact (hframe .host (by decide)).trans hhost
  · exact (hframe .adm (by decide)).trans hadm
  · exact (congrArg Safety.log hsaf).trans hlog
  · exact (hframe .pair (by decide)).trans hpair
  · exact (hframe .sram (by decide)).trans hsram
  · exact (congrArg Calib.opsec hcal).trans (hopsec.trans (congrArg Calib.opsec (htorn .cal (by decide))))

end Sys2Proof.Machine
end

section
/-! PROOFS. The end of the lease (R381, R389): PAIR_STATUS stands while the work not released is given up and the witness is asked. -/

namespace Sys2Proof.Machine

/-! ### Steps that leave PAIR_STATUS alone -/

/-- A step leaves the fields at bits 27 to 29 of the pairing block's registers as they are, PAIR_STATUS with them. Whatever index a
field at another bit is set at, it is none of these. -/
def StatusKept (a b : Module) : Prop :=
  ∀ q, 27 ≤ q % 32 ∧ q % 32 ≤ 29 ∧ 0xe00000 * 32 ≤ q ∧ q < 0xf00000 * 32 → SMap.find? b.regs q = SMap.find? a.regs q

section Status
variable {a b c m : Module} {f : Fld} {idx : List Nat} {v s q cid low level id p : Nat} {r : LogRec}

theorem StatusKept.refl (m : Module) : StatusKept m m := fun _ _ => rfl

theorem StatusKept.trans (h : StatusKept a b) (h' : StatusKept b c) : StatusKept a c := fun q hq => (h' q hq).trans (h q hq)

theorem StatusKept.ite {p : Prop} [Decidable p] (ha : StatusKept m a) (hb : StatusKept m b) : StatusKept m (if p then a else b) := by
  split
  · exact ha
  · exact hb

theorem StatusKept.foldl {α : Type} {g : Module → α → Module} {l : List α} (h : ∀ m x, StatusKept m (g m x)) : StatusKept a (l.foldl g a) :=
  List.foldlRecOn l g (.refl a) fun m hm x _ => hm.trans (h m x)

theorem StatusKept.iter {g : Nat → Module → Module} {n : Nat} (h : ∀ i m, StatusKept m (g i m)) : StatusKept a (iter n g a) :=
  .foldl fun m i => h i m

/-- A step outside the register file. -/
theorem StatusKept.of_frame {ks : List Kind} (h : Frame ks a b) (hk : Kind.regs ∉ ks) : StatusKept a b := fun q _ => by
  rw [h .regs hk]

theorem StatusKept.of_regs (h : b.regs = a.regs) : StatusKept a b := fun q _ => by rw [h]

/-- A field set that lies at another bit of its register, at any index. -/
theorem StatusKept.wr (h : f.lo < 27 ∨ 29 < f.lo ∧ f.lo < 32) : StatusKept m (m.wr f v idx) := fun q hq =>
  SMap.find?_ins_other (by rw [Fld.key]; omega) _ _

/-- PAIR_STATUS reads as before. -/
theorem StatusKept.rd (h : StatusKept a b) (hf : f ∈ [Reg.pairStatus_state, Reg.pairStatus_formed, Reg.pairStatus_leaseHeld]) :
    b.rd f = a.rd f := by
  have hkey : ∀ f ∈ [Reg.pairStatus_state, Reg.pairStatus_formed, Reg.pairStatus_leaseHeld],
      27 ≤ f.key [] % 32 ∧ f.key [] % 32 ≤ 29 ∧ 0xe00000 * 32 ≤ f.key [] ∧ f.key [] < 0xf00000 * 32 := by decide
  rw [Module.rd, Module.rd, h _ (hkey f hf)]

theorem Module.statusKept_report : StatusKept m (m.report r) := by
  have hoff : OffLog (0xe00000 * 32) (0xf00000 * 32) := ⟨by decide, le_refl _⟩
  exact fun q hq => hoff.regsKept_report q hq.2.2.1 hq.2.2.2

/-! ### Stages and completions -/

theorem Module.statusKept_startSwitch {bank : Nat} : StatusKept m (m.startSwitch s bank) := by
  have hmod {m : Module} {t : Tine → Tine} : StatusKept m (m.modTine s t) := .of_regs rfl
  exact .ite (hmod.trans <| StatusKept.trans (.wr (by decide)) hmod) (hmod.trans statusKept_report)

theorem Module.statusKept_stopStage : StatusKept m (m.stopStage s) := by
  have hmod {m : Module} {t : Tine → Tine} : StatusKept m (m.modTine s t) := .of_regs rfl
  exact StatusKept.trans (.wr (by decide)) <| hmod.trans <| .ite (.refl _) statusKept_startSwitch

theorem Module.statusKept_stopAll : StatusKept m (m.stopAll id) := by
  unfold Module.stopAll
  extract_lets m₁
  have hsites : StatusKept m m₁ := .foldl fun m s => by
    extract_lets t here held m₂
    have hheld : StatusKept m m₂ := .ite (.of_regs rfl) (.refl m)
    exact .ite (hheld.trans statusKept_stopStage) hheld
  exact hsites.trans (.of_frame frame_tines_mesh (by decide))

theorem Module.statusKept_msix : StatusKept m (m.msix v) := .ite (.refl m) <| .ite (.wr (by decide)) (.of_regs rfl)

theorem Module.statusKept_coalesce : StatusKept m (m.coalesce q) := by
  have hmod {g : Queue → Queue} : StatusKept m (m.modQueue q g) := .of_regs rfl
  exact .ite (hmod.trans statusKept_msix) hmod

theorem Module.statusKept_post {x : Compl} {final : Bool} : StatusKept m (m.post q cid low x final) := by
  have hposted : StatusKept m (if final then m.posted (q % 2 ^ 16) cid else m) := .ite (.of_frame frame_posted (by decide)) (.refl m)
  have hcount {b : Module} {v : Nat} : StatusKept b (if final then b.wr Reg.queStatus_inFlight v [q] else b) :=
    .ite (.wr (by decide)) (.refl b)
  have hsent {b : Module} {o : Output} : StatusKept b (b.emit o) := .of_regs rfl
  have hmod {b : Module} {g : Queue → Queue} : StatusKept b (b.modQueue q g) := .of_regs rfl
  unfold Module.post
  exact .ite hposted <| hposted.trans <| hsent.trans <| StatusKept.trans (.wr (by decide)) <| hmod.trans <| hcount.trans statusKept_coalesce

theorem Module.statusKept_finish {x : Compl} : StatusKept m (m.finish q cid x) := statusKept_post

/-! ### Packets sent -/

theorem Module.statusKept_putTx {x : TxFlit} : StatusKept m (m.putTx p x) := by
  have hmod {m : Module} {g : Link → Link} : StatusKept m (m.modLink p g) := .of_regs rfl
  have hsent {m : Module} {o : Output} : StatusKept m (m.emit o) := .of_regs rfl
  have hnak {q : Prop} [Decidable q] : StatusKept m (if q then m.count Reg.fabNakSent_count 1 [p] else m) := .ite (.wr (by decide)) (.refl m)
  unfold Module.putTx
  split
  · exact hnak.trans <| hsent.trans hmod
  · exact hsent.trans hmod

theorem Module.statusKept_sendSeq {x : TxFlit} : StatusKept m (m.sendSeq p x) := by
  have hmod {g : Link → Link} : StatusKept m (m.modLink p g) := .of_regs rfl
  exact hmod.trans <| StatusKept.trans (.wr (by decide)) statusKept_putTx

theorem Module.statusKept_sendData : StatusKept m (m.sendData p v) := by
  have hmod {g : Link → Link} : StatusKept m (m.modLink p g) := .of_regs rfl
  unfold Module.sendData
  exact hmod.trans statusKept_sendSeq

theorem Module.statusKept_pumpN (n : Nat) : ∀ m : Module, StatusKept m (m.pumpN p n) := by
  induction n with
  | zero => exact .refl
  | succ n ih =>
    intro m
    have hmod {g : Link → Link} : StatusKept m (m.modLink p g) := .of_regs rfl
    rw [Module.pumpN]
    refine .ite ?_ (.refl m)
    split
    · exact hmod.trans <| statusKept_sendSeq.trans (ih _)
    · split
      · exact statusKept_sendData.trans (ih _)
      · exact .refl m

theorem Module.statusKept_pump : StatusKept m (m.pump p) := by
  have hshow {m : Module} : StatusKept m (m.showLink p) :=
    (StatusKept.iter fun _ _ => StatusKept.trans (.wr (by decide)) (.wr (by decide))).trans (.wr (by decide))
  exact (statusKept_pumpN 4096 m).trans hshow

theorem Module.statusKept_enqueue {k : Pkt} : StatusKept m (m.enqueue p k) := by
  have hlate {q : Prop} [Decidable q] : StatusKept m (if q then m.count Reg.fabBudgetZero_count 1 [p] else m) := .ite (.wr (by decide)) (.refl m)
  have hmod {m : Module} {g : Link → Link} : StatusKept m (m.modLink p g) := .of_regs rfl
  unfold Module.enqueue
  exact .ite (.wr (by decide)) <| hlate.trans <| hmod.trans statusKept_pump

theorem Module.statusKept_routePkt {k : Pkt} {own : Bool} (h : m.routePkt k own = some b) : StatusKept m b := by
  have hdet {q : Prop} [Decidable q] : StatusKept m (if q then m.count Reg.rteDetoured_count else m) := .ite (.wr (by decide)) (.refl m)
  have hrte {m : Module} {x : Router} : StatusKept m { m with rte := x } := .of_regs rfl
  unfold Module.routePkt at h
  extract_lets d known at h
  split at h
  split at h
  · cases h
  · cases h
    exact hdet.trans <| hrte.trans statusKept_enqueue

theorem Module.statusKept_sendMsg {pkg dstTine srcTine op vc tag rem len : Nat} {x : Nat} {gs : List (Nat × Nat)} {req : Option Nat}
    (h : m.sendMsg pkg dstTine srcTine op vc x tag rem len gs req = some b) : StatusKept m b := by
  unfold Module.sendMsg at h
  split at h
  extract_lets base at h
  split at h
  · cases h
    exact .refl _
  · refine List.foldlRecOn (motive := fun o => ∀ b, o = some b → StatusKept m b) _ _ ?start ?next b h
    case start => exact fun b h => Option.some.inj h ▸ .refl m
    case next =>
      intro o ho k _ b h
      cases o with
      | none => cases h
      | some y => exact (ho y rfl).trans (statusKept_routePkt h)

theorem Module.statusKept_replyWith {x : Req} {y : Compl} : StatusKept m (m.replyWith x low y) := by
  unfold Module.replyWith
  extract_lets out bytes
  split
  next cycle m₁ hdraw =>
  extract_lets rem
  have hdrawn : StatusKept m m₁ := by
    have hm₁ : m₁ = (m.draw 13).2 := by rw [hdraw]
    exact .of_regs (hm₁ ▸ rfl)
  split
  · next hs => exact hdrawn.trans (statusKept_sendMsg hs)
  · exact hdrawn.trans (.wr (by decide))

/-! ### Contexts -/

theorem Module.statusKept_freeBanks {x : Nat} {again : Bool} : StatusKept m (m.freeBanks x again) := by
  have hbank {m : Module} {s bank v : Nat} : StatusKept m (m.setBank s bank v) := .ite (.wr (by decide)) (.wr (by decide))
  have hbanks {l : List Fill} : StatusKept m (l.foldl (fun m f => if f.started then m.setBank f.site f.bank 0 else m) m) :=
    .foldl fun m f => .ite hbank (.refl m)
  have hdrop {p : Fill → Bool} : StatusKept m (m.dropFills p) := by
    unfold Module.dropFills
    extract_lets m₁
    exact StatusKept.trans (b := m₁) hbanks (.of_regs rfl)
  exact hdrop.trans (.of_regs rfl)

theorem Module.statusKept_evictNow {x : Nat} : StatusKept m (m.evictNow x level) := by
  unfold Module.evictNow
  refine .ite ?_ ((statusKept_freeBanks (again := false)).trans (.of_regs rfl))
  unfold Module.dropCtx
  exact (statusKept_freeBanks (again := false)).trans <| .of_frame (frame_setCtx.step <| frame_unbindAll.step frame_ctx) (by decide)

theorem Module.statusKept_pokeWaiters : StatusKept m m.pokeWaiters := by
  unfold Module.pokeWaiters
  refine .foldl fun m w => ?_
  extract_lets x drop
  have hdrop : StatusKept m (drop m) := .of_regs rfl
  have hset {m : Module} {y : Ctx} : StatusKept m (m.setCtx w.ctx y) := .of_regs rfl
  have hfinish {k : Compl} : StatusKept m ((drop m).finish w.queue w.cid k) := hdrop.trans statusKept_finish
  refine .ite (.ite (hdrop.trans <| statusKept_evictNow.trans statusKept_finish) (.refl m)) <| .ite hfinish <|
    .ite (hdrop.trans <| hset.trans statusKept_finish) <| .ite hfinish ?_
  split
  · exact hfinish
  · split
    · exact .refl m
    · next h => exact .ite hfinish (.of_frame (frame_place? h) (by decide))

theorem Module.statusKept_ctxDone {x : Nat} : StatusKept m (m.ctxDone x) := by
  have hset {y : Ctx} : StatusKept m (m.setCtx x y) := .of_regs rfl
  have hfresh {m : Module} : StatusKept m (m.refresh x) := .of_frame frame_refresh (by decide)
  exact hset.trans <| hfresh.trans statusKept_pokeWaiters

theorem Module.statusKept_complete {x : Compl} : StatusKept m (m.complete id x) := by
  unfold Module.complete
  split
  · exact .refl m
  · next r _ =>
    have hanswer {m₁ : Module} (h : StatusKept m m₁) :
        StatusKept m (if r.origin = 0 then m₁.post r.queue r.cid r.low x true else m₁.sendReply r x) :=
      h.trans <| .ite statusKept_post statusKept_replyWith
    have hdone {m : Module} : StatusKept m (r.ctxs.foldl (fun m c => m.ctxDone c) m) := .foldl fun _ _ => statusKept_ctxDone
    exact .ite ((hanswer (.of_frame frame_host_adm (by decide))).trans hdone) (hanswer (.of_frame frame_host_adm (by decide)))

theorem Module.statusKept_discardWork : StatusKept m m.discardWork := by
  have hreqs {l : List (Nat × Req)} : StatusKept m (l.foldl (fun m (x : Nat × Req) => (m.stopAll x.1).complete x.1 (Compl.of 0x0E 0 0 0)) m) :=
    .foldl fun _ _ => statusKept_stopAll.trans statusKept_complete
  exact hreqs.trans (.of_regs rfl)

/-! ### Lease messages -/

theorem Module.statusKept_sendLease {dst : Nat} {x : Lease} : StatusKept m (m.sendLease dst x) := by
  have htag : StatusKept m m.newTag.2 := .of_regs rfl
  unfold Module.sendLease
  refine .ite (.refl m) ?_
  split
  · exact htag.trans statusKept_enqueue
  · split
    · next hs => exact htag.trans (statusKept_sendMsg hs)
    · exact htag.trans (.wr (by decide))

theorem Module.statusKept_leaseRep {dst msg value succ : Nat} {left : Option Nat} : StatusKept m (m.leaseRep dst msg value succ left) := by
  have hlease : StatusKept m (m.lease msg value succ).2 := .of_regs rfl
  exact hlease.trans <| statusKept_sendLease.trans (.of_regs rfl)

end Status

/-! ### SELF_FENCE and LEASE_EXPIRY (R389) -/

section Lease
variable {m : Module}

/-- PAIR_STATUS as a member shows it that has lost the lease. -/
def Module.fencedStatus (m : Module) : Module := ((m.dropLease).setPair 6).clr Reg.pairStatus_formed

theorem Module.rd_fencedStatus : m.fencedStatus.rd Reg.pairStatus_state = 6 ∧ m.fencedStatus.rd Reg.pairStatus_leaseHeld = 0 ∧
    m.fencedStatus.rd Reg.pairStatus_formed = 0 := by
  unfold fencedStatus
  refine ⟨?_, ?_, rd_clr_same _ _ _⟩
  · rw [rd_clr_other (by decide)]
    exact rd_wr_fits (by decide)
  · rw [rd_clr_other (by decide), setPair, rd_wr_other (by decide)]
    exact rd_clr_same _ _ _

theorem Module.statusKept_toFenced : StatusKept m.fencedStatus m.toFenced := by
  have hqueues {m : Module} {keep : List Nat} : StatusKept m (m.dropQueued keep) := .of_regs rfl
  have hpair {m : Module} {x : Pair} : StatusKept m { m with pair := x } := .of_regs rfl
  have hleft := hqueues (m := m.fencedStatus) (keep := [1, 7]) |>.trans statusKept_discardWork
  unfold Module.toFenced
  exact .ite (hleft.trans hpair) ((hleft.trans hpair).trans statusKept_leaseRep)

/-- The holder whose lease count has ended is FENCED and no longer holds the lease. -/
theorem Module.rd_toFenced : m.toFenced.pairState = 6 ∧ m.toFenced.rd Reg.pairStatus_leaseHeld = 0 ∧
    m.toFenced.rd Reg.pairStatus_formed = 0 := by
  obtain ⟨hstate, hheld, hformed⟩ := rd_fencedStatus (m := m)
  exact ⟨(statusKept_toFenced.rd (by decide)).trans hstate, (statusKept_toFenced.rd (by decide)).trans hheld,
    (statusKept_toFenced.rd (by decide)).trans hformed⟩

/-- The holder with its fence set and at most 16 us of the count left. -/
def Module.selfFenced (m : Module) : Module := { m with pair := { m.pair with fenced := true, left := min 25600 m.pair.left } }

theorem Module.selfFence_holder (h : m.pairState = 3 ∨ m.pairState = 4) (hf : m.pair.fenced = false) :
    m.selfFence = m.selfFenced.pairEvent Reg.pairEvents_selfFence := if_pos ⟨h, by simp [hf]⟩

theorem Module.selfFence_fenced (hf : m.pair.fenced = true) : m.selfFence = m := if_neg fun h => by simp [hf] at h

theorem Module.selfFence_other (h : ¬ (m.pairState = 3 ∨ m.pairState = 4)) : m.selfFence = m := if_neg fun hall => h hall.1

/-- A pairing event sets its bit and leaves PAIR_STATUS alone. -/
theorem Module.rd_pairEvent_selfFence : (m.pairEvent Reg.pairEvents_selfFence).rd Reg.pairEvents_selfFence = 1 ∧
    (m.pairEvent Reg.pairEvents_selfFence).pairState = m.pairState := by
  have hoff : OffLog (0xe00000 * 32) (0xf00000 * 32) := ⟨by decide, le_refl _⟩
  have hbit : (m.set1 Reg.pairEvents_selfFence).rd Reg.pairEvents_selfFence = 1 := rd_wr_fits (by decide)
  have hstate : (m.set1 Reg.pairEvents_selfFence).pairState = m.pairState := rd_set1_other (by decide) m
  unfold pairEvent
  exact ⟨(hoff.regsKept_report.rd (by decide) (by decide)).trans hbit, (hoff.regsKept_report.rd (by decide) (by decide)).trans hstate⟩

end Lease

/-- Settles O37, by the member's state and its fence; that a member without the lease stands is log entry 4. -/
theorem selfFencingAndTheEndOfTheLease : Obligations.SelfFencingAndTheEndOfTheLease := by
  intro s
  have hfence := exec_selfFence s
  have hexpiry := exec_leaseExpiry s
  refine ⟨fun h => ⟨fun hf => ?fences, fun hf => exec_of_act_same hfence (Module.selfFence_fenced hf), ?expires⟩, fun h₃ h₄ => ?other⟩
  case fences =>
    have hframe : Frame [.out, .regs, .saf] s.toModule.selfFenced (s.toModule.selfFenced.pairEvent Reg.pairEvents_selfFence) :=
      Module.frame_pairEvent
    obtain ⟨hbit, hstate⟩ := Module.rd_pairEvent_selfFence (m := s.toModule.selfFenced)
    exact ⟨_, completesIn_of_frame hfence (Module.selfFence_holder h hf) rfl (.mono (by decide) <| Module.frame_pair.step hframe),
      hframe .pair (by decide), hbit, hstate⟩
  case expires => exact ⟨_, completes_of_eq hexpiry (if_pos h) rfl, Module.rd_toFenced⟩
  case other =>
    have hnot : ¬ (s.toModule.pairState = 3 ∨ s.toModule.pairState = 4) := fun h => h.elim h₃ h₄
    exact ⟨exec_of_act_same hfence (Module.selfFence_other hnot), exec_of_act_same hexpiry (if_neg hnot)⟩

end Sys2Proof.Machine
end

section
/-! PROOFS. What temperature channels, supplies, calibration, proof tests and snapshots leave unchanged (R408 to R453). -/

namespace Sys2Proof.Machine

section Channels
variable {m : Module} {c v e s : Nat} {g : ThmCh → ThmCh} {t : Int} {isOpen stale : Bool}

/-- The kinds of state a sample of a temperature channel can reach: a shutdown switches domains off and cuts a die. -/
abbrev thermKinds : List Kind := .thm :: cutKinds

theorem Module.frame_modCh : Frame [.thm] m (m.modCh c g) := .single fun k h => by cases k <;> trivial

theorem Module.frame_showCh : Frame [.regs] m (m.showCh c) := by
  unfold Module.showCh
  extract_lets x st st' m₁
  have hshown : Frame [.regs] m m₁ := frame_reg.trans frame_reg
  exact hshown.trans <| .ite frame_reg <| .foldl fun m _ => .ite frame_reg (.refl _ m)

theorem Module.frame_shutDown : Frame cutKinds m (m.shutDown c) := by
  unfold Module.shutDown
  extract_lets f
  have hdie {m : Module} {d k : Nat} : Frame cutKinds m ((m.domainOff d 4).dieCut k f) :=
    .mono (by decide) <| frame_domainOff.step frame_dieCut
  exact .ite (.mono (by decide) <| frame_domainOff.step hdie) <|
    .ite (.mono (by decide) <| frame_asFault.step hdie) <| .ite hdie <| .ite hdie hdie

theorem Module.frame_evalCh : Frame thermKinds m (m.evalCh c) := by
  unfold Module.evalCh
  extract_lets x st
  refine .ite (frame_showCh.mono (by decide)) ?_
  split
  next lo hi _ =>
    extract_lets warn' hot' idx' shut' m₁ m₂ m₃ m₄
    have hchannel : Frame thermKinds m m₁ := frame_modCh.mono (by decide)
    have hwarn : Frame thermKinds m₁ m₂ := .mono (by decide) <| .either (frame_reg.step frame_thermRec) .rfl
    have hhot : Frame thermKinds m₂ m₃ := .mono (by decide) <| .either (frame_reg.step frame_thermRec) .rfl
    have hshut : Frame thermKinds m₃ m₄ := .mono (by decide) <| .either (frame_reg.step <| frame_thermRec.step frame_shutDown) .rfl
    exact hchannel.trans <| hwarn.trans <| hhot.trans <| hshut.trans <| frame_showCh.mono (by decide)

theorem Module.frame_evalBorrowers : Frame thermKinds m (m.evalBorrowers c) := .foldl fun _ _ => frame_evalCh

/-- A channel that changed is judged, and those that borrow its temperature after it. -/
theorem Module.frame_evalAll : Frame thermKinds m ((m.evalCh c).evalBorrowers c) := frame_evalCh.trans frame_evalBorrowers

theorem Module.frame_failCh : Frame thermKinds m (m.failCh c) :=
  .mono (by decide) <| frame_modCh.step <| frame_reg.step <| frame_reg.step <| frame_thermRec.step frame_evalAll

theorem Module.frame_tempSample : Frame thermKinds m (m.tempSample c t isOpen stale) := by
  unfold Module.tempSample
  refine .ite (.refl _ m) ?_
  extract_lets x st held m₀ t' bad
  have hstale : Frame thermKinds m m₀ := frame_reg.mono (by decide)
  have hch {m : Module} {g : ThmCh → ThmCh} : Frame thermKinds m (m.modCh c g) := frame_modCh.mono (by decide)
  refine hstale.trans <| .ite (.refl _ m₀) <| .ite ?_ <| .ite frame_failCh <| .ite ?_ (hch.trans frame_evalAll)
  · split
    · exact .refl _ m₀
    · exact .ite hch <| .ite hch <| .ite hch <| hch.trans <| .mono (by decide) <| frame_reg.step frame_evalAll
  · exact .mono (by decide) <| frame_reg.step frame_thermRec

theorem Module.frame_forceFields : Frame [.regs] m (m.forceFields c v) := frame_reg.trans frame_reg

theorem Module.frame_thmForceTo : Frame thermKinds m (m.thmForceTo c v) :=
  .mono (by decide) <| .either frame_forceFields <| frame_forceFields.step <| frame_modCh.step <| frame_reg.step frame_evalAll

theorem Module.frame_thmReleaseCh : Frame thermKinds m (m.thmReleaseCh c v) :=
  .mono (by decide) <| .either frame_forceFields <| frame_forceFields.step <| frame_modCh.step <| frame_reg.step frame_evalAll

theorem Module.frame_thmRetestCh : Frame [.regs, .thm] m (m.thmRetestCh c v) :=
  .mono (by decide) <| .either frame_forceFields <| frame_forceFields.step frame_modCh

theorem Module.frame_clearShutdown : Frame [.regs, .thm, .seqs, .seqWait] m (m.clearShutdown c v) := by
  unfold Module.clearShutdown
  extract_lets m₀ c' m₁ d
  have hshown : Frame [.thm, .regs] m₀ m₁ := frame_modCh.step frame_showCh
  exact .mono (by decide) <| frame_forceFields.step <| .either .rfl <| hshown.step <| .either frame_seqStart .rfl

theorem Module.frame_curveWrite : Frame [.regs] m (m.curveWrite e v) := .ite (.refl _ m) (frame_reg.trans frame_reg)

end Channels

section Supplies
variable {m : Module} {conn mw mj d mv cv : Nat}

theorem Module.frame_budgetGrant : Frame [.regs] m (m.budgetGrant conn) := by
  unfold Module.budgetGrant
  split
  · exact .refl _ m
  · exact .ite (frame_reg.trans frame_reg) (.refl _ m)

theorem Module.frame_budgetRequest : Frame [.pwr] m (m.budgetRequest conn mw) := .ite frame_pwr (.refl _ m)

theorem Module.frame_budgetReturn : Frame [.pwr] m (m.budgetReturn conn mj mw) := .ite frame_pwr (.refl _ m)

theorem Module.frame_supplyOut : Frame cutKinds m (m.supplyOut d mv) := by
  unfold Module.supplyOut
  refine .ite (.refl _ m) ?_
  extract_lets cirque m₀ f m₁ m₂
  have hrec : Frame [.out, .regs, .saf] m m₀ := frame_report
  have hcharge : Frame [.host] m₀ m₁ := frame_charge
  have hengine : Frame [.links] m₁ m₂ := .ite frame_asFault (.refl _ m₁)
  exact .mono (by decide) <| hrec.step <| hcharge.step <| hengine.step <| frame_domainOff.step <| frame_reg.step frame_dieCut

theorem Module.frame_cal_flash {x : Calib} {y : Flash} : Frame [.cal, .flash] m { m with cal := x, flash := y } :=
  .double fun k h h' => by cases k <;> trivial

theorem Module.frame_inputOut : Frame (.cal :: .flash :: offKinds) m (m.inputOut cv) := by
  unfold Module.inputOut
  refine .ite (.refl _ m) ?_
  extract_lets hubOut m₀ m₁ m₂ m₃ calOut flashOut
  have hinput : Frame [.hub] m m₀ := frame_hub
  have hrec : Frame [.regs, .out, .regs, .saf] m₀ m₁ := frame_reg.step frame_report
  have hoff : Frame offKinds m₁ m₂ := .foldl fun m _ => .ite (.refl _ m) frame_domainOff
  have hcal : Frame [.regs] m₂ m₃ := .ite frame_reg (.refl _ m₂)
  exact .mono (by decide) <| hinput.step <| hrec.step <| hoff.step <| hcal.step frame_cal_flash

theorem Module.frame_powerFailDone : Frame [.flash] m m.powerFailDone := .ite (.refl _ m) frame_flash

end Supplies

section Calibration
variable {m : Module} {mask : Nat} {set : CalSet} {rewrite : Bool} {vals : List (Nat × Nat × Nat)}

theorem Module.frame_deskewTo : Frame [.cal] m m.deskewTo := by
  unfold Module.deskewTo
  split
  · exact .refl _ m
  · exact frame_cal

theorem Module.frame_calStore : Frame [.regs, .cal] m (m.calStore set rewrite) := by
  unfold Module.calStore
  extract_lets stored m₀ m₁
  have hset : Frame [.cal] m m₀ := frame_cal
  have hstored : Frame [.regs] m₀ m₁ := frame_reg.trans frame_reg
  exact .mono (by decide) <| hset.step <| .either (.either .rfl (frame_reg.step frame_deskewTo)) (hstored.step frame_cal)

theorem Module.frame_calRunDone : Frame [.regs, .cal] m (m.calRunDone vals) :=
  have hstale : Frame [.regs] m ((List.range 96).foldl (fun m c => m.clr Reg.thmChStatus_stale [c]) m) := .foldl fun _ _ => frame_reg
  .ite (.refl _ m) <| .mono (by decide) <| hstale.step <| frame_reg.step frame_calStore

theorem Module.frame_calCurrent : Frame [.regs] m m.calCurrent := by
  unfold Module.calCurrent
  extract_lets n n' m₁ m₂
  have hlast : Frame [.regs] m m₂ := frame_reg.trans <| frame_reg.trans frame_reg
  exact hlast.trans <| .ite frame_reg (.refl _ m₂)

theorem Module.frame_calStoreDone : Frame [.regs, .cal] m m.calStoreDone := by
  unfold Module.calStoreDone
  split
  · exact .refl _ m
  · refine .ite (.refl _ m) ?_
    extract_lets m₁ set m₂
    have hcount : Frame [.regs] m m₁ := .ite (.refl _ m) frame_calCurrent
    have hset : Frame [.cal] m₁ m₂ := frame_cal
    exact .mono (by decide) <| hcount.step <| hset.step <| frame_reg.step <| frame_reg.step <| frame_reg.step <|
      frame_reg.step frame_deskewTo

theorem Module.frame_calStoreRetry : Frame [.regs, .cal] m m.calStoreRetry := by
  unfold Module.calStoreRetry
  split
  · exact .refl _ m
  · exact .ite frame_calStore (.refl _ m)

theorem Module.frame_calRevert : Frame [.regs, .cal] m (m.calRevert mask) := by
  unfold Module.calRevert
  extract_lets m₀
  have hmask : Frame [.regs, .cal] m m₀ := frame_reg.mono (by decide)
  split
  · exact hmask
  · exact hmask.trans <| .ite (.refl _ m₀) <| .mono (by decide) <| frame_cal.step <| frame_calCurrent.step <| frame_reg.step <|
      frame_reg.step frame_deskewTo

theorem Module.frame_opsecTick : Frame [.cal] m m.opsecTick := .ite frame_cal (.refl _ m)

theorem Module.frame_opsecRecord : Frame [.regs, .cal] m m.opsecRecord := by
  unfold Module.opsecRecord
  refine .ite (.refl _ m) <| .ite (frame_cal.mono (by decide)) ?_
  split
  · exact .refl _ m
  · exact .ite frame_calStore (.refl _ m)

end Calibration

section Views
variable {m : Module} {v s cycle c source seq : Nat} {pass : Bool} {bad : Option Nat}

theorem Module.frame_logSel : Frame [.regs] m (m.logSel v) := by
  unfold Module.logSel
  extract_lets m₁
  have hindex : Frame [.regs] m m₁ := frame_reg
  exact hindex.trans <| .ite (.iter fun _ _ => frame_reg) (.refl _ m₁)

theorem Module.frame_faultPinClr : Frame [.out, .regs] m (m.faultPinClr v) :=
  .mono (by decide) <| .either (frame_reg.step frame_emit) .rfl

theorem Module.frame_proofTest : Frame [.out, .regs, .saf, .tines, .ctx, .adm] m (m.proofTest s pass bad) := by
  unfold Module.proofTest
  split
  · exact .refl _ m
  · next b _ =>
    extract_lets adm m₁ failed m₂
    have hblock : Frame [.adm] m m₁ := frame_adm
    have hresult : Frame [.regs, .out, .saf, .tines, .ctx] m₁ m₂ :=
      .ite (frame_reg.mono (by decide)) <| .mono (by decide) <| frame_reg.step <| frame_newFault.step <| frame_logRec.step <|
        frame_retire.step frame_alerts
    refine .mono (by decide) <| hblock.step <| .either .rfl <| hresult.step (?_ : Frame [.out, .regs, .saf] m₂ _)
    split
    · exact .refl _ m₂
    · exact .mono (by decide) <| frame_reg.step frame_report

theorem Module.frame_moraineWrite : Frame [.flash] m m.moraineWrite := frame_flash

theorem Module.frame_snapTrigger : Frame [.out, .regs, .saf] m (m.snapTrigger source seq) :=
  .mono (by decide) <| .either frame_reg <| frame_saf.step frame_emit

theorem Module.frame_snapIn : Frame [.out, .regs, .saf] m m.snapIn := .ite frame_snapTrigger (.refl _ m)

theorem Module.frame_snapReg : Frame [.out, .regs, .saf] m (m.snapReg v) :=
  .mono (by decide) <| .either (frame_snapFields.step frame_snapTrigger) frame_snapFields

theorem Module.frame_snapRearm : Frame [.regs] m (m.snapRearm v) :=
  .mono (by decide) <| .either (frame_snapFields.step frame_reg) frame_snapFields

theorem Module.frame_snapLatch : Frame [.out, .regs, .saf] m (m.snapLatch cycle) := by
  unfold Module.snapLatch
  split
  · exact .refl _ m
  · extract_lets saf m₁ m₂ m₃ m₄
    have hcopy : Frame [.saf] m m₁ := frame_saf
    have hsource : Frame [.regs] m₁ m₂ := frame_reg.trans <| frame_reg.trans frame_reg
    have hround : Frame [.regs] m₂ m₃ := frame_reg.trans <| frame_reg.trans frame_reg
    have habsent : Frame [.regs] m₃ m₄ := .iter fun _ _ => frame_reg
    exact .mono (by decide) <| hcopy.step <| hsource.step <| hround.step <| habsent.step <| .either (frame_emit.step frame_emit) .rfl

theorem Module.frame_snapAbsent : Frame [.regs] m (m.snapAbsent c) := .ite frame_reg (.refl _ m)

end Views

/-- Settles O59: every safety, power, temperature and calibration command completes, within its kinds of state. -/
theorem powerAndSafetyCommandsComplete : Obligations.PowerAndSafetyCommandsComplete := fun s =>
  ⟨fun ch t isOpen stale h => completesIn_of_frame (exec_tempSample ch t isOpen stale s) rfl h (Module.frame_tempSample.mono (by decide)),
    fun ch v h => completesIn_of_frame (exec_thmForceWrite ch v s) rfl h (Module.frame_thmForceTo.mono (by decide)),
    fun ch v h => completesIn_of_frame (exec_thmRelease ch v s) rfl h (Module.frame_thmReleaseCh.mono (by decide)),
    fun ch v h => completesIn_of_frame (exec_thmRetest ch v s) rfl h Module.frame_thmRetestCh,
    fun ch v h => completesIn_of_frame (exec_clearShutdown ch v s) rfl h Module.frame_clearShutdown,
    fun index v h => completesIn_of_frame (exec_thmCurveWrite index v s) rfl h Module.frame_curveWrite,
    fun conn h => completesIn_of_frame (exec_budgetGrant conn s) rfl h Module.frame_budgetGrant,
    fun conn mw h => completesIn_of_frame (exec_budgetRequest conn mw s) rfl h Module.frame_budgetRequest,
    fun conn mj mw h => completesIn_of_frame (exec_budgetReturn conn mj mw s) rfl h Module.frame_budgetReturn,
    fun d mv h => completesIn_of_frame (exec_supplyOutOfWindow d mv s) rfl h Module.frame_supplyOut,
    fun cv => completesIn_of_frame (exec_inputOutOfWindow cv s) rfl rfl (Module.frame_inputOut.mono (by decide)),
    completesIn_of_frame (exec_powerFailCommitDone s) rfl rfl Module.frame_powerFailDone,
    fun mask h => completesIn_of_frame (exec_calRun mask s) rfl h Module.frame_calRun,
    fun vals => completesIn_of_frame (exec_calRunDone vals s) rfl rfl Module.frame_calRunDone,
    completesIn_of_frame (exec_calStoreDone s) rfl rfl Module.frame_calStoreDone,
    completesIn_of_frame (exec_calStoreRetry s) rfl rfl Module.frame_calStoreRetry,
    fun mask h => completesIn_of_frame (exec_calRevert mask s) rfl h Module.frame_calRevert,
    completesIn_of_frame (exec_opsecTick s) rfl rfl Module.frame_opsecTick,
    completesIn_of_frame (exec_opsecRecord s) rfl rfl Module.frame_opsecRecord,
    fun v h => completesIn_of_frame (exec_faultPinClr v s) rfl h Module.frame_faultPinClr,
    fun v h => completesIn_of_frame (exec_safLogLatch v s) rfl h Module.frame_logSel,
    fun site pass bad h => completesIn_of_frame (exec_proofTest site pass bad s) rfl h Module.frame_proofTest,
    completesIn_of_frame (exec_moraineWrite s) rfl rfl Module.frame_moraineWrite,
    completesIn_of_frame (exec_snapIn s) rfl rfl Module.frame_snapIn,
    fun v h => completesIn_of_frame (exec_snapTrigger v s) rfl h Module.frame_snapReg,
    fun cycle h => completesIn_of_frame (exec_snapLatch cycle s) rfl h Module.frame_snapLatch,
    fun conn h => completesIn_of_frame (exec_snapConfirmTimeout conn s) rfl h Module.frame_snapAbsent,
    fun v h => completesIn_of_frame (exec_snapRearm v s) rfl h Module.frame_snapRearm⟩

end Sys2Proof.Machine
end

section
/-! PROOFS. What Quinhorn commands leave unchanged (R350 to R375, R434): bundles, guest messages, coherence, debug accesses. -/

namespace Sys2Proof.Machine

/-! ### Bundles (R350 to R353, R372) -/

section Bundles
variable {m : Module} {c b d chk f n : Nat} {s : QSlot} {x : QMsg} {y : Option Nat × QSlot × Nat × Nat} {again late differ : Bool}
  {q : QBundle → QBundle}

theorem Module.frame_qpumpN (n : Nat) : ∀ m : Module, Frame [.out, .qlk] m (m.qpumpN c b n) := by
  induction n with
  | zero => exact fun m => .refl _ m
  | succ n ih =>
    intro m
    rw [Module.qpumpN]
    split
    · exact .refl _ m
    · exact .ite (.refl _ m) <| .trans (.mono (by decide) <| frame_modQb.step frame_emit) (ih _)

theorem Module.frame_qpump : Frame [.out, .qlk] m (m.qpump c b) := frame_qpumpN _ m

theorem Module.frame_qreplay : Frame [.out, .regs, .qlk] m (m.qreplay c b) := by
  unfold Module.qreplay
  extract_lets r m₁
  have hsent : Frame [.out] m m₁ := .foldl fun _ _ => frame_emit
  exact .mono (by decide) <| hsent.step <| frame_reg.step frame_modQb

theorem Module.frame_qsend {chan : Nat} : Frame [.out, .qlk] m (m.qsend c chan x) :=
  .mono (by decide) <| frame_modQb.step frame_qpump

theorem Module.frame_askRetry : Frame [.qlk] m (m.askRetry c b again) := frame_modQb

theorem Module.frame_retrain : Frame bundleKinds m (m.retrain c b differ) := by
  unfold Module.retrain
  refine .ite (.refl _ m) <| .mono (by decide) <| frame_reg.step <| frame_reg.step <| frame_modQb.step <| frame_emit.step <|
    frame_qlkRec.step frame_showConn

theorem Module.frame_testDone : Frame bundleKinds m (m.testDone c b) := by
  unfold Module.testDone
  extract_lets
  split
  · split
    · next hmaps => exact .mono (by decide) <| (frame_chooseMaps hmaps).step <| frame_modQb.step frame_emit
    · exact .refl _ m
  · exact .refl _ m

theorem Module.frame_qdeliver : Frame [.qlk] m (m.qdeliver c b s d n) := by
  unfold Module.qdeliver
  extract_lets old now h len m₁ m₂ x
  have htaken : Frame [.qlk] m m₁ := frame_modQb
  have hwhole : Frame [.qlk] m₁ m₂ := frame_modQb
  exact htaken.trans <| .ite frame_modQb <| hwhole.trans <| .ite (.refl _ m₂) frame_modGuest

theorem Module.frame_qaccept : Frame [.regs, .qlk] m (m.qaccept c b y) := by
  unfold Module.qaccept
  extract_lets old synd r lane m₁ m₂
  split
  · exact frame_askRetry.mono (by decide)
  · extract_lets behind
    have hcounted : Frame [.regs, .qlk] m m₁ := by
      unfold m₁
      clear_value r
      split
      · exact .mono (by decide) <| frame_reg.step frame_modQb
      · exact .mono (by decide) <| frame_reg.step frame_modQb
      · exact frame_reg.mono (by decide)
      · exact .refl _ m
    have hexpected : Frame [.qlk] m₁ m₂ := frame_modQb
    have hretry {again : Bool} : Frame [.regs, .qlk] m (m.askRetry c b again) := frame_askRetry.mono (by decide)
    exact .ite (.ite hretry <| .mono (by decide) <| hcounted.step <| hexpected.step frame_qdeliver) <| .ite (.refl _ m) hretry

theorem Module.frame_qwatch : Frame bundleKinds m (m.qwatch c b) :=
  .mono (by decide) <| .either (frame_modQb.step frame_retrain) .rfl

theorem Module.frame_qgranule : Frame bundleKinds m (m.qgranule c b d chk) := by
  unfold Module.qgranule
  refine .ite (.refl _ m) ?_
  extract_lets q i x y m₁
  have hheld : Frame [.qlk] m m₁ := frame_modQb
  exact .mono (by decide) <| hheld.step <| .either .rfl <| frame_qaccept.step frame_qwatch

theorem Module.frame_qanswer : Frame [.out, .qlk] m (m.qanswer c b) := .mono (by decide) <| frame_emit.step frame_modQb

theorem Module.frame_qframe : Frame bundleKinds m (m.qframe c b f late) := by
  unfold Module.qframe
  refine .ite (.refl _ m) ?_
  extract_lets half q roll want okWin m₁ m₂ ack adv m₃ ch cr m₄ q₄ m₅ m₆
  have hroll (d : Option (Nat × List QSlot)) (m : Module) : Frame [.qlk] m (roll d m) := frame_modQb
  have hanswer {m : Module} : Frame bundleKinds m (((m.qwatch c b).qpump c b).qanswer c b) :=
    .mono (by decide) <| frame_qwatch.step <| frame_qpump.step frame_qanswer
  have hretry {m : Module} {again : Bool} : Frame [.regs, .qlk] m ((m.count Reg.qlkFrameErr_count 1 [c]).askRetry c b again) :=
    .mono (by decide) <| frame_reg.step frame_askRetry
  have hwindow : Frame [.regs, .qlk] m m₁ :=
    .ite (.ite (.foldl fun _ _ => frame_qaccept) hretry) <| .ite (.refl _ m) (frame_reg.mono (by decide))
  have hacked : Frame [.qlk] m₂ m₃ := .ite frame_modQb (.refl _ m₂)
  have hcredits : Frame [.qlk] m₃ m₄ := frame_modQb
  have hreplay : Frame [.out, .regs, .qlk] m₄ m₅ := .ite frame_qreplay (.refl _ m₄)
  have hall : Frame bundleKinds m m₆ := .mono (by decide) <| hwindow.step <| (hroll _ m₁).step <| hacked.step <| hcredits.step <|
    hreplay.step hanswer
  refine .ite (.mono (by decide) <| hretry.step <| (hroll _ _).step hanswer) <| .ite ?_ <| hall.trans <| .ite frame_retrain (.refl _ m₆)
  exact .mono (by decide) <| (Frame.either frame_askRetry .rfl).step <| (hroll _ _).step <| frame_qwatch.step frame_qanswer

theorem Module.frame_qackTimeout : Frame bundleKinds m (m.qackTimeout c b) := by
  unfold Module.qackTimeout
  refine .ite (.refl _ m) ?_
  extract_lets n m₁
  have hcounted : Frame [.regs, .qlk] m m₁ := frame_reg.step frame_modQb
  exact .mono (by decide) <| hcounted.step <| .either (frame_modQb.step frame_retrain) frame_qreplay

theorem Module.frame_qclear : Frame [.regs] m (m.qclear c) := .foldl fun _ _ => frame_reg

end Bundles

/-! ### Training, width and retirement (R94, R361, R362, R371 to R375) -/

section Training
variable {m : Module} {c b major minor lanes mask maxLen retimers bad s : Nat} {credits rx tx : List Nat} {less fill stage failed : Bool}

theorem Module.frame_qcap : Frame bundleKinds m (m.qcap c b major minor lanes mask maxLen retimers credits) := by
  unfold Module.qcap
  refine .ite (.refl _ m) ?_
  extract_lets offer agreed len code same bad m₁ m₂
  have hagreed : Frame [.qlk, .regs] m m₂ := .mono (by decide) <| frame_modQb.step <| frame_reg.step <| frame_reg.step <|
    frame_reg.step <| frame_reg.step frame_reg
  refine .ite (.mono (by decide) <| frame_modQb.step <| frame_reg.step <| frame_reg.step frame_qlkRec) <|
    .trans (hagreed.mono (by decide)) <| .ite ?_ (.refl _ m₂)
  split
  · next hmaps => exact .mono (by decide) <| (frame_chooseMaps hmaps).step frame_emit
  · exact .refl _ m₂

theorem Module.frame_qmap : Frame bundleKinds m (m.qmap c b rx tx) :=
  .mono (by decide) <| .either .rfl <| .either frame_emit <| .either frame_emit <| frame_reg.step frame_retrain

/-- The kinds of state that a bundle's coming up or its retirement may change: the die acts on its width. -/
abbrev widthKinds : List Kind := [.free, .out, .regs, .hub, .saf, .tines, .ctx, .host, .seqs, .seqWait, .lasers, .links, .rte, .qlk]

theorem Module.frame_widthEffect : Frame widthKinds m (m.widthEffect c b less) := by
  unfold Module.widthEffect
  extract_lets p n put
  have hput (fibre : Nat) (m : Module) : Frame [.free, .out, .regs, .links] m (put fibre m) := .ite (.refl _ m) frame_startMap
  exact .mono (by decide) <| .either (.either (frame_reg.step frame_retire) .rfl) <|
    .either (.either .rfl <| .either (frame_setFirn.step frame_portLost) <| (hput 0 m).step (hput 1 _)) .rfl

theorem Module.frame_retireBundle : Frame widthKinds m (m.retireBundle c b) :=
  .mono (by decide) <| frame_modQb.step <| frame_reg.step <| frame_saf.step <| frame_showConn.step <| frame_qlkRec.step frame_widthEffect

theorem Module.frame_bundleUp : Frame widthKinds m (m.bundleUp c b) := by
  unfold Module.bundleUp
  extract_lets q was m₁ less m₂ m₃
  have hup : Frame [.regs] m m₁ := frame_reg.trans <| frame_reg.trans frame_showConn
  have hrec : Frame [.out, .regs, .saf, .host] m₁ m₂ := .ite frame_qlkRec (.refl _ m₁)
  have hwidth : Frame widthKinds m₂ m₃ := frame_widthEffect
  exact .ite (.refl _ m) <| .ite (.refl _ m) <| .mono (by decide) <| hup.step <| hrec.step <| hwidth.step <|
    .either (frame_qreplay.step frame_qpump) frame_qpump

theorem Module.frame_qmapAck : Frame widthKinds m (m.qmapAck c b rx tx) :=
  .mono (by decide) <| .either (frame_modQb.step <| frame_emit.step frame_bundleUp) .rfl

theorem Module.frame_qready : Frame widthKinds m (m.qready c b) :=
  .mono (by decide) <| .either (frame_modQb.step frame_bundleUp) .rfl

theorem Module.frame_qtestStart : Frame bundleKinds m (m.qtestStart c b bad) :=
  .mono (by decide) <| .either .rfl <| frame_modQb.step <| frame_emit.step frame_testDone

theorem Module.frame_qtestResult : Frame bundleKinds m (m.qtestResult c b bad) :=
  .mono (by decide) <| .either .rfl <| frame_modQb.step frame_testDone

theorem Module.frame_bundleRetrain : Frame bundleKinds m (m.bundleRetrain c b failed) := by
  unfold Module.bundleRetrain
  extract_lets n m₁
  have hcounted : Frame [.regs] m m₁ := frame_reg
  exact .mono (by decide) <| .either frame_retrain <| .either .rfl <| hcounted.step <| .either
    (frame_reg.step <| frame_modQb.step frame_emit) .rfl

theorem Module.frame_fillLost : Frame [.out, .regs, .saf, .tines, .ctx] m (m.fillLost s) := by
  unfold Module.fillLost
  split
  · exact .refl _ m
  · exact frame_fillFaulted

theorem Module.frame_bundleRetire : Frame widthKinds m (m.bundleRetire c b fill stage) := by
  unfold Module.bundleRetire
  refine .ite (.refl _ m) ?_
  extract_lets m₁ m₂ lost m₃
  have hretired : Frame widthKinds m m₁ := frame_retireBundle
  have hfill : Frame [.out, .regs, .saf, .tines, .ctx] m₁ m₂ := .ite frame_fillLost (.refl _ m₁)
  have hstage : Frame [.out, .regs, .saf, .tines] m₂ m₃ := .ite frame_stageFault (.refl _ m₂)
  exact .mono (by decide) <| hretired.step <| hfill.step <| hstage.step frame_alerts

theorem Module.frame_partialReset :
    Frame [.out, .regs, .hub, .saf, .tines, .host, .seqs, .seqWait, .optics, .lasers, .links, .rte, .qlk] m (m.partialReset c) := by
  unfold Module.partialReset
  extract_lets m₁ m₂ m₃
  have hstage : Frame [.out, .regs, .saf, .tines] m m₁ := .ite frame_stageFault (.refl _ m)
  have hdown : Frame [.regs, .qlk] m₁ m₂ := .ite frame_guestDown frame_connDown
  have hports : Frame [.out, .regs, .hub, .saf, .host, .seqs, .seqWait, .optics, .lasers, .links, .rte] m₂ m₃ :=
    .ite (.foldl fun _ _ => .mono (by decide) <| frame_portDown.step frame_wakePort) (.refl _ m₂)
  exact .mono (by decide) <| hstage.step <| hdown.step <| hports.step frame_trainConn

end Training

/-! ### Guest messages (R357, R358, R364) -/

section Guests
variable {m : Module} {ks : List Kind} {g cls op chan mw : Nat} {x : QMsg} {k : Module → QMsg → Module} {h : Module → Module}
  {f : Nat → Nat → Nat → Nat}

/-- A message is judged and refused, or acted on: what it may change is what its refusal and its meaning may. -/
theorem Module.frame_guestMsg (hks : [.out, .regs, .saf, .qlk] ⊆ ks) (hk : ∀ m x, Frame ks m (k m x)) : Frame ks m (m.guestMsg g cls op k) := by
  unfold Module.guestMsg
  split
  · exact .refl _ m
  · refine .ite (.refl _ m) ?_
    extract_lets m₁ cause
    have htaken : Frame [.qlk] m m₁ := frame_modGuest
    have hqlk : [Kind.qlk] ⊆ [Kind.out, Kind.regs, Kind.saf, Kind.qlk] := by decide
    exact (htaken.mono (List.Subset.trans hqlk hks)).trans <| .ite (frame_fwRefuse.mono hks) (hk m₁ _)

theorem Module.frame_guestAccess (hks : [.out, .regs, .saf, .qlk] ⊆ ks) (hh : Frame ks m (h m)) : Frame ks m (m.guestAccess g x h) := by
  unfold Module.guestAccess
  split
  · have hanswered {a n : Nat} : Frame [.out, .regs, .saf, .qlk] m ((m.addrInvalid (0x69 + g) a n).respond g x 2 []) :=
      .mono (by decide) <| frame_addrInvalid.step frame_respond
    exact hanswered.mono hks
  · exact hh

theorem Module.frame_guestRd : Frame cohKinds m (m.guestRd g) := frame_guestMsg (by decide) fun _ x =>
  frame_guestAccess (by decide) <| .mono (by decide) <| (frame_readGrans (x.aux + 1) _ x.addr).step frame_respond

theorem Module.frame_guestWr : Frame [.out, .regs, .dev, .saf, .qlk] m (m.guestWr g) := frame_guestMsg (by decide) fun _ _ =>
  frame_guestAccess (by decide) <| .mono (by decide) <| (frame_writeGrans _ _ _).step frame_respond

theorem Module.frame_guestWrMasked : Frame cohKinds m (m.guestWrMasked g) := frame_guestMsg (by decide) fun _ _ =>
  frame_guestAccess (by decide) <| frame_devWriteMasked.mono (by decide)

theorem Module.frame_guestAtomic : Frame cohKinds m (m.guestAtomic g op f) := frame_guestMsg (by decide) fun m x =>
  frame_guestAccess (by decide) <| .mono (by decide) <|
    (frame_devRead (m := m) (a := x.addr / 8 * 8 - x.addr / 8 * 8 % 16) (src := 3) (sev := sevDegraded)).step <|
    frame_devWriteMasked.step frame_respond

theorem Module.frame_guestCopy : Frame cohKinds m (m.guestCopy g) := frame_guestMsg (by decide) fun m x =>
  frame_guestAccess (by decide) <| .mono (by decide) <|
    (frame_readGrans (bitsOf (x.payload.headD (0, 0)).1 95 64) m x.addr).step <| (frame_writeGrans _ _ _).step frame_respond

theorem Module.frame_sendDue : Frame [.out, .qlk] m (m.sendDue g cls op chan) := by
  unfold Module.sendDue
  split
  · exact .mono (by decide) <| frame_modGuest.step frame_qsend
  · exact .refl _ m

theorem Module.frame_guestEvent : Frame [.out, .regs, .saf, .qlk] m (m.guestEvent g) :=
  frame_guestMsg (by decide) fun _ _ => frame_msix.mono (by decide)

theorem Module.frame_clrViol : Frame [.regs, .qlk] m (m.clrViol g) :=
  .mono (by decide) <| frame_modGuest.step <| .foldl (ks := [.regs]) fun _ _ => frame_reg

theorem Module.frame_guestOverpower : Frame [.out, .regs, .saf, .seqs, .seqWait] m (m.guestOverpower g) :=
  .mono (by decide) <| frame_fence.step frame_seqStart

theorem Module.frame_guestPower : Frame [.out, .regs, .saf, .host, .seqs, .seqWait] m (m.guestPower g mw) := by
  unfold Module.guestPower
  refine .ite (.refl _ m) ?_
  extract_lets m₁
  have hrec : Frame [.out, .regs, .saf, .host] m m₁ := .ite frame_thermRec (.refl _ m)
  exact .mono (by decide) <| hrec.step <| .either frame_guestOverpower .rfl

end Guests

/-! ### Coherence (R359) -/

section Coherence
variable {m : Module} {g op who line : Nat} {x : QMsg} {s : Snoop} {inv : Bool}

theorem Module.frame_cohWait : Frame cohKinds m (m.cohWait who x) := .mono (by decide) <| frame_qlk.step frame_cohWake

theorem Module.frame_cohRequest : Frame cohKinds m (m.cohRequest g op) :=
  frame_guestMsg (by decide) fun _ _ => .mono (by decide) <| frame_snoopLine.step frame_cohWait

theorem Module.frame_cohWriteBack : Frame [.out, .regs, .dev, .saf, .qlk] m (m.cohWriteBack g) :=
  frame_guestMsg (by decide) fun _ _ => .mono (by decide) <| (frame_writeGrans _ _ _).step frame_setLine

theorem Module.frame_cohEvict : Frame [.out, .regs, .saf, .qlk] m (m.cohEvict g) :=
  frame_guestMsg (by decide) fun _ _ => frame_setLine.mono (by decide)

theorem Module.frame_sendSnoop : Frame [.out, .qlk] m (m.sendSnoop g inv) := by
  unfold Module.sendSnoop
  split
  · exact .mono (by decide) <| frame_qlk.step frame_qsend
  · exact .refl _ m

theorem Module.frame_snoopOver : Frame cohKinds m (m.snoopOver s) :=
  .mono (by decide) <| frame_setLine.step <| frame_qlk.step frame_cohWake

theorem Module.frame_snoopAck : Frame cohKinds m (m.snoopAck g) := frame_guestMsg (by decide) fun m x => by
  split
  · exact .mono (by decide) <| (Frame.either (frame_writeGrans _ _ _) .rfl).step frame_snoopOver
  · exact .refl _ m

theorem Module.frame_snoopTimeout : Frame cohKinds m (m.snoopTimeout g line) := by
  unfold Module.snoopTimeout
  split
  · extract_lets m₁ dead snoops m₂
    have hpoison : Frame [.out, .regs, .dev, .saf] m m₁ := frame_writeGrans _ _ _
    have hdead : Frame [.qlk] m₁ m₂ := frame_qlk
    exact .mono (by decide) <| hpoison.step <| hdead.step <| frame_violation.step frame_snoopOver
  · exact .refl _ m

end Coherence

/-! ### Debug (R360) -/

section Debug
variable {m : Module} {status data conn c op off : Nat} {write : Bool}

theorem Module.frame_dbgEnd : Frame [.regs, .qlk] m (m.dbgEnd status data) := by
  unfold Module.dbgEnd
  split
  · exact .refl _ m
  · extract_lets ended m₁
    have hended : Frame [.qlk, .regs] m m₁ := .mono (by decide) <| frame_qlk.step <| frame_reg.step frame_reg
    exact .mono (by decide) <| hended.step <| .either frame_reg .rfl

theorem Module.frame_dbgGo : Frame [.out, .regs, .qlk] m (m.dbgGo write conn) := by
  unfold Module.dbgGo
  extract_lets m₀ a d sent m₁
  have hfields : Frame [.regs] m m₀ := frame_reg.trans frame_reg
  have hset : Frame [.qlk] m₀ m₁ := frame_qlk
  exact .mono (by decide) <| hfields.step <| .either .rfl <| hset.step <| frame_reg.step frame_qsend

theorem Module.frame_dbgAnswer : Frame [.out, .regs, .saf, .qlk] m (m.dbgAnswer c op) := by
  have hend {m : Module} {status data : Nat} : Frame [.out, .regs, .saf, .qlk] m (m.dbgEnd status data) := frame_dbgEnd.mono (by decide)
  unfold Module.dbgAnswer
  refine .ite ?_ <| .ite (frame_sendDue.mono (by decide)) <| frame_guestMsg (by decide) fun _ _ => hend
  split
  · split
    · exact .ite hend (.refl _ m)
    · exact .refl _ m
  · exact .refl _ m

theorem Module.frame_dbgSet : Frame [.qlk] m (m.dbgSet status data) := frame_qlk

/-- A read of the register file sets the high word that a low word's read latches, and sends nothing. -/
theorem Module.frame_readAt : Frame [.out, .regs] m (m.readAt off).2 := by
  unfold Module.readAt
  split
  · exact .refl _ m
  · extract_lets m₁
    have hlatch : Frame [.out, .regs] m m₁ := .ite frame_readRoundLo <| .ite frame_readCyclesLo <| .ite frame_readPassesLo <|
      .ite frame_readAcceptedLo <| .ite frame_readOpsecLo (.refl _ m)
    exact .mono (by decide) <| hlatch.step frame_out

theorem Module.frame_dbgRead : Frame [.out, .regs, .saf, .qlk] m (m.dbgRead c) := by
  unfold Module.dbgRead
  refine .ite (frame_guestMsg (by decide) fun m _ => .refl _ m) ?_
  split
  · exact .refl _ m
  · split
    · exact frame_dbgSet.mono (by decide)
    · next off _ => exact .mono (by decide) <| (frame_readAt (off := off)).step frame_dbgSet

theorem Module.frame_dbgTimeout : Frame [.regs, .qlk] m m.dbgTimeout := frame_dbgEnd

end Debug

/-- Settles O57: every Quinhorn, guest and debug command completes, within its kinds of state. -/
theorem quinhornCommandsComplete : Obligations.QuinhornCommandsComplete := fun s =>
  ⟨fun conn b frame late h => completesIn_of_frame (exec_qlkLinkFrame conn b frame late s) rfl h Module.frame_qframe,
    fun conn b d check h => completesIn_of_frame (exec_qlkGranule conn b d check s) rfl h Module.frame_qgranule,
    fun conn b h => completesIn_of_frame (exec_qlkAckTimeout conn b s) rfl h Module.frame_qackTimeout,
    fun conn b h => completesIn_of_frame (exec_qlkClockLoss conn b s) rfl h Module.frame_retrain,
    fun conn b major minor lanes mask maxLen retimers credits h =>
      completesIn_of_frame (exec_cap conn b major minor lanes mask maxLen retimers credits s) rfl h Module.frame_qcap,
    fun conn b rx tx h => completesIn_of_frame (exec_qlkMap conn b rx tx s) rfl h Module.frame_qmap,
    fun conn b rx tx h => completesIn_of_frame (exec_qlkMapAck conn b rx tx s) rfl h Module.frame_qmapAck,
    fun conn b failed h => completesIn_of_frame (exec_testStart conn b failed s) rfl h Module.frame_qtestStart,
    fun conn b failed h => completesIn_of_frame (exec_testResult conn b failed s) rfl h Module.frame_qtestResult,
    fun conn b h => completesIn_of_frame (exec_qlkRetrainReq conn b s) rfl h Module.frame_retrain,
    fun conn b h => completesIn_of_frame (exec_ready conn b s) rfl h Module.frame_qready,
    fun conn b failed h => completesIn_of_frame (exec_bundleRetrain conn b failed s) rfl h Module.frame_bundleRetrain,
    fun conn b fill stage h => completesIn_of_frame (exec_bundleRetire conn b fill stage s) rfl h Module.frame_bundleRetire,
    fun conn b h => completesIn_of_frame (exec_qlkRetrain conn b s) rfl h Module.frame_retrain,
    fun conn h => completesIn_of_frame (exec_qlkClrAll conn s) rfl h Module.frame_qclear,
    fun conn h => completesIn_of_frame (exec_partialReset conn s) rfl h Module.frame_partialReset,
    fun g h => completesIn_of_frame (exec_rd g s) rfl h Module.frame_guestRd,
    fun g h => completesIn_of_frame (exec_rdResp g s) rfl h Module.frame_sendDue,
    fun g h => completesIn_of_frame (exec_wr g s) rfl h Module.frame_guestWr,
    fun g h => completesIn_of_frame (exec_wrMasked g s) rfl h Module.frame_guestWrMasked,
    fun g h => completesIn_of_frame (exec_wrAck g s) rfl h Module.frame_sendDue,
    fun g h => completesIn_of_frame (exec_atAdd g s) rfl h Module.frame_guestAtomic,
    fun g h => completesIn_of_frame (exec_atSwap g s) rfl h Module.frame_guestAtomic,
    fun g h => completesIn_of_frame (exec_atCas g s) rfl h Module.frame_guestAtomic,
    fun g h => completesIn_of_frame (exec_atResp g s) rfl h Module.frame_sendDue,
    fun g h => completesIn_of_frame (exec_guestCopy g s) rfl h Module.frame_guestCopy,
    fun g h => completesIn_of_frame (exec_rdS g s) rfl h Module.frame_cohRequest,
    fun g h => completesIn_of_frame (exec_rdM g s) rfl h Module.frame_cohRequest,
    fun g h => completesIn_of_frame (exec_upg g s) rfl h Module.frame_cohRequest,
    fun g h => completesIn_of_frame (exec_wbM g s) rfl h Module.frame_cohWriteBack,
    fun g h => completesIn_of_frame (exec_cohEvict g s) rfl h Module.frame_cohEvict,
    fun g h => completesIn_of_frame (exec_cohGrant g s) rfl h Module.frame_sendDue,
    fun g h => completesIn_of_frame (exec_snpInv g s) rfl h Module.frame_sendSnoop,
    fun g h => completesIn_of_frame (exec_snpS g s) rfl h Module.frame_sendSnoop,
    fun g h => completesIn_of_frame (exec_snpAck g s) rfl h Module.frame_snoopAck,
    fun g line h => completesIn_of_frame (exec_snoopTimeout g line s) rfl h Module.frame_snoopTimeout,
    fun g h => completesIn_of_frame (exec_event g s) rfl h Module.frame_guestEvent,
    fun conn h => completesIn_of_frame (exec_drd conn s) rfl h Module.frame_dbgRead,
    fun conn h => completesIn_of_frame (exec_drdResp conn s) rfl h Module.frame_dbgAnswer,
    fun conn h => completes_of_act (exec_dwr conn s) h,
    fun conn h => completesIn_of_frame (exec_dwrAck conn s) rfl h Module.frame_dbgAnswer,
    completesIn_of_frame (exec_debugTimeout s) rfl rfl Module.frame_dbgTimeout,
    fun write conn h => completesIn_of_frame (exec_dbgGo write conn s) rfl h Module.frame_dbgGo,
    fun g h => completesIn_of_frame (exec_unfence g s) rfl h Module.frame_reg,
    fun g h => completesIn_of_frame (exec_clrViol g s) rfl h Module.frame_clrViol,
    fun g w v h => completesIn_of_frame (exec_winRightsWrite g w v s) rfl h Module.frame_winRights,
    fun g mw h => completesIn_of_frame (exec_guestOverpower g mw s) rfl h Module.frame_guestPower⟩

end Sys2Proof.Machine
end

section
/-! PROOFS. What the fabric link commands leave unchanged (R304 to R324): flits received, initialisation, lane maps, ports. -/

namespace Sys2Proof.Machine

/-! ### Sending and receiving (R304 to R314) -/

section Receiving
variable {m : Module} {ks : List Kind} {p v n ack nak cv ch cd seq hdr : Nat} {late : Bool} {f : TxFlit} {k : Module → Module}
  {g : Nat × Nat} {gs : List (Nat × Nat)} {counts : List (Nat × Nat × Nat × Nat × Nat × Nat)}

/-- The kinds of state that a flit received may change. -/
abbrev flitKinds : List Kind := [.out, .regs, .saf, .host, .links]

theorem Module.frame_putTx : Frame [.out, .regs, .links] m (m.putTx p f) := linkMoves_putTx.frame

theorem Module.frame_replayAll : Frame [.out, .regs, .links] m (m.replayAll p) := by
  unfold Module.replayAll
  extract_lets l m₁
  have hsent : Frame [.out, .regs, .links] m m₁ := .foldl fun _ _ => frame_putTx
  exact .mono (by decide) <| hsent.step <| frame_reg.step frame_modLink

theorem Module.frame_answer : Frame [.out, .regs, .links] m (m.answer p) := by
  unfold Module.answer
  extract_lets n m₁
  have hpump : Frame [.out, .regs, .links] m m₁ := frame_pump
  exact hpump.trans <| .ite (linkMoves_putFlit.frame.trans frame_showLink) (.refl _ m₁)

theorem Module.frame_flitCame : Frame [.links] m (m.flitCame p) := frame_modLink

theorem Module.frame_nak : Frame [.regs] m (m.nak p) := frame_reg

theorem Module.frame_badFlit : Frame [.out, .regs, .links] m (m.badFlit p) :=
  .mono (by decide) <| frame_flitCame.step <| frame_reg.step <| frame_nak.step frame_answer

theorem Module.frame_creditLeak : Frame flitKinds m (m.creditLeak p) := by
  unfold Module.creditLeak
  extract_lets m₁
  have hleaked : Frame [.saf, .regs, .links] m m₁ := .mono (by decide) <| frame_portFault.step <| frame_reg.step <|
    frame_reg.step frame_modLink
  exact .mono (by decide) <| hleaked.step <| frame_linkRec.step frame_reinitAsk

theorem Module.frame_endOldAdv : Frame [.regs, .links] m (m.endOldAdv p) :=
  .mono (by decide) <| frame_modLink.step <| .foldl (ks := [.regs]) fun _ _ => frame_reg.trans frame_reg

theorem Module.frame_takeReturns : Frame flitKinds m (m.takeReturns p ack nak cv ch cd late) := by
  unfold Module.takeReturns
  extract_lets m₀ l adv m₁ l₁ dh dd okH okD m₂
  have hcame : Frame [.links] m m₀ := frame_flitCame
  have hacked : Frame [.regs, .links] m₀ m₁ :=
    .mono (by decide) <| .either (.either .rfl <| frame_reg.step <| frame_modLink.step frame_endOldAdv) frame_reg
  have hreturned : Frame flitKinds m₁ m₂ := .mono (by decide) <| .either frame_modLink frame_creditLeak
  exact .mono (by decide) <| hcame.step <| hacked.step <| hreturned.step <| .either (.either .rfl frame_replayAll) .rfl

/-- A sequenced flit moves registers, and what it does once it is accepted. -/
theorem Module.frame_takeSeq (hks : [.regs] ⊆ ks) (hk : ∀ m, Frame ks m (k m)) : Frame ks m (m.takeSeq p seq k) := by
  have hreg {a : Module} {f : Fld} {v : Nat} {i : List Nat} : Frame ks a (a.wr f v i) := frame_reg.mono hks
  exact .ite ((hreg.trans hreg).trans (hk _)) <| .ite hreg hreg

theorem Module.frame_meshEntry : Frame [.regs] m (m.meshEntry p n g).2 := by
  unfold Module.meshEntry
  split
  · exact .refl _ m
  · exact frame_reg.trans frame_reg
  · exact frame_reg.trans frame_reg
  · exact .refl _ m
  · exact .refl _ m

theorem Module.frame_rxGranule : Frame [.regs, .links] m (m.rxGranule p v n g) := by
  unfold Module.rxGranule
  have hentry : Frame [.regs] m (m.meshEntry p n g).2 := frame_meshEntry
  split
  next g' m₀ heq =>
    rw [heq] at hentry
    extract_lets old owe owe' m₁ part
    have howed : Frame [.regs, .links] m m₁ := hentry.step frame_modLink
    clear_value part
    split
    · exact .mono (by decide) <| howed.step <| .either frame_modLink <| frame_modLink.step <|
        .either (frame_reg.step frame_freeRx) frame_modLink
    · exact .mono (by decide) <| howed.step frame_modLink

theorem Module.frame_rxData : Frame [.regs, .links] m (m.rxData p v n gs) :=
  .mono (by decide) <| frame_modLink.step <| .foldl (ks := [.regs, .links]) fun _ _ => frame_rxGranule

theorem Module.frame_dataFlit : Frame flitKinds m (m.dataFlit p hdr gs late) := by
  unfold Module.dataFlit
  refine .ite (.refl _ m) ?_
  extract_lets body m₁ m₂ m₃
  have hreturns : Frame flitKinds m m₁ := frame_takeReturns
  have hseq : Frame [.regs, .links] m₁ m₂ :=
    .ite (.mono (by decide) <| .either .rfl frame_nak) <| .ite (frame_takeSeq (by decide) fun m => .refl _ m) <|
      .ite (.refl _ m₁) (frame_takeSeq (by decide) fun _ => frame_rxData)
  have hflit : Frame [.links] m₂ m₃ := frame_modLink
  exact .mono (by decide) <| .either frame_badFlit <| hreturns.step <| hseq.step <| hflit.step frame_answer

theorem Module.frame_idleFlit : Frame flitKinds m (m.idleFlit p hdr late) := by
  unfold Module.idleFlit
  refine .ite (.refl _ m) ?_
  extract_lets body m₁ m₂
  have hreturns : Frame flitKinds m m₁ := frame_takeReturns
  have hseq : Frame [.regs] m₁ m₂ := .ite (.refl _ m₁) frame_nak
  exact .mono (by decide) <| .either frame_badFlit <| hreturns.step <| hseq.step frame_pump

/-- A CTL flit moves what every flit moves, and what its message does. -/
theorem Module.frame_ctlFlit (hks : flitKinds ⊆ ks) (hk : ∀ m, Frame ks m (k m)) : Frame ks m (m.ctlFlit p hdr late k) := by
  have hregs : [Kind.regs] ⊆ flitKinds := by decide
  have hseq {m : Module} : Frame ks m (m.takeSeq p (bitsOf hdr 15 0) k) := frame_takeSeq (List.Subset.trans hregs hks) hk
  have hanswer {m : Module} : Frame flitKinds m (m.answer p) := frame_answer.mono (by decide)
  exact .ite hseq <| .ite (.refl _ m) <| (frame_takeReturns.mono hks).trans <| hseq.trans (hanswer.mono hks)

theorem Module.frame_creditAudit : Frame flitKinds m (m.creditAudit p counts) := by
  unfold Module.creditAudit
  extract_lets l inFlight bad starved m₁
  have hstarved : Frame [.links] m m₁ := frame_modLink
  exact .mono (by decide) <| hstarved.step <| .either frame_creditLeak .rfl

theorem Module.frame_ackTimeout : Frame retrainKinds m (m.ackTimeout p) := by
  unfold Module.ackTimeout
  refine .ite (.refl _ m) ?_
  extract_lets n m₀ m₁
  have hfault : Frame [.saf, .links] m m₀ := .ite frame_portFault (.refl _ m)
  have hrec : Frame [.out, .regs, .saf] m₀ m₁ := .mono (by decide) <| frame_reg.step <| frame_reg.step frame_linkRec
  exact .mono (by decide) <| hfault.step <| hrec.step <| .either (frame_modLink.step frame_retrainAsk) (frame_modLink.step frame_replayAll)

theorem Module.frame_fabClr : Frame [.regs] m (m.fabClr p) := .ite frame_clrs (.refl _ m)

end Receiving

/-! ### Initialisation (R315, R316, R323) -/

section Initialisation
variable {m : Module} {p pkg port serial role next : Nat} {seen : Bool} {advH advD : List Nat}

theorem Module.frame_initDone : Frame [.out, .regs, .links] m (m.initDone p) := by
  unfold Module.initDone
  extract_lets l m₁ acked adv m₂ m₃
  have hup : Frame [.regs, .links] m m₁ := .mono (by decide) <| frame_reg.step <| frame_reg.step frame_modLink
  have hacked : Frame [.regs, .links] m₁ m₂ := .mono (by decide) <| .either (frame_reg.step frame_modLink) .rfl
  have hused : Frame [.links] m₂ m₃ := frame_modLink
  exact .ite (.refl _ m) <| .mono (by decide) <| hup.step <| .either frame_pump <| hacked.step <| hused.step <|
    frame_replayAll.step frame_pump

theorem Module.frame_takeInit : Frame [.out, .regs, .saf, .links] m (m.takeInit p pkg port serial role next seen advH advD) := by
  unfold Module.takeInit
  extract_lets mine far both m₁ l old m₂ m₃ m₄
  have hpeer : Frame [.regs] m m₁ := frame_reg.trans <| frame_reg.trans frame_reg
  have hrefused {a : Module} {x y : Nat} {f : Fld} {ev : Nat} {d : List Nat} :
      Frame [.out, .regs, .saf] a ((((a.wr Reg.fabLinkStatus_state x [p]).wr Reg.fabLinkStatus_downReason y [p]).set1 f [p]).linkRec p ev sevDegraded d) :=
    .mono (by decide) <| frame_reg.step <| frame_reg.step <| frame_reg.step frame_linkRec
  have hadv : Frame [.regs] m₁ m₂ := .iter fun _ _ => .ite (.refl _ _) (frame_reg.trans frame_reg)
  have hseen : Frame [.links] m₂ m₃ := frame_modLink
  have hsent : Frame [.out, .links] m₃ m₄ := .ite (.refl _ m₃) frame_sendInit
  exact .mono (by decide) <| hpeer.step <| .either hrefused <| .either hrefused <| hadv.step <| hseen.step <| hsent.step <|
    frame_initDone.step frame_showLink

theorem Module.frame_initFlit : Frame endKinds m (m.initFlit p pkg port serial role next seen advH advD) := by
  unfold Module.initFlit
  refine .ite (.refl _ m) ?_
  extract_lets m₁
  have htaken : Frame endKinds m m₁ := frame_takeInit.mono (by decide)
  exact htaken.trans <| .ite (frame_routesChanged.mono (by decide)) <|
    .ite (.mono (by decide) <| frame_flushPort.step frame_linkFaults) (.refl _ m₁)

theorem Module.frame_initRetry : Frame [.out, .regs, .links] m (m.initRetry p) := .ite frame_startFresh (.refl _ m)

end Initialisation

/-! ### Lane maps (R318, R320, R321) -/

section Maps
variable {m : Module} {p fibre map x clk reason slot kind : Nat} {w : Option (Nat × Nat × Nat)} {c : MapChange} {passed : Bool}

theorem Module.frame_retrainReq : Frame retrainKinds m (m.retrainReq p kind) :=
  .mono (by decide) <| .either frame_fullRetrain frame_reinit

theorem Module.frame_wishMap : Frame [.links] m (m.wishMap p fibre w) := frame_modLink

theorem Module.frame_startWish : Frame [.free, .out, .regs, .links] m (m.startWish p fibre) := by
  unfold Module.startWish
  split
  · exact .refl _ m
  · exact .mono (by decide) <| frame_wishMap.step frame_startMap

theorem Module.frame_applyMap : Frame [.out, .regs, .saf, .optics, .links] m (m.applyMap p fibre c) := by
  unfold Module.applyMap
  extract_lets m₁ m₂ m₃
  have hset : Frame [.regs] m m₁ := frame_setMap.trans <| frame_reg.trans frame_reg
  have hrec : Frame [.out, .regs, .saf] m₁ m₂ := frame_linkRec
  have hsource : Frame [.regs, .links] m₂ m₃ := frame_reg.step frame_modLink
  exact .mono (by decide) <| hset.step <| hrec.step <| .either (frame_modOpt.step frame_modLink) <| hsource.step <| .either frame_reg .rfl

/-- The kinds of state that a map change asked by the far end may change: below 8 slots the port leaves UP. -/
abbrev askedKinds : List Kind := [.out, .regs, .hub, .saf, .host, .seqs, .seqWait, .lasers, .links, .rte]

theorem Module.frame_mapAsked : Frame askedKinds m (m.mapAsked p fibre map x clk passed) := by
  unfold Module.mapAsked
  extract_lets mine r c take old
  have htake (m : Module) : Frame [.links] m (take m) := frame_modLink
  refine .ite (.mono (by decide) <| frame_sendCtl.step <| frame_setFirn.step frame_portLost) <| .ite (frame_sendCtl.mono (by decide)) ?_
  clear_value mine take
  split
  · exact (htake m).mono (by decide)
  · exact .mono (by decide) <| .either .rfl <| frame_wishMap.step <| frame_sendCtl.step (htake _)

theorem Module.frame_mapAck : Frame portKinds m (m.mapAck p x map) := by
  unfold Module.mapAck
  extract_lets pat m₁ l
  have hdown : Frame portKinds m m₁ := .mono (by decide) <| frame_modOpt.step frame_dropLink
  refine .ite (hdown.trans <| frame_setFirn.mono (by decide)) ?_
  clear_value l
  split
  · exact .mono (by decide) <| .either frame_modLink .rfl
  · exact .refl _ m

/-- A change refused: asked again with a new X, given up with the port, or wished for later. -/
theorem Module.frame_refused {again : Module} {drop : Link → Link} (hagain : Frame [.free, .out, .regs, .links] m again) :
    Frame narrowKinds m (if reason = 1 then again else
      if reason = 3 then ((m.modLink p drop).setFirn p 0).portLost p true else (m.modLink p drop).wishMap p fibre w) :=
  .ite (hagain.mono (by decide)) <| .mono (by decide) <| .either (frame_modLink.step <| frame_setFirn.step frame_portLost)
    (frame_modLink.step frame_wishMap)

theorem Module.frame_mapReject : Frame narrowKinds m (m.mapReject p x reason) := by
  unfold Module.mapReject
  extract_lets l own
  clear_value l own
  split
  · exact frame_refused frame_startMap
  · exact frame_refused frame_startMap
  · exact .refl _ m

theorem Module.frame_mapSwitch : Frame swapKinds m (m.mapSwitch p fibre) := by
  unfold Module.mapSwitch
  extract_lets l
  split
  · exact .refl _ m
  · extract_lets m₁
    have happlied : Frame [.out, .regs, .saf, .optics, .links] m m₁ := .mono (by decide) <| frame_applyMap.step frame_modLink
    exact .mono (by decide) <| happlied.step <| .either (.either frame_swapAgreed .rfl) <| frame_sendCtl.step frame_startWish

theorem Module.frame_mapTimeout : Frame (.free :: retrainKinds) m (m.mapTimeout p) := by
  unfold Module.mapTimeout
  split
  · exact .refl _ m
  · exact .mono (by decide) <| .either .rfl <| .either (frame_modLink.step frame_retrainAsk) (frame_modLink.step frame_startMap)

theorem Module.frame_slotLost : Frame narrowKinds m (m.slotLost p slot) :=
  .mono (by decide) <| .either .rfl <| frame_reg.step <| frame_optRec.step frame_dropSlot

end Maps

/-! ### Ports (R284, R286, R322 to R324) -/

section Ports
variable {m : Module} {p txMap rxMap : Nat} {eyes : Bool}

theorem Module.frame_waveRetry : Frame [.regs, .seqs, .seqWait] m (m.waveRetry p) := by
  unfold Module.waveRetry
  refine .ite (.refl _ m) ?_
  split
  · exact .refl _ m
  · exact .mono (by decide) <| frame_reg.step <| frame_reg.step frame_seqStart

theorem Module.frame_loopReq : Frame portKinds m (m.loopReq p) :=
  .mono (by decide) <| frame_sendCtl.step <| frame_dropLink.step <| frame_modOpt.step frame_setFirn

theorem Module.frame_linkGrace : Frame downKinds m (m.linkGrace p) :=
  .mono (by decide) <| .either .rfl <| .either frame_portDown frame_portLost

theorem Module.frame_trainAgain : Frame [.regs, .cal, .seqs, .seqWait, .optics] m (m.trainAgain p) := .ite frame_trainPort (.refl _ m)

theorem Module.frame_graceExpiry : Frame (.cal :: portKinds) m (m.graceExpiry p) :=
  .mono (by decide) <| .either .rfl <| frame_dropLink.step <| frame_alerts.step frame_trainAgain

theorem Module.frame_flushNow : Frame (.cal :: portKinds) m (m.flushNow p) :=
  .mono (by decide) <| .either .rfl <| frame_dropLink.step frame_trainAgain

theorem Module.frame_phyUp : Frame [.out, .regs, .saf, .cal, .seqs, .seqWait, .optics, .links] m (m.phyUp p txMap rxMap eyes) := by
  unfold Module.phyUp
  refine .ite (.refl _ m) ?_
  extract_lets gone tx rx m₁ m₂ m₃
  have hmaps : Frame [.regs] m m₁ := frame_setMap.trans frame_setMap
  have hstate : Frame [.optics, .regs] m₁ m₂ := frame_modOpt.step frame_setFirn
  have hlink : Frame [.links] m₂ m₃ := frame_modLink
  exact .mono (by decide) <| .either frame_trainFail <| hmaps.step <| hstate.step <| hlink.step <|
    .either (frame_reg.step <| frame_linkRec.step frame_startResumed) <| .either frame_startFresh .rfl

end Ports

/-- Settles O55: every fabric link command completes, within its kinds of state. -/
theorem linkCommandsComplete : Obligations.LinkCommandsComplete := fun s =>
  ⟨fun p hdr grans late h => completesIn_of_frame (exec_dataFlit p hdr grans late s) rfl h Module.frame_dataFlit,
    fun p hdr late h => completesIn_of_frame (exec_idleFlit p hdr late s) rfl h Module.frame_idleFlit,
    fun p h => completesIn_of_frame (exec_flitCrcFail p s) rfl h Module.frame_badFlit,
    fun p h => completesIn_of_frame (exec_ackTimeout p s) rfl h Module.frame_ackTimeout,
    fun p pkg port serial role next seen advH advD h =>
      completesIn_of_frame (exec_init p pkg port serial role next seen advH advD s) rfl h Module.frame_initFlit,
    fun p hdr late kind h => completesIn_of_frame (exec_retrainReq p hdr late kind s) rfl h <|
      Module.frame_ctlFlit (by decide) fun _ => Module.frame_retrainReq,
    fun p hdr late map x clk passed h => completesIn_of_frame (exec_mapPropose p hdr late map x clk passed s) rfl h <|
      Module.frame_ctlFlit (by decide) fun _ => Module.frame_mapAsked,
    fun p hdr late map x clk passed h => completesIn_of_frame (exec_mapRequest p hdr late map x clk passed s) rfl h <|
      Module.frame_ctlFlit (by decide) fun _ => Module.frame_mapAsked,
    fun p hdr late x map h => completesIn_of_frame (exec_mapAck p hdr late x map s) rfl h <|
      Module.frame_ctlFlit (by decide) fun _ => Module.frame_mapAck.mono (by decide),
    fun p hdr late x reason h => completesIn_of_frame (exec_mapReject p hdr late x reason s) rfl h <|
      Module.frame_ctlFlit (by decide) fun _ => Module.frame_mapReject,
    fun p hdr late counts h => completesIn_of_frame (exec_creditAudit p hdr late counts s) rfl h <|
      Module.frame_ctlFlit (by decide) fun _ => Module.frame_creditAudit,
    fun p hdr late h => completesIn_of_frame (exec_loopReq p hdr late s) rfl h <|
      Module.frame_ctlFlit (by decide) fun _ => Module.frame_loopReq.mono (by decide),
    fun p fibre h => completesIn_of_frame (exec_mapSwitch p fibre s) rfl h Module.frame_mapSwitch,
    fun p h => completesIn_of_frame (exec_mapRequestTimeout p s) rfl h Module.frame_mapTimeout,
    fun p slot h => completesIn_of_frame (exec_slotLost p slot s) rfl h Module.frame_slotLost,
    fun p h => completesIn_of_frame (exec_crcFailTimeout p s) rfl h Module.frame_retrainAsk,
    fun p h => completesIn_of_frame (exec_waveRetry p s) rfl h Module.frame_waveRetry,
    fun p h => completesIn_of_frame (exec_linkGrace p s) rfl h Module.frame_linkGrace,
    fun p h => completesIn_of_frame (exec_graceExpiry p s) rfl h (Module.frame_graceExpiry.mono (by decide)),
    fun p h => completesIn_of_frame (exec_initRetry p s) rfl h Module.frame_initRetry,
    fun p txMap rxMap eyes h => completesIn_of_frame (exec_phyPortUp p txMap rxMap eyes s) rfl h Module.frame_phyUp,
    fun p h => completesIn_of_frame (exec_flushNow p s) rfl h (Module.frame_flushNow.mono (by decide)),
    fun p h => completesIn_of_frame (exec_retrainFull p s) rfl h Module.frame_retrainAsk,
    fun p h => completesIn_of_frame (exec_reinit p s) rfl h Module.frame_reinitAsk,
    fun p h => completesIn_of_frame (exec_fabClrAll p s) rfl h Module.frame_fabClr⟩

end Sys2Proof.Machine
end

section
/-! PROOFS. What the pairing commands leave unchanged (R377 to R402): the lease, claims, switch-over, and the delta stream. -/

namespace Sys2Proof.Machine

/-! ### Lease messages (R388, R389) -/

section Lease
variable {m : Module} {ks : List Kind} {p msg value succ dst pair epoch seq t e us : Nat} {f : Module → Lease → Pkt → Module}

/-- The kinds of state that a lease message sent or received may change. -/
abbrev leaseKinds : List Kind := [.out, .regs, .links, .rte, .pair]

theorem Module.frame_setLease : Frame [.regs, .pair] m (m.setLease t) := .mono (by decide) <| frame_pair.step frame_reg

theorem Module.frame_lease : Frame [.pair] m (m.lease msg value succ).2 := frame_pair

theorem Module.frame_answered : Frame [.pair] m (m.answered msg) := frame_pair

theorem Module.frame_replyLease : Frame [.out, .regs, .links, .rte] m (m.replyLease dst pair msg epoch seq value succ) := frame_sendLease

/-- A lease message under a new SEQ, sent. -/
theorem Module.frame_sendNew {d : Module → Nat} :
    Frame leaseKinds m ((m.lease msg value succ).2.sendLease (d (m.lease msg value succ).2) (m.lease msg value succ).1) :=
  .mono (by decide) <| frame_lease.step frame_sendLease

theorem Module.frame_takeLease (hks : [.regs, .links, .rte] ⊆ ks) (hf : ∀ m b h, Frame ks m (f m b h)) : Frame ks m (m.takeLease p msg f) :=
  frame_consume hks fun m h gs => by
    dsimp only
    split
    · exact hf _ _ _
    · exact .refl _ m

theorem Module.frame_autoHandover : Frame leaseKinds m m.autoHandover := .ite frame_askHandover (.refl _ m)

theorem Module.frame_handoverReq : Frame [.regs, .links, .rte, .pair] m (m.handoverReq p) :=
  frame_takeLease (by decide) fun m _ _ => .ite (frame_pair.mono (by decide)) (.refl _ m)

theorem Module.frame_renewPeriod : Frame leaseKinds m m.renewPeriod := by
  unfold Module.renewPeriod
  exact .ite (.mono (by decide) <| (frame_sendNew (d := Module.witnessPkg)).step <| .either frame_sendLease .rfl) (.refl _ m)

theorem Module.frame_renewAck : Frame [.regs, .links, .rte, .pair] m (m.renewAck p us) :=
  frame_takeLease (by decide) fun m _ _ => .mono (by decide) <| .either frame_pair <| .either (frame_pair.step frame_setLease) .rfl

theorem Module.frame_claimLease : Frame leaseKinds m m.claimLease :=
  .mono (by decide) <| .either (frame_answered.step frame_leaseRep) .rfl

theorem Module.frame_bindingEnd : Frame leaseKinds m m.bindingEnd := .mono (by decide) <| frame_pair.step frame_claimLease

theorem Module.frame_toJoining : Frame [.regs, .pair] m m.toJoining :=
  .mono (by decide) <| frame_setPair.step <| frame_reg.step <| frame_dropLease.step <| frame_askNoMore.step frame_pair

theorem Module.frame_leaseStatus : Frame leaseKinds m (m.leaseStatus p) := frame_takeLease (by decide) fun m b _ => by
  extract_lets m₁ st
  have hanswered : Frame [.pair] m m₁ := frame_answered
  exact .mono (by decide) <| .either .rfl <| hanswered.step <| .either (.either (frame_pair.step frame_claimLease) .rfl) <|
    .either frame_toJoining .rfl

theorem Module.frame_formFailed : Frame [.out, .regs, .host, .pair] m (m.formFailed value) := by
  unfold Module.formFailed
  split
  · exact .mono (by decide) <| frame_reg.step <| frame_reg.step <| frame_reg.step <| frame_askNoMore.step <| frame_pair.step frame_finish
  · exact .refl _ m

theorem Module.frame_deny : Frame [.out, .regs, .host, .links, .rte, .pair] m (m.deny p) := frame_takeLease (by decide) fun m _ _ => by
  extract_lets m₁
  have hanswered : Frame [.pair] m m₁ := frame_answered
  exact .mono (by decide) <| .either .rfl <| .either frame_formFailed <| .either (hanswered.step <| frame_pair.step frame_leaseRep) .rfl

theorem Module.frame_leaseRepeat {i : Nat} {overdue : Bool} :
    Frame [.out, .regs, .host, .links, .rte, .pair] m (m.leaseRepeat i overdue) := by
  unfold Module.leaseRepeat
  split
  · exact .refl _ m
  · refine .ite (frame_formFailed.mono (by decide)) ?_
    split
    · exact frame_sendLease.mono (by decide)
    · exact frame_pair.mono (by decide)
    · exact .mono (by decide) <| frame_sendLease.step frame_pair

theorem Module.frame_announceRepeat : Frame leaseKinds m (m.announceRepeat p) := by
  unfold Module.announceRepeat
  split
  · exact .refl _ m
  · exact .mono (by decide) <| .either frame_pair (frame_sendLease.step frame_pair)

theorem Module.frame_announce : Frame [.free, .out, .regs, .links, .rte] m (m.announce p) := frame_takeLease (by decide) fun m b h => by
  extract_lets old old' m₁
  have hredirect : Frame [.out, .regs, .links, .rte] m m₁ := .mono (by decide) <| frame_writeRedirect.step frame_replyLease
  exact .mono (by decide) <| hredirect.step <| .foldl (ks := [.free, .out, .regs, .links, .rte]) fun m _ => .ite frame_resendSub (.refl _ m)

end Lease

/-! ### Leaving service, claiming (R381, R387, R389, R392, R394) -/

section Leaving
variable {m : Module} {p cls sub : Nat} {detail : List Nat}

/-- The kinds of state that a member leaving service may change: its work is given up. -/
abbrev fenceKinds : List Kind := [.free, .out, .regs, .saf, .tines, .mesh, .ctx, .host, .adm, .links, .rte, .pair]

theorem Module.frame_toFenced : Frame fenceKinds m m.toFenced := by
  unfold Module.toFenced
  extract_lets m₁ numbers m₂
  have hgiven : Frame fenceKinds m m₁ := .mono (by decide) <| frame_dropLease.step <| frame_setPair.step <| frame_reg.step <|
    frame_dropQueued.step frame_discardWork
  have hnumbers : Frame [.pair] m₁ m₂ := frame_pair
  exact .mono (by decide) <| hgiven.step <| hnumbers.step <| .either .rfl frame_leaseRep

theorem Module.frame_selfFence : Frame [.out, .regs, .saf, .pair] m m.selfFence :=
  .mono (by decide) <| .either (frame_pair.step frame_pairEvent) .rfl

theorem Module.frame_leaseExpiry : Frame fenceKinds m m.leaseExpiry := .ite frame_toFenced (.refl _ m)

theorem Module.frame_failFastSteps : Frame fenceKinds m m.failFastSteps :=
  .mono (by decide) <| .either (frame_dropQueued.step <| frame_leaseRep.step <| frame_leaseRep.step <| frame_leaseRep.step <|
    frame_pairEvent.step frame_toFenced) .rfl

theorem Module.frame_failFastEvent : Frame fenceKinds m (m.failFastEvent cls sub detail) :=
  .mono (by decide) <| .either (frame_report.step frame_failFastSteps) <| .either frame_failFastSteps .rfl

theorem Module.frame_standbyLost : Frame [.out, .regs, .saf, .host, .pair] m m.standbyLost :=
  .mono (by decide) <| .either .rfl <| frame_setPair.step <| frame_reg.step <| frame_pairEvent.step <| frame_charge.step frame_pair

theorem Module.frame_standbyLoss : Frame [.out, .regs, .saf, .host, .pair] m m.standbyLoss := .ite frame_standbyLost (.refl _ m)

theorem Module.frame_handoverRefused : Frame [.out, .regs, .host, .pair] m m.handoverRefused := by
  unfold Module.handoverRefused
  extract_lets cmd m₁
  have hgiven : Frame [.pair] m m₁ := frame_pair
  split
  · exact .mono (by decide) <| hgiven.step frame_finish
  · exact hgiven.mono (by decide)

theorem Module.frame_claim : Frame [.out, .regs, .host, .links, .rte, .pair] m m.claim :=
  .mono (by decide) <| .either .rfl <| frame_handoverRefused.step <| frame_setPair.step <| frame_reg.step <| frame_pair.step frame_leaseRep

theorem Module.frame_closeTimeout : Frame [.out, .regs, .host, .links, .rte, .pair] m m.closeTimeout := frame_claim

/-- The kinds of state that a standby's claim after a fault may change. -/
abbrev claimKinds : List Kind := [.out, .regs, .saf, .host, .links, .rte, .pair]

theorem Module.frame_pairingPortDown : Frame claimKinds m (m.pairingPortDown p) :=
  .mono (by decide) <| .either .rfl <| .either frame_standbyLost <| .either (.either frame_claim frame_toJoining) frame_reg

theorem Module.frame_failFastRx : Frame claimKinds m (m.failFastRx p) := frame_takeLease (by decide) fun m _ _ =>
  .mono (by decide) <| .either (frame_pairEvent.step frame_claim) .rfl

theorem Module.frame_detach : Frame claimKinds m (m.detach p) := frame_takeLease (by decide) fun m _ _ =>
  .mono (by decide) <| .either frame_standbyLost .rfl

end Leaving

/-! ### The witness (R390, R391) -/

section Witness
variable {m : Module} {p pair e us whom : Nat} {w : Witness}

theorem Module.frame_setWit : Frame [.pair] m (m.setWit w) := frame_pair

theorem Module.frame_noteEpoch : Frame [.pair] m (m.noteEpoch pair e) := .ite frame_pair (.refl _ m)

theorem Module.frame_grantLease : Frame leaseKinds m (m.grantLease w whom) := .mono (by decide) <| frame_setWit.step frame_replyLease

theorem Module.frame_tellExpired : Frame leaseKinds m (m.tellExpired w) :=
  .mono (by decide) <| frame_setWit.step <| .foldl (ks := [.out, .regs, .links, .rte]) fun _ _ => frame_replyLease

theorem Module.frame_acquire : Frame leaseKinds m (m.acquire p) := frame_takeLease (by decide) fun m b _ => by
  extract_lets no
  have hno (m : Module) (v : Nat) : Frame leaseKinds m (no m v) := frame_replyLease.mono (by decide)
  refine .ite ((frame_noteEpoch.mono (by decide)).trans (hno _ 4)) ?_
  clear_value no
  split
  · exact .ite (hno m 2) <| .ite (hno m 3) frame_grantLease
  · exact .ite (hno m 2) <| .ite (hno m 1) frame_grantLease

theorem Module.frame_renew : Frame leaseKinds m (m.renew p) := frame_takeLease (by decide) fun m b _ => by
  extract_lets ack m₁ m₂
  have hack (m : Module) : Frame leaseKinds m (ack m) := frame_replyLease.mono (by decide)
  have hnoted : Frame leaseKinds m m₁ := frame_noteEpoch.mono (by decide)
  have hwit {w : Witness} : Frame leaseKinds m₁ (ack (m₁.setWit w)) := (frame_setWit.mono (by decide)).trans (hack _)
  have hholder : Frame leaseKinds m₁ m₂ := by
    unfold m₂
    clear_value ack
    split
    · exact .ite hwit (.refl _ m₁)
    · exact .refl _ m₁
  have hbound {x : Pair} : Frame leaseKinds m₂ { m₂ with pair := x } := frame_pair.mono (by decide)
  exact hnoted.trans <| hholder.trans <| .ite (.refl _ m₂) <| .ite (hbound.trans (hack _)) <| .ite (hbound.trans frame_leaseRep) (.refl _ m₂)

theorem Module.frame_leaseRelease : Frame leaseKinds m (m.leaseRelease p) := frame_takeLease (by decide) fun m _ _ => by
  split
  · exact .refl _ m
  · exact .ite (.refl _ m) <| .ite frame_grantLease frame_tellExpired

theorem Module.frame_leaseQuery : Frame leaseKinds m (m.leaseQuery p us) := frame_takeLease (by decide) fun m _ _ => by
  split
  · exact .mono (by decide) <| .either (frame_setWit.step frame_replyLease) frame_replyLease
  · exact frame_replyLease.mono (by decide)

theorem Module.frame_witnessExpiry : Frame leaseKinds m (m.witnessExpiry pair) := by
  unfold Module.witnessExpiry
  split
  · exact .ite frame_tellExpired (.refl _ m)
  · exact .refl _ m

theorem Module.frame_witnessStarted : Frame [.regs, .pair] m m.witnessStarted :=
  .mono (by decide) <| .either .rfl <| frame_pair.step frame_reg

theorem Module.frame_pairClr : Frame [.regs] m m.pairClr := frame_clrs

end Witness

/-! ### Serving (R381, R395 to R402) -/

section Serving
variable {m : Module} {p st epoch : Nat} {y : Mirrored} {lists : List HostLists}

/-- The kinds of state that the switch to a member's own service may change. -/
abbrev serveKinds : List Kind := [.out, .regs, .dev, .saf, .sec, .ctx, .host, .adm, .links, .rte, .pair]

theorem Module.frame_sec_pair {x : Secur} {y : Pair} : Frame [.sec, .pair] m { m with sec := x, pair := y } :=
  .double fun k h h' => by cases k <;> trivial

theorem Module.frame_serve : Frame [.regs, .sec, .pair] m (m.serve st epoch) :=
  .mono (by decide) <| frame_setPair.step <| frame_reg.step <| frame_setLease.step <| frame_askNoMore.step frame_sec_pair

theorem Module.frame_ownNumbering : Frame [.regs, .pair] m m.ownNumbering := .mono (by decide) <| frame_reg.step frame_pair

theorem Module.frame_announceAll : Frame leaseKinds m m.announceAll := .foldl fun m pkg =>
  .mono (by decide) <| (frame_sendNew (m := m) (msg := 0x0A) (value := 0) (succ := m.own) (d := fun _ => pkg)).step frame_pair

/-- The kinds of state that a mirrored entry taken up may change. -/
abbrev mirrorKinds : List Kind := [.out, .regs, .ctx, .host, .adm, .pair]

theorem Module.frame_mirroredAt : Frame mirrorKinds m (m.mirroredAt y lists) := by
  unfold Module.mirroredAt
  extract_lets e cid pairing lost
  have hfinish {x : Compl} : Frame mirrorKinds m (m.finish y.queue cid x) := frame_finish.mono (by decide)
  split
  next li lo _ =>
  refine .ite ?_ ?_
  · split
    extract_lets r₀ push
    have hpush (m : Module) (r : Req) : Frame mirrorKinds m (push m r) := frame_modQueue.mono (by decide)
    clear_value push
    split
    · exact (frame_resumeReq.mono (by decide)).trans (hpush _ _)
    · exact .ite hfinish (hpush m _)
  · split
    · exact .ite (.refl _ m) hfinish
    · exact frame_query.mono (by decide)
    · exact frame_cancel.mono (by decide)
    · exact .ite hfinish hfinish

theorem Module.frame_openCkpts : Frame [.out, .regs, .dev, .saf, .ctx, .host] m m.openCkpts := .foldl fun m x => by
  have hlatch : Frame [.out, .regs, .dev, .saf, .ctx, .host] m (Module.latch m x.1) := frame_latch_ctx.mono (by decide)
  refine .ite (.refl _ m) ?_
  split
  · exact hlatch
  · split
    · exact hlatch
    · exact (frame_devWriteBytes _ _ _ _).mono (by decide)

theorem Module.frame_takeOver : Frame serveKinds m (m.takeOver lists) :=
  .mono (by decide) <| frame_pair.step <| .step (.foldl (ks := mirrorKinds) fun _ _ => frame_mirroredAt) <|
    frame_openCkpts.step frame_pair

theorem Module.frame_switchover : Frame serveKinds m (m.switchover lists) := by
  unfold Module.switchover
  split
  · exact .refl _ m
  · exact .mono (by decide) <| .either .rfl <| frame_serve.step <| frame_reg.step <| frame_pairEvent.step <| frame_pair.step <|
      frame_announceAll.step <| frame_takeOver.step frame_ownNumbering

theorem Module.frame_handoverDone : Frame serveKinds m (m.handoverDone epoch lists) := by
  unfold Module.handoverDone
  extract_lets m₀ pair m₁ pair' m₂
  have hserves : Frame serveKinds m m₂ := .mono (by decide) <| frame_serve.step <| frame_pair.step <| frame_announceAll.step <|
    frame_takeOver.step <| frame_ownNumbering.step <| frame_pair.step frame_pairEvent
  split
  · exact hserves.trans <| .mono (by decide) <| frame_pair.step frame_finish
  · exact hserves

theorem Module.frame_leaseGrant : Frame serveKinds m (m.leaseGrant p lists) := frame_takeLease (by decide) fun m b _ => by
  extract_lets st
  have hformed {x : Pair} {q cid : Nat} : Frame serveKinds m (({ m.serve 4 b.epoch with pair := x } : Module).finish q cid Compl.done) :=
    .mono (by decide) <| frame_serve.step <| frame_pair.step frame_finish
  refine .ite (.refl _ m) <| .ite ?_ <| .ite (.mono (by decide) <| frame_answered.step frame_pair) <|
    .ite (frame_serve.mono (by decide)) <| .ite frame_handoverDone (.refl _ m)
  split
  · exact hformed
  · exact .refl _ m

end Serving

/-! ### The delta stream (R385 to R387, R399, R401) -/

section Delta
variable {m b : Module} {p ty k n cycle epoch : Nat} {r l : List Nat} {recs : List (List Nat)} {kv : List (Nat × List Nat)} {subs : List Nat}

theorem Module.frame_pullCopy (n : Nat) : ∀ m : Module, Frame [.regs, .links, .rte] m (m.pullCopy p n).2 := by
  induction n with
  | zero => exact fun m => .refl _ m
  | succ n ih =>
    intro m
    rw [Module.pullCopy]
    split
    · exact .refl _ m
    next k _ =>
    have hfilter : Frame [.regs, .links, .rte] m ((m.popPkt p 1).epochOk k).2 := .mono (by decide) <| frame_popPkt.step frame_epochOk
    generalize (m.popPkt p 1).epochOk k = x at hfilter ⊢
    obtain ⟨ok, m₁⟩ := x
    refine .ite_snd (hfilter.trans (ih m₁)) ?_
    have hjoin : Frame [.regs, .links, .rte] m (m₁.assemble k).2 := hfilter.trans <| frame_assemble.mono (by decide)
    generalize m₁.assemble k = y at hjoin ⊢
    obtain ⟨_ | ⟨hdr, gs⟩, m₂⟩ := y
    · exact hjoin.trans (ih m₂)
    · exact hjoin

theorem Module.frame_takeRec (h : m.takeRec p ty = some (r, b)) : Frame [.regs, .links, .rte, .pair] m b := by
  unfold Module.takeRec at h
  split at h
  · cases h
  split at h
  next l m₁ hpull =>
  have hpulled : Frame [.regs, .links, .rte] m m₁ := .of_ite hpull (frame_pullCopy _ m) (.refl _ m)
  extract_lets n rest rn at h
  obtain ⟨-, he⟩ := Option.ite_none_right_eq_some.mp h
  cases he
  exact .mono (by decide) <| hpulled.step frame_pair

theorem Module.frame_deltaRecord : Frame [.regs, .links, .rte, .pair] m (m.deltaRecord p ty) := by
  unfold Module.deltaRecord
  split
  · exact .refl _ m
  · next h => exact .mono (by decide) <| (frame_takeRec h).step <| .either .rfl frame_pair

/-- The kinds of state that a record applied may change. -/
abbrev recKinds : List Kind := [.out, .regs, .dev, .saf, .ctx, .host, .pair]

theorem Module.frame_applyKv : Frame memKinds m (m.applyKv l) := .ite (.refl _ m) (frame_devWriteBytes _ _ _ _)

theorem Module.frame_applyOut : Frame [.pair] m (m.applyOut l) := frame_pair

theorem Module.frame_applyDesc : Frame [.ctx, .pair] m (m.applyDesc l) := by
  unfold Module.applyDesc
  exact .mono (by decide) <| .either frame_pair <| .either .rfl <| frame_setCtx.step <| .either .rfl frame_askFills

theorem Module.frame_applyMod : Frame [.regs, .pair] m (m.applyMod l) := .foldl fun _ _ =>
  .mono (by decide) <| .either frame_pair (frame_reg.step frame_pair)

theorem Module.frame_applyReq : Frame [.pair] m (m.applyReq l) := frame_pair

theorem Module.frame_applyRec : Frame recKinds m (m.applyRec l) := by
  unfold Module.applyRec
  split
  · exact frame_applyKv.mono (by decide)
  · exact frame_applyOut.mono (by decide)
  · exact frame_applyDesc.mono (by decide)
  · exact frame_applyMod.mono (by decide)
  · exact frame_applyReq.mono (by decide)
  · exact .refl _ m

theorem Module.frame_applyDelta : Frame recKinds m (m.applyDelta k recs cycle) := by
  unfold Module.applyDelta
  extract_lets m₁ live
  have hrecs : Frame recKinds m m₁ := .foldl fun _ _ => frame_applyRec
  exact .mono (by decide) <| hrecs.step <| frame_pair.step frame_reg

theorem Module.frame_applyEarly (n : Nat) : ∀ m : Module, Frame recKinds m (m.applyEarly n) := by
  induction n with
  | zero => exact fun m => .refl _ m
  | succ n ih =>
    intro m
    rw [Module.applyEarly]
    split
    · exact .refl _ m
    · split
      · exact frame_pair.mono (by decide)
      · exact frame_applyDelta.trans (ih _)

theorem Module.frame_deltaBase : Frame [.pair] m (m.deltaBase k epoch cycle) := .ite frame_pair (.refl _ m)

theorem Module.frame_deltaGap : Frame [.free, .regs, .pair] m m.deltaGap := by
  unfold Module.deltaGap
  exact .mono (by decide) <| .either .rfl <| (frame_draw (v := 32)).step <| frame_pair.step frame_reg

/-- The kinds of state that a CLOSE record may change. -/
abbrev closeKinds : List Kind := [.free, .out, .regs, .dev, .saf, .ctx, .host, .links, .rte, .pair]

theorem Module.frame_closeRec : Frame closeKinds m (m.closeRec p cycle) := by
  unfold Module.closeRec
  split
  · exact .refl _ m
  next b m₀ h =>
  have htaken : Frame closeKinds m m₀ := (frame_takeRec h).mono (by decide)
  refine htaken.trans <| .ite (.refl _ m₀) ?_
  extract_lets recs all k pair m₁ m₂ pair' m₃ done m₄
  have hbase : Frame closeKinds m₀ m₁ := .mono (by decide) <| frame_pair.step frame_deltaBase
  have hepoch : Frame closeKinds m₁ m₂ := .mono (by decide) <| .either .rfl frame_reg
  have happlied : Frame closeKinds m₂ m₃ := by
    unfold m₃
    split
    · exact frame_applyDelta.mono (by decide)
    · exact .mono (by decide) <| .either .rfl <| .either (frame_applyDelta.step (frame_applyEarly _ _)) <|
        .either (frame_deltaGap.step frame_applyDelta) frame_pair
  have hacked : Frame closeKinds m₃ m₄ := .mono (by decide) <| .either .rfl frame_copyOut
  have hclosed : Frame closeKinds m₁ m₄ := hepoch.trans <| happlied.trans hacked
  refine hbase.trans <| .ite (.refl _ m₁) <| hclosed.trans ?_
  split
  · exact .mono (by decide) <| .either frame_handoverRefused .rfl
  · exact .refl _ m₄

theorem Module.frame_ckptRec : Frame [.out, .regs, .dev, .saf, .host, .links, .rte, .pair] m (m.ckptRec p) := by
  unfold Module.ckptRec
  split
  · exact .refl _ m
  next b m₁ h =>
  extract_lets c x data half room m₂
  have hkept : Frame memKinds m₁ m₂ := .ite (.refl _ m₁) (frame_devWriteBytes _ _ _ _)
  exact .mono (by decide) <| (frame_takeRec h).step <| .either .rfl <| .either .rfl <| hkept.step frame_pair

theorem Module.frame_deltaAck : Frame [.regs, .links, .rte, .pair] m (m.deltaAck p) := by
  unfold Module.deltaAck
  split
  · exact .refl _ m
  next b m₁ h =>
  extract_lets k old m₂
  have hacked : Frame [.regs] m₁ m₂ := .ite frame_reg (.refl _ m₁)
  exact .mono (by decide) <| (frame_takeRec h).step <| .either .rfl <| hacked.step frame_pair

theorem Module.frame_resyncComplete : Frame [.out, .regs, .dev, .saf, .host, .pair] m (m.resyncComplete kv recs subs) := by
  unfold Module.resyncComplete
  extract_lets m₁ m₂
  have hcopied : Frame memKinds m m₁ := .foldl fun m _ => .ite (.refl _ m) (frame_devWriteBytes _ _ _ _)
  have hreqs : Frame [.pair] m₁ m₂ := .foldl fun _ _ => frame_applyReq
  exact .mono (by decide) <| .either (hcopied.step <| hreqs.step <| frame_pair.step frame_reg) <|
    .either (frame_pair.step frame_reg) .rfl

end Delta

/-- Settles O58: every pairing command completes, within its kinds of state. -/
theorem pairingCommandsComplete : Obligations.PairingCommandsComplete := fun s =>
  ⟨fun e info h => completesIn_of_frame (exec_pairForm e info s) rfl h Module.frame_pairForm,
    fun e h => completesIn_of_frame (exec_pairDissolve e s) rfl h Module.frame_pairDissolve,
    fun e h => completesIn_of_frame (exec_pairHandover e s) rfl h Module.frame_pairHandover,
    completesIn_of_frame (exec_autoHandover s) rfl rfl Module.frame_autoHandover,
    fun p h => completesIn_of_frame (exec_handoverReq p s) rfl h Module.frame_handoverReq,
    fun p h => completesIn_of_frame (exec_acquire p s) rfl h Module.frame_acquire,
    fun p lists h => completesIn_of_frame (exec_leaseGrant p lists s) rfl h Module.frame_leaseGrant,
    fun p h => completesIn_of_frame (exec_renew p s) rfl h Module.frame_renew,
    completesIn_of_frame (exec_renewPeriod s) rfl rfl Module.frame_renewPeriod,
    fun p us h => completesIn_of_frame (exec_renewAck p us s) rfl h Module.frame_renewAck,
    fun p h => completesIn_of_frame (exec_leaseRelease p s) rfl h Module.frame_leaseRelease,
    fun p us h => completesIn_of_frame (exec_leaseQuery p us s) rfl h Module.frame_leaseQuery,
    fun p h => completesIn_of_frame (exec_leaseStatus p s) rfl h Module.frame_leaseStatus,
    fun p h => completesIn_of_frame (exec_deny p s) rfl h Module.frame_deny,
    fun p h => completesIn_of_frame (exec_failFast p s) rfl h Module.frame_failFastRx,
    fun p h => completesIn_of_frame (exec_announce p s) rfl h Module.frame_announce,
    fun pkg h => completesIn_of_frame (exec_announceRepeat pkg s) rfl h Module.frame_announceRepeat,
    fun p h => completesIn_of_frame (exec_detach p s) rfl h Module.frame_detach,
    fun index overdue => completesIn_of_frame (exec_leaseMessageRepeat index overdue s) rfl rfl Module.frame_leaseRepeat,
    completesIn_of_frame (exec_selfFence s) rfl rfl Module.frame_selfFence,
    completesIn_of_frame (exec_leaseExpiry s) rfl rfl Module.frame_leaseExpiry,
    fun pair h => completesIn_of_frame (exec_witnessLeaseExpiry pair s) rfl h Module.frame_witnessExpiry,
    completesIn_of_frame (exec_standbyBindingEnd s) rfl rfl Module.frame_bindingEnd,
    completesIn_of_frame (exec_witnessStartEnd s) rfl rfl Module.frame_witnessStarted,
    fun cls sub detail h => completesIn_of_frame (exec_failFastEvent cls sub detail s) rfl h Module.frame_failFastEvent,
    fun p h => completesIn_of_frame (exec_kvRecord p s) rfl h Module.frame_deltaRecord,
    fun p h => completesIn_of_frame (exec_outRecord p s) rfl h Module.frame_deltaRecord,
    fun p h => completesIn_of_frame (exec_descRecord p s) rfl h Module.frame_deltaRecord,
    fun p h => completesIn_of_frame (exec_modRecord p s) rfl h Module.frame_deltaRecord,
    fun p h => completesIn_of_frame (exec_reqRecord p s) rfl h Module.frame_deltaRecord,
    fun p cycle h => completesIn_of_frame (exec_closeRecord p cycle s) rfl h Module.frame_closeRec,
    fun p h => completesIn_of_frame (exec_checkpointRecord p s) rfl h Module.frame_ckptRec,
    fun p h => completesIn_of_frame (exec_deltaAck p s) rfl h Module.frame_deltaAck,
    completesIn_of_frame (exec_standbyLoss s) rfl rfl Module.frame_standbyLoss,
    fun p h => completesIn_of_frame (exec_pairingPortDown p s) rfl h Module.frame_pairingPortDown,
    completesIn_of_frame (exec_closeTimeout s) rfl rfl Module.frame_closeTimeout,
    fun lists => completesIn_of_frame (exec_switchoverStart lists s) rfl rfl Module.frame_switchover,
    fun kv reqs subs => completesIn_of_frame (exec_resyncComplete kv reqs subs s) rfl rfl Module.frame_resyncComplete,
    completesIn_of_frame (exec_pairClrAll s) rfl rfl Module.frame_pairClr⟩

end Sys2Proof.Machine
end

section
/-! PROOFS. Steps that keep device memory and SRAM in canonical form: how they compose, and the reads and writes of device memory
(R185 to R206). -/

-- Proof by proof: run together, as many short proofs as these each take a thread and its stack while they wait for one another.
set_option Elab.async false

namespace Sys2Proof.Machine

/-! ### Stores in canonical form -/

section Stores
variable {α : Type} {st : Store} {l : List α}

/-- Any number of entries put into a map in canonical form. -/
theorem SMap.wf_puts {β : Type} [DecidableEq β] {d : β} (k : α → Nat) (v : α → β) {t : SMap β} (h : SMap.wf d t = true) :
    SMap.wf d (l.foldl (fun t x => SMap.put d (k x) (v x) t) t) = true :=
  List.foldlRecOn (motive := fun t => SMap.wf d t = true) l _ h fun _ ht _ _ => SMap.wf_put _ _ ht

theorem Store.wf_copy (h : st.wf = true) (src dst n : Nat) : (st.copy src dst n).wf = true := by
  obtain ⟨hcells, hsynd⟩ := (Store.wf_iff _).mp (Store.wf_zero h (dst / 16) (n / 16))
  exact (Store.wf_iff _).mpr ⟨SMap.wf_puts _ _ hcells, SMap.wf_puts _ _ hsynd⟩

/-- Syndromes set one after another. -/
theorem Store.wf_synds (h : st.wf = true) (k v : α → Nat) :
    ({ st with synd := l.foldl (fun t x => SMap.put 0 (k x) (v x) t) st.synd } : Store).wf = true := by
  obtain ⟨hcells, hsynd⟩ := (Store.wf_iff _).mp h
  exact (Store.wf_iff _).mpr ⟨hcells, SMap.wf_puts _ _ hsynd⟩

/-- The part of a store from some address on. -/
theorem Store.wf_fromAddr (h : st.wf = true) (a g : Nat) : ({ cells := fromAddr a st.cells, synd := fromAddr g st.synd } : Store).wf = true := by
  obtain ⟨hcells, hsynd⟩ := (Store.wf_iff _).mp h
  exact (Store.wf_iff _).mpr ⟨SMap.wf_filter _ hcells, SMap.wf_filter _ hsynd⟩

end Stores

/-! ### Steps that keep memory in form -/

/-- Where module `a` has device memory and SRAM in canonical form, so has module `b`. -/
def MemKept (a b : Module) : Prop := a.memOk → b.memOk

section Compose
variable {α : Type} {a b c : Module} {p : Prop} [Decidable p] {ks : List Kind} {f : Module → α → Module} {l : List α}

theorem MemKept.refl (m : Module) : MemKept m m := id

theorem MemKept.trans (h : MemKept a b) (h' : MemKept b c) : MemKept a c := h' ∘ h

theorem MemKept.ite (hb : MemKept a b) (hc : MemKept a c) : MemKept a (if p then b else c) := by
  split
  · exact hb
  · exact hc

theorem MemKept.foldl (h : ∀ m x, MemKept m (f m x)) : MemKept a (l.foldl f a) :=
  List.foldlRecOn l f (MemKept.refl a) fun m hm x _ => hm.trans (h m x)

theorem MemKept.iter {f : Nat → Module → Module} {n : Nat} (h : ∀ i m, MemKept m (f i m)) : MemKept a (iter n f a) :=
  MemKept.foldl fun m i => h i m

theorem MemKept.getD {o : Option Module} (h : ∀ b, o = some b → MemKept a b) : MemKept a (o.getD a) := by
  cases o with
  | none => exact .refl a
  | some b => exact h b rfl

/-- The module beside an answer, where a condition picks both. -/
theorem MemKept.ite_snd {x y : α × Module} (hx : MemKept a x.2) (hy : MemKept a y.2) : MemKept a (if p then x else y).2 := by
  split
  · exact hx
  · exact hy

theorem MemKept.of_ite {x y : α × Module} {r : α} (he : (if p then x else y) = (r, b)) (hx : MemKept a x.2) (hy : MemKept a y.2) :
    MemKept a b := by
  have hkept : MemKept a (if p then x else y).2 := .ite_snd hx hy
  rwa [he] at hkept

theorem MemKept.of_eq (hdev : b.dev = a.dev) (hsram : b.sram = a.sram) : MemKept a b := by
  rintro ⟨hd, hs⟩
  exact ⟨hdev ▸ hd, hsram ▸ hs⟩

/-- A step outside device memory and SRAM. -/
theorem Frame.memKept (h : Frame ks a b) (hd : Kind.dev ∉ ks := by decide) (hs : Kind.sram ∉ ks := by decide) : MemKept a b :=
  .of_eq (h .dev hd) (h .sram hs)

theorem MemKept.dev {x : Store} (h : a.dev.wf = true → x.wf = true) : MemKept a { a with dev := x } := fun ⟨hd, hs⟩ => ⟨h hd, hs⟩

theorem MemKept.sram {x : Store} (h : a.sram.wf = true → x.wf = true) : MemKept a { a with sram := x } := fun ⟨hd, hs⟩ => ⟨hd, h hs⟩

end Compose

/-! ### Reads of device memory, which correct what they read -/

section Reads
variable {m : Module} {a s src sev n g d y : Nat} {bad : Bool} {f : MemFault} {l : List (Nat × Nat)}

theorem Module.memKept_setDev : MemKept m { m with dev := m.dev.setGranule g d y } := .dev fun h => Store.wf_setGranule h g d y

theorem Module.memKept_zeroDev : MemKept m { m with dev := m.dev.zero g n } := .dev fun h => Store.wf_zero h g n

theorem Module.memKept_devUncorr : MemKept m (m.devUncorr a src sev) := by
  unfold Module.devUncorr
  extract_lets g s m₁ m₂
  have hpoison : MemKept m m₁ := memKept_setDev
  have hcount : MemKept m₁ m₂ := by
    unfold m₂
    split
    · exact .ite frame_reg.memKept frame_reg.memKept
    · exact frame_reg.memKept
    · exact .refl _
  exact hpoison.trans <| hcount.trans frame_memRec.memKept

/-- The module beside the data and the flag that a read answers, where a condition picks the answer. -/
theorem MemKept.ite_read {p : Prop} [Decidable p] {x y : Nat × Bool × Module} (hx : MemKept m x.2.2) (hy : MemKept m y.2.2) :
    MemKept m (if p then x else y).2.2 := by
  split
  · exact hx
  · exact hy

theorem Module.memKept_devRead : MemKept m (m.devRead a src sev).2.2 := by
  have hcorr {x : Nat} {g : Fld} {idx : List Nat} : MemKept m (({ m with dev := m.dev.setGranule (a / 16) x 0 } : Module).count g 1 idx) :=
    memKept_setDev.trans frame_reg.memKept
  unfold Module.devRead
  refine .ite_read (.refl m) <| .ite_read frame_addrInvalid.memKept ?_
  generalize codeDecode (m.dev.syndrome (a / 16)) = r
  cases r with
  | clean => exact .refl m
  | data b =>
    cases m.place a with
    | gddr => exact .ite hcorr hcorr
    | cxl p => exact hcorr
    | none => exact memKept_setDev
  | check =>
    cases m.place a with
    | gddr => exact hcorr
    | cxl p => exact hcorr
    | none => exact memKept_setDev
  | poison =>
    cases m.place a with
    | gddr => exact frame_reg.memKept
    | cxl p => exact .refl m
    | none => exact .refl m
  | uncorr => exact memKept_devUncorr

theorem Module.memKept_devReads (n : Nat) : ∀ (m : Module) (a : Nat), MemKept m (m.devReads src sev n a).2.2 := by
  induction n with
  | zero => exact fun m _ => .refl m
  | succ n ih => exact fun m a => (memKept_devRead (a := a) (src := src) (sev := sev)).trans (ih _ _)

theorem Module.memKept_devBytes : MemKept m (m.devBytes src a n).2.2 := memKept_devReads _ _ _

theorem Module.memKept_readGrans (n : Nat) : ∀ (m : Module) (a : Nat), MemKept m (m.readGrans n a).2 := by
  induction n with
  | zero => exact fun m _ => .refl m
  | succ n ih => exact fun _ _ => memKept_devRead.trans (ih _ _)

theorem Module.memKept_devReadVia : MemKept m (m.devReadVia a src sev f).2.2 := by
  unfold Module.devReadVia
  extract_lets d
  split
  next d₁ bad m₁ hread =>
  have h₁ : MemKept m m₁ := by
    obtain rfl : _ = m₁ := congrArg (fun p => p.2.2) hread
    split
    · exact .ite_read frame_memRec.memKept memKept_devRead
    · exact .ite_read (frame_reg.step frame_memRec).memKept memKept_devRead
    · exact memKept_devRead
  exact h₁.trans frame_meshPath.memKept

end Reads

/-! ### Writes of device memory -/

section Writes
variable {m : Module} {a d n src dst mask : Nat} {bad : Bool} {f : MemFault} {l : List Nat}

theorem Module.memKept_devWrite : MemKept m (m.devWrite a d bad) := by
  unfold Module.devWrite
  split
  · exact .ite memKept_setDev frame_dropWrite.memKept
  · exact memKept_setDev
  · exact frame_addrInvalid.memKept

theorem Module.memKept_devWriteVia : MemKept m (m.devWriteVia a d bad f) := by
  have hpath : MemKept m (m.meshPath f.mesh (d, if bad then poisonSynd else 0)).2 := frame_meshPath.memKept
  exact (hpath.trans memKept_devWrite).trans <| .ite frame_memRec.memKept (.refl _)

theorem Module.memKept_writeGrans (l : List (Nat × Nat)) : ∀ (m : Module) (a : Nat), MemKept m (m.writeGrans a l) := by
  induction l with
  | nil => exact fun m _ => .refl m
  | cons g l ih => exact fun _ _ => memKept_devWrite.trans (ih _ _)

theorem Module.memKept_devWriteMasked : MemKept m (m.devWriteMasked a d mask bad) :=
  .ite memKept_devWrite <| memKept_devRead.trans memKept_devWrite

theorem Module.memKept_devWriteBytes (n : Nat) : ∀ (m : Module) (a : Nat) (l : List Nat), MemKept m (m.devWriteBytes n a l) := by
  induction n with
  | zero => exact fun m _ _ => .refl m
  | succ n ih => exact fun m _ _ => .ite (.refl m) <| memKept_devWriteMasked.trans (ih _ _ _)

theorem Module.memKept_copyImage : MemKept m (m.copyImage src dst n) := by
  unfold Module.copyImage
  extract_lets down z hit m₁
  have hread : MemKept m m₁ := .foldl fun _ _ => memKept_devRead
  exact .ite (.dev fun h => Store.wf_synds (Store.wf_zero h _ _) _ _) <| hread.trans <| .dev fun h => Store.wf_copy h _ _ _

theorem Module.memKept_putImage : MemKept m (m.putImage a n l) := by
  unfold Module.putImage
  extract_lets put
  have hput : MemKept m put := .dev fun h => Store.wf_setBytes l (Store.wf_zero h _ _) a
  split
  · exact .ite hput frame_dropWrite.memKept
  · exact hput

end Writes

/-! ### Pins, entries and arbitration (R169 to R182, R246 to R270) -/

section Entries
variable {m b : Module} {q cid c level cycle n op cv dw mj : Nat} {f : Fetched} {e param data : List Nat} {ins outs segs : List (Nat × Nat)}
  {x : EntryData}

theorem Module.memKept_pinCopy (h : m.pinCopy c = .ok b) : MemKept m b := by
  unfold Module.pinCopy at h
  extract_lets x at h
  split at h
  · cases h
    exact .refl m
  · have halloc : MemKept m (m.allocOr 0 (16 * x.imageGranules)).2 := frame_allocOr.memKept
    generalize m.allocOr 0 (16 * x.imageGranules) = y at h halloc
    obtain ⟨_ | a, m₁⟩ := y
    · cases h
    · cases h
      exact halloc.trans <| memKept_copyImage.trans frame_setCtx.memKept

theorem Module.memKept_pin : MemKept m (m.pin q cid c level) := by
  have hfinish {m : Module} {k : Compl} : MemKept m (m.finish q cid k) := frame_finish.memKept
  have hpin {m : Module} {y : Ctx} {k : Compl} : MemKept m ((m.setCtx c y).finish q cid k) := (frame_setCtx.step frame_finish).memKept
  unfold Module.pin
  refine .ite hfinish <| .ite hfinish <| .ite hfinish <| .ite hfinish <| .ite hpin ?_
  split
  · exact hfinish
  next m₁ h =>
  refine (memKept_pinCopy h).trans <| .ite hpin ?_
  split
  · exact hfinish
  · exact .ite hfinish (frame_placed.step <| frame_ctx.step frame_pokeWaiters).memKept

theorem Module.memKept_actEntry : MemKept m (m.actEntry q f) := by
  unfold Module.actEntry
  extract_lets e cid c src m₁
  split
  · have hsnoop : Frame [.qlk] m m₁ := .either frame_snoopRange .rfl
    split
    · exact frame_finish.memKept
    · exact (hsnoop.step frame_loadImage).memKept
  · exact frame_evict.memKept
  · exact memKept_pin
  · exact frame_query.memKept
  · exact frame_cancel.memKept
  · exact frame_finish.memKept

theorem Module.memKept_takeHead : MemKept m (m.takeHead q cycle) := by
  unfold Module.takeHead
  split
  · exact .refl m
  · extract_lets m₁ m₂
    have htake : MemKept m₁ m₂ := .ite (.refl m₁) frame_takeEntry.memKept
    exact frame_modQueue.memKept.trans <| htake.trans <| .ite frame_acceptReq.memKept memKept_actEntry

theorem Module.memKept_arbiter (n : Nat) : ∀ m : Module, MemKept m (m.arbiter cycle n) := by
  induction n with
  | zero => exact fun m => .refl m
  | succ n ih =>
    intro m
    have hingress : MemKept m ((m.takeIngress cycle).arbiter cycle n) := frame_takeIngress.memKept.trans (ih _)
    rw [Module.arbiter]
    refine .ite (.refl m) <| .ite hingress ?_
    split
    · exact frame_host.memKept.trans <| memKept_takeHead.trans (ih _)
    · exact .ite hingress (.refl m)

theorem Module.memKept_arbitrate : MemKept m (m.arbitrate cycle) := memKept_arbiter _ m

theorem Module.memKept_mirrorFetch : MemKept m (m.mirrorFetch q e param) := by
  unfold Module.mirrorFetch
  extract_lets h m₁ y _ m₂ c mine
  refine .ite ?_ (.refl m)
  have hread : MemKept m m₂ := (frame_reg.step <| frame_reg.step frame_pair).memKept
  split
  · exact .ite (hread.trans frame_loadImage.memKept) hread
  · exact .ite (hread.trans frame_evict.memKept) hread
  · exact .ite (hread.trans memKept_pin) hread
  · exact hread

theorem Module.memKept_queueFetched {g : Queue → Queue} : MemKept m ((m.modQueue q g).arbitrate cycle) :=
  frame_modQueue.memKept.trans memKept_arbitrate

theorem Module.memKept_fetch : MemKept m (m.fetch q e ins outs param cycle) := by
  have hwait {r : Req} : MemKept m (m.waitRead q e r) := frame_waitRead.memKept
  unfold Module.fetch
  refine .ite (.refl m) <| .ite memKept_mirrorFetch <| .ite ?request <| .ite hwait memKept_queueFetched
  case request =>
    extract_lets -underBinder openIn openOut
    split
    extract_lets -underBinder ins' outs' r
    split
    · exact memKept_queueFetched
    · exact .ite hwait <| .ite (.refl m) memKept_queueFetched

theorem Module.memKept_fetchOp : MemKept m (m.fetchOp op q e ins outs param cycle) := .ite memKept_fetch (.refl m)

theorem Module.memKept_devInput : MemKept m (m.devInput segs).2 :=
  List.foldlRecOn (motive := fun (a : Option (List Nat) × Module) => MemKept m a.2) segs _ (.refl m) fun a ha p _ => by
    split
    · exact ha
    · exact .ite_snd (ha.trans memKept_devBytes) ha

theorem Module.memKept_hostReadFail : MemKept m (m.hostReadFail q cid cycle) := memKept_queueFetched

theorem Module.memKept_inputCopied : MemKept m (m.inputCopied q cid data cycle) := by
  unfold Module.inputCopied
  split
  · exact .refl m
  next f _ =>
  extract_lets done
  have hdone {m : Module} {b : List Nat} : MemKept m (done m b) := memKept_queueFetched
  refine .ite (.refl m) <| .ite ?_ hdone
  have hread : MemKept m (m.devInput f.inSegs).2 := memKept_devInput
  generalize m.devInput f.inSegs = y at hread ⊢
  obtain ⟨_ | b, m₁⟩ := y
  · exact hread.trans memKept_hostReadFail
  · exact hread.trans hdone

theorem Module.memKept_mgmtEntry : MemKept m (m.mgmtEntry e x) := by
  unfold Module.mgmtEntry
  split
  · exact frame_createQueue.memKept
  · exact frame_deleteQueue.memKept
  · exact frame_bindCtx.memKept
  · exact frame_unbindCtx.memKept
  · exact frame_fabricJoin.memKept
  · exact frame_fabricLeave.memKept
  · exact frame_pairForm.memKept
  · exact frame_pairDissolve.memKept
  · exact frame_pairHandover.memKept
  · exact frame_ownerEnrol.memKept
  · exact frame_ownerUpdate.memKept
  · exact frame_ownerRelease.memKept
  · exact frame_fwUpdate.memKept
  · exact (frame_mgmt (ks := [.out, .regs, .host, .pair]) (by decide) fun _ _ => frame_finish.mono (by decide)).memKept

theorem Module.memKept_sqEntry : MemKept m (m.sqEntry q e x cycle) := .ite memKept_mgmtEntry memKept_fetch

theorem Module.memKept_roundBoundary : MemKept m (m.roundBoundary cv dw mj) := by
  unfold Module.roundBoundary
  exact .ite (.refl m) <| (frame_boundaryStart.step <| frame_boundaryDecide.step <| frame_sendQuotes.step <|
    frame_bookProofs.step frame_logSignal).memKept.trans memKept_arbitrate

end Entries

end Sys2Proof.Machine
end

section
/-! PROOFS. Operations of a Tine keep device memory and SRAM in canonical form (R76 to R118). -/

-- Proof by proof: run together, as many short proofs as these each take a thread and its stack while they wait for one another.
set_option Elab.async false

namespace Sys2Proof.Machine

/-! ### Writes of SRAM -/

section Write
variable {m : Module} {s a d y g n : Nat} {l : List Nat} {fl : List Flit}

theorem Module.memKept_setSram : MemKept m { m with sram := m.sram.setGranule g d y } := .sram fun h => Store.wf_setGranule h g d y

theorem Module.memKept_zeroSram : MemKept m { m with sram := m.sram.zero g n } := .sram fun h => Store.wf_zero h g n

theorem Module.memKept_upsetSram {us : List (Nat × Nat)} : MemKept m { m with sram := m.sram.upsets us } :=
  .sram fun h => Store.wf_upsets us h

theorem Module.memKept_twrite : MemKept m (m.twrite s a l) :=
  twrite_rel .refl .trans (fun _ _ _ _ _ _ => memKept_setSram) (fun _ => frame_draw.memKept) fun _ _ => frame_modTine.memKept

theorem Module.memKept_putGranule : MemKept m (m.putGranule s a d y) := by
  unfold Module.putGranule
  exact .ite memKept_twrite <| memKept_twrite.trans memKept_setSram

theorem Module.memKept_putFlits : MemKept m (m.putFlits s a fl) := .iter fun i m => by
  split
  · exact memKept_putGranule
  · exact .refl m

end Write

/-! ### Operations -/

/-- The operation that answers `o` from module `m` keeps memory in form, whether it faults or not. -/
def OpOut.KeepsMem (m : Module) (o : OpOut) : Prop := MemKept m o.m

section Kept
variable {s a f : Nat} {m m₁ : Module} {o : OpOut} {fs : List StageFault} {l : List Nat} {ws : List (Nat × Nat)} {ks : List Kind}

theorem OpOut.KeepsMem.bad (h : MemKept m m₁) : (OpOut.bad m₁ fs).KeepsMem m := h

theorem OpOut.KeepsMem.badHere : (OpOut.bad m fs).KeepsMem m := .bad (.refl m)

theorem OpOut.KeepsMem.ok (h : MemKept m m₁) : (OpOut.ok m₁ ws).KeepsMem m := h

/-- Operand checks: they fault, or the operation goes on. -/
theorem OpOut.KeepsMem.checked [Decidable (fs ≠ [])] (h : MemKept m m₁) (ho : o.KeepsMem m) :
    (if fs ≠ [] then OpOut.bad m₁ fs else o).KeepsMem m := by
  split
  · exact .bad h
  · exact ho

theorem OpOut.KeepsMem.checkedHere [Decidable (fs ≠ [])] (ho : o.KeepsMem m) : (if fs ≠ [] then OpOut.bad m fs else o).KeepsMem m :=
  .checked (.refl m) ho

/-- A destination run written after reads. -/
theorem OpOut.KeepsMem.wrote (h : MemKept m m₁) : (OpOut.ok (m₁.twrite s a l) ws).KeepsMem m := h.trans Module.memKept_twrite

/-- A destination run written, and the flags joined to the stage's. -/
theorem OpOut.KeepsMem.written (h : MemKept m m₁) : (OpOut.ok ((m₁.twrite s a l).addFlags s f) ws).KeepsMem m :=
  h.trans <| Module.memKept_twrite.trans Module.frame_addFlags.memKept

/-- What a run of bytes read leaves of the steps so far. -/
theorem Module.memKept_of_tread {m₂ : Module} {n : Nat} {x : List Nat} (he : m₁.tread s a n = (x, fs, m₂)) (h : MemKept m m₁) :
    MemKept m m₂ :=
  h.trans (Module.frame_of_tread he (.refl _ _)).memKept

end Kept

end Sys2Proof.Machine
end

section
/-! PROOFS. The matrix operations keep memory in form (R104, R105). -/

-- Proof by proof: run together, as many short proofs as these each take a thread and its stack while they wait for one another.
set_option Elab.async false

namespace Sys2Proof.Machine

section Matrix
variable {m : Module} {s w e : Nat} {env : OpEnv}

theorem Module.keepsMem_tload : (m.tload s w).KeepsMem m := by
  unfold Module.tload
  extract_lets base
  split
  · exact .badHere
  next f _ =>
    generalize hload : List.foldl _ (0, [], m, []) (enginesOf w) = loaded
    have hread : MemKept m loaded.2.2.1 := by
      rw [← hload]
      exact List.foldlRecOn (motive := fun (x : Nat × List StageFault × Module × List (Nat × Tile)) => MemKept m x.2.2.1) _ _
        (.refl m) (fun x hx e _ => hx.trans frame_loadTile.memKept)
    obtain ⟨r, fs, m₁, put⟩ := loaded
    exact .checked hread <| .ok <| hread.trans <| .foldl fun _ _ => frame_modEngine.memKept

theorem Module.keepsMem_astage : (m.astage s w).KeepsMem m := by
  unfold Module.astage
  extract_lets rows a
  split
  · exact .badHere
  next f _ =>
    refine .checkedHere ?_
    split
    next b fs m₁ hread =>
      have h₁ : MemKept m m₁ := memKept_of_tread hread (.refl m)
      exact .checked h₁ <| .ok <| h₁.trans <| .foldl fun _ _ => frame_modEngine.memKept

theorem Module.keepsMem_wset : (m.wset s w).KeepsMem m := .ok <| .foldl fun _ _ => frame_modEngine.memKept

theorem Module.keepsMem_stream : (m.stream s w env).KeepsMem m := by
  unfold Module.stream
  extract_lets rows es pre rs fs m₁
  have hengines : MemKept m m₁ := .foldl fun _ _ => frame_modEngine.memKept
  have hpasses {g : Tine → Tine} : MemKept m (m₁.modTine s g) := hengines.trans frame_modTine.memKept
  exact .checkedHere <| .checkedHere hpasses

theorem Module.keepsMem_drain : (m.drain s w env).KeepsMem m := by
  unfold Module.drain
  extract_lets
  split
  · exact .badHere
  · exact .checkedHere <| .checkedHere <| .written (.refl m)

theorem Module.keepsMem_drainw : (m.drainw s w env).KeepsMem m := .checkedHere <| .checkedHere <| .wrote (.refl m)

theorem Module.keepsMem_padd : (m.padd s w env).KeepsMem m := by
  unfold Module.padd
  extract_lets
  refine .checkedHere ?_
  split
  next hreadA =>
  split
  next hreadB =>
  have h₂ := memKept_of_tread hreadB <| memKept_of_tread hreadA <| .refl m
  exact .checked h₂ <| .wrote h₂

theorem Module.keepsMem_pdrain : (m.pdrain s w).KeepsMem m := by
  unfold Module.pdrain
  extract_lets
  split
  · exact .badHere
  · refine .checkedHere ?_
    split
    next hread =>
    have h₁ := memKept_of_tread hread (.refl m)
    exact .checked h₁ <| .written h₁

end Matrix

end Sys2Proof.Machine
end

section
/-! PROOFS. The vector, curve and format operations keep memory in form (R107 to R109). -/

-- Proof by proof: run together, as many short proofs as these each take a thread and its stack while they wait for one another.
set_option Elab.async false

namespace Sys2Proof.Machine

section Lanes
variable {m : Module} {s w : Nat} {env : OpEnv} {src dst : Option Fmt} {two third : Bool} {guard : Option Nat}
  {fn : Num → Num → Num → Num}

theorem Module.keepsMem_lanes : (m.lanes s w env src dst two third guard fn).KeepsMem m := by
  unfold Module.lanes
  extract_lets pre
  generalize pre = faults
  split
  case h_2 => exact .badHere
  split
  next f₁ m₁ hreadA =>
  split
  next f₂ m₂ hreadB =>
  split
  next f₃ m₃ hreadD =>
  have h₁ : MemKept m m₁ := memKept_of_tread hreadA (.refl m)
  have h₂ : MemKept m m₂ := by
    split at hreadB
    · exact memKept_of_tread hreadB h₁
    · cases hreadB
      exact h₁
  have h₃ : MemKept m m₃ := by
    split at hreadD
    · exact memKept_of_tread hreadD h₂
    · cases hreadD
      exact h₂
  exact .checked h₃ <| .written h₃

theorem Module.keepsMem_vec2 {fn : Num → Num → Num} : (m.vec2 s w env guard fn).KeepsMem m := keepsMem_lanes

theorem Module.keepsMem_vfma : (m.vfma s w env).KeepsMem m := keepsMem_lanes

theorem Module.keepsMem_vlogic : (m.vlogic s w env).KeepsMem m := by
  unfold Module.vlogic
  split
  · exact .badHere
  · exact keepsMem_lanes

theorem Module.keepsMem_vshift : (m.vshift s w env).KeepsMem m := by
  unfold Module.vshift
  exact keepsMem_lanes

theorem Module.keepsMem_fdecode : (m.fdecode s w).KeepsMem m := keepsMem_lanes

theorem Module.keepsMem_fencode : (m.fencode s w).KeepsMem m := keepsMem_lanes

end Lanes

section Vector
variable {m : Module} {s w x : Nat} {env : OpEnv} {f : Fmt} {ls : List Nat}

theorem Module.keepsMem_vcmp : (m.vcmp s w).KeepsMem m := by
  unfold Module.vcmp
  extract_lets fmt t n a b d pre
  generalize fmt = f₀, pre = faults
  split
  case h_2 => exact .badHere
  split
  next hreadA =>
  split
  next hreadB =>
  have h₂ := memKept_of_tread hreadB <| memKept_of_tread hreadA <| .refl m
  exact .checked h₂ <| .wrote h₂

theorem Module.keepsMem_vsel : (m.vsel s w).KeepsMem m := by
  unfold Module.vsel
  extract_lets src dst t n a b d pre
  generalize src = fs₀, dst = fd₀, pre = faults
  split
  case h_2 => exact .badHere
  split
  next hreadA =>
  split
  next hreadB =>
  split
  next hreadD =>
  have h₃ := memKept_of_tread hreadD <| memKept_of_tread hreadB <| memKept_of_tread hreadA <| .refl m
  exact .checked h₃ <| .written h₃

theorem Module.keepsMem_vreduce : (m.vreduce s w env).KeepsMem m := by
  unfold Module.vreduce
  extract_lets src dst t n func a d nOut pre
  generalize src = fs₀, dst = fd₀, pre = faults
  split
  case h_2 => exact .badHere
  split
  next hreadA =>
  have h₁ := memKept_of_tread hreadA (.refl m)
  exact .checked h₁ <| .written h₁

theorem Module.keepsMem_vgather : (m.vgather s w).KeepsMem m := by
  unfold Module.vgather
  extract_lets src dst t n a b d pre
  generalize src = fs₀, dst = fd₀, pre = faults
  split
  case h_2 => exact .badHere
  split
  next f₁ m₁ hreadB =>
  have h₁ : MemKept m m₁ := memKept_of_tread hreadB (.refl m)
  extract_lets idx places slots f2
  refine .checked h₁ ?_
  generalize hgather : List.foldl _ ([], [], m₁) slots = gathered
  have hslots : MemKept m gathered.2.2 := by
    rw [← hgather]
    exact List.foldlRecOn (motive := fun (st : SMap (List Num) × List StageFault × Module) => MemKept m st.2.2) _ _ h₁
      (fun st hst x _ => hst.trans frame_readLines.memKept)
  obtain ⟨tab, f₃, m₂⟩ := gathered
  exact .checked hslots <| .written hslots

theorem Module.keepsMem_vscatter : (m.vscatter s w).KeepsMem m := by
  unfold Module.vscatter
  extract_lets src dst t n a b d pre
  generalize src = fs₀, dst = fd₀, pre = faults
  split
  case h_2 => exact .badHere
  split
  next f₁ m₁ hreadA =>
  split
  next f₂ m₂ hreadB =>
  have h₂ : MemKept m m₂ := memKept_of_tread hreadB <| memKept_of_tread hreadA <| .refl m
  extract_lets vals places codes f3 slots hits
  refine .checked h₂ ?_
  generalize hscatter : List.foldl _ (m₂, [], 0, []) slots = scattered
  have hslots : MemKept m scattered.1 := by
    rw [← hscatter]
    refine List.foldlRecOn (motive := fun (st : Module × List StageFault × Nat × List (Nat × Nat)) => MemKept m st.1)
      _ _ h₂ fun st hst x _ => ?_
    extract_lets lines
    split
    next m' hread =>
    split
    have hlines : MemKept st.1 m' := by
      obtain rfl : _ = m' := congrArg (fun p => p.2.2) hread
      exact frame_readLines.memKept
    exact hst.trans <| hlines.trans <| .foldl fun _ _ => memKept_twrite
  obtain ⟨m₃, f₄, fl, ws⟩ := scattered
  exact .checked h₂ <| .ok <| hslots.trans frame_addFlags.memKept

theorem Module.keepsMem_vfill : (m.vfill s w).KeepsMem m := by
  unfold Module.vfill
  extract_lets dst t n d pre c
  generalize dst = fd₀, pre = faults
  split
  case h_2 => exact .badHere
  exact .written (.refl m)

theorem Module.keepsMem_cload : (m.cload s w).KeepsMem m := by
  unfold Module.cload
  extract_lets a
  split
  next m₁ hread =>
  have h₁ : MemKept m m₁ := memKept_of_tread hread (.refl m)
  have hcurve {g : Tine → Tine} : MemKept m (m₁.modTine s g) := h₁.trans frame_modTine.memKept
  exact .checked h₁ hcurve

theorem Module.keepsMem_ceval : (m.ceval s w env).KeepsMem m := by
  unfold Module.ceval
  extract_lets fs fd r n
  split
  · exact .badHere
  next c _ =>
  have hlanes : (m.lanes s w env fs fd false false (some 1) (fun x _ _ => c.eval x)).KeepsMem m := keepsMem_lanes
  generalize m.lanes s w env fs fd false false (some 1) (fun x _ _ => c.eval x) = o at hlanes ⊢
  extract_lets o'
  split
  case isFalse => exact hlanes
  split
  next b m₁ hbytes =>
  split
  next fl m₂ hflags =>
  obtain rfl : (o.m.drawBytes n).2 = m₁ := congrArg Prod.snd hbytes
  obtain rfl : ((o.m.drawBytes n).2.draw 3).2 = m₂ := congrArg Prod.snd hflags
  have hdraws : MemKept o.m ((o.m.drawBytes n).2.draw 3).2 := ((frame_drawBytes _ _).trans frame_draw).memKept
  have hwritten {l : List Nat} {a f : Nat} : MemKept m ((((o.m.drawBytes n).2.draw 3).2.twrite s a l).addFlags s f) :=
    (hlanes.trans hdraws).trans <| memKept_twrite.trans frame_addFlags.memKept
  exact hwritten

theorem Module.keepsMem_freblock : (m.freblock s w).KeepsMem m := by
  unfold Module.freblock
  extract_lets src dst pre t n k d
  generalize src = fs₀, dst = fd₀, pre = faults
  split
  case h_2 => exact .badHere
  split
  next m₁ hreadA =>
  have h₁ : MemKept m m₁ := memKept_of_tread hreadA (.refl m)
  refine .checked h₁ ?_
  split
  next tail m₂ hdraw =>
  obtain rfl : _ = m₂ := congrArg Prod.snd hdraw
  exact .written <| h₁.trans (frame_drawNums _ _).memKept

theorem Module.keepsMem_ftile : (m.ftile s w env).KeepsMem m := by
  unfold Module.ftile
  extract_lets n t a d
  split
  · exact .badHere
  extract_lets size okFmt pre
  refine .checkedHere ?_
  split
  · exact .ok (.refl m)
  split
  next hread =>
  have h₁ := memKept_of_tread hread (.refl m)
  exact .checked h₁ <| .written h₁

end Vector

end Sys2Proof.Machine
end

section
/-! PROOFS. The movement operations, and an operation's issue, start and end, keep memory in form (R76, R93, R100, R110 to R118). -/

-- Proof by proof: run together, as many short proofs as these each take a thread and its stack while they wait for one another.
set_option Elab.async false

namespace Sys2Proof.Machine

section Movement
variable {m : Module} {s w : Nat} {env : OpEnv}

theorem Module.keepsMem_send : (m.send s w).KeepsMem m := by
  unfold Module.send
  extract_lets t a n d pre
  refine .checkedHere ?_
  split
  next m₁ hread =>
  have h₁ : MemKept m m₁ := memKept_of_tread hread (.refl m)
  refine .checked h₁ ?_
  split
  · exact .ok h₁
  extract_lets gs
  split
  · exact .ok <| h₁.trans <| .of_eq rfl rfl
  · split
    exact .ok <| h₁.trans <| .ite (.refl m₁) frame_sendStream.memKept

theorem Module.keepsMem_recv : (m.recv s w).KeepsMem m := by
  unfold Module.recv
  extract_lets t a n pre _
  split
  · exact .badHere
  refine .checkedHere ?_
  split
  extract_lets left m₁ _
  have h₁ : MemKept m m₁ := frame_modTine.memKept.trans memKept_putFlits
  split
  · exact .badHere
  · exact h₁

theorem Module.keepsMem_dmard : (m.dmard s w env).KeepsMem m := by
  unfold Module.dmard
  extract_lets t a n d c off size pre base busy there m₀ m₁ m₂
  have h₀ : MemKept m m₀ := .ite (.refl m) frame_addrInvalid.memKept
  have h₁ : MemKept m₀ m₁ := .iter fun i m => by
    split
    next g₀ bad m' hread =>
    split
    next g m'' hdraw =>
    extract_lets m₃
    have hread' : MemKept m m' := by
      obtain rfl : _ = m' := congrArg (fun p => p.2.2) hread
      exact .ite_read memKept_devReadVia (.refl m)
    have hdraw' : MemKept m' m'' := by
      obtain rfl : _ = m'' := congrArg Prod.snd hdraw
      split
      · exact frame_draw.memKept
      · exact .refl m'
    have hput : MemKept m'' m₃ := memKept_putGranule
    exact hread'.trans <| hdraw'.trans <| hput.trans <| .ite frame_poisonReq.memKept (.refl m₃)
  have h₂ : MemKept m₁ m₂ := .ite frame_modTine.memKept (.refl m₁)
  exact .checkedHere <| .ok <| h₀.trans <| h₁.trans h₂

theorem Module.keepsMem_dmawr : (m.dmawr s w env).KeepsMem m := by
  unfold Module.dmawr
  extract_lets t a n d c off size pre
  refine .checkedHere ?_
  split
  next m₁ hread =>
  have h₁ : MemKept m m₁ := memKept_of_tread hread (.refl m)
  refine .checked h₁ ?_
  extract_lets gs m₂ log
  have hwrite : MemKept m₁ m₂ := .iter fun _ _ => memKept_devWriteVia
  have hsent : MemKept m₂
      (if c.pairing = 1 then ({ m₂ with ctx := { m₂.ctx with kvWrites := log.reverse ++ m₂.ctx.kvWrites } } : Module).sendKv else m₂) :=
    .ite (frame_ctx.step frame_sendKv).memKept (.refl m₂)
  have hall := h₁.trans <| hwrite.trans hsent
  exact hall

theorem Module.keepsMem_copyOp : (m.copyOp s w).KeepsMem m := by
  unfold Module.copyOp
  extract_lets
  refine .checkedHere ?_
  split
  next hread =>
  have h₁ := memKept_of_tread hread (.refl m)
  exact .checked h₁ <| .ok <| h₁.trans <| memKept_twrite.trans frame_modTine.memKept

theorem Module.keepsMem_input : (m.input s w).KeepsMem m := .checkedHere <| .wrote (.refl m)

theorem Module.keepsMem_output : (m.output s w).KeepsMem m := by
  unfold Module.output
  extract_lets
  refine .checkedHere ?_
  split
  next hread =>
  have h₁ := memKept_of_tread hread (.refl m)
  refine .checked h₁ ?_
  split
  · exact .ok h₁
  · exact .ok <| h₁.trans frame_modReq.memKept

theorem Module.keepsMem_opMeaning : (Module.opMeaning s env w m).KeepsMem m := by
  unfold Module.opMeaning
  split
  · exact keepsMem_tload
  · exact keepsMem_astage
  · exact keepsMem_stream
  · exact keepsMem_wset
  · exact keepsMem_drain
  · exact keepsMem_drainw
  · exact keepsMem_padd
  · exact keepsMem_pdrain
  · exact keepsMem_vec2
  · exact keepsMem_vec2
  · exact keepsMem_vec2
  · exact keepsMem_vfma
  · exact keepsMem_vec2
  · exact keepsMem_vec2
  · exact keepsMem_vlogic
  · exact keepsMem_vshift
  · exact keepsMem_vcmp
  · exact keepsMem_vsel
  · exact keepsMem_vreduce
  · exact keepsMem_vgather
  · exact keepsMem_vscatter
  · exact keepsMem_vfill
  · exact keepsMem_cload
  · exact keepsMem_ceval
  · exact keepsMem_fdecode
  · exact keepsMem_fencode
  · exact keepsMem_freblock
  · exact keepsMem_ftile
  · exact keepsMem_send
  · exact keepsMem_recv
  · exact keepsMem_dmard
  · exact keepsMem_dmawr
  · exact keepsMem_copyOp
  · exact keepsMem_input
  · exact keepsMem_output

end Movement

section Issue
variable {m : Module} {s i w op : Nat} {env : OpEnv} {is : Nat → Bool} {sem : Nat → Module → OpOut} {k : Module → OpOut}
  {mean : OpEnv → Nat → Module → OpOut}

theorem Module.keepsMem_withFormats (hk : ∀ m, (k m).KeepsMem m) : (m.withFormats s w k).KeepsMem m := by
  have hread : MemKept m (m.readTables s (fmtSels w)).2 := (frame_readTables _ m).memKept
  unfold Module.withFormats
  split
  next m₁ he =>
    rw [he] at hread
    exact hread.trans (hk m₁)
  next m₁ _ he =>
    rw [he] at hread
    exact .bad hread

theorem Module.memKept_queueOp (hsem : ∀ w m, (sem w m).KeepsMem m) : MemKept m (m.queueOp s w env sem) := by
  have hmeans : MemKept m (m.withFormats s w (sem w)).m := keepsMem_withFormats (hsem w)
  unfold Module.queueOp
  extract_lets q o
  split
  · split
    · exact hmeans.trans frame_stageFault.memKept
    · exact hmeans.trans frame_pend.memKept
  · exact frame_pend.memKept

/-- An operation keeps memory in form where its meaning does, whatever it issues to. -/
theorem Module.memKept_issue (hsem : ∀ w m, (sem w m).KeepsMem m) : MemKept m (m.issue s env is sem) := by
  have hfault {m : Module} {f : StageFault} : MemKept m (m.stageFault s f) := frame_stageFault.memKept
  unfold Module.issue
  extract_lets m₀ q
  have h₀ : MemKept m m₀ := memKept_upsetSram
  refine .ite (.refl m) <| .ite (h₀.trans hfault) ?_
  split
  next w bad m₁ hread =>
  extract_lets m₂ _ m₃
  have h₁ : MemKept m₀ m₁ := by
    have hgran : MemKept m₀ (m₀.sramGranule s (progBase (m₀.runBank s) + 16 * q.nextPc)).2.2 := frame_sramGranule.memKept
    rwa [hread] at hgran
  have h₂ : MemKept m m₂ := h₀.trans <| h₁.trans frame_reg.memKept
  have h₃ : MemKept m m₃ := h₂.trans frame_modSeq.memKept
  have hsem₃ : MemKept m (sem w m₃).m := h₃.trans (hsem w m₃)
  refine .ite (h₂.trans hfault) <| .ite (.refl m) <| .ite (.refl m) <| .ite (.refl m) <| .ite (h₂.trans hfault) <|
    .ite ?control (h₃.trans (memKept_queueOp hsem))
  split
  · exact hsem₃.trans hfault
  · exact hsem₃

theorem Module.memKept_issueOp (hsem : ∀ w m, (sem w m).KeepsMem m) : MemKept m (m.issueOp s op env sem) := memKept_issue hsem

theorem Module.memKept_startOp (hsem : ∀ env w m, (mean env w m).KeepsMem m) : MemKept m (m.startOp s i mean) := by
  have hseq {m : Module} {g : Seqr → Seqr} : MemKept m (m.modSeq s g) := frame_modSeq.memKept
  unfold Module.startOp
  extract_lets q
  split
  · exact .refl m
  extract_lets self seen o p' m₁
  have h₁ : MemKept m m₁ := hseq.trans <| (keepsMem_withFormats (hsem _ _)).trans hseq
  refine .ite (.refl m) ?_
  split
  · exact h₁.trans frame_stageFault.memKept
  · exact h₁

theorem Module.memKept_startOps : MemKept m (m.startOps s) := .iter fun _ _ => memKept_startOp fun _ _ _ => keepsMem_opMeaning

theorem Module.memKept_opComplete : MemKept m (m.opComplete s i) := by
  unfold Module.opComplete
  extract_lets q
  split
  · exact .refl m
  extract_lets waits
  exact .ite (.refl m) <| frame_modSeq.memKept.trans <| memKept_startOps.trans frame_settle.memKept

end Issue

end Sys2Proof.Machine
end

section
/-! PROOFS. Site, fill and structure commands, and the start of the module, keep memory in form (R86 to R95, R151 to R162, R459). -/

-- Proof by proof: run together, as many short proofs as these each take a thread and its stack while they wait for one another.
set_option Elab.async false

namespace Sys2Proof.Machine

/-! ### Recovery from a fault of a stage -/

section Recovery
variable {m : Module} {s id fid : Nat} {sel : Nat → Bool} {d : Dispatch} {flt : StageFault} {again : Bool}

theorem Module.memKept_moveRow (n : Nat) : ∀ (m : Module) (g : Nat), MemKept m (m.moveRow g n) := by
  induction n with
  | zero => exact fun m _ => .refl m
  | succ n ih =>
    intro m g
    rw [Module.moveRow]
    refine MemKept.trans ?_ (ih _ _)
    generalize codeDecode (m.sram.syndrome g) = r
    cases r with
    | clean => exact .refl m
    | poison => exact .refl m
    | uncorr => exact (frame_draw (v := 128)).memKept.trans memKept_setSram
    | _ => exact memKept_setSram

theorem Module.memKept_remap : MemKept m (m.remap s sel) := by
  unfold Module.remap
  extract_lets rows
  refine .foldl fun m p => ?_
  split
  · exact .refl m
  extract_lets used _ _ m₀ m₁ m₂ m₃
  have h₀ : MemKept m m₀ := frame_saf.memKept
  have h₃ : MemKept m m₃ := h₀.trans <| (memKept_moveRow _ _ _).trans (frame_modTine.step <| frame_reg.step frame_reg).memKept
  split
  · exact (frame_newFault.step frame_retire).memKept
  · exact h₃.trans <| .ite (frame_reg.step frame_reg).memKept (.refl m₃)

theorem Module.memKept_recover : MemKept m (m.recover id s fid d flt again) := by
  unfold Module.recover
  extract_lets x src reexec sender remote
  have hagain {m : Module} : MemKept m (reexec m) := (frame_restart.step frame_reg).memKept
  have hunreachable {p : Nat} : MemKept m (m.failUnreachable id p) := frame_failUnreachable.memKept
  have hretire {m : Module} {s c f : Nat} : MemKept m (m.retire s c f) := frame_retire.memKept
  have hcharge {m : Module} {u : Nat → Req → Bool} : MemKept m (m.charge fid u) := frame_charge.memKept
  have hrefill {m : Module} {c i s b : Nat} : MemKept m (m.refill c i s b) := frame_refill.memKept
  have hmod {m : Module} {g : Req → Req} : MemKept m (m.modReq id g) := frame_modReq.memKept
  generalize sender = o
  split
  · split
    · split
      · exact .ite (hagain.trans <| hcharge.trans hretire) (hagain.trans hcharge)
      · exact hagain
    · exact .ite hunreachable (hagain.trans hcharge)
  · refine .ite frame_failReq.memKept <|
      .ite (.ite (hagain.trans hretire) <| .ite (hagain.trans hrefill) <| .ite (hagain.trans hrefill) hagain) <|
      .ite (hagain.trans memKept_remap) <| .ite (.ite ?_ hagain) <| .ite (.ite hunreachable (hagain.trans hmod)) hagain
    exact (frame_restart.step <| frame_modReq.step frame_ctx).memKept

theorem Module.memKept_faultReport : MemKept m (m.faultReport s) := by
  unfold Module.faultReport
  extract_lets t d m₀
  split
  case h_2 => exact .refl m
  next flt _ =>
  have h₀ : MemKept m m₀ := frame_modTine.memKept
  have hlone {r : LogRec} : MemKept m (m₀.report r) := h₀.trans frame_report.memKept
  split
  · exact hlone
  refine .ite hlone ?_
  extract_lets again
  split
  next fid m₁ hfid =>
  have h₁ : MemKept m₀ m₁ := by
    split at hfid
    · cases hfid
      exact .refl m₀
    · split at hfid
      · cases hfid
        exact .refl m₀
      · obtain rfl : m₀.newFault.2 = m₁ := congrArg Prod.snd hfid
        exact frame_newFault.memKept
  extract_lets m₂ m₃
  have h₂ : MemKept m₁ m₂ := frame_logRec.memKept
  have h₃ : MemKept m₂ m₃ := (MemKept.ite (.refl m₂) frame_charge.memKept).trans frame_modReq.memKept
  exact h₀.trans <| h₁.trans <| h₂.trans <| h₃.trans memKept_recover

theorem Module.memKept_recheckTile : MemKept m m.recheckTile := by
  unfold Module.recheckTile
  split
  · exact .refl m
  extract_lets _ m₀
  have h₀ : MemKept m m₀ := frame_ctx.memKept
  split
  · exact h₀
  extract_lets x
  split
  next sound m₁ hread =>
  have h₁ : MemKept m m₁ := by
    refine h₀.trans ?_
    split at hread
    · cases hread
      exact .refl m₀
    · obtain rfl := congrArg Prod.snd hread
      exact memKept_devBytes
  extract_lets fid
  split
  · exact h₁.trans (frame_modReq.step <| frame_reg.step frame_retire).memKept
  · exact h₁.trans (frame_setCtx.step frame_failReq).memKept

end Recovery

/-! ### Streams, fills and bank switches -/

section Fills
variable {m : Module} {s b c i a n src : Nat} {e : MemFault} {env : OpEnv} {flit : Flit} {hits : List (Nat × Nat × Nat)}

theorem Module.memKept_deliver : MemKept m (m.deliver s flit) := by
  unfold Module.deliver
  extract_lets q here
  split
  · exact memKept_putGranule.trans frame_modSeq.memKept
  · exact frame_modTine.memKept

theorem Module.memKept_mesh {x : List Flit} : MemKept m { m with mesh := x } := .of_eq rfl rfl

theorem Module.memKept_streamFlit : MemKept m (m.streamFlit s i hits) := by
  unfold Module.streamFlit
  split
  · exact .refl m
  extract_lets earlier t mine
  refine .ite (.refl m) ?_
  split
  next g m₁ hpath =>
  obtain rfl : _ = m₁ := congrArg Prod.snd hpath
  exact (memKept_mesh.trans frame_meshPath.memKept).trans memKept_deliver

theorem Module.memKept_loseRange : MemKept m (m.loseRange s a n) := memKept_zeroSram.trans frame_modTine.memKept

theorem Module.memKept_fillStart : MemKept m (m.fillStart i) := by
  unfold Module.fillStart
  split
  · exact .refl m
  extract_lets x rate behind st m₁ m₂ m₃
  split
  have h₂ : MemKept m m₂ := memKept_remap.trans ((frame_setBank.step frame_reg).step frame_reg).memKept
  refine .ite (.refl m) <| .ite frame_bankEvent.memKept ?_
  exact h₂.trans <| (memKept_loseRange.trans memKept_loseRange).trans
    (frame_bookStart.step <| frame_modFill.step frame_refreshAll).memKept

theorem Module.memKept_fillStep : MemKept m (m.fillStep s b e) := by
  unfold Module.fillStep
  split
  · exact .refl m
  split
  · exact .refl m
  extract_lets x sl
  refine .ite (.refl m) ?_
  split
  split
  next d bad m₁ hread =>
  extract_lets m₂ m₃
  have h₁ : MemKept m m₁ := by
    obtain rfl : _ = m₁ := congrArg (fun p => p.2.2) hread
    split
    · exact frame_meshPath.memKept
    · exact memKept_devReadVia
  have h₂ : MemKept m₁ m₂ := memKept_twrite
  have h₃ : MemKept m₂ m₃ := .ite frame_reg.memKept (.refl m₂)
  exact .ite (h₁.trans frame_fillPoisoned.memKept) (h₁.trans <| h₂.trans <| h₃.trans frame_modFill.memKept)

theorem Module.memKept_recache : MemKept m (m.recache c src) := by
  unfold Module.recache
  extract_lets x
  split
  · split
    · exact memKept_copyImage.trans frame_setCtx.memKept
    · exact .refl m
  · exact .refl m

theorem Module.memKept_fillEnd : MemKept m (m.fillEnd s b) := by
  unfold Module.fillEnd
  split
  · exact .refl m
  split
  · exact .refl m
  extract_lets x tag m₁ _ m₂ m₃
  have h₁ : MemKept m m₁ := ((frame_setBank.step frame_reg).step frame_modTine).memKept
  have h₂ : MemKept m₁ m₂ := frame_ctx.memKept
  have h₃ : MemKept m₂ m₃ := .ite frame_reg.memKept (.refl m₂)
  refine .ite ?_ ((frame_bankEvent.step frame_fillFaulted).step frame_refreshAll).memKept
  exact h₁.trans <| h₂.trans <| h₃.trans <| memKept_recache.trans (frame_refreshAll.step frame_pokeWaiters).memKept

theorem Module.memKept_switchEnd : MemKept m (m.switchEnd s env) := by
  unfold Module.switchEnd
  refine .ite (.refl m) ?_
  extract_lets m₀ b old
  have h₀ : MemKept m m₀ := memKept_upsetSram
  split
  next m₁ hread₁ =>
  split
  next m₂ hread₂ =>
  have h₂ : MemKept m m₂ := h₀.trans <| memKept_remap.trans ((frame_of_sramGranules hread₁).step (frame_of_sramGranules hread₂)).memKept
  extract_lets m₃ ok m₄ m₅ m₆ m₇
  have h₃ : MemKept m₂ m₃ := memKept_loseRange
  have h₄ : MemKept m₃ m₄ := (MemKept.ite (.refl m₃) frame_setBank.memKept).trans frame_reg.memKept
  have h₅ : MemKept m m₅ := h₂.trans <| h₃.trans <| h₄.trans frame_modTine.memKept
  have hbank {v r : Nat} : MemKept m ((m₅.setBank s b v).wr Reg.tineBankStatus_runningBank r [s]) :=
    h₅.trans (frame_setBank.step frame_reg).memKept
  have h₆ : MemKept m m₆ := hbank
  have h₇ : MemKept m m₇ := hbank
  split
  · split
    · exact h₆.trans frame_startStage.memKept
    · exact h₆
  · split
    split
    · exact h₇.trans (frame_modTine.step <| frame_stageFault.step frame_refreshAll).memKept
    · exact h₇.trans frame_refreshAll.memKept

end Fills

/-! ### Sites -/

section Sites
variable {m : Module} {s : Nat} {pass : Bool}

theorem Module.memKept_writeFormats : MemKept m (m.writeFormats s) := .iter fun _ _ => memKept_setSram

theorem Module.memKept_siteActive : MemKept m (m.siteActive s) := by
  unfold Module.siteActive
  extract_lets m₁
  have h₁ : Frame [.regs] m m₁ := ((frame_reg.trans frame_reg).trans frame_reg).trans frame_reg
  exact (h₁.step frame_modTine).memKept.trans memKept_writeFormats

theorem Module.memKept_entryTest : MemKept m (m.entryTest s pass) := by
  unfold Module.entryTest
  extract_lets back m₁
  have h₁ : MemKept m m₁ := .ite frame_siteReturns.memKept (.refl m)
  refine .ite (.refl m) <| .ite (.ite (h₁.trans memKept_siteActive) ?spare) ?failed
  case spare => exact h₁.trans ((frame_reg.step frame_modTine).step frame_siteOff).memKept
  case failed =>
    have hfault : Frame [.regs, .saf] m (m.set1 Reg.tineFault_entryTestFail [s]).newFault.2 := frame_reg.step frame_newFault
    exact (hfault.step <| (frame_retireNow.step frame_siteOff).step <| frame_retarget.step frame_alerts).memKept

theorem Module.memKept_clearWork : MemKept m (m.clearWork s) := memKept_zeroSram.trans frame_modTine.memKept

theorem Module.memKept_wake : MemKept m (m.wake s) := by
  unfold Module.wake
  exact .ite ((frame_reg.step frame_modTine).memKept.trans <| memKept_clearWork.trans frame_seqStart.memKept) (.refl m)

end Sites

/-! ### The module's structure -/

section Structure
variable {m : Module} {new : List Nat} {sets : List Tset}

theorem Module.memKept_structVerify : MemKept m m.structVerify := by
  unfold Module.structVerify
  refine .ite frame_reg.memKept ?_
  extract_lets a n
  have hread : MemKept m (m.devBytes 0 a (min n 0x100000)).2.2 := memKept_devBytes
  generalize m.devBytes 0 a (min n 0x100000) = x at hread ⊢
  obtain ⟨bytes, bad, m₀⟩ := x
  split
  next b m₁ hcopy =>
  have h₁ : MemKept m m₁ := by
    split at hcopy
    · cases hcopy
      exact hread
    · cases hcopy
      exact frame_addrInvalid.memKept
  exact h₁.trans (frame_str.step frame_reg).memKept

theorem Module.memKept_applyStruct : MemKept m (m.applyStruct new sets) := by
  unfold Module.applyStruct
  extract_lets old oldSets _ m₁ m₂ m₃ m₄ m₅ m₆
  have h₁ : MemKept m m₁ := frame_str.memKept
  have h₂ : MemKept m₁ m₂ := .foldl fun _ _ => memKept_writeFormats
  have h₃ : MemKept m₂ m₃ := .foldl fun _ _ => frame_applyPort.memKept
  have h₄ : MemKept m₃ m₄ := .foldl fun _ _ => frame_applyCtx.memKept
  have h₅ : MemKept m₄ m₅ := .foldl fun _ _ => frame_reg.memKept
  exact h₁.trans <| h₂.trans <| h₃.trans <| h₄.trans <| h₅.trans (frame_reg.step <| frame_reg.step frame_reg).memKept

theorem Module.memKept_structApplyDone : MemKept m m.structApplyDone := by
  unfold Module.structApplyDone
  exact .ite (.refl m) <| memKept_applyStruct.trans (frame_reg.step <| frame_reg.step <| frame_reg.step frame_str).memKept

end Structure

/-! ### The start of the module -/

section Boot
variable {m : Module} {s : Nat} {t : BootTest}

theorem Module.memKept_bootPass : MemKept m (m.bootPass s) := by
  unfold Module.bootPass
  extract_lets back m₁
  have h₁ : MemKept m m₁ := .ite frame_siteReturns.memKept (.refl m)
  exact .ite (.refl m) <| h₁.trans <| .ite memKept_siteActive (frame_reg.step <| frame_modTine.step frame_siteCut).memKept

theorem Module.memKept_bootReplace : MemKept m (m.bootReplace s) := by
  unfold Module.bootReplace
  exact .ite (frame_saf.memKept.trans <| .ite (frame_bootDomains.memKept.trans memKept_siteActive) (.refl _)) (.refl m)

theorem Module.memKept_bootFail : MemKept m (m.bootFail s) := by
  unfold Module.bootFail
  exact .ite (.refl m) <| (frame_reg.step <| frame_newFault.step <| frame_modTine.step <| frame_retired.step frame_siteCut).memKept.trans <|
    memKept_bootReplace.trans frame_logRec.memKept

theorem Module.memKept_bootDevices : MemKept m (m.bootDevices t) := by
  unfold Module.bootDevices
  refine .ite (.refl m) ?_
  extract_lets m₁ m₂ m₃ m₄ rows _ _ m₅ m₆ m₇ m₈ m₉ m₁₀
  have h₁ : MemKept m m₁ := (MemKept.foldl fun _ _ => frame_bootDomain.memKept).trans frame_reg.memKept
  have h₂ : MemKept m₁ m₂ := .foldl fun m _ => .ite (.refl m) frame_readFuse.memKept
  have h₃ : MemKept m₂ m₃ := frame_bootLasers.memKept
  have h₄ : MemKept m₃ m₄ := .foldl fun m _ => .ite (.refl m) (frame_bootDomain.step frame_bootFibre).memKept
  have h₅ : MemKept m₄ m₅ := frame_saf.memKept
  have h₆ : MemKept m₅ m₆ := (MemKept.foldl fun _ _ => frame_bootSite.memKept).trans frame_showRows.memKept
  have h₇ : MemKept m₆ m₇ := .foldl fun _ _ => memKept_bootPass
  have h₈ : MemKept m₇ m₈ := .foldl fun _ _ => memKept_bootFail
  have h₉ : MemKept m₈ m₉ := .foldl fun _ _ => memKept_bootReplace
  have h₁₀ : MemKept m₉ m₁₀ := .foldl fun m _ => .ite (.ite (.refl m) frame_bootDomain.memKept) frame_reg.memKept
  have hbuilt : MemKept m m₅ := h₁.trans <| h₂.trans <| h₃.trans <| h₄.trans h₅
  have htested : MemKept m₅ m₁₀ := h₆.trans <| h₇.trans <| h₈.trans <| h₉.trans h₁₀
  exact hbuilt.trans <| htested.trans <| MemKept.trans (.foldl fun _ _ => frame_bootConn.memKept) (frame_alerts.step frame_reg).memKept

theorem Module.memKept_bootStructure : MemKept m m.bootStructure := by
  unfold Module.bootStructure
  refine .ite (.refl m) ?_
  extract_lets m₁ m₂ m₃ ok m₄ m₅
  have h₁ : MemKept m m₁ := memKept_zeroDev
  have h₂ : MemKept m₁ m₂ := (frame_reg.step frame_reg).memKept
  have h₃ : MemKept m₂ m₃ := (frame_reg.step frame_calRound).memKept
  have h₄ : MemKept m₃ m₄ := by
    unfold m₄
    split
    · exact memKept_applyStruct.trans (frame_reg.step frame_reg).memKept
    · exact frame_reg.memKept.trans <| .foldl fun _ _ => (frame_reg.step frame_domainOff).memKept
  have h₅ : MemKept m₄ m₅ := .foldl fun _ _ => frame_opticsUp.memKept
  exact h₁.trans <| h₂.trans <| h₃.trans <| h₄.trans <| h₅.trans frame_reg.memKept

end Boot

end Sys2Proof.Machine
end

section
/-! PROOFS. Check values, loads, scrubbing, CXL ports, host accesses, releases and fabric requests keep memory in form (R169, R190 to
R208, R229 to R240, R470). -/

-- Proof by proof: run together, as many short proofs as these each take a thread and its stack while they wait for one another.
set_option Elab.async false

namespace Sys2Proof.Machine

/-! ### Check values and loads -/

section Loads
variable {m : Module} {e c : Nat} {host : Option (List Nat)} {ld : Load} {l : List Nat} {bad : Bool}

theorem Module.memKept_crcEnd : MemKept m (m.crcEnd e host) := by
  unfold Module.crcEnd
  split
  · exact .refl m
  next r _ =>
  extract_lets m₀ fail give
  have h₀ : MemKept m m₀ := (frame_crc.step frame_reg).memKept
  have hfail {x : Module} {c : Nat} : MemKept x (fail x c) := frame_reg.memKept
  have hgive {x : Module} {v : Nat} : MemKept x (give x v) := (frame_reg.step <| frame_reg.step <| frame_reg.step frame_reg).memKept
  have hread : MemKept m₀ (m₀.devBytes 0 r.src r.len).2.2 := memKept_devBytes
  generalize m₀.devBytes 0 r.src r.len = x at hread ⊢
  obtain ⟨bytes, bad, m₁⟩ := x
  refine h₀.trans <| .ite hfail <| .ite ?host <| .ite hfail <| hread.trans <| .ite hfail <| .ite hgive <|
    (frame_draw (v := r.width)).memKept.trans hgive
  split
  · exact hfail
  · exact hgive

theorem Module.memKept_loadBytes : MemKept m (m.loadBytes ld l).2.2 := by
  unfold Module.loadBytes
  split
  · split
    · exact memKept_devBytes
    · exact frame_addrInvalid.memKept
  · exact .refl m

/-- Where an operation answers a module and no error, memory keeps its form. -/
def MemKeptOk {ε : Type} (m : Module) (o : Except ε Module) : Prop := ∀ b, o = .ok b → MemKept m b

section Answers
variable {ε : Type} {b : Module} {err : ε} {p : Prop} [Decidable p]

theorem MemKeptOk.error : MemKeptOk m (.error err) := fun _ h => nomatch h

theorem MemKeptOk.ok (h : MemKept m b) : MemKeptOk m (.ok b : Except ε Module) := fun _ hb => Except.ok.inj hb ▸ h

theorem MemKeptOk.ite {o o' : Except ε Module} (h : MemKeptOk m o) (h' : MemKeptOk m o') : MemKeptOk m (if p then o else o') := by
  split
  · exact h
  · exact h'

end Answers

theorem Module.memKept_dev_sec {y : Store} {z : Secur} (h : m.dev.wf = true → y.wf = true) :
    MemKept m { m with dev := y, sec := z } := fun ⟨hd, hs⟩ => ⟨h hd, hs⟩

theorem Module.memKeptOk_loadChecked : MemKeptOk m (m.loadChecked c ld l bad) := by
  unfold Module.loadChecked
  extract_lets x g kv spill x₁ ck
  refine .ite .error <| .ite .error ?_
  split
  · exact .error
  split
  next ka m₁ hka =>
  have hkv : MemKept m m₁ := .of_ite hka (.refl m) (frame_setCtx.step frame_allocOr).memKept
  split
  · exact .error
  extract_lets x₂ free port
  split
  next ca m₂ hca =>
  have hsealed : MemKept m₁ m₂ := .of_ite hca frame_setCtx.memKept frame_setCtx.memKept
  split
  · exact .error
  have hzero {g n g' n' : Nat} (h : m₂.dev.wf = true) : ((m₂.dev.zero g n).zero g' n').wf = true := Store.wf_zero (Store.wf_zero h g n) g' n'
  extract_lets x₃
  split
  · exact .error
  · exact .ite .error <| .ok <| hkv.trans <| hsealed.trans <| (memKept_dev_sec hzero).trans frame_setCtx.memKept

theorem Module.memKept_loadCopied : MemKept m (m.loadCopied c l) := by
  unfold Module.loadCopied
  split
  · exact .refl m
  next ld _ =>
  extract_lets x
  have hbytes : MemKept m (m.loadBytes ld l).2.2 := memKept_loadBytes
  generalize m.loadBytes ld l = y at hbytes ⊢
  obtain ⟨b, bad, m₁⟩ := y
  dsimp -zeta only
  extract_lets m₂
  have hput : MemKept m m₂ := hbytes.trans <| .foldl fun _ _ => memKept_putImage
  split
  · exact hput.trans frame_loadFail.memKept
  next m₃ hload =>
  extract_lets _ m₄ m₅
  have hfill : MemKept m₄ m₅ := .ite frame_placed.memKept (.refl m₄)
  exact hput.trans <| (memKeptOk_loadChecked _ hload).trans <| frame_ctx.memKept.trans <| hfill.trans frame_finish.memKept

end Loads

/-! ### Scrubbing and CXL ports -/

section Ports
variable {m : Module} {a e p : Nat} {dev : Option CxlDevice}

theorem Module.memKept_scrubRepair : MemKept m (m.scrubRepair a) := by
  unfold Module.scrubRepair
  refine .ite ((frame_draw (v := 128)).memKept.trans memKept_devWrite) ?_
  split
  · exact .refl m
  next c base _ =>
  split
  next o _ =>
    have hread : MemKept m (m.devRead (o + (a - base)) 0 sevDegraded).2.2 := memKept_devRead
    exact hread.trans <| .ite frame_latch_ctx.memKept <| memKept_devWrite.trans frame_repairs.memKept
  · exact frame_latch_ctx.memKept

theorem Module.memKept_scrubRead : MemKept m (m.scrubRead e) := by
  unfold Module.scrubRead
  refine .ite (.refl m) ?_
  extract_lets g m₀ first m₁ m₂ total n
  have h₀ : MemKept m m₀ := .dev fun h => by
    split
    · exact h
    · exact Store.wf_upset h g e
  have h₁ : MemKept m₀ m₁ := memKept_devRead
  have h₂ : MemKept m₁ m₂ := .ite memKept_scrubRepair (.refl m₁)
  exact h₀.trans <| h₁.trans <| h₂.trans <|
    .ite (frame_scrub.step <| frame_reg.step frame_reg).memKept (frame_scrub.step frame_reg).memKept

theorem Module.memKept_ckptLost : MemKept m (m.ckptLost p) := by
  unfold Module.ckptLost
  extract_lets cs m₁
  have h₁ : MemKept m m₁ := (frame_reg.step frame_report).memKept
  refine .ite (.refl m) <| .ite (h₁.trans frame_pair.memKept) <| .foldl fun m c => ?_
  extract_lets x n m₂ _ m₃
  have h₃ : MemKept m m₃ := (frame_setCtx.step frame_pair).memKept
  split
  · exact h₃.trans <| memKept_zeroDev.trans frame_setCtx.memKept
  · exact h₃

theorem Module.memKept_cxlRetrain : MemKept m (m.cxlRetrain p dev) := by
  unfold Module.cxlRetrain
  refine .ite (.refl m) ?_
  split
  · exact frame_reg.memKept.trans memKept_ckptLost
  · exact .ite (frame_reg.step <| frame_reg.step <| frame_reg.step <| frame_reg.step frame_cxlRec).memKept <|
      (frame_cxlLost.step frame_reg).memKept.trans <| memKept_zeroDev.trans <| frame_cxlBring.memKept.trans <|
        memKept_ckptLost.trans frame_cxlRec.memKept

end Ports

/-! ### Coherent accesses of hosts -/

section Aperture
variable {m : Module} {g a n o : Nat} {x : QMsg} {b : List Nat} {bytes : Option (List Nat)}

theorem Module.memKept_cohServe : MemKept m (m.cohServe g x) := by
  unfold Module.cohServe
  extract_lets line keep
  split
  next data m₁ hread =>
  have h₁ : MemKept m m₁ := .of_ite hread (.refl m) (memKept_readGrans _ _ _)
  exact h₁.trans (frame_setLine.step frame_due).memKept

theorem Module.memKept_hostReadNow : MemKept m (m.hostReadNow a n) :=
  (memKept_devBytes (src := 0) (a := a) (n := n)).trans frame_emit.memKept

theorem Module.memKept_hostWriteNow : MemKept m (m.hostWriteNow a b) := memKept_devWriteBytes _ _ _ _

theorem Module.memKept_cohWake : MemKept m m.cohWake := by
  unfold Module.cohWake
  extract_lets span ready _ m₀
  have h₀ : MemKept m m₀ := frame_qlk.memKept
  exact h₀.trans <| .foldl fun _ _ => .ite memKept_cohServe <| .ite memKept_hostReadNow memKept_hostWriteNow

theorem Module.memKept_hostAccess : MemKept m (m.hostAccess a n bytes) :=
  (frame_snoopRange.step frame_qlk).memKept.trans memKept_cohWake

theorem Module.memKept_bar4Read : MemKept m (m.bar4Read o n) := by
  unfold Module.bar4Read
  split
  · exact memKept_hostAccess
  · exact (frame_unsup.step frame_addrInvalid).memKept

theorem Module.memKept_bar4Write : MemKept m (m.bar4Write o b) := by
  unfold Module.bar4Write
  split
  · exact memKept_hostAccess
  · exact frame_addrInvalid.memKept

end Aperture

/-! ### Releases and requests of the fabric -/

section Release
variable {m : Module} {c id cycle off d p v op : Nat} {r : Req} {pt : RelPoint} {progress : Bool}
  {f : Module → Pkt → List (Nat × Nat) → Option Module}

theorem Module.memKept_checkpoint : MemKept m (m.checkpoint c) := by
  -- The 4,096 program granules become a number n, and the body stands in for the function before it is applied, so that no check of
  -- this proof runs the draws.
  obtain ⟨n, hn⟩ : ∃ n, n = 4096 := ⟨_, rfl⟩
  conv => arg 2; fun; fun; delta Module.checkpoint
  rw [← hn]
  extract_lets x
  split
  next kv bad m₁ hkv =>
  have h₁ : MemKept m m₁ := by
    obtain rfl : _ = m₁ := congrArg (fun y => y.2.2) hkv
    exact memKept_devBytes
  split
  next prog m₂ hprog =>
  have h₂ : MemKept m₁ m₂ := by
    obtain rfl : _ = m₂ := congrArg Prod.snd hprog
    exact (frame_drawGrans _ _).memKept
  split
  next b k m₃ hnonce =>
  have h₃ : MemKept m₂ m₃ := by
    obtain rfl : _ = m₃ := congrArg Prod.snd hnonce
    exact frame_nextNonce.memKept
  extract_lets nonce sealedB half m₄ _ m₅
  have h₅ : MemKept m m₅ := h₁.trans <| h₂.trans <| h₃.trans <| (memKept_devWriteBytes _ _ _ _).trans frame_pair.memKept
  exact .ite (h₅.trans (frame_copyOut.step frame_reg).memKept) h₅

theorem Module.memKept_writeGran : MemKept m (m.writeGran r off d) := by
  unfold Module.writeGran
  split
  · exact .refl m
  · exact .ite (.ite (frame_snoopRange.memKept.trans (memKept_devWriteBytes _ _ _ _)) frame_addrInvalid.memKept) <|
      .ite frame_emit.memKept (.refl m)

theorem Module.memKept_releasePt : MemKept m (m.releasePt id pt progress) := by
  unfold Module.releasePt
  split
  · exact .refl m
  extract_lets m₁ rel m₂
  have h₁ : MemKept m m₁ := .ite (.foldl fun _ _ => memKept_writeGran) (.refl m)
  have h₂ : MemKept m m₂ := h₁.trans frame_modReq.memKept
  refine .ite h₂ <| .ite (h₂.trans ?reply) <| .ite h₂ <| h₂.trans <| .ite frame_post.memKept frame_reg.memKept
  case reply =>
    split
    · exact frame_replyWith.memKept
    · exact .refl m₂

theorem Module.memKept_delivered : MemKept m (m.delivered id cycle) := by
  unfold Module.delivered
  split
  · exact .refl m
  extract_lets taken us late m₁ st
  have h₁ : MemKept m m₁ := .foldl fun _ _ => memKept_checkpoint
  exact h₁.trans <| .ite (frame_lateRec.step <| frame_lateCount.step frame_complete).memKept frame_complete.memKept

theorem Module.memKept_releaseReq : MemKept m (m.releaseReq id cycle) := by
  unfold Module.releaseReq
  split
  · exact .refl m
  refine .ite (.refl m) ?_
  extract_lets fin small points m₀ m₁
  have h₁ : MemKept m m₁ := frame_modReq.memKept.trans <| .foldl fun _ _ => memKept_releasePt
  exact .ite (.ite frame_ended.memKept (.refl m)) <| .ite (h₁.trans memKept_delivered) h₁

theorem Module.memKept_releaseGate : MemKept m (m.releaseGate cycle) := by
  unfold Module.releaseGate
  refine .ite (.refl m) ?_
  extract_lets m₀
  have h₀ : MemKept m m₀ := .ite frame_reg.memKept (.refl m)
  exact h₀.trans <| .foldl fun _ _ => memKept_releaseReq

/-- A packet consumed keeps memory in form where acting on its message does. -/
theorem Module.memKept_consume (h : ∀ m x gs, MemKept m ((f m x gs).getD m)) : MemKept m (m.consume p v op f) := by
  unfold Module.consume
  split
  · exact .refl m
  next k _ =>
  have hfilter : MemKept m ((m.popPkt p v).epochOk k).2 := (frame_popPkt.step frame_epochOk).memKept
  generalize (m.popPkt p v).epochOk k = x at hfilter ⊢
  obtain ⟨ok, m₀⟩ := x
  dsimp -zeta only
  extract_lets _ m₁
  have h₁ : MemKept m m₁ := hfilter.trans <| .ite (.refl m₀) frame_rte.memKept
  refine .ite h₁ ?_
  have hjoin : MemKept m (m₁.assemble k).2 := h₁.trans frame_assemble.memKept
  generalize m₁.assemble k = y at hjoin ⊢
  obtain ⟨_ | ⟨hdr, gs⟩, m₂⟩ := y
  · exact hjoin
  · refine .getD fun b hb => hjoin.trans ?_
    simpa [hb] using h m₂ hdr gs

theorem Module.memKept_fabricRequest : MemKept m (m.fabricRequest p v cycle) := by
  unfold Module.fabricRequest
  refine .ite (.refl m) <| memKept_consume fun m h gs => ?_
  split
  split
  · exact frame_reg.memKept
  extract_lets e r₀ r push
  have hpush {m : Module} {r : Req} : MemKept m (push m r) := frame_host.memKept.trans memKept_arbitrate
  split
  · exact (frame_resumeReq.step <| frame_reg.step frame_acceptReq).memKept
  · split
    · exact hpush
    · split
      · exact .refl m
      · exact frame_subscribe.memKept.trans hpush

end Release

end Sys2Proof.Machine
end

section
/-! PROOFS. Guests, coherence, pairing, resets and register writes keep memory in form (R244, R360 to R366, R385 to R401, R458). -/

-- Proof by proof: run together, as many short proofs as these each take a thread and its stack while they wait for one another.
set_option Elab.async false

namespace Sys2Proof.Machine

/-! ### Guests and coherence (R359 to R366) -/

section Guests
variable {m : Module} {g cls op who line : Nat} {x : QMsg} {k : Module → QMsg → Module} {h : Module → Module} {f : Nat → Nat → Nat → Nat}
  {sn : Snoop}

theorem Module.memKept_guestMsg (hk : ∀ m x, MemKept m (k m x)) : MemKept m (m.guestMsg g cls op k) := by
  unfold Module.guestMsg
  split
  · exact .refl m
  · refine .ite (.refl m) ?_
    extract_lets m₁ cause
    have htaken : MemKept m m₁ := frame_modGuest.memKept
    exact htaken.trans <| .ite frame_fwRefuse.memKept (hk m₁ _)

theorem Module.memKept_guestAccess (hh : MemKept m (h m)) : MemKept m (m.guestAccess g x h) := by
  unfold Module.guestAccess
  split
  · exact (frame_addrInvalid.step frame_respond).memKept
  · exact hh

theorem Module.memKept_guestRd : MemKept m (m.guestRd g) := memKept_guestMsg fun _ x =>
  memKept_guestAccess <| (memKept_readGrans (x.aux + 1) _ x.addr).trans frame_respond.memKept

theorem Module.memKept_guestWr : MemKept m (m.guestWr g) := memKept_guestMsg fun _ _ =>
  memKept_guestAccess <| (memKept_writeGrans _ _ _).trans frame_respond.memKept

theorem Module.memKept_guestWrMasked : MemKept m (m.guestWrMasked g) := memKept_guestMsg fun _ _ =>
  memKept_guestAccess memKept_devWriteMasked

theorem Module.memKept_guestAtomic : MemKept m (m.guestAtomic g op f) := memKept_guestMsg fun m x =>
  memKept_guestAccess <|
    (memKept_devRead (m := m) (a := x.addr / 8 * 8 - x.addr / 8 * 8 % 16) (src := 3) (sev := sevDegraded)).trans <|
    memKept_devWriteMasked.trans frame_respond.memKept

theorem Module.memKept_guestCopy : MemKept m (m.guestCopy g) := memKept_guestMsg fun m x =>
  memKept_guestAccess <| (memKept_readGrans (bitsOf (x.payload.headD (0, 0)).1 95 64) m x.addr).trans <|
    (memKept_writeGrans _ _ _).trans frame_respond.memKept

theorem Module.memKept_cohRequest : MemKept m (m.cohRequest g op) := memKept_guestMsg fun _ _ =>
  (frame_snoopLine.step frame_qlk).memKept.trans memKept_cohWake

theorem Module.memKept_cohWriteBack : MemKept m (m.cohWriteBack g) := memKept_guestMsg fun _ _ =>
  (memKept_writeGrans _ _ _).trans frame_setLine.memKept

theorem Module.memKept_snoopOver : MemKept m (m.snoopOver sn) := (frame_setLine.step frame_qlk).memKept.trans memKept_cohWake

theorem Module.memKept_snoopAck : MemKept m (m.snoopAck g) := memKept_guestMsg fun m x => by
  split
  · exact (MemKept.ite (memKept_writeGrans _ _ _) (.refl m)).trans memKept_snoopOver
  · exact .refl m

theorem Module.memKept_snoopTimeout : MemKept m (m.snoopTimeout g line) := by
  unfold Module.snoopTimeout
  split
  · extract_lets m₁ dead snoops m₂
    have hpoison : MemKept m m₁ := memKept_writeGrans _ _ _
    have hdead : MemKept m₁ m₂ := frame_qlk.memKept
    exact hpoison.trans <| hdead.trans <| frame_violation.memKept.trans memKept_snoopOver
  · exact .refl m

end Guests

/-! ### Pairing (R385 to R401) -/

section Pairing
variable {m b : Module} {p k n msg cycle epoch : Nat} {f : Module → Lease → Pkt → Module} {l : List Nat}
  {recs : List (List Nat)} {kv : List (Nat × List Nat)} {subs : List Nat} {lists : List HostLists}

theorem Module.memKept_openCkpts : MemKept m m.openCkpts := .foldl fun m x => by
  have hlatch : MemKept m (Module.latch m x.1) := frame_latch_ctx.memKept
  refine .ite (.refl m) ?_
  split
  · exact hlatch
  · split
    · exact hlatch
    · exact memKept_devWriteBytes _ _ _ _

theorem Module.memKept_takeOver : MemKept m (m.takeOver lists) :=
  frame_pair.memKept.trans <| MemKept.trans (.foldl fun _ _ => frame_mirroredAt.memKept) <| memKept_openCkpts.trans frame_pair.memKept

theorem Module.memKept_switchover : MemKept m (m.switchover lists) := by
  unfold Module.switchover
  split
  · exact .refl m
  · exact .ite (.refl m) <| (frame_serve.step <| frame_reg.step <| frame_pairEvent.step <| frame_pair.step frame_announceAll).memKept.trans <|
      memKept_takeOver.trans frame_ownNumbering.memKept

theorem Module.memKept_handoverDone : MemKept m (m.handoverDone epoch lists) := by
  unfold Module.handoverDone
  extract_lets m₀ pair m₁ pair' m₂
  have hserves : MemKept m m₂ := (frame_serve.step <| frame_pair.step frame_announceAll).memKept.trans <|
    memKept_takeOver.trans (frame_ownNumbering.step <| frame_pair.step frame_pairEvent).memKept
  split
  · exact hserves.trans (frame_pair.step frame_finish).memKept
  · exact hserves

theorem Module.memKept_takeLease (h : ∀ m b k, MemKept m (f m b k)) : MemKept m (m.takeLease p msg f) :=
  memKept_consume fun m k gs => .getD fun b hb => by
    obtain ⟨-, he⟩ := Option.ite_none_right_eq_some.mp hb
    cases he
    exact h _ _ _

theorem Module.memKept_leaseGrant : MemKept m (m.leaseGrant p lists) := memKept_takeLease fun m b _ => by
  extract_lets st
  refine .ite (.refl m) <| .ite ?_ <| .ite (frame_answered.step frame_pair).memKept <|
    .ite frame_serve.memKept <| .ite memKept_handoverDone (.refl m)
  split
  · exact (frame_serve.step <| frame_pair.step frame_finish).memKept
  · exact .refl m

theorem Module.memKept_applyKv : MemKept m (m.applyKv l) := .ite (.refl m) (memKept_devWriteBytes _ _ _ _)

theorem Module.memKept_applyRec : MemKept m (m.applyRec l) := by
  unfold Module.applyRec
  split
  · exact memKept_applyKv
  · exact frame_applyOut.memKept
  · exact frame_applyDesc.memKept
  · exact frame_applyMod.memKept
  · exact frame_applyReq.memKept
  · exact .refl m

theorem Module.memKept_applyDelta : MemKept m (m.applyDelta k recs cycle) := by
  unfold Module.applyDelta
  extract_lets m₁ live
  have hrecs : MemKept m m₁ := .foldl fun _ _ => memKept_applyRec
  exact hrecs.trans (frame_pair.step frame_reg).memKept

theorem Module.memKept_applyEarly (n : Nat) : ∀ m : Module, MemKept m (m.applyEarly n) := by
  induction n with
  | zero => exact fun m => .refl m
  | succ n ih =>
    intro m
    rw [Module.applyEarly]
    split
    · exact .refl m
    · split
      · exact frame_pair.memKept
      · exact memKept_applyDelta.trans (ih _)

theorem Module.memKept_closeRec : MemKept m (m.closeRec p cycle) := by
  unfold Module.closeRec
  split
  · exact .refl m
  next b m₀ h =>
  have htaken : MemKept m m₀ := (frame_takeRec h).memKept
  refine htaken.trans <| .ite (.refl m₀) ?_
  extract_lets recs all k pair m₁ m₂ pair' m₃ done m₄
  have hbase : MemKept m₀ m₁ := (frame_pair.step frame_deltaBase).memKept
  have hepoch : MemKept m₁ m₂ := .ite (.refl m₁) frame_reg.memKept
  have happlied : MemKept m₂ m₃ := by
    unfold m₃
    split
    · exact memKept_applyDelta
    · exact .ite (.refl m₂) <| .ite (memKept_applyDelta.trans (memKept_applyEarly _ _)) <|
        .ite (frame_deltaGap.memKept.trans memKept_applyDelta) frame_pair.memKept
  have hacked : MemKept m₃ m₄ := .ite (.refl m₃) frame_copyOut.memKept
  have hclosed : MemKept m₁ m₄ := hepoch.trans <| happlied.trans hacked
  refine hbase.trans <| .ite (.refl m₁) <| hclosed.trans ?_
  split
  · exact .ite frame_handoverRefused.memKept (.refl m₄)
  · exact .refl m₄

theorem Module.memKept_ckptRec : MemKept m (m.ckptRec p) := by
  unfold Module.ckptRec
  split
  · exact .refl m
  next b m₁ h =>
  extract_lets c x data half room m₂
  have hkept : MemKept m₁ m₂ := .ite (.refl m₁) (memKept_devWriteBytes _ _ _ _)
  exact (frame_takeRec h).memKept.trans <| .ite (.refl m₁) <| .ite (.refl m₁) <| hkept.trans frame_pair.memKept

theorem Module.memKept_resyncComplete : MemKept m (m.resyncComplete kv recs subs) := by
  unfold Module.resyncComplete
  extract_lets m₁ m₂
  have hcopied : MemKept m m₁ := .foldl fun m _ => .ite (.refl m) (memKept_devWriteBytes _ _ _ _)
  have hreqs : MemKept m₁ m₂ := .foldl fun _ _ => frame_applyReq.memKept
  exact .ite (hcopied.trans <| hreqs.trans (frame_pair.step frame_reg).memKept) <| .ite (frame_pair.step frame_reg).memKept (.refl m)

end Pairing

/-! ### Resets (R458) -/

section Resets
variable {m : Module} {cause v : Nat} {img : FwImage}

/-- A reset empties SRAM and keeps the bytes of the CXL windows alone. -/
theorem Module.memKept_reinitialise : MemKept m (m.reinitialise cause) := by
  intro hm
  have htorn : MemKept m m.torn := frame_torn.memKept
  obtain ⟨r, heq, -, hsram, -, -, -, -, -, -, -, -, hdev⟩ := m.reinitialise_eq (cause := cause)
  have hr : r.memOk := by
    refine ⟨?_, ?_⟩
    · rw [hdev]
      exact Store.wf_fromAddr (htorn hm).1 _ _
    · rw [hsram]
      exact Store.wf_reset
  rw [heq]
  exact (frame_storedFields m.torn r).memKept.trans frame_reg.memKept hr

theorem Module.memKept_powerOn : MemKept m m.powerOn := by
  unfold Module.powerOn
  extract_lets m₁
  have h₁ : MemKept m m₁ := frame_powerFailDone.memKept.trans memKept_reinitialise
  clear_value m₁
  refine .ite (.refl m) ?_
  split
  extract_lets m₂
  have h₂ : MemKept m₁ m₂ := .of_eq rfl rfl
  exact h₁.trans <| h₂.trans frame_reg.memKept

theorem Module.memKept_modReset : MemKept m m.modReset := frame_hub.memKept.trans memKept_reinitialise

theorem Module.memKept_hubReset : MemKept m (m.hubReset v) := by
  unfold Module.hubReset
  exact .ite memKept_reinitialise (.refl m)

theorem Module.memKept_watchdog : MemKept m m.watchdog := .ite memKept_reinitialise (.refl m)

theorem Module.memKept_recoveryImage : MemKept m (m.recoveryImage img) := by
  unfold Module.recoveryImage
  exact .ite (frame_writeFw.memKept.trans memKept_reinitialise) (.refl m)

end Resets

/-! ### Register writes (R11, R244, R360) -/

section Registers
variable {m : Module} {fs : List Fld} {idx : List Nat} {off space size q i p b g c v : Nat} {write : Bool} {f : Module → Module}

theorem Module.frame_writeFields : Frame [.regs] m (m.writeFields fs idx v) := .foldl fun _ _ => frame_writeField _ _ _ _

theorem Module.memKept_onBit (h : ∀ m, MemKept m (f m)) : MemKept m (m.onBit v b f) := .ite (h m) (.refl m)

theorem Module.frame_msixFlush : Frame [.out, .regs] m (m.msixFlush v) := by
  unfold Module.msixFlush
  exact .mono (by decide) <| .either (frame_reg.step frame_emit) .rfl

theorem Module.memKept_msixWrite : MemKept m (m.msixWrite i v) := frame_reg.memKept.trans <| .ite frame_msixFlush.memKept (.refl _)

theorem Module.memKept_queueWrite : MemKept m (m.queueWrite fs q v) := .ite frame_writeFields.memKept (.refl m)

theorem Module.memKept_structCtl : MemKept m (m.structCtl v) :=
  (((memKept_onBit fun _ => memKept_structVerify).trans <| memKept_onBit fun _ => frame_structCommit.memKept).trans <|
    memKept_onBit fun _ => frame_structAbort.memKept).trans <| memKept_onBit fun _ => frame_structPersist.memKept

theorem Module.memKept_portCtl : MemKept m (m.portCtl p v) :=
  ((frame_loopMode.memKept.trans <| memKept_onBit fun _ => frame_firnRetrain.memKept).trans <|
    memKept_onBit fun _ => frame_clearSafety.memKept).trans <| memKept_onBit fun _ => frame_useSpare.memKept

theorem Module.memKept_lasCtl : MemKept m (m.lasCtl b v) :=
  (frame_reg.step frame_reg).memKept.trans <| memKept_onBit fun _ => frame_askSwap.memKept

theorem Module.memKept_linkCtl : MemKept m (m.linkCtl p v) :=
  ((memKept_onBit fun _ => frame_reinitAsk.memKept).trans <| memKept_onBit fun _ => frame_retrainAsk.memKept).trans <|
    memKept_onBit fun _ => frame_flushNow.memKept

theorem Module.memKept_thmCtl : MemKept m (m.thmCtl v) :=
  (((frame_forceFields.memKept.trans <| memKept_onBit fun _ => frame_clearShutdown.memKept).trans <|
    memKept_onBit fun _ => frame_thmRetestCh.memKept).trans <| memKept_onBit fun _ => frame_thmReleaseCh.memKept).trans <|
    memKept_onBit fun _ => frame_thmForceTo.memKept

theorem Module.memKept_calCtl : MemKept m (m.calCtl fs v) :=
  (frame_writeFields.memKept.trans <| memKept_onBit fun _ => frame_calRevert.memKept).trans <| memKept_onBit fun _ => frame_calRun.memKept

theorem Module.memKept_fwCtl : MemKept m (m.fwCtl fs g v) :=
  (frame_writeFields.memKept.trans <| memKept_onBit fun _ => frame_clrViol.memKept).trans <| memKept_onBit fun _ => frame_reg.memKept

theorem Module.memKept_dbgCtl : MemKept m (m.dbgCtl fs v) := .ite frame_dbgGo.memKept frame_writeFields.memKept

theorem Module.memKept_snapCtl : MemKept m (m.snapCtl v) :=
  .ite (frame_snapRearm.step frame_snapReg).memKept <| .ite frame_snapRearm.memKept frame_snapReg.memKept

theorem Module.memKept_writeTable : ∀ t ∈ writeTable, ∀ m fs idx v, MemKept m (t.2 m fs idx v) := by
  simp only [writeTable, List.forall_mem_cons]
  exact ⟨fun _ _ _ _ => memKept_hubReset,
    fun _ _ _ _ => memKept_structCtl,
    fun _ _ _ _ => frame_apertureWrite.memKept,
    fun _ _ _ _ => memKept_msixWrite,
    fun _ _ _ _ => memKept_queueWrite,
    fun _ _ _ _ => memKept_queueWrite,
    fun _ _ _ _ => memKept_queueWrite,
    fun _ _ _ _ => memKept_queueWrite,
    fun _ _ _ _ => memKept_queueWrite,
    fun _ _ _ _ => memKept_queueWrite,
    fun _ _ _ _ => (memKept_onBit fun _ => frame_queEnable.memKept).trans <| memKept_onBit fun _ => frame_queDisable.memKept,
    fun _ _ _ _ => frame_ctxSel.memKept,
    fun _ _ _ _ => ((memKept_onBit fun _ => frame_clrOutcomes.memKept).trans <| memKept_onBit fun _ => frame_clrReasons.memKept).trans <|
      memKept_onBit fun _ => frame_clrPeak.memKept,
    fun _ _ _ _ => ((memKept_onBit fun _ => frame_reg.memKept).trans <| memKept_onBit fun _ => frame_reg.memKept).trans <|
      memKept_onBit fun _ => frame_modTine.memKept,
    fun _ _ _ _ => memKept_portCtl,
    fun _ _ _ _ => memKept_lasCtl,
    fun _ _ _ _ => memKept_linkCtl,
    fun _ _ _ _ => memKept_onBit fun _ => frame_fabClr.memKept,
    fun _ _ _ _ => frame_writeFields.memKept.trans <| memKept_onBit fun _ => frame_rteCommit.memKept,
    fun _ _ _ _ => memKept_onBit fun _ => frame_rteClr.memKept,
    fun _ _ _ _ => frame_shadowWrite.memKept,
    fun _ _ _ _ => frame_shadowWrite.memKept,
    fun _ _ _ _ => frame_shadowWrite.memKept,
    fun _ _ _ _ => frame_shadowWrite.memKept,
    fun _ _ _ _ => memKept_onBit fun _ => frame_retrain.memKept,
    fun _ _ _ _ => memKept_onBit fun _ => frame_qclear.memKept,
    fun _ _ _ _ => memKept_fwCtl,
    fun _ _ _ _ => frame_winRights.memKept,
    fun _ _ _ _ => memKept_dbgCtl,
    fun _ _ _ _ => frame_hostRegionWrite.memKept,
    fun _ _ _ _ => (memKept_onBit fun _ => frame_clrDev.memKept).trans <| memKept_onBit fun _ => frame_clrCirque.memKept,
    fun _ _ _ _ => memKept_onBit fun _ => frame_pairClr.memKept,
    fun _ _ _ _ => memKept_thmCtl,
    fun _ _ _ _ => frame_curveWrite.memKept,
    fun m _ _ _ => .ite frame_writeFields.memKept (.refl m),
    fun _ _ _ _ => memKept_calCtl,
    fun _ _ _ _ => frame_faultPinClr.memKept,
    fun m _ _ _ => .ite (.refl m) (frame_reg.step frame_reg).memKept,
    fun _ _ _ _ => frame_logSel.memKept,
    fun _ _ _ _ => memKept_snapCtl,
    fun _ _ _ _ => frame_secLock.memKept,
    fun _ _ _ _ => frame_crcGo.memKept,
    List.forall_mem_nil _⟩

theorem Module.memKept_regWrite : MemKept m (m.regWrite off v) := by
  unfold Module.regWrite
  split
  · exact .refl m
  · split
    next t hfind => exact memKept_writeTable t (List.mem_of_find?_eq_some hfind) _ _ _ _
    next => exact frame_writeFields.memKept

theorem Module.memKept_configWrite : MemKept m (m.configWrite off v) := by
  have hmod {g : Pcie → Pcie} : MemKept m (m.modPcie g) := frame_modPcie.memKept
  have hreset : MemKept m m.pcieReset := frame_pcieReset.memKept
  unfold Module.configWrite
  split
  · exact hmod.trans <| .iter fun _ _ => frame_msixFlush.memKept
  · exact .ite hmod <| .ite hreset (.refl m)
  · exact hmod
  · exact hmod
  · exact hmod
  · exact hmod
  · exact hmod
  · exact hmod
  · exact .ite hmod (.refl m)
  · exact .ite hmod (.refl m)
  · exact hmod
  · exact hmod
  · exact hmod
  · exact .ite hreset (.refl m)
  · exact .refl m

theorem Module.memKept_hostWrite32 : MemKept m (m.hostWrite32 space off v) := by
  unfold Module.hostWrite32
  split
  · exact .ite memKept_regWrite (.refl m)
  · refine .ite ?doorbell (.refl m)
    unfold Module.doorbellWrite
    split
    · exact frame_sqTail.memKept
    · exact frame_cqHead.memKept
    · exact .refl m
  · exact .ite memKept_configWrite frame_emit.memKept

theorem Module.memKept_hostRead32 : MemKept m (m.hostRead32 space off) := by
  unfold Module.hostRead32
  split
  · exact ((frame_readAt (off := off)).step frame_emit).memKept
  · exact frame_emit.memKept
  · exact .ite frame_emit.memKept frame_emit.memKept

theorem Module.memKept_hostMmio : MemKept m (m.hostMmio space off size write v) :=
  .ite (.ite memKept_hostWrite32 memKept_hostRead32) <| .ite (.refl m) frame_unsup.memKept

theorem Module.memKept_dbgWrite : MemKept m (m.dbgWrite c) := by
  unfold Module.dbgWrite
  refine .ite (memKept_guestMsg fun m _ => .refl m) ?_
  split
  · exact .refl m
  · refine .ite frame_dbgSet.memKept ?_
    split
    · exact frame_dbgSet.memKept
    · exact memKept_regWrite.trans frame_dbgSet.memKept

end Registers

end Sys2Proof.Machine
end

section
/-! PROOFS. Every command, and so every step, keeps device memory and SRAM in canonical form. -/

namespace Sys2Proof.Machine

/-- Command `c` leaves memory in form where it finds it so. -/
def CommandKeepsMem (c : Instr) : Prop := ∀ s t : State, s.memOk → exec c s = .next t → t.memOk

section Commands
variable {c : Instr} {ok : Bool} {f : Module → Module} {ks : List Kind}

/-- A command whose effect, where its operands are well-formed, keeps memory in form. -/
theorem CommandKeepsMem.of_act (he : ∀ s, exec c s = s.act ok f) (hf : ok = true → ∀ m, MemKept m (f m)) : CommandKeepsMem c := by
  intro s t hs hstep
  rw [he s] at hstep
  cases hstep
  change (if ok then f s.toModule else s.toModule).memOk
  split
  next hok => exact hf hok _ hs
  next => exact hs

/-- A command whose effect lies outside device memory and SRAM. -/
theorem CommandKeepsMem.of_frame (he : ∀ s, exec c s = s.act ok f) (hf : ∀ m, Frame ks m (f m)) (hd : Kind.dev ∉ ks := by decide)
    (hs : Kind.sram ∉ ks := by decide) : CommandKeepsMem c := .of_act he fun _ m => (hf m).memKept hd hs

end Commands

open Sys2Proof.Machine.Module in
/-- Every command keeps memory in form: by its frame, or by what its operation does to memory. -/
theorem command_keepsMem (c : Instr) : CommandKeepsMem c := by
  cases c with
  | roundBoundary => exact .of_act (exec_roundBoundary _ _ _) fun _ _ => memKept_roundBoundary
  | roundMark => exact .of_act (exec_roundMark _) fun h _ => (frame_roundMark (lt_of_isConn h)).memKept
  | heldWindowExpiry => exact .of_frame (exec_heldWindowExpiry _) fun _ => frame_windowExpiry
  | coalesceTimeout => exact .of_frame (exec_coalesceTimeout _) fun _ => frame_coalesceTimeout
  | hubRoundLoRead => exact .of_frame exec_hubRoundLoRead fun _ => frame_readRoundLo
  | tineCyclesLoRead => exact .of_frame (exec_tineCyclesLoRead _) fun _ => frame_readCyclesLo
  | tineMatPassesLoRead => exact .of_frame (exec_tineMatPassesLoRead _) fun _ => frame_readPassesLo
  | admAcceptedLoRead => exact .of_frame exec_admAcceptedLoRead fun _ => frame_readAcceptedLo
  | calOpsecLoRead => exact .of_frame exec_calOpsecLoRead fun _ => frame_readOpsecLo
  | registerWrite => exact .of_act (exec_registerWrite _ _) fun _ _ => memKept_hostWrite32
  | unsupportedAccess => exact .of_act (exec_unsupportedAccess _) fun _ _ => memKept_hostMmio
  | refclkLost => exact .of_frame exec_refclkLost fun _ => frame_refclkLost
  | refclkReturn => exact .of_frame exec_refclkReturn fun _ => frame_refclkReturn
  | holdoverSlewEnd => exact .of_frame exec_holdoverSlewEnd fun _ => frame_slewEnd
  | rootPllUnlock => exact .of_frame exec_rootPllUnlock fun _ => frame_rootUnlock
  | rootPllLock => exact .of_frame (exec_rootPllLock _) fun _ => frame_rootLock
  | treeLostAtDie => exact .of_frame (exec_treeLostAtDie _) fun _ => frame_treeLostAtDie
  | bothTreesLost => exact .of_frame (exec_bothTreesLost _) fun _ => frame_bothTreesLost
  | clockLossNotice => exact .of_frame (exec_clockLossNotice _) fun _ => frame_clockLossNotice
  | treeSourceLost => exact .of_frame (exec_treeSourceLost _) fun _ => frame_treeSourceLost
  | tload => exact .of_act (exec_tload _ _) fun _ _ => memKept_issueOp fun _ _ => keepsMem_tload
  | astage => exact .of_act (exec_astage _ _) fun _ _ => memKept_issueOp fun _ _ => keepsMem_astage
  | stream => exact .of_act (exec_stream _ _) fun _ _ => memKept_issueOp fun _ _ => keepsMem_stream
  | wset => exact .of_act (exec_wset _ _) fun _ _ => memKept_issueOp fun _ _ => keepsMem_wset
  | drain => exact .of_act (exec_drain _ _) fun _ _ => memKept_issueOp fun _ _ => keepsMem_drain
  | drainw => exact .of_act (exec_drainw _ _) fun _ _ => memKept_issueOp fun _ _ => keepsMem_drainw
  | padd => exact .of_act (exec_padd _ _) fun _ _ => memKept_issueOp fun _ _ => keepsMem_padd
  | pdrain => exact .of_act (exec_pdrain _ _) fun _ _ => memKept_issueOp fun _ _ => keepsMem_pdrain
  | vadd => exact .of_act (exec_vadd _ _) fun _ _ => memKept_issueOp fun _ _ => keepsMem_vec2
  | vsub => exact .of_act (exec_vsub _ _) fun _ _ => memKept_issueOp fun _ _ => keepsMem_vec2
  | vmul => exact .of_act (exec_vmul _ _) fun _ _ => memKept_issueOp fun _ _ => keepsMem_vec2
  | vfma => exact .of_act (exec_vfma _ _) fun _ _ => memKept_issueOp fun _ _ => keepsMem_vfma
  | vmin => exact .of_act (exec_vmin _ _) fun _ _ => memKept_issueOp fun _ _ => keepsMem_vec2
  | vmax => exact .of_act (exec_vmax _ _) fun _ _ => memKept_issueOp fun _ _ => keepsMem_vec2
  | vlogic => exact .of_act (exec_vlogic _ _) fun _ _ => memKept_issueOp fun _ _ => keepsMem_vlogic
  | vshift => exact .of_act (exec_vshift _ _) fun _ _ => memKept_issueOp fun _ _ => keepsMem_vshift
  | vcmp => exact .of_act (exec_vcmp _ _) fun _ _ => memKept_issueOp fun _ _ => keepsMem_vcmp
  | vsel => exact .of_act (exec_vsel _ _) fun _ _ => memKept_issueOp fun _ _ => keepsMem_vsel
  | vreduce => exact .of_act (exec_vreduce _ _) fun _ _ => memKept_issueOp fun _ _ => keepsMem_vreduce
  | vgather => exact .of_act (exec_vgather _ _) fun _ _ => memKept_issueOp fun _ _ => keepsMem_vgather
  | vscatter => exact .of_act (exec_vscatter _ _) fun _ _ => memKept_issueOp fun _ _ => keepsMem_vscatter
  | vfill => exact .of_act (exec_vfill _ _) fun _ _ => memKept_issueOp fun _ _ => keepsMem_vfill
  | cload => exact .of_act (exec_cload _ _) fun _ _ => memKept_issueOp fun _ _ => keepsMem_cload
  | ceval => exact .of_act (exec_ceval _ _) fun _ _ => memKept_issueOp fun _ _ => keepsMem_ceval
  | fdecode => exact .of_act (exec_fdecode _ _) fun _ _ => memKept_issueOp fun _ _ => keepsMem_fdecode
  | fencode => exact .of_act (exec_fencode _ _) fun _ _ => memKept_issueOp fun _ _ => keepsMem_fencode
  | freblock => exact .of_act (exec_freblock _ _) fun _ _ => memKept_issueOp fun _ _ => keepsMem_freblock
  | ftile => exact .of_act (exec_ftile _ _) fun _ _ => memKept_issueOp fun _ _ => keepsMem_ftile
  | send => exact .of_act (exec_send _ _) fun _ _ => memKept_issueOp fun _ _ => keepsMem_send
  | recv => exact .of_act (exec_recv _ _) fun _ _ => memKept_issueOp fun _ _ => keepsMem_recv
  | recvTimeout => exact .of_frame (exec_recvTimeout _ _) fun _ => frame_recvTimeout
  | dmard => exact .of_act (exec_dmard _ _) fun _ _ => memKept_issueOp fun _ _ => keepsMem_dmard
  | dmawr => exact .of_act (exec_dmawr _ _) fun _ _ => memKept_issueOp fun _ _ => keepsMem_dmawr
  | copy => exact .of_act (exec_copy _ _) fun _ _ => memKept_issueOp fun _ _ => keepsMem_copyOp
  | input => exact .of_act (exec_input _ _) fun _ _ => memKept_issueOp fun _ _ => keepsMem_input
  | output => exact .of_act (exec_output _ _) fun _ _ => memKept_issueOp fun _ _ => keepsMem_output
  | nop => exact .of_act (exec_nop _ _) fun _ _ => memKept_issueOp fun _ _ => MemKept.refl _
  | sbegin => exact .of_act (exec_sbegin _ _) fun _ _ => memKept_issueOp fun _ _ => frame_sbegin.memKept
  | setreg => exact .of_act (exec_setreg _ _) fun _ _ => memKept_issueOp fun _ _ => frame_ctrl.memKept
  | addreg => exact .of_act (exec_addreg _ _) fun _ _ => memKept_issueOp fun _ _ => frame_ctrl.memKept
  | loop => exact .of_act (exec_loop _ _) fun _ _ => memKept_issueOp fun _ _ => frame_ctrl.memKept
  | brcnt => exact .of_act (exec_brcnt _ _) fun _ _ => memKept_issueOp fun _ _ => frame_ctrl.memKept
  | jump => exact .of_act (exec_jump _ _) fun _ _ => memKept_issueOp fun _ _ => frame_ctrl.memKept
  | barrier => exact .of_act (exec_barrier _ _) fun _ _ => memKept_issueOp fun _ _ => frame_waitFor.memKept
  | sync => exact .of_act (exec_sync _ _) fun _ _ => memKept_issueOp fun _ _ => frame_waitFor.memKept
  | cschk => exact .of_act (exec_cschk _ _) fun _ _ => memKept_issueOp fun _ _ => frame_waitFor.memKept
  | relmark => exact .of_act (exec_relmark _ _) fun _ _ => memKept_issueOp fun _ _ => frame_waitFor.memKept
  | trap => exact .of_act (exec_trap _ _) fun _ _ => memKept_issueOp fun _ _ => MemKept.refl _
  | eos => exact .of_act (exec_eos _ _) fun _ _ => memKept_issueOp fun _ _ => frame_eos.memKept
  | reservedOpcode => exact .of_act (exec_reservedOpcode _ _) fun _ _ => memKept_issue fun _ _ => MemKept.refl _
  | operationComplete => exact .of_act (exec_operationComplete _ _) fun _ _ => memKept_opComplete
  | stageFaultReport => exact .of_act (exec_stageFaultReport _) fun _ _ => memKept_faultReport
  | tileChecksumRecheck => exact .of_act exec_tileChecksumRecheck fun _ _ => memKept_recheckTile
  | stageEndReport => exact .of_frame (exec_stageEndReport _) fun _ => frame_endReport
  | stageDispatch => exact .of_frame (exec_stageDispatch _) fun _ => frame_dispatchStage
  | streamFlit => exact .of_act (exec_streamFlit _ _) fun _ _ => memKept_streamFlit
  | fillStart => exact .of_act (exec_fillStart _) fun _ _ => memKept_fillStart
  | fillGranule => exact .of_act (exec_fillGranule _ _) fun _ _ => memKept_fillStep
  | fillEnd => exact .of_act (exec_fillEnd _ _) fun _ _ => memKept_fillEnd
  | fillAbort => exact .of_frame (exec_fillAbort _ _) fun _ => frame_fillAbort
  | bankSwitchEnd => exact .of_act (exec_bankSwitchEnd _ _) fun _ _ => memKept_switchEnd
  | spareCalled => exact .of_frame (exec_spareCalled _) fun _ => frame_spareCalled
  | entryTestDone => exact .of_act (exec_entryTestDone _ _) fun _ _ => memKept_entryTest
  | parkCommand => exact .of_frame (exec_parkCommand _) fun _ => frame_park
  | wakeCommand => exact .of_act (exec_wakeCommand _) fun _ _ => memKept_wake
  | migrationStart => exact .of_frame (exec_migrationStart _) fun _ => frame_migrationStart
  | migrationDone => exact .of_frame (exec_migrationDone _) fun _ => frame_migrationDone
  | tineCntClrActivity => exact .of_frame (exec_tineCntClrActivity _) fun _ => frame_modTine
  | tineCntClrCheckfield => exact .of_frame (exec_tineCntClrCheckfield _) fun _ => frame_reg
  | tineCntClrCorr => exact .of_frame (exec_tineCntClrCorr _) fun _ => frame_reg
  | structVerify => exact .of_act exec_structVerify fun _ _ => memKept_structVerify
  | structVerified => exact .of_frame exec_structVerified fun _ => frame_structVerified
  | structCommit => exact .of_frame exec_structCommit fun _ => frame_structCommit
  | structAbort => exact .of_frame exec_structAbort fun _ => frame_structAbort
  | quiesceComplete => exact .of_frame exec_quiesceComplete fun _ => frame_quiesceComplete
  | quiesceTimeout => exact .of_frame exec_quiesceTimeout fun _ => frame_quiesceTimeout
  | structApplyDone => exact .of_act exec_structApplyDone fun _ _ => memKept_structApplyDone
  | structPersist => exact .of_frame exec_structPersist fun _ => frame_structPersist
  | structPersistDone => exact .of_frame (exec_structPersistDone _) fun _ => frame_structPersistDone
  | loadImage => exact .of_act (exec_loadImage _ _ _ _ _ _) fun _ _ => memKept_fetchOp
  | loadImageCopied => exact .of_act (exec_loadImageCopied _ _) fun _ _ => memKept_loadCopied
  | evict => exact .of_act (exec_evict _ _ _ _ _ _) fun _ _ => memKept_fetchOp
  | pin => exact .of_act (exec_pin _ _ _ _ _ _) fun _ _ => memKept_fetchOp
  | query => exact .of_act (exec_query _ _ _ _ _ _) fun _ _ => memKept_fetchOp
  | cancel => exact .of_act (exec_cancel _ _ _ _ _ _) fun _ _ => memKept_fetchOp
  | invoke => exact .of_act (exec_invoke _ _ _ _ _ _) fun _ _ => memKept_fetchOp
  | invokeChain => exact .of_act (exec_invokeChain _ _ _ _ _ _) fun _ _ => memKept_fetchOp
  | scrubRead => exact .of_act (exec_scrubRead _) fun _ _ => memKept_scrubRead
  | gddr7TempRead => exact .of_frame (exec_gddr7TempRead _ _) fun _ => frame_gddrTemp
  | cxlLinkDown => exact .of_frame (exec_cxlLinkDown _) fun _ => frame_cxlDown
  | cxlRetrainEnd => exact .of_act (exec_cxlRetrainEnd _ _) fun _ _ => memKept_cxlRetrain
  | cxlBringup => exact .of_frame (exec_cxlBringup _ _) fun _ => frame_cxlBringup
  | memHostRegionWrite => exact .of_frame (exec_memHostRegionWrite _) fun _ => frame_hostRegionWrite
  | memCntClrCirque => exact .of_frame exec_memCntClrCirque fun _ => frame_clrCirque
  | memCntClrDev => exact .of_frame exec_memCntClrDev fun _ => frame_clrDev
  | bar4Read => exact .of_act (exec_bar4Read _ _) fun _ _ => memKept_bar4Read
  | bar4Write => exact .of_act (exec_bar4Write _ _) fun _ _ => memKept_bar4Write
  | hubApertureBaseWrite => exact .of_frame (exec_hubApertureBaseWrite _) fun _ => frame_apertureWrite
  | releaseGateOpen => exact .of_act (exec_releaseGateOpen _) fun _ _ => memKept_releaseGate
  | admCntClrPeak => exact .of_frame exec_admCntClrPeak fun _ => frame_clrPeak
  | admCntClrReasons => exact .of_frame exec_admCntClrReasons fun _ => frame_clrReasons
  | admCntClrOutcomes => exact .of_frame exec_admCntClrOutcomes fun _ => frame_clrOutcomes
  | sqTailDoorbell => exact .of_frame (exec_sqTailDoorbell _ _) fun _ => frame_sqTail
  | cqHeadDoorbell => exact .of_frame (exec_cqHeadDoorbell _ _) fun _ => frame_cqHead
  | sqEntryFetched => exact .of_act (exec_sqEntryFetched _ _ _ _) fun _ _ => memKept_sqEntry
  | sqFetchError => exact .of_frame (exec_sqFetchError _) fun _ => frame_sqFetchError
  | entryTaken => exact .of_act (exec_entryTaken _ _ _ _) fun _ _ => memKept_inputCopied
  | hostReadFail => exact .of_act (exec_hostReadFail _ _ _) fun _ _ => memKept_hostReadFail
  | createQueue => exact .of_frame (exec_createQueue _) fun _ => frame_createQueue
  | deleteQueue => exact .of_frame (exec_deleteQueue _) fun _ => frame_deleteQueue
  | queueDrainDone => exact .of_frame (exec_queueDrainDone _) fun _ => frame_queueDrained
  | bind => exact .of_frame (exec_bind _) fun _ => frame_bindCtx
  | unbind => exact .of_frame (exec_unbind _) fun _ => frame_unbindCtx
  | queEnable => exact .of_frame exec_queEnable fun _ => frame_queEnable
  | queue0Enabled => exact .of_frame exec_queue0Enabled fun _ => frame_queue0Enabled
  | queDisable => exact .of_frame exec_queDisable fun _ => frame_queDisable
  | pcieReset => exact .of_frame exec_pcieReset fun _ => frame_pcieReset
  | fabricRequest => exact .of_act (exec_fabricRequest _ _ _) fun _ _ => memKept_fabricRequest
  | reply => exact .of_frame (exec_reply _ _) fun _ => frame_replyPacket
  | quote => exact .of_frame (exec_quote _ _ _) fun _ => frame_quotePacket
  | subreq => exact .of_frame (exec_subreq _ _ _ _ _ _ _ _ _) fun _ => frame_subreqPacket
  | streamPacket => exact .of_frame (exec_streamPacket _ _ _) fun _ => frame_streamPacket
  | packetForward => exact .of_frame (exec_packetForward _ _) fun _ => frame_packetForward
  | notice => exact .of_frame (exec_notice _ _ _ _) fun _ => frame_noticePacket
  | noticeSend => exact .of_frame (exec_noticeSend _) fun _ => frame_noticeSend
  | messageReassemblyTimeout => exact .of_frame (exec_messageReassemblyTimeout _ _ _) fun _ => frame_reassemblyTimeout
  | fabricJoin => exact .of_frame (exec_fabricJoin _) fun _ => frame_fabricJoin
  | fabricLeave => exact .of_frame (exec_fabricLeave _) fun _ => frame_fabricLeave
  | fabricLeaveDone => exact .of_frame exec_fabricLeaveDone fun _ => frame_fabricLeft
  | rteCommit => exact .of_frame exec_rteCommit fun _ => frame_rteCommit
  | shadowTableWrite => exact .of_frame (exec_shadowTableWrite _ _ _) fun _ => frame_shadowWrite
  | rteClrAll => exact .of_frame exec_rteClrAll fun _ => frame_rteClr
  | dataFlit => exact .of_frame (exec_dataFlit _ _ _ _) fun _ => frame_dataFlit
  | idleFlit => exact .of_frame (exec_idleFlit _ _ _) fun _ => frame_idleFlit
  | flitCrcFail => exact .of_frame (exec_flitCrcFail _) fun _ => frame_badFlit
  | ackTimeout => exact .of_frame (exec_ackTimeout _) fun _ => frame_ackTimeout
  | init => exact .of_frame (exec_init _ _ _ _ _ _ _ _ _) fun _ => frame_initFlit
  | retrainReq => exact .of_frame (exec_retrainReq _ _ _ _) fun _ => frame_ctlFlit (ks := retrainKinds) (by decide) fun _ => frame_retrainReq
  | mapPropose => exact .of_frame (exec_mapPropose _ _ _ _ _ _ _) fun _ => frame_ctlFlit (ks := askedKinds) (by decide) fun _ => frame_mapAsked
  | mapRequest => exact .of_frame (exec_mapRequest _ _ _ _ _ _ _) fun _ => frame_ctlFlit (ks := askedKinds) (by decide) fun _ => frame_mapAsked
  | mapAck => exact .of_frame (exec_mapAck _ _ _ _ _) fun _ => frame_ctlFlit (ks := portKinds) (by decide) fun _ => frame_mapAck
  | mapReject => exact .of_frame (exec_mapReject _ _ _ _ _) fun _ => frame_ctlFlit (ks := narrowKinds) (by decide) fun _ => frame_mapReject
  | creditAudit => exact .of_frame (exec_creditAudit _ _ _ _) fun _ => frame_ctlFlit (ks := flitKinds) (by decide) fun _ => frame_creditAudit
  | loopReq => exact .of_frame (exec_loopReq _ _ _) fun _ => frame_ctlFlit (ks := portKinds) (by decide) fun _ => frame_loopReq
  | mapSwitch => exact .of_frame (exec_mapSwitch _ _) fun _ => frame_mapSwitch
  | mapRequestTimeout => exact .of_frame (exec_mapRequestTimeout _) fun _ => frame_mapTimeout
  | slotLost => exact .of_frame (exec_slotLost _ _) fun _ => frame_slotLost
  | crcFailTimeout => exact .of_frame (exec_crcFailTimeout _) fun _ => frame_retrainAsk
  | waveRetry => exact .of_frame (exec_waveRetry _) fun _ => frame_waveRetry
  | linkGrace => exact .of_frame (exec_linkGrace _) fun _ => frame_linkGrace
  | graceExpiry => exact .of_frame (exec_graceExpiry _) fun _ => frame_graceExpiry
  | initRetry => exact .of_frame (exec_initRetry _) fun _ => frame_initRetry
  | phyPortUp => exact .of_frame (exec_phyPortUp _ _ _ _) fun _ => frame_phyUp
  | flushNow => exact .of_frame (exec_flushNow _) fun _ => frame_flushNow
  | retrainFull => exact .of_frame (exec_retrainFull _) fun _ => frame_retrainAsk
  | reinit => exact .of_frame (exec_reinit _) fun _ => frame_reinitAsk
  | fabClrAll => exact .of_frame (exec_fabClrAll _) fun _ => frame_fabClr
  | ringLockLoss => exact .of_frame (exec_ringLockLoss _ _ _) fun _ => frame_ringLost
  | clkLost => exact .of_frame (exec_clkLost _) fun _ => frame_clkLost
  | clockFallbackLock => exact .of_frame (exec_clockFallbackLock _) fun _ => frame_fallbackLock
  | fallbackExit => exact .of_frame (exec_fallbackExit _) fun _ => frame_fallbackExit
  | setf => exact .of_frame (exec_setf _ _) fun _ => frame_seqSetf
  | setfs => exact .of_frame (exec_setfs _ _) fun _ => frame_seqSetfs
  | getf => exact .of_frame (exec_getf _ _ _) fun _ => frame_seqGetf
  | loads => exact .of_frame (exec_loads _ _) fun _ => frame_seqLoads
  | adds => exact .of_frame (exec_adds _ _) fun _ => frame_seqAdds
  | wait => exact .of_frame (exec_wait _) fun _ => frame_seqWaitStep
  | poll => exact .of_frame (exec_poll _ _ _) fun _ => frame_seqPoll
  | brs => exact .of_frame (exec_brs _ _) fun _ => frame_seqBrs
  | measure => exact .of_frame (exec_measure _ _ _) fun _ => frame_seqMeasure
  | done => exact .of_frame (exec_done _ _) fun _ => frame_seqFinish
  | fail => exact .of_frame (exec_fail _ _) fun _ => frame_seqFinish
  | seqLimitExceeded => exact .of_frame (exec_seqLimitExceeded _ _) fun _ => frame_seqLimit
  | laserLocked => exact .of_frame (exec_laserLocked _ _ _) fun _ => frame_laserLocked
  | laserWarmTimeout => exact .of_frame (exec_laserWarmTimeout _ _ _) fun _ => frame_laserTimeout
  | laserFail => exact .of_frame (exec_laserFail _ _ _) fun _ => frame_laserFail
  | laserOverpower => exact .of_frame (exec_laserOverpower _ _ _ _) fun _ => frame_laserOver
  | eolWarn => exact .of_frame (exec_eolWarn _ _ _) fun _ => frame_eolWarn
  | lasSwap => exact .of_frame (exec_lasSwap _ _) fun _ => frame_askSwap
  | plannedSwap => exact .of_frame (exec_plannedSwap _) fun _ => frame_plannedSwap
  | swapRemoval => exact .of_frame (exec_swapRemoval _) fun _ => frame_swapRemoval
  | swapDeferral => exact .of_frame (exec_swapDeferral _) fun _ => frame_swapDeferral
  | swapDone => exact .of_frame (exec_swapDone _) fun _ => frame_swapReturn
  | fibreOverpower => exact .of_frame (exec_fibreOverpower _ _) fun _ => frame_overpower
  | clearSafety => exact .of_frame (exec_clearSafety _) fun _ => frame_clearSafety
  | fibreDark => exact .of_frame (exec_fibreDark _) fun _ => frame_fibreDark
  | safeProbe => exact .of_frame (exec_safeProbe _) fun _ => frame_safeProbe
  | probeReceived => exact .of_frame (exec_probeReceived _) fun _ => frame_probeSeen
  | firnRetrain => exact .of_frame (exec_firnRetrain _) fun _ => frame_firnRetrain
  | useSpare => exact .of_frame (exec_useSpare _) fun _ => frame_useSpare
  | loopModeWrite => exact .of_frame (exec_loopModeWrite _ _ _) fun _ => frame_loopMode
  | qlkLinkFrame => exact .of_frame (exec_qlkLinkFrame _ _ _ _) fun _ => frame_qframe
  | qlkGranule => exact .of_frame (exec_qlkGranule _ _ _ _) fun _ => frame_qgranule
  | qlkAckTimeout => exact .of_frame (exec_qlkAckTimeout _ _) fun _ => frame_qackTimeout
  | qlkClockLoss => exact .of_frame (exec_qlkClockLoss _ _) fun _ => frame_retrain
  | cap => exact .of_frame (exec_cap _ _ _ _ _ _ _ _ _) fun _ => frame_qcap
  | qlkMap => exact .of_frame (exec_qlkMap _ _ _ _) fun _ => frame_qmap
  | qlkMapAck => exact .of_frame (exec_qlkMapAck _ _ _ _) fun _ => frame_qmapAck
  | testStart => exact .of_frame (exec_testStart _ _ _) fun _ => frame_qtestStart
  | testResult => exact .of_frame (exec_testResult _ _ _) fun _ => frame_qtestResult
  | qlkRetrainReq => exact .of_frame (exec_qlkRetrainReq _ _) fun _ => frame_retrain
  | ready => exact .of_frame (exec_ready _ _) fun _ => frame_qready
  | bundleRetrain => exact .of_frame (exec_bundleRetrain _ _ _) fun _ => frame_bundleRetrain
  | bundleRetire => exact .of_frame (exec_bundleRetire _ _ _ _) fun _ => frame_bundleRetire
  | qlkRetrain => exact .of_frame (exec_qlkRetrain _ _) fun _ => frame_retrain
  | qlkClrAll => exact .of_frame (exec_qlkClrAll _) fun _ => frame_qclear
  | partialReset => exact .of_frame (exec_partialReset _) fun _ => frame_partialReset
  | rd => exact .of_act (exec_rd _) fun _ _ => memKept_guestRd
  | rdResp => exact .of_frame (exec_rdResp _) fun _ => frame_sendDue
  | wr => exact .of_act (exec_wr _) fun _ _ => memKept_guestWr
  | wrMasked => exact .of_act (exec_wrMasked _) fun _ _ => memKept_guestWrMasked
  | wrAck => exact .of_frame (exec_wrAck _) fun _ => frame_sendDue
  | atAdd => exact .of_act (exec_atAdd _) fun _ _ => memKept_guestAtomic
  | atSwap => exact .of_act (exec_atSwap _) fun _ _ => memKept_guestAtomic
  | atCas => exact .of_act (exec_atCas _) fun _ _ => memKept_guestAtomic
  | atResp => exact .of_frame (exec_atResp _) fun _ => frame_sendDue
  | guestCopy => exact .of_act (exec_guestCopy _) fun _ _ => memKept_guestCopy
  | rdS => exact .of_act (exec_rdS _) fun _ _ => memKept_cohRequest
  | rdM => exact .of_act (exec_rdM _) fun _ _ => memKept_cohRequest
  | upg => exact .of_act (exec_upg _) fun _ _ => memKept_cohRequest
  | wbM => exact .of_act (exec_wbM _) fun _ _ => memKept_cohWriteBack
  | cohEvict => exact .of_frame (exec_cohEvict _) fun _ => frame_cohEvict
  | cohGrant => exact .of_frame (exec_cohGrant _) fun _ => frame_sendDue
  | snpInv => exact .of_frame (exec_snpInv _) fun _ => frame_sendSnoop
  | snpS => exact .of_frame (exec_snpS _) fun _ => frame_sendSnoop
  | snpAck => exact .of_act (exec_snpAck _) fun _ _ => memKept_snoopAck
  | snoopTimeout => exact .of_act (exec_snoopTimeout _ _) fun _ _ => memKept_snoopTimeout
  | event => exact .of_frame (exec_event _) fun _ => frame_guestEvent
  | drd => exact .of_frame (exec_drd _) fun _ => frame_dbgRead
  | drdResp => exact .of_frame (exec_drdResp _) fun _ => frame_dbgAnswer
  | dwr => exact .of_act (exec_dwr _) fun _ _ => memKept_dbgWrite
  | dwrAck => exact .of_frame (exec_dwrAck _) fun _ => frame_dbgAnswer
  | debugTimeout => exact .of_frame exec_debugTimeout fun _ => frame_dbgTimeout
  | dbgGo => exact .of_frame (exec_dbgGo _ _) fun _ => frame_dbgGo
  | unfence => exact .of_frame (exec_unfence _) fun _ => frame_reg
  | clrViol => exact .of_frame (exec_clrViol _) fun _ => frame_clrViol
  | winRightsWrite => exact .of_frame (exec_winRightsWrite _ _ _) fun _ => frame_winRights
  | guestOverpower => exact .of_frame (exec_guestOverpower _ _) fun _ => frame_guestPower
  | pairForm => exact .of_frame (exec_pairForm _ _) fun _ => frame_pairForm
  | pairDissolve => exact .of_frame (exec_pairDissolve _) fun _ => frame_pairDissolve
  | pairHandover => exact .of_frame (exec_pairHandover _) fun _ => frame_pairHandover
  | autoHandover => exact .of_frame exec_autoHandover fun _ => frame_autoHandover
  | handoverReq => exact .of_frame (exec_handoverReq _) fun _ => frame_handoverReq
  | acquire => exact .of_frame (exec_acquire _) fun _ => frame_acquire
  | leaseGrant => exact .of_act (exec_leaseGrant _ _) fun _ _ => memKept_leaseGrant
  | renew => exact .of_frame (exec_renew _) fun _ => frame_renew
  | renewPeriod => exact .of_frame exec_renewPeriod fun _ => frame_renewPeriod
  | renewAck => exact .of_frame (exec_renewAck _ _) fun _ => frame_renewAck
  | leaseRelease => exact .of_frame (exec_leaseRelease _) fun _ => frame_leaseRelease
  | leaseQuery => exact .of_frame (exec_leaseQuery _ _) fun _ => frame_leaseQuery
  | leaseStatus => exact .of_frame (exec_leaseStatus _) fun _ => frame_leaseStatus
  | deny => exact .of_frame (exec_deny _) fun _ => frame_deny
  | failFast => exact .of_frame (exec_failFast _) fun _ => frame_failFastRx
  | announce => exact .of_frame (exec_announce _) fun _ => frame_announce
  | announceRepeat => exact .of_frame (exec_announceRepeat _) fun _ => frame_announceRepeat
  | detach => exact .of_frame (exec_detach _) fun _ => frame_detach
  | leaseMessageRepeat => exact .of_frame (exec_leaseMessageRepeat _ _) fun _ => frame_leaseRepeat
  | selfFence => exact .of_frame exec_selfFence fun _ => frame_selfFence
  | leaseExpiry => exact .of_frame exec_leaseExpiry fun _ => frame_leaseExpiry
  | witnessLeaseExpiry => exact .of_frame (exec_witnessLeaseExpiry _) fun _ => frame_witnessExpiry
  | standbyBindingEnd => exact .of_frame exec_standbyBindingEnd fun _ => frame_bindingEnd
  | witnessStartEnd => exact .of_frame exec_witnessStartEnd fun _ => frame_witnessStarted
  | failFastEvent => exact .of_frame (exec_failFastEvent _ _ _) fun _ => frame_failFastEvent
  | kvRecord => exact .of_frame (exec_kvRecord _) fun _ => frame_deltaRecord
  | outRecord => exact .of_frame (exec_outRecord _) fun _ => frame_deltaRecord
  | descRecord => exact .of_frame (exec_descRecord _) fun _ => frame_deltaRecord
  | modRecord => exact .of_frame (exec_modRecord _) fun _ => frame_deltaRecord
  | reqRecord => exact .of_frame (exec_reqRecord _) fun _ => frame_deltaRecord
  | closeRecord => exact .of_act (exec_closeRecord _ _) fun _ _ => memKept_closeRec
  | checkpointRecord => exact .of_act (exec_checkpointRecord _) fun _ _ => memKept_ckptRec
  | deltaAck => exact .of_frame (exec_deltaAck _) fun _ => frame_deltaAck
  | standbyLoss => exact .of_frame exec_standbyLoss fun _ => frame_standbyLoss
  | pairingPortDown => exact .of_frame (exec_pairingPortDown _) fun _ => frame_pairingPortDown
  | closeTimeout => exact .of_frame exec_closeTimeout fun _ => frame_closeTimeout
  | switchoverStart => exact .of_act (exec_switchoverStart _) fun _ _ => memKept_switchover
  | resyncComplete => exact .of_act (exec_resyncComplete _ _ _) fun _ _ => memKept_resyncComplete
  | pairClrAll => exact .of_frame exec_pairClrAll fun _ => frame_pairClr
  | faultPinClr => exact .of_frame (exec_faultPinClr _) fun _ => frame_faultPinClr
  | safLogLatch => exact .of_frame (exec_safLogLatch _) fun _ => frame_logSel
  | proofTest => exact .of_frame (exec_proofTest _ _ _) fun _ => frame_proofTest
  | moraineWrite => exact .of_frame exec_moraineWrite fun _ => frame_moraineWrite
  | snapIn => exact .of_frame exec_snapIn fun _ => frame_snapIn
  | snapTrigger => exact .of_frame (exec_snapTrigger _) fun _ => frame_snapReg
  | snapLatch => exact .of_frame (exec_snapLatch _) fun _ => frame_snapLatch
  | snapConfirmTimeout => exact .of_frame (exec_snapConfirmTimeout _) fun _ => frame_snapAbsent
  | snapRearm => exact .of_frame (exec_snapRearm _) fun _ => frame_snapRearm
  | tempSample => exact .of_frame (exec_tempSample _ _ _ _) fun _ => frame_tempSample
  | thmForceWrite => exact .of_frame (exec_thmForceWrite _ _) fun _ => frame_thmForceTo
  | thmRelease => exact .of_frame (exec_thmRelease _ _) fun _ => frame_thmReleaseCh
  | thmRetest => exact .of_frame (exec_thmRetest _ _) fun _ => frame_thmRetestCh
  | clearShutdown => exact .of_frame (exec_clearShutdown _ _) fun _ => frame_clearShutdown
  | thmCurveWrite => exact .of_frame (exec_thmCurveWrite _ _) fun _ => frame_curveWrite
  | budgetGrant => exact .of_frame (exec_budgetGrant _) fun _ => frame_budgetGrant
  | budgetRequest => exact .of_frame (exec_budgetRequest _ _) fun _ => frame_budgetRequest
  | budgetReturn => exact .of_frame (exec_budgetReturn _ _ _) fun _ => frame_budgetReturn
  | supplyOutOfWindow => exact .of_frame (exec_supplyOutOfWindow _ _) fun _ => frame_supplyOut
  | inputOutOfWindow => exact .of_frame (exec_inputOutOfWindow _) fun _ => frame_inputOut
  | powerFailCommitDone => exact .of_frame exec_powerFailCommitDone fun _ => frame_powerFailDone
  | calRun => exact .of_frame (exec_calRun _) fun _ => frame_calRun
  | calRunDone => exact .of_frame (exec_calRunDone _) fun _ => frame_calRunDone
  | calStoreDone => exact .of_frame exec_calStoreDone fun _ => frame_calStoreDone
  | calStoreRetry => exact .of_frame exec_calStoreRetry fun _ => frame_calStoreRetry
  | calRevert => exact .of_frame (exec_calRevert _) fun _ => frame_calRevert
  | opsecTick => exact .of_frame exec_opsecTick fun _ => frame_opsecTick
  | opsecRecord => exact .of_frame exec_opsecRecord fun _ => frame_opsecRecord
  | powerOnReset => exact .of_act exec_powerOnReset fun _ _ => memKept_powerOn
  | modResetN => exact .of_act exec_modResetN fun _ _ => memKept_modReset
  | hubResetModule => exact .of_act (exec_hubResetModule _) fun _ _ => memKept_hubReset
  | watchdogExpiry => exact .of_act exec_watchdogExpiry fun _ _ => memKept_watchdog
  | firmwareVerified => exact .of_frame exec_firmwareVerified fun _ => frame_firmwareVerified
  | bootDevicesReady => exact .of_act (exec_bootDevicesReady _) fun _ _ => memKept_bootDevices
  | bootStructureApplied => exact .of_act exec_bootStructureApplied fun _ _ => memKept_bootStructure
  | bootReady => exact .of_frame exec_bootReady fun _ => frame_bootReady
  | recoveryImage => exact .of_act (exec_recoveryImage _) fun _ _ => memKept_recoveryImage
  | fwUpdate => exact .of_frame (exec_fwUpdate _ _ _) fun _ => frame_fwUpdate
  | ownerEnrol => exact .of_frame (exec_ownerEnrol _ _ _) fun _ => frame_ownerEnrol
  | ownerUpdate => exact .of_frame (exec_ownerUpdate _ _ _) fun _ => frame_ownerUpdate
  | ownerRelease => exact .of_frame (exec_ownerRelease _ _ _) fun _ => frame_ownerRelease
  | secLockSet => exact .of_frame (exec_secLockSet _) fun _ => frame_secLock
  | getVersion => exact .of_frame (exec_getVersion _) fun _ => frame_spdmVersion
  | getCapabilities => exact .of_frame (exec_getCapabilities _) fun _ => frame_spdmCaps
  | negotiateAlgorithms => exact .of_frame (exec_negotiateAlgorithms _ _) fun _ => frame_spdmAlgs
  | getDigests => exact .of_frame (exec_getDigests _) fun _ => frame_spdmDigests
  | getCertificate => exact .of_frame (exec_getCertificate _ _ _ _) fun _ => frame_spdmCert
  | challenge => exact .of_frame (exec_challenge _ _ _) fun _ => frame_spdmChallenge
  | getMeasurements => exact .of_frame (exec_getMeasurements _ _ _) fun _ => frame_spdmMeasure
  | crcGo => exact .of_frame (exec_crcGo _ _) fun _ => frame_crcGo
  | crcRunEnd => exact .of_act (exec_crcRunEnd _ _) fun _ _ => memKept_crcEnd
  | ctxLatchView => exact .of_frame (exec_ctxLatchView _) fun _ => frame_ctxSel
  | modResetNRelease => exact .of_frame exec_modResetNRelease fun _ => frame_modRelease

/-- Settles O6: a step runs a command that keeps memory in form, or idles. -/
theorem memoryKeepsItsForm : Obligations.MemoryKeepsItsForm := by
  intro s t hs hstep
  rw [step] at hstep
  split at hstep
  · cases hstep
    exact hs
  next c rest _ => exact command_keepsMem c { s with pending := rest } t hs hstep

end Sys2Proof.Machine
end
